-- ==== Sys2Proof/Word.lean ====
section
/-! DEFINITION. The bit-vector types of the SJ2840's memory and registers (spec 00, Conventions). -/
namespace Sys2Proof

/-- One byte of exchange memory or of a link frame. -/
abbrev Byte := BitVec 8
/-- Two bytes at an even offset: one access of the host port (R191). -/
abbrev Half := BitVec 16
/-- Four bytes at an offset that is a multiple of four. -/
abbrev Word := BitVec 32

end Sys2Proof
end

