-- ==== Sys2Proof/Syntax.lean ====
section
/-! DEFINITION. The commands of the SJ2840: one constructor per row of spec/opcode_table.json (95, "the part's steps, each whole
and indivisible"), and the types of their operands. -/
namespace Sys2Proof

/-- A side of the dispenser: its position, its board, its four hoses (00, The part and its setting). -/
inductive Side where
  | a | b
  deriving DecidableEq, Repr

/-- Hose 1 to 4 of a side, counted from 0. -/
abbrev HoseNo := Fin 4
/-- Meter 1 to 8, counted from 0. -/
abbrev MeterNo := Fin 8

/-- The three lanes (R196). -/
inductive LaneId where
  | dispense | site | reader
  deriving DecidableEq, Repr

/-- The reader's tamper loops, IN10 and IN11 (R121). -/
inductive Loop where
  | enclosure | cable
  deriving DecidableEq, Repr

/-- The doors, IN12 and IN13 (R123). -/
inductive Door where
  | cabinet | hydraulic
  deriving DecidableEq, Repr

/-- One digit position of a board (R94). -/
inductive Cell where
  | digit (d : Nat) | dash | blank
  deriving DecidableEq, Repr

/-- The content of a field, given position by position (R94). -/
inductive Content where
  /-- A digit field's positions, leftmost first. -/
  | digits (positions : List Cell)
  /-- The four lamps of STATUS, each lit or dark. -/
  | lamps (wait stop closed recovered : Bool)
  deriving DecidableEq, Repr

/-- The eight fields of a board, numbered 0 to 7 (R93). -/
inductive FieldId where
  | amount | volume | price | grade (hose : HoseNo) | status
  deriving DecidableEq, Repr

/-- A LIT frame as the DLC receives it (R96). -/
structure LitFrame where
  /-- The write number it carries. -/
  number : Byte
  /-- Its framing and check are good. -/
  wellFormed : Bool
  field : FieldId
  /-- The content the board lit. -/
  content : Content
  deriving DecidableEq, Repr

/-- The event at which an inbound reader frame is judged (R134), the 2 ms silence apart. -/
inductive FrameEnd where
  /-- The last check byte has arrived: kind, payload and check as received (R133). -/
  | complete (kind : Byte) (payload : List Byte) (check : Half)
  /-- The length byte is above 250. -/
  | badLength (length : Byte)
  /-- A byte inside the frame has a bad stop bit; `last` when it is the last check byte. -/
  | badStop (last : Bool)
  deriving DecidableEq, Repr

/-- An answer byte of the reader link (R133). -/
inductive AnswerByte where
  | accept | hold | reject
  deriving DecidableEq, Repr

/-- The commands, in the order of spec/opcode_table.json. -/
inductive Instr where
  /-- RECOGNITION_INSTANT (R4). The recognised level of one or both phases of a meter changes at a sampling instant and is decoded. Operands: the meter, and for each phase the level newly recognised at this sampling instant, if any. -/
  | recognitionInstant (meter : MeterNo) (phaseA phaseB : Option Bool)
  /-- ONE_SECOND_PERIOD (R9). The MIU's one-second period ends: count rates are set and the meter mirror's count fields are written. -/
  | oneSecondPeriod
  /-- NOZZLE_LIFT (R49). A recognised lift of IN0 to IN7 reaches the PSC of the hose's position and acts by the position state. Operands: the side and hose 1 to 4 (0 to 3 here). -/
  | nozzleLift (side : Side) (hose : HoseNo)
  /-- NOZZLE_HANG (R49). A recognised hang of IN0 to IN7 reaches the PSC of the hose's position and acts by the position state. Operands: the side and hose 1 to 4 (0 to 3 here). -/
  | nozzleHang (side : Side) (hose : HoseNo)
  /-- MOTOR_SETTLE_EXPIRY (R55). The motor settle timer expires: the valves open, the flow timer starts, and the position enters FUELLING or SLOWING. -/
  | motorSettleExpiry (side : Side)
  /-- SATELLITE_NOZZLE_LIFT (R119). A recognised lift of IN8 or IN9 reaches the side's PSC. -/
  | satelliteNozzleLift (side : Side)
  /-- SATELLITE_NOZZLE_HANG (R119). A recognised hang of IN8 or IN9 reaches the side's PSC and has no effect on claims. -/
  | satelliteNozzleHang (side : Side)
  /-- EMERGENCY_STOP_ASSERTION (R120). IN15 is recognised asserted: both positions are told, STOP is lit, and an INPUTS notice is raised. -/
  | emergencyStopAssertion
  /-- EMERGENCY_STOP_RELEASE (R120). IN15 is recognised released: both positions are told and an INPUTS notice is raised. -/
  | emergencyStopRelease
  /-- LOOP_DEPARTED (R148). A tamper departure reaches the RIU and quarantines the reader domain. -/
  | loopDeparted (loop : Loop)
  /-- LOOP_RETURNED (R149). A tamper return reaches the RIU, which raises TAMPER without changing the domain. -/
  | loopReturned (loop : Loop)
  /-- SEAL_CHANGE (R122). A recognised change of IN14 raises an INPUTS notice with cause SEAL. Operand: whether IN14 is now recognised open. -/
  | sealChange (isOpen : Bool)
  /-- DOOR_CHANGE (R123). A recognised change of IN12 or IN13 raises an INPUTS notice with cause DOOR. Operands: which door input, and whether it is now recognised open. -/
  | doorChange (door : Door) (isOpen : Bool)
  /-- GENERAL_INPUT_CHANGE (R124). A recognised change of one or more of IN16 to IN23 is judged by the general input watch. Operands: bit i of `which` set when IN(16 + i) has a recognised change at this instant, bit i of `levels` its new level, 1 for active. -/
  | generalInputChange (which levels : BitVec 8)
  /-- SETTLE_WINDOW_EXPIRY (R64). The settle window expires and ENDING completes: OVERRUN is judged, the claims are released, the sale joins the unpaid list, and a store step is requested. -/
  | settleWindowExpiry (side : Side)
  /-- FLOW_TIMER_EXPIRY (R60). The flow timer expires in FUELLING or SLOWING and the sale goes to ENDING with stop reason NO FLOW. -/
  | flowTimerExpiry (side : Side)
  /-- AUTH_TIMER_EXPIRY (R61). The authorization timer expires in AUTHORIZED and the authorization is withdrawn with AUTH TIMEOUT. -/
  | authTimerExpiry (side : Side)
  /-- AUTHORIZE (R67). Lane 0 card that creates an authorization on a position. The card's operands are in the card the lane has taken. -/
  | authorize
  /-- CANCEL (R68). Lane 0 card that withdraws an authorization, fails a start or ends a sale with stop reason HOST. The card's operands are in the card the lane has taken. -/
  | cancel
  /-- STOP (R69). Lane 0 card that pauses a flowing sale, or every flowing sale with ALL. The card's operands are in the card the lane has taken. -/
  | stop
  /-- RESUME (R70). Lane 0 card that resumes a PAUSED sale. The card's operands are in the card the lane has taken. -/
  | resume
  /-- CLOSE_SALE (R71). Lane 0 card that removes a tagged sale from the unpaid list and writes the UNPAID record. The card's operands are in the card the lane has taken. -/
  | closeSale
  /-- READ_SALE (R72). Lane 0 card that copies the current or an unpaid sale into its result words. The card's operands are in the card the lane has taken. -/
  | readSale
  /-- CLOSE_POSITION (R74). Lane 0 card that takes an IDLE position to CLOSED(HOST). The card's operands are in the card the lane has taken. -/
  | closePosition
  /-- OPEN_POSITION (R74). Lane 0 card that asks for a segment test to reopen a position closed for HOST or DISPLAY. The card's operands are in the card the lane has taken. -/
  | openPosition
  /-- CONFIGURE_POSITION (R75). Lane 1 card that replaces a position's configuration. The card's operands are in the card the lane has taken. -/
  | configurePosition
  /-- CONFIGURE_METER (R17). Lane 1 card that replaces a meter's configuration and clears its fault. The card's operands are in the card the lane has taken. -/
  | configureMeter
  /-- CONFIGURE_HOSE (R18). Lane 1 card that replaces a hose route entry. The card's operands are in the card the lane has taken. -/
  | configureHose
  /-- SET_ROUTING (R19). Lane 1 card that replaces the site route enables. The card's operands are in the card the lane has taken. -/
  | setRouting
  /-- CLEAR_METER_FAULT (R20). Lane 1 card that clears a meter's FAULTED state. The card's operands are in the card the lane has taken. -/
  | clearMeterFault
  /-- READ_METERS (R21). Lane 1 card that copies a meter's live state into its result words. The card's operands are in the card the lane has taken. -/
  | readMeters
  /-- SET_PRICING (R41). Lane 1 card that replaces the site rounding mode and the totals form. The card's operands are in the card the lane has taken. -/
  | setPricing
  /-- CLEAR_SITE_FLAGS (R42). Lane 1 card that reads and clears the site accrued flags. The card's operands are in the card the lane has taken. -/
  | clearSiteFlags
  /-- LOAD_PRICE (R86). Lane 1 waiting card that records a pending price for a grade. The card's operands are in the card the lane has taken. -/
  | loadPrice
  /-- SET_DISPLAY_POLICY (R113). Lane 1 card that replaces the retry limit and the grade panel action. The card's operands are in the card the lane has taken. -/
  | setDisplayPolicy
  /-- LIT_FRAME (R96). A LIT frame from a board ends the attempt in flight as verified or failed, or is discarded. Operands: the board and the frame it sent. -/
  | litFrame (board : Side) (frame : LitFrame)
  /-- ANSWER_TIMEOUT (R96). 20 ms pass after a WRITE FIELD frame with no answer and the attempt fails. -/
  | answerTimeout (board : Side)
  /-- REFRESH_INSTANT (R101). The board's refresh period ends, refresh due is set on CURRENT and FAULT fields, and a night service pass begins. -/
  | refreshInstant (board : Side)
  /-- SET_WATCH (R126). Lane 1 card that replaces the watched-group interval, mode, mask and compare. The card's operands are in the card the lane has taken. -/
  | setWatch
  /-- SET_RELAY_FLOOR (R132). Lane 1 card that moves the relay floor. The card's operands are in the card the lane has taken. -/
  | setRelayFloor
  /-- SETTLE_TIMER_EXPIRY (R130). The 500 ms reader settle timer expires in POWERING and the domain enters GATED. -/
  | settleTimerExpiry
  /-- INBOUND_FRAME (R134). An inbound reader frame is judged good or bad at its last byte, a bad length or a bad stop bit. Operand: the end of the frame being received. -/
  | inboundFrame (frame : FrameEnd)
  /-- INBOUND_FRAME_TIMEOUT (R134). 2 ms pass inside an inbound frame with no byte and the frame is judged bad. -/
  | inboundFrameTimeout
  /-- ANSWER_BYTE_SENT (R135). With no frame of its own being sent, the RIU sends the oldest owed answer byte. -/
  | answerByteSent
  /-- READER_ANSWER (R142). An answer byte from the reader ends a waiting Send attempt with ACCEPT, HOLD or REJECT. -/
  | readerAnswer (answer : AnswerByte)
  /-- SEND_ANSWER_EXPIRY (R142). 100 ms pass with no answer and the Send attempt ends unanswered. -/
  | sendAnswerExpiry
  /-- HOLD_DELAY_EXPIRY (R142). 50 ms after a HOLD answer, the next Send attempt begins. -/
  | holdDelayExpiry
  /-- ARM_RECEIVE (R137). Lane 2 card that arms a buffer for an inbound frame. The card's operands are in the card the lane has taken. -/
  | armReceive
  /-- DISARM_RECEIVE (R139). Lane 2 card that withdraws an armed receive. The card's operands are in the card the lane has taken. -/
  | disarmReceive
  /-- SEND (R141). Lane 2 waiting card that sends a frame from a relay buffer to the reader. The card's operands are in the card the lane has taken. -/
  | send
  /-- READER_ON (R144). Lane 2 card that powers the reader and waits for GATED. The card's operands are in the card the lane has taken. -/
  | readerOn
  /-- OPEN_LINK (R145). Lane 2 card that opens the reader link gate. The card's operands are in the card the lane has taken. -/
  | openLink
  /-- CLOSE_LINK (R146). Lane 2 card that closes the reader link to GATED. The card's operands are in the card the lane has taken. -/
  | closeLink
  /-- READER_OFF (R147). Lane 2 card that takes the reader domain to OFF. The card's operands are in the card the lane has taken. -/
  | readerOff
  /-- RELEASE_QUARANTINE (R149). Lane 2 card that releases the quarantine when the loops are normal. The card's operands are in the card the lane has taken. -/
  | releaseQuarantine
  /-- CLOCK_COUNT (R156). The site clock advances one second and the schedule is judged. -/
  | clockCount
  /-- STAGE_TIMER_EXPIRY (R163). A wake stage's timer expires and the stage ends as its timeout gives. -/
  | stageTimerExpiry
  /-- METER_SETTLE_EXPIRY (R167). The 2 s window of stage 4 expires and stage 5 begins. -/
  | meterSettleExpiry
  /-- SET_SCHEDULE (R171). Lane 1 card that replaces or disables the schedule. The card's operands are in the card the lane has taken. -/
  | setSchedule
  /-- SET_CLOCK (R172). Lane 1 card that sets the site clock and clears CLOCK LOST. The card's operands are in the card the lane has taken. -/
  | setClock
  /-- NIGHT_NOW (R173). Lane 1 waiting card that takes the site down for the night. The card's operands are in the card the lane has taken. -/
  | nightNow
  /-- WAKE_NOW (R174). Lane 1 card that starts a wake or withdraws a closing. The card's operands are in the card the lane has taken. -/
  | wakeNow
  /-- SUPPLY_WARNING (R180). A recognised assertion of SUPPLY_WARN freezes the part into POWER DOWN and starts the freeze window. -/
  | supplyWarning
  /-- FREEZE_WINDOW_EXPIRY (R182). The 10 ms freeze window expires: frozen sales end as recovered sales and the freeze steps are requested. -/
  | freezeWindowExpiry
  /-- SUPPLY_WARN_RELEASE (R183). A recognised release of SUPPLY_WARN in POWER DOWN starts the one-second wait for a cold start. -/
  | supplyWarnRelease
  /-- COLD_START (R183). SUPPLY_WARN has stayed released for 1 s and the part makes a power-on. -/
  | coldStart
  /-- SUPPLY_FALL (R183). Main supply falls and the part stops until power returns. -/
  | supplyFall
  /-- POWER_ON (R184). Main supply returns: memory is cleared, every block takes its power-on values, and the site enters WAKING. -/
  | powerOn
  /-- STORE_CHECK_BEGIN (R184). With no step in progress and the queue empty, the RSC begins the requested store check. -/
  | storeCheckBegin
  /-- STORE_CHECK_END (R184). The store check judges the records, then restores the live values and reports RESTORED, or reports FAILED. -/
  | storeCheckEnd
  /-- STORE_STEP_COMPLETION (R178). A store step completes, its requesters are answered, and the next queued step begins. -/
  | storeStepCompletion
  /-- BATTERY_LOSS (R185). A recognised battery loss sets store lost, makes the HEADER unsound, and resets the clock with CLOCK LOST. -/
  | batteryLoss
  /-- READ_TOTALS (R187). Lane 1 card that copies a hose's live totals into its result words. The card's operands are in the card the lane has taken. -/
  | readTotals
  /-- REBUILD_STORE (R188). Lane 1 card that rewrites all eight records with defaults under a new generation. The card's operands are in the card the lane has taken. -/
  | rebuildStore
  /-- HOST_RESET (R204). The assertion of HRESET_N idles the lanes, abandons taken cards and resets the Notice Controller. -/
  | hostReset
  /-- GO_START (R197). A GO register write with top bit 0 starts a lane at the card named. Operands: the lane whose GO register is written, and bits 14 to 0 of the value; bit 15 is 0. -/
  | goStart (lane : LaneId) (value : BitVec 15)
  /-- GO_ABORT (R197). A GO register write with top bit 1 aborts a waiting card or requests a stop. Operands: the lane whose GO register is written, and bits 14 to 0 of the value; bit 15 is 1. -/
  | goAbort (lane : LaneId) (value : BitVec 15)
  /-- NOTICE_READ (R208). A host read of NOTICE presents the lowest eligible source and writes its cause slot. -/
  | noticeRead
  /-- NOTICE_DONE (R208). A host write to NOTICE ends the presentation. Operand: the value written; any value. -/
  | noticeDone (value : Half)
  /-- OVERRUN_WRITE (R209). A host write to OVERRUN clears the overrun bits written as 1. Operand: the value written. -/
  | overrunWrite (value : Half)
  /-- ENABLE_WRITE (R209). A host write to ENABLE replaces the source enable mask. Operand: the value written. -/
  | enableWrite (value : Half)
  /-- REGISTER_WRITE_OTHER (R206). A host write to an offset of the register window with no register is ignored. Operands: an offset of the register window at which no register stands, and the value. -/
  | registerWriteOther (offset : Byte) (value : Half)
  /-- HOST_WRITE (R190). A host write to exchange memory is stored, or is refused below 0800h with a MEMORY notice. Operands: an offset of the 32 KiB, and the halfword written. -/
  | hostWrite (offset : BitVec 15) (value : Half)
  /-- HOST_PARITY (R192). A host read of exchange memory fails parity and raises a MEMORY notice. Operand: the offset of the byte whose parity fails at a host read of its halfword. -/
  | hostParity (offset : BitVec 15)
  /-- INBOUND_FRAME_START (R134). A start byte received outside a frame begins an inbound frame, and the receiver enters frame mode. -/
  | inboundFrameStart
  /-- LINE_SILENCE (R134). After a frame judged bad before its last byte, the line is silent for 2 ms and the receiver stops discarding bytes. -/
  | lineSilence
  /-- SEND_FRAME_END (R142). The last byte of a Send attempt's frame has gone: the 100 ms answer wait starts, and owed answer bytes may be sent. -/
  | sendFrameEnd
  /-- BATTERY_RETURN (R185). The battery input is recognised at or above its working level again, and store lost stays set. -/
  | batteryReturn
  /-- HOST_RESET_RELEASE (R191). HRESET_N is released and the host port takes accesses again. -/
  | hostResetRelease
  deriving DecidableEq, Repr

end Sys2Proof
end

