-- ==== Sys2Proof/Decode.lean ====
section
/-! DEFINITION. Commands from words: spec/opcode_table.json gives no row bits, so that no word spells a command (log 35). -/
namespace Sys2Proof

/-- The command that a word spells by the table's bits: none, since no row has bits. -/
def decodeTableWord (_nbits _w : Nat) : Option Instr := none

end Sys2Proof
end

