-- ==== Sys2Proof/Machine/Crc.lean ====
section
/-! DEFINITION. The CRC-16 of reader frames and store records (R133, R176): polynomial 1021h, initial value FFFFh, each byte most
significant bit first. -/
namespace Sys2Proof.Machine

/-- One bit of the CRC-16 with polynomial 1021h, most significant bit first. -/
def crcBit (crc : Half) : Half := if crc.msb then (crc <<< 1) ^^^ 0x1021 else crc <<< 1

/-- One byte enters the CRC-16. -/
def crcByte (crc : Half) (b : Byte) : Half :=
  Nat.repeat crcBit 8 (crc ^^^ ((b.setWidth 16 : Half) <<< 8))

/-- The check over a list of bytes, initial value FFFFh (R133, R176). -/
def crc16 (bs : List Byte) : Half := bs.foldl crcByte 0xFFFF

end Sys2Proof.Machine
end

