-- ==== Sys2Proof/Config.lean ====
section
/-! DEFINITION. What the spec fixes as constants, and the free values: opaque constants that stand for what the spec leaves open.
Nothing can be proved of a free value; a statement that meets one holds for every value of it. -/
namespace Sys2Proof.Config

/-! Constants of the spec. -/

/-- The settle timer of the reader supply, in ms (R130). -/
def readerSettle : Nat := 500
/-- Capacity of the armed receive list (R136). -/
def armedCapacity : Nat := 8
/-- Capacity of the answer queue (R135). -/
def answerCapacity : Nat := 4
/-- The bad-frame run that closes the link (R140). -/
def badRunLimit : Nat := 16
/-- Attempts of a Send that may be rejected or ignored (R142). -/
def sendAttempts : Nat := 3
/-- Resends after HOLD answers (R142). -/
def holdResends : Nat := 40
/-- Capacity of an unpaid list (R65). -/
def unpaidCapacity : Nat := 2
/-- The blend persistence, in mL (R11). -/
def blendPersistence : Nat := 1000
/-- The cap of an amount, in cents (R31). -/
def amountCap : Nat := 9999999
/-- The greatest volume a board shows, in hundredths of a litre (R38). -/
def shownVolumeCap : Nat := 9999999
/-- The power-on relay floor, 7000h (R131). -/
def defaultFloor : Nat := 0x7000
/-- Where the card pool begins, and below which a host write is refused (R190). -/
def poolBase : Nat := 0x800
/-- The size of exchange memory (R190). -/
def memorySize : Nat := 0x8000

/-! Free values. Those with a `Nat` argument read the counter `State.free`, which the step then advances. -/

/-- The count decoded when phase A alone becomes high while phase B has no recognised level (R4 gives no row; log 9):
`none` no count, `some true` +1, `some false` −1. -/
opaque countWithoutPhaseB : Nat → Option Bool
/-- Which of several stop reasons met by one count is taken (R26, R37 and R58 give no order; log 10). -/
opaque stopChoice : Nat → Nat
/-- What a supply fall leaves of record `n` of a store step in progress (R179: "can cut a step"; log 11): `none` a record cut in
its writing, `some true` written whole, `some false` not yet written. -/
opaque cutRecord : Nat → Nat → Option Bool
/-- The record under examination when stage 1's timer expires during the check (R184; log 12). -/
opaque recordUnderExamination : Nat → Fin 8
/-- How an on/off byte other than 0 and 1 is taken by CONFIGURE HOSE and SET ROUTING (R18, R19 name no refusal; log 13). -/
opaque onOffByte : Byte → Bool
/-- The generation word of READ TOTALS while the live generation is absent (R187 with R177; log 14). -/
opaque absentGeneration : Nat → Word
/-- Which entry a bit of a mirror shows: mirror number and bit of its region to the part of the mirror and the entry of the part;
`none` for a bit that shows nothing and reads 0 (log 7). -/
opaque mirrorEntry : Nat → Nat → Option (Nat × Nat)
/-- The value of such a bit when its entry has been written with these numbers (log 7). -/
opaque mirrorBit : Nat → Nat → List Nat → Bool
/-- The bytes of a record's contents, from the record's number and the numbers it holds (R176 gives no layout; log 15). -/
opaque recordBytes : Nat → List Nat → List Byte

end Sys2Proof.Config
end

