-- ==== Sys2Proof/Machine/State.lean ====
section
/-! DEFINITION. The state of the SJ2840 as plain data, one record per block (spec 00, Blocks), and its value after power-on. -/
namespace Sys2Proof.Machine

/-- A pair indexed by side. -/
structure Sides (α : Type) where
  a : α
  b : α
  deriving DecidableEq, Repr

/-! ## Meter Input Unit (01) -/

/-- Decoding of the phase inputs (R1). -/
inductive Decoding where
  | quadrature | single
  deriving DecidableEq, Repr

/-- Role of a claim (R2). -/
inductive Role where
  | primary | secondary | satellite
  deriving DecidableEq, Repr

/-- Configuration of a meter (R1). -/
structure MeterConfig where
  decoding : Decoding
  /-- K-factor, milli-counts per litre. -/
  k : Nat
  reverseAllowance : Nat
  creepLimit : Nat
  phaseErrorLimit : Nat
  deriving DecidableEq, Repr

/-- A meter channel (R1, R2), with the tally of the present second (R9). -/
structure Meter where
  config : MeterConfig
  owner : Option (Side × Role)
  phaseErrors : Nat
  faulted : Bool
  /-- Signed, wraps (R2). -/
  lifetime : BitVec 48
  /-- Signed, wraps (R2). -/
  unclaimed : BitVec 32
  sinceReport : Int
  rate : Nat
  tally : Nat
  phaseA : Option Bool
  phaseB : Option Bool
  deriving DecidableEq, Repr

/-- Kind of a route (R10). -/
inductive RouteKind where
  | single | blend | satellite
  deriving DecidableEq, Repr

/-- An entry of the hose route table (R10). -/
structure HoseRoute where
  fitted : Bool
  grade : Fin 8
  kind : RouteKind
  primary : MeterNo
  secondary : Option MeterNo
  ratio : Nat
  slowDown : Nat
  deriving DecidableEq, Repr

/-- The site route enables that cards set (R11). -/
structure RouteEnables where
  blend : Bool
  satellite : Bool
  tolerance : Nat
  settleVolume : Nat
  deriving DecidableEq, Repr

/-- The MIU's records. `counting` is set once STORE CHECK has completed or failed (R23). -/
structure Miu where
  meters : Vector Meter 8
  routes : Sides (Vector HoseRoute 4)
  enables : RouteEnables
  counting : Bool
  deriving DecidableEq, Repr

/-! ## Position Controller (03) -/

/-- Close reason (R43). -/
inductive CloseReason where
  | night | host | display | wake | power
  deriving DecidableEq, Repr

/-- The steps of STARTING at which it waits: the price gate (R52), the display start check (R54), the motor settle timer (R55). -/
inductive StartStep where
  | gate | check | motor
  deriving DecidableEq, Repr

/-- Position state, the close reason present only in CLOSED (R43). -/
inductive PosState where
  | closed (reason : CloseReason)
  | idle | calling | authorized
  | starting (step : StartStep)
  | fuelling | slowing | paused | ending
  deriving DecidableEq, Repr

/-- Report form (R44, R39). -/
inductive Form where
  | display | full
  deriving DecidableEq, Repr

/-- Configuration of a position (R44). Times in the units of the rule. -/
structure PositionConfig where
  saleLimit : Nat
  form : Form
  firstFlow : Nat
  noFlow : Nat
  motorSettle : Nat
  settleWindow : Nat
  deriving DecidableEq, Repr

/-- Preset of an authorization (R45). -/
inductive Preset where
  | none | volume (mL : Nat) | amount (cents : Nat)
  deriving DecidableEq, Repr

/-- Origin of an authorization (R45). -/
inductive Origin where
  | reader | attendant | prepay
  deriving DecidableEq, Repr

/-- An authorization (R45); bit n − 1 of `allowed` stands for hose n. -/
structure Authorization where
  tag : Word
  allowed : BitVec 4
  preset : Preset
  origin : Origin
  discount : Nat
  timeout : Nat
  deriving DecidableEq, Repr

/-- A claim entry of a sale (R14). -/
structure Claim where
  meter : MeterNo
  role : Role
  n : Int
  h : Int
  k : Nat
  deriving DecidableEq, Repr

/-- Blend values kept at resolution (R12, R46). -/
structure BlendValues where
  ratio : Nat
  tolerance : Nat
  settleVolume : Nat
  deriving DecidableEq, Repr

/-- The five rounding modes (R29). -/
inductive RoundMode where
  | halfEven | truncate | halfUp | ceiling | fiveCent
  deriving DecidableEq, Repr

/-- Source of the effective target (R34). -/
inductive TargetSource where
  | preset | limit
  deriving DecidableEq, Repr

/-- What the lock fixes (R27, R32 to R35). -/
structure Lock where
  p : Nat
  d : Nat
  e : Nat
  mode : RoundMode
  preset : Preset
  vt : Nat
  source : TargetSource
  vs : Option Nat
  deriving DecidableEq, Repr

/-- The sticky flags of a sale (R46). -/
structure SaleFlags where
  inexact : Bool
  reverse : Bool
  ceiling : Bool
  discountClamped : Bool
  presetAdjusted : Bool
  overrun : Bool
  blend : Bool
  satelliteBusy : Bool
  deriving DecidableEq, Repr

/-- Stop reasons (R46). -/
inductive StopReason where
  | preset | limit | hung | noFlow | host | emergency | meter | reverse | blend | display | power
  deriving DecidableEq, Repr

/-- A stamp of the site clock (R156). -/
structure Stamp where
  day : Nat
  second : Nat
  deriving DecidableEq, Repr

/-- A current sale (R46). `held` is the authorization held from the lock until the sale leaves STARTING. -/
structure Sale where
  tag : Word
  origin : Origin
  hose : HoseNo
  grade : Fin 8
  kind : RouteKind
  /-- Satellite-nozzle lifts are honoured (R12). -/
  satelliteHonoured : Bool
  claims : List Claim
  blend : Option BlendValues
  held : Option Authorization
  lock : Option Lock
  v : Nat
  n : Nat
  amount : Nat
  deviationStart : Option Nat
  flags : SaleFlags
  stop : Option StopReason
  started : Stamp
  deriving DecidableEq, Repr

/-- A sale of an unpaid list (R46, R65). -/
structure EndedSale where
  tag : Word
  origin : Origin
  hose : HoseNo
  grade : Fin 8
  kind : RouteKind
  p : Nat
  d : Nat
  e : Nat
  mode : RoundMode
  v : Nat
  amount : Nat
  flags : SaleFlags
  stop : StopReason
  started : Stamp
  ended : Stamp
  recovered : Bool
  deriving DecidableEq, Repr

/-- The last shown sale (R66). -/
structure Shown where
  v : Nat
  amount : Nat
  e : Nat
  deriving DecidableEq, Repr

/-- The result of the last start failure, or none (R43, R56). -/
inductive StartResult where
  | none | blocked | meterBusy | meterFault | reverse | hung | cancelled | emergency | display
  deriving DecidableEq, Repr

/-- A position record (R43), its outputs (R47) and its timers, in ms, absent when stopped. The lifted set is a view of the
nozzle inputs and the route table (R49, log 21); the side fault is held in the board (R93, log 18). -/
structure Position where
  st : PosState
  auth : Option Authorization
  sale : Option Sale
  unpaid : List EndedSale
  lastShown : Shown
  wrongHose : Bool
  multiLift : Bool
  liftWhileClosed : Bool
  startResult : StartResult
  config : PositionConfig
  authTimer : Option Nat
  flowTimer : Option Nat
  motorTimer : Option Nat
  settleTimer : Option Nat
  fast : Bool
  slow : Bool
  pump : Bool
  deriving DecidableEq, Repr

/-! ## Pricing Unit (02, 04) -/

/-- A grade's rounding code: a mode, or 7 meaning SITE (R78). -/
inductive RoundCode where
  | mode (m : RoundMode) | site
  deriving DecidableEq, Repr

/-- State of a grade panel (R79). -/
inductive PanelState where
  | current | updating | fault | unused
  deriving DecidableEq, Repr

/-- A grade's panel on one side: its state, its blocked flag, whether a posting of R80 has made it UPDATING, and whether a segment
test holds such a posting back (R79, R80, R110). -/
structure Panel where
  state : PanelState
  blocked : Bool
  posted : Bool
  held : Bool
  deriving DecidableEq, Repr

/-- A price table entry (R78). -/
structure Grade where
  price : Option Nat
  code : RoundCode
  pending : Option (Nat × RoundCode)
  panels : Sides Panel
  deriving DecidableEq, Repr

/-- The site accrued flags (R40). -/
structure Accrued where
  inexact : Bool
  reverse : Bool
  ceiling : Bool
  discountClamped : Bool
  deriving DecidableEq, Repr

/-- The LOAD PRICE card in progress on lane 1: its grade, whether its price has been applied, whether the PRICES step that the
apply requested has completed (R87). -/
structure LoadPrice where
  grade : Fin 8
  applied : Bool
  stored : Bool
  deriving DecidableEq, Repr

/-- The PRU's records. -/
structure Pru where
  grades : Vector Grade 8
  siteMode : RoundMode
  totalsForm : Form
  accrued : Accrued
  loading : Option LoadPrice
  deriving DecidableEq, Repr

/-! ## Display Link Controller (05) -/

/-- State of a field (R93). -/
inductive FieldState where
  | current | pending | writing | fault
  deriving DecidableEq, Repr

/-- A field record (R93); `heldPost`: a posting is held back during a segment test (R110). -/
structure FieldRec where
  wanted : Content
  shown : Option Content
  st : FieldState
  retries : Nat
  repost : Bool
  refreshDue : Bool
  heldPost : Bool
  deriving DecidableEq, Repr

/-- The eight fields of a board (R93). -/
structure Fields where
  amount : FieldRec
  volume : FieldRec
  price : FieldRec
  grades : Vector FieldRec 4
  status : FieldRec
  deriving DecidableEq, Repr

/-- An attempt in flight on a link (R96). -/
structure Attempt where
  field : FieldId
  number : Byte
  sent : Content
  deriving DecidableEq, Repr

/-- Phase of a test (R108, R110). -/
inductive TestPhase where
  | eights | blank | zeros
  deriving DecidableEq, Repr

/-- A test record: a sale-start check (R108), or a segment test with its requesters (R110). -/
inductive Test where
  | startCheck (phase : TestPhase)
  | segment (phase : TestPhase) (openPosition : Bool) (stage : Bool)
  deriving DecidableEq, Repr

/-- A board: fields, side fault, test record, and its link (R93, R96, R101, R102). `writeNumber` is the number of the next frame;
`pass` is set while a night service pass runs; `refreshPeriod` is in ms. -/
structure Board where
  fields : Fields
  sideFault : Bool
  test : Option Test
  attempt : Option Attempt
  writeNumber : Byte
  pass : Bool
  refreshPeriod : Nat
  deriving DecidableEq, Repr

/-- The grade panel action (R95). -/
inductive PanelAction where
  | block | record
  deriving DecidableEq, Repr

/-- The display policy (R95). -/
structure DisplayPolicy where
  retryLimit : Nat
  action : PanelAction
  deriving DecidableEq, Repr

/-- The DLC's records. -/
structure Dlc where
  boards : Sides Board
  policy : DisplayPolicy
  deriving DecidableEq, Repr

/-! ## Input Watch Unit (06) -/

/-- Mode of the general input watch (R124). -/
inductive WatchMode where
  | event | matching
  deriving DecidableEq, Repr

/-- The settings of SET WATCH (R116, R124). -/
structure WatchConfig where
  interval : Nat
  mode : WatchMode
  mask : Byte
  compare : Byte
  deriving DecidableEq, Repr

/-- The IWU's records: recognised levels, `some true` active (R115, R117), and the watch (R124). -/
structure Iwu where
  nozzles : Sides (Vector (Option Bool) 4)
  satellites : Sides (Option Bool)
  enclosure : Option Bool
  cable : Option Bool
  cabinet : Option Bool
  hydraulic : Option Bool
  calSeal : Option Bool
  emergency : Option Bool
  general : Vector (Option Bool) 8
  watch : WatchConfig
  armed : Bool
  latched : Byte
  deriving DecidableEq, Repr

/-! ## Reader Isolation Unit (07) -/

/-- Reader domain state (R128). -/
inductive Domain where
  | off | powering | gated | opened | quarantine
  deriving DecidableEq, Repr

/-- An entry of the armed receive list (R136): card offset, buffer index, and the card's NOTE flag and link END as read (R202). -/
structure Armed where
  card : Nat
  buffer : Nat
  note : Bool
  toEnd : Bool
  deriving DecidableEq, Repr

/-- What a Send is doing: its frame is being sent, it waits 100 ms for an answer, or it waits 50 ms after a HOLD (R142). -/
inductive SendPhase where
  | sending | awaiting | holding
  deriving DecidableEq, Repr

/-- The Send in flight (R141). -/
structure Send where
  card : Nat
  buffer : Nat
  frame : List Byte
  attempts : Nat
  holds : Nat
  last : Option AnswerByte
  phase : SendPhase
  deriving DecidableEq, Repr

/-- The receiver (R134): outside a frame, inside one, or discarding until the line has been silent. -/
inductive Receiver where
  | outside | inside | discarding
  deriving DecidableEq, Repr

/-- The RIU's records (R128). `orphan`: the frame of an ended Send is being completed (R143); `resuming`: a READER RESUME is in
progress (R152). The supply switch and the gate are views of the domain (R129). -/
structure Riu where
  domain : Domain
  settleTimer : Option Nat
  armed : List Armed
  send : Option Send
  badRun : Nat
  answers : List AnswerByte
  receiver : Receiver
  floor : Nat
  orphan : Bool
  resuming : Bool
  deriving DecidableEq, Repr

/-! ## Site Schedule Unit (08) -/

/-- Reason of FAULTED (R155). -/
inductive FaultedReason where
  | store | display
  deriving DecidableEq, Repr

/-- Site state, the faulted reason present only in FAULTED (R155). -/
inductive SiteState where
  | waking | opened | closing | night | faulted (reason : FaultedReason) | powerDown
  deriving DecidableEq, Repr

/-- Closing origin (R155). -/
inductive ClosingOrigin where
  | schedule | card
  deriving DecidableEq, Repr

/-- Closing phase (R161). -/
inductive ClosingPhase where
  | positions | readerDown | meters
  deriving DecidableEq, Repr

/-- Wake origin (R163). -/
inductive WakeOrigin where
  | coldStart | schedule | card
  deriving DecidableEq, Repr

/-- The wake record: origin, stage reached, outcome of each stage or none (R155). -/
structure Wake where
  origin : WakeOrigin
  stage : Nat
  outcomes : Vector (Option Nat) 6
  deriving DecidableEq, Repr

/-- The site clock and CLOCK LOST (R156). -/
structure Clock where
  day : Nat
  second : Nat
  lost : Bool
  deriving DecidableEq, Repr

/-- The times of an enabled schedule (R158). -/
structure Schedule where
  closing : Nat
  opening : Nat
  deriving DecidableEq, Repr

/-- The SSU's records (R155, R156, R158). `results`: the DISPLAY TEST results recorded so far (R165). -/
structure Ssu where
  site : SiteState
  closingOrigin : Option ClosingOrigin
  closingPhase : Option ClosingPhase
  heldOver : Bool
  wake : Wake
  stageTimer : Option Nat
  results : Sides (Option Bool)
  clock : Clock
  schedule : Option Schedule
  deriving DecidableEq, Repr

/-! ## Retained Store Controller (09) -/

/-- The three totals of a hose (R186). -/
structure Total where
  volume : Nat
  amount : Nat
  sales : Nat
  deriving DecidableEq, Repr

/-- The records of the store (R176). -/
inductive RecordId where
  | header | config | prices | totals | meters | unpaidA | unpaidB | reader
  deriving DecidableEq, Repr

/-- Contents of the CONFIG record (R176). -/
structure ConfigRecord where
  routes : Sides (Vector HoseRoute 4)
  meters : Vector MeterConfig 8
  positions : Sides PositionConfig
  enables : RouteEnables
  siteMode : RoundMode
  totalsForm : Form
  policy : DisplayPolicy
  watch : WatchConfig
  schedule : Option Schedule
  floor : Nat
  deriving DecidableEq, Repr

/-- Retained counts of a meter (R176). -/
structure MeterCounts where
  lifetime : BitVec 48
  unclaimed : BitVec 32
  deriving DecidableEq, Repr

/-- The contents of the eight records (R176); of HEADER the restart count, its generation standing with it as with every record. -/
structure Contents where
  restart : Nat
  config : ConfigRecord
  prices : Vector (Option Nat × RoundCode) 8
  totals : Sides (Vector Total 4)
  meters : Vector MeterCounts 8
  unpaid : Sides (List EndedSale)
  reader : Bool
  deriving DecidableEq, Repr

/-- What stands with a record: the generation it was written under and its check word; `none` for a word that does not match
whatever the record holds, its value being nothing that any rule reads (R176, R179, R185; log 15). -/
structure Seal where
  generation : Nat
  check : Option Half
  deriving DecidableEq, Repr

/-- The retained store (R176): contents, and the seal of records 0 to 7. -/
structure Store where
  contents : Contents
  seals : Vector Seal 8
  deriving DecidableEq, Repr

/-- Who is answered at the completion of a store step (R178). -/
inductive Requester where
  /-- A card finished on the step: lane and offset. -/
  | card (lane : LaneId) (offset : Nat)
  /-- The LOAD PRICE whose apply requested the step (R84, R87). -/
  | loadPrice
  /-- The night entry in phase READER DOWN (R161). -/
  | nightReader
  /-- The night entry in phase METERS (R161). -/
  | nightMeters
  /-- The store check of a cold start (R184). -/
  | header
  /-- REBUILD STORE's own work at the completion (R188). -/
  | rebuild
  /-- The freeze step of position A or B (R182). -/
  | freeze (side : Side)
  deriving DecidableEq, Repr

/-- A requested store step (R178), records in number order. -/
structure StoreStep where
  records : List RecordId
  requesters : List Requester
  deriving DecidableEq, Repr

/-- The step in progress: the generation it writes with and the contents taken at its beginning (R178). -/
structure ActiveStep where
  step : StoreStep
  generation : Nat
  contents : Contents
  deriving DecidableEq, Repr

/-- Last check result (R177). -/
inductive CheckResult where
  | none | restored | failed (record : Nat)
  deriving DecidableEq, Repr

/-- Freeze state (R177). -/
inductive FreezeState where
  | none | window | steps | done
  deriving DecidableEq, Repr

/-- How far the store check of stage 1 has come (R184). -/
inductive CheckState where
  | none | requested | running | headerStep
  deriving DecidableEq, Repr

/-- The RSC's records (R177). The step in progress is the head of the spec's queue; `queue` holds the steps not yet begun. -/
structure Rsc where
  totals : Sides (Vector Total 4)
  reader : Bool
  generation : Option Nat
  restart : Nat
  queue : List StoreStep
  active : Option ActiveStep
  lost : Bool
  lastCheck : CheckResult
  freeze : FreezeState
  check : CheckState
  frozen : Nat
  store : Store
  supplyWarn : Option Bool
  coldWait : Bool
  batteryLow : Bool
  batteryCut : Bool
  deriving DecidableEq, Repr

/-! ## Exchange memory, lanes, notices (10, 11) -/

/-- Exchange memory, in canonical form (Memory.wf): addresses strictly rising, no byte equal to what power-on leaves there. -/
abbrev Memory := List Host.Cell

/-- A card as read at its take (R195). -/
structure Card where
  kind : Byte
  flags : Byte
  target : Half
  words : Half
  hostReference : Word
  body : List Byte
  deriving DecidableEq, Repr

/-- What a held card waits for: its owner's decision, a store step, the end of its operation; or nothing, its operation having been
dropped by a supply warning (R199, R201, R205). -/
inductive HeldPhase where
  | undecided | onStore | waiting | dropped
  deriving DecidableEq, Repr

/-- The card a lane has taken and not finished. -/
structure Held where
  offset : Nat
  card : Card
  phase : HeldPhase
  deriving DecidableEq, Repr

/-- Lane state (R196). -/
inductive LaneState where
  | idle | walking | waiting | halted
  deriving DecidableEq, Repr

/-- Halt reason (R196). -/
inductive HaltReason where
  | none | badCardAddress | staleCard | parity
  deriving DecidableEq, Repr

/-- A lane record (R196), with the card it holds. -/
structure Lane where
  st : LaneState
  current : Nat
  halt : HaltReason
  lastFinished : Nat
  goIgnored : Bool
  stopRequested : Bool
  held : Option Held
  deriving DecidableEq, Repr

/-- The three lanes. -/
structure Lanes where
  dispense : Lane
  site : Lane
  reader : Lane
  deriving DecidableEq, Repr

/-- A notice source's record (R207). -/
structure SourceRec where
  causes : Half
  first : Half
  pending : Bool
  overrun : Bool
  deriving DecidableEq, Repr

/-- The NTC's records: the thirteen sources by number less one, the presented source's index, ENABLE (R207 to R209). -/
structure Ntc where
  sources : Vector SourceRec 13
  presented : Option (Fin 13)
  enable : BitVec 13
  deriving DecidableEq, Repr

/-- The parts of the mirrors, each with one writer and one way of being written. -/
inductive MirrorPart where
  | positionA | positionB | price | totals | meterState | meterCounts | dlc | iwu | riu | ssu
  deriving DecidableEq, Repr

/-- The entries of a mirror part, in the order in which the rule of the part lists them: each with the numbers last written into it,
`none` while power-on's zeros stand there (R193). -/
abbrev MirrorEntries := List (Option (List Nat))

/-- The mirrors: the generation halfword of each (R194) and the entries of each part. `touched` names the entries, `wholes` the
parts, that the present event writes whether or not they change; both are empty between events. -/
structure Mirrors where
  genPositionA : Half
  genPositionB : Half
  genPrice : Half
  genTotals : Half
  genMeter : Half
  genSite : Half
  positionA : MirrorEntries
  positionB : MirrorEntries
  price : MirrorEntries
  totals : MirrorEntries
  meterState : MirrorEntries
  meterCounts : MirrorEntries
  dlc : MirrorEntries
  iwu : MirrorEntries
  riu : MirrorEntries
  ssu : MirrorEntries
  touched : List (MirrorPart × Nat)
  wholes : List MirrorPart
  deriving DecidableEq, Repr

/-- The machine. -/
structure State where
  /-- The waiting commands, first in, first out. -/
  pending : List Instr
  mainSupply : Bool
  hostReset : Bool
  xm : Memory
  /-- The bytes of the card pool and the relay region whose parity fails (R192; log 24), strictly rising. -/
  upset : List Nat
  mirrors : Mirrors
  lanes : Lanes
  ntc : Ntc
  miu : Miu
  psc : Sides Position
  pru : Pru
  dlc : Dlc
  iwu : Iwu
  riu : Riu
  ssu : Ssu
  rsc : Rsc
  /-- The counter that free values read and advance. -/
  free : Nat
  deriving DecidableEq, Repr

/-- No command makes the machine stop with a fault: the spec names none (INVENTORY, Faults). -/
inductive Fault where
  deriving DecidableEq, Repr

/-- Reasons to refuse a command. -/
inductive Refusal where
  /-- Raised by exec alone, for a command that has no meaning yet. Safe: the run stops. No arm raises it. -/
  | notModelled (mnemonic : String)
  deriving DecidableEq, Repr

/-! ## Power-on values -/

/-- R1's defaults. -/
def MeterConfig.default : MeterConfig :=
  { decoding := .quadrature, k := 100000, reverseAllowance := 20, creepLimit := 5, phaseErrorLimit := 4 }

/-- R2's power-on values. -/
def Meter.default : Meter :=
  { config := .default, owner := none, phaseErrors := 0, faulted := false, lifetime := 0, unclaimed := 0,
    sinceReport := 0, rate := 0, tally := 0, phaseA := none, phaseB := none }

/-- R10's default entry with the given primary meter. -/
def HoseRoute.default (primary : MeterNo) : HoseRoute :=
  { fitted := false, grade := 0, kind := .single, primary := primary, secondary := none, ratio := 0, slowDown := 0 }

/-- R10's default table: A1 to A4 on meters 1 to 4, B1 to B4 on meters 5 to 8. -/
def defaultRoutes : Sides (Vector HoseRoute 4) :=
  { a := #v[.default 0, .default 1, .default 2, .default 3], b := #v[.default 4, .default 5, .default 6, .default 7] }

/-- R11's defaults. -/
def RouteEnables.default : RouteEnables :=
  { blend := false, satellite := false, tolerance := 5, settleVolume := 2000 }

/-- R44's defaults. -/
def PositionConfig.default : PositionConfig :=
  { saleLimit := 1000000, form := .display, firstFlow := 30, noFlow := 60, motorSettle := 500, settleWindow := 300 }

/-- R43's power-on record. -/
def Position.default : Position :=
  { st := .closed .wake, auth := none, sale := none, unpaid := [], lastShown := { v := 0, amount := 0, e := 0 },
    wrongHose := false, multiLift := false, liftWhileClosed := false, startResult := .none, config := .default,
    authTimer := none, flowTimer := none, motorTimer := none, settleTimer := none,
    fast := false, slow := false, pump := false }

/-- R78's power-on panel. -/
def Panel.default : Panel := { state := .unused, blocked := false, posted := false, held := false }

/-- R78's power-on entry. -/
def Grade.default : Grade :=
  { price := none, code := .site, pending := none, panels := { a := .default, b := .default } }

/-- R39, R40 and R78 after power-on. -/
def Pru.default : Pru :=
  { grades := Vector.replicate 8 .default, siteMode := .halfEven, totalsForm := .display,
    accrued := { inexact := false, reverse := false, ceiling := false, discountClamped := false }, loading := none }

/-- R95's defaults. -/
def DisplayPolicy.default : DisplayPolicy := { retryLimit := 3, action := .block }

/-- R93's power-on field with the given wanted content. -/
def FieldRec.default (wanted : Content) : FieldRec :=
  { wanted := wanted, shown := none, st := .pending, retries := 3, repost := false, refreshDue := false, heldPost := false }

/-- R93's power-on fields: the contents of CLOSED in the legal and status fields, blank grade fields. -/
def Fields.default : Fields :=
  { amount := .default (.digits (List.replicate 7 .dash)), volume := .default (.digits (List.replicate 7 .dash)),
    price := .default (.digits (List.replicate 5 .dash)),
    grades := Vector.replicate 4 (.default (.digits (List.replicate 5 .blank))),
    status := .default (.lamps false false true false) }

/-- R93 and R112: a board after power-on, its link free, before its first attempt. -/
def Board.default : Board :=
  { fields := .default, sideFault := false, test := none, attempt := none, writeNumber := 0, pass := false,
    refreshPeriod := 1000 }

/-- R116's and R124's power-on settings. -/
def WatchConfig.default : WatchConfig := { interval := 5, mode := .event, mask := 0xFF, compare := 0 }

/-- R117 and R124 after power-on. -/
def Iwu.default : Iwu :=
  { nozzles := { a := Vector.replicate 4 none, b := Vector.replicate 4 none }, satellites := { a := none, b := none },
    enclosure := none, cable := none, cabinet := none, hydraulic := none, calSeal := none, emergency := none,
    general := Vector.replicate 8 none, watch := .default, armed := true, latched := 0 }

/-- R128 after power-on. -/
def Riu.default : Riu :=
  { domain := .off, settleTimer := none, armed := [], send := none, badRun := 0, answers := [], receiver := .outside,
    floor := 0x7000, orphan := false, resuming := false }

/-- R155 and R163 after power-on, with the clock given: the wake of origin COLD START in stage 1, whose timeout is 5 s. -/
def Ssu.default (clock : Clock) : Ssu :=
  { site := .waking, closingOrigin := none, closingPhase := none, heldOver := false,
    wake := { origin := .coldStart, stage := 1, outcomes := Vector.replicate 6 none }, stageTimer := some 5000,
    results := { a := none, b := none }, clock := clock, schedule := none }

/-- A hose's totals at zero. -/
def Total.zero : Total := { volume := 0, amount := 0, sales := 0 }

/-- CONFIG with the defaults of every block (R188). -/
def ConfigRecord.default : ConfigRecord :=
  { routes := defaultRoutes, meters := Vector.replicate 8 .default, positions := { a := .default, b := .default },
    enables := .default, siteMode := .halfEven, totalsForm := .display, policy := .default, watch := .default,
    schedule := none, floor := 0x7000 }

/-- The default contents of every record (R188), with the given restart count. -/
def Contents.default (restart : Nat) : Contents :=
  { restart := restart, config := .default, prices := Vector.replicate 8 (none, .site),
    totals := { a := Vector.replicate 4 .zero, b := Vector.replicate 4 .zero },
    meters := Vector.replicate 8 { lifetime := 0, unclaimed := 0 }, unpaid := { a := [], b := [] }, reader := false }

/-- The RSC after power-on (R177), with the store and the battery input's recognised level given, the store check of stage 1
requested (R184). -/
def Rsc.default (store : Store) (batteryLow : Bool) : Rsc :=
  { totals := { a := Vector.replicate 4 .zero, b := Vector.replicate 4 .zero }, reader := false, generation := none,
    restart := 0, queue := [], active := none, lost := false, lastCheck := .none, freeze := .none, check := .requested,
    frozen := 0, store := store, supplyWarn := none, coldWait := false, batteryLow := batteryLow, batteryCut := false }

/-- R196 after power-on. -/
def Lane.default : Lane :=
  { st := .idle, current := 0, halt := .none, lastFinished := 0, goIgnored := false, stopRequested := false, held := none }

/-- R207 after power-on. -/
def SourceRec.default : SourceRec := { causes := 0, first := 0, pending := false, overrun := false }

/-- R207 to R209 after power-on and after host reset. -/
def Ntc.default : Ntc := { sources := Vector.replicate 13 .default, presented := none, enable := 0x1FFF }

/-- Every mirror reads zero when power-on has cleared exchange memory (R76, R92 and so on): no entry has been written. -/
def Mirrors.default : Mirrors :=
  { genPositionA := 0, genPositionB := 0, genPrice := 0, genTotals := 0, genMeter := 0, genSite := 0,
    positionA := [], positionB := [], price := [], totals := [], meterState := [], meterCounts := [],
    dlc := [], iwu := [], riu := [], ssu := [], touched := [], wholes := [] }

/-- The state a power-on sets before its own effects (the WAKING notice, the first attempts on the links, the first mirror
writes), from what power-on keeps (R43, R78, R93, R117, R124, R128, R155, R177, R184, R196, R207, and the chapters' tables). -/
def State.powerOnValues (pending : List Instr) (hostReset : Bool) (clock : Clock) (store : Store) (batteryLow : Bool)
    (free : Nat) : State :=
  { pending := pending, mainSupply := true, hostReset := hostReset, xm := [], upset := [], mirrors := .default,
    lanes := { dispense := .default, site := .default, reader := .default }, ntc := .default,
    miu := { meters := Vector.replicate 8 .default, routes := defaultRoutes, enables := .default, counting := false },
    psc := { a := .default, b := .default }, pru := .default,
    dlc := { boards := { a := .default, b := .default }, policy := .default },
    iwu := .default, riu := .default, ssu := .default clock, rsc := .default store batteryLow, free := free }

/-- The store of State.reset: default contents whose check words do not match, no record ever having been written
(DESIGN CHOICE: the spec gives none, log 5). -/
def Store.unwritten : Store :=
  { contents := .default 0, seals := Vector.replicate 8 { generation := 0, check := none } }

/-- A board after the power-on event: AMOUNT, the lowest PENDING field, is being written by the first attempt, number 0 (R98, R112). -/
def Board.atReset : Board :=
  { Board.default with
    fields := { Fields.default with amount := { Fields.default.amount with st := .writing } },
    attempt := some { field := .amount, number := 0, sent := .digits (List.replicate 7 .dash) }, writeNumber := 1 }

/-- The NTC after the power-on event: the site has entered WAKING, origin COLD START (R163): cause WAKING, detail 0. -/
def Ntc.atReset : Ntc :=
  { Ntc.default with
    sources := Ntc.default.sources.set 6 { causes := 0x10, first := 0, pending := true, overrun := false } }

/-- The mirrors after the power-on event: the IWU's part written whole with every level none, the RIU's with the domain OFF and the floor
7000h, the SSU's with its first record (R127, R154, R175; log 55), and of the DLC's the entries of the two AMOUNT fields (R114): four
updates of the site mirror. -/
def Mirrors.atReset : Mirrors :=
  { Mirrors.default with
    genSite := 8,
    dlc := some [2, 3, 0] :: List.replicate 9 none ++ some [2, 3, 0] :: List.replicate 10 none,
    iwu := List.replicate 25 (some [0]) ++ [some [5], some [0, 0xFF, 0, 1, 0]],
    riu := [some [0], some [0, 0], some [0x7000], some (List.replicate 25 0), some (List.replicate 6 0), some [0], some [0], some [0]],
    ssu := [some [0, 0, 0], some [0, 0, 0], some [0, 0], some [0, 0], some [0, 0], some [0], some [0], some [1],
      some (List.replicate 12 0), some [0]] }

/-- The machine right after reset, a power-on of a part never powered before (R184): every power-on value, and the power-on's own
effects. What a power-on keeps has the values of log 5. -/
def State.reset : State :=
  { State.powerOnValues [] false { day := 0, second := 0, lost := false } Store.unwritten false 0 with
    mirrors := .atReset, ntc := .atReset, dlc := { boards := { a := .atReset, b := .atReset }, policy := .default } }

end Sys2Proof.Machine
end

