-- ==== Sys2Proof/Machine/Memory.lean ====
section
/-! DEFINITION. Exchange memory: bytes, halfwords, parity (R190 to R193). -/
namespace Sys2Proof.Machine

/-- What power-on leaves at an offset: the constants of the identity block, and zero everywhere else (R193). -/
def resetByte : Nat → Byte
  | 0 => 0x31
  | 1 => 0x5A
  | 2 => 0x40
  | 3 => 0x28
  | 4 => 0x01
  | 6 => 0x01
  | _ => 0

/-- The byte at an address. -/
def Memory.read : Memory → Nat → Byte
  | [], a => resetByte a
  | (b, v) :: m, a => if b = a then v else Memory.read m a

/-- Stores a byte, keeping the canonical form. -/
def Memory.write : Memory → Nat → Byte → Memory
  | [], a, v => if v = resetByte a then [] else [(a, v)]
  | (b, w) :: m, a, v =>
    if a < b then (if v = resetByte a then (b, w) :: m else (a, v) :: (b, w) :: m)
    else if a = b then (if v = resetByte a then m else (a, v) :: m)
    else (b, w) :: Memory.write m a v

/-- The canonical form: addresses strictly rising, no entry equal to what power-on leaves. -/
def Memory.wf : Memory → Bool
  | [] => true
  | [(a, v)] => v != resetByte a
  | (a, v) :: (b, w) :: m => v != resetByte a && decide (a < b) && Memory.wf ((b, w) :: m)

/-- Adds an address to a strictly rising list. -/
def insertRising (a : Nat) : List Nat → List Nat
  | [] => [a]
  | b :: l => if a < b then a :: b :: l else if a = b then b :: l else b :: insertRising a l

/-- The list is strictly rising. -/
def rising : List Nat → Bool
  | [] => true
  | [_] => true
  | a :: b :: l => decide (a < b) && rising (b :: l)

/-- Stores one byte and gives it good parity (R192). -/
def State.writeByte (s : State) (a : Nat) (v : Byte) : State :=
  { s with xm := Memory.write s.xm a v, upset := s.upset.filter (· ≠ a) }

/-- Stores a halfword, least significant byte first (spec 00, Memory). -/
def State.writeHalf (s : State) (a : Nat) (v : Half) : State :=
  (s.writeByte a (v.setWidth 8)).writeByte (a + 1) ((v >>> 8).setWidth 8)

/-- Stores bytes at consecutive addresses. -/
def State.writeBytes (s : State) (a : Nat) : List Byte → State
  | [] => s
  | v :: l => (s.writeByte a v).writeBytes (a + 1) l

/-- Stores bytes at the given distances from an address. -/
def State.writeAt (s : State) (a : Nat) : List (Nat × Byte) → State
  | [] => s
  | (i, v) :: l => (s.writeByte (a + i) v).writeAt a l

/-- The halfword at an address. -/
def State.half (s : State) (a : Nat) : Half :=
  (Memory.read s.xm (a + 1) ++ Memory.read s.xm a : BitVec 16)

/-- The bytes at `n` consecutive addresses. -/
def State.bytes (s : State) (a : Nat) : Nat → List Byte
  | 0 => []
  | n + 1 => Memory.read s.xm a :: s.bytes (a + 1) n

/-- No byte from `a` up to `a + n - 1` fails parity (R192). -/
def State.parityGood (s : State) (a n : Nat) : Bool :=
  s.upset.all fun b => decide (b < a) || decide (a + n ≤ b)

end Sys2Proof.Machine
end

