-- ==== Sys2Proof/Machine/Ops.lean ====
section
/-! DEFINITION. Access to the records of State, free values, and the raising of notice causes (R207). -/
namespace Sys2Proof.Machine

/-! ## Access -/

/-- The other side. -/
def other : Side → Side
  | .a => .b
  | .b => .a

/-- The component of a side. -/
def Sides.get {α : Type} (x : Sides α) : Side → α
  | .a => x.a
  | .b => x.b

/-- Replaces the component of a side. -/
def Sides.set {α : Type} (x : Sides α) (side : Side) (v : α) : Sides α :=
  match side with
  | .a => { x with a := v }
  | .b => { x with b := v }

/-- Applies a function to both components. -/
def Sides.map {α β : Type} (f : α → β) (x : Sides α) : Sides β := { a := f x.a, b := f x.b }

/-- A position's record. -/
def State.pos (s : State) (side : Side) : Position := s.psc.get side
/-- Changes a position's record. -/
def State.modPos (s : State) (side : Side) (f : Position → Position) : State :=
  { s with psc := s.psc.set side (f (s.psc.get side)) }

/-- A meter's channel. -/
def State.meter (s : State) (m : MeterNo) : Meter := s.miu.meters[m]
/-- Changes a meter's channel. -/
def State.modMeter (s : State) (m : MeterNo) (f : Meter → Meter) : State :=
  { s with miu := { s.miu with meters := s.miu.meters.set m (f s.miu.meters[m]) } }

/-- A hose's route entry. -/
def State.route (s : State) (side : Side) (h : HoseNo) : HoseRoute := (s.miu.routes.get side)[h]

/-- A grade's price table entry. -/
def State.grade (s : State) (g : Fin 8) : Grade := s.pru.grades[g]
/-- Changes a grade's entry. -/
def State.modGrade (s : State) (g : Fin 8) (f : Grade → Grade) : State :=
  { s with pru := { s.pru with grades := s.pru.grades.set g (f s.pru.grades[g]) } }
/-- Changes a grade's panel on a side. -/
def State.modPanel (s : State) (g : Fin 8) (side : Side) (f : Panel → Panel) : State :=
  s.modGrade g fun e => { e with panels := e.panels.set side (f (e.panels.get side)) }

/-- A board. -/
def State.board (s : State) (side : Side) : Board := s.dlc.boards.get side
/-- Changes a board. -/
def State.modBoard (s : State) (side : Side) (f : Board → Board) : State :=
  { s with dlc := { s.dlc with boards := s.dlc.boards.set side (f (s.dlc.boards.get side)) } }

/-- A lane's record. -/
def State.lane (s : State) : LaneId → Lane
  | .dispense => s.lanes.dispense
  | .site => s.lanes.site
  | .reader => s.lanes.reader
/-- Changes a lane's record. -/
def State.modLane (s : State) (l : LaneId) (f : Lane → Lane) : State :=
  match l with
  | .dispense => { s with lanes := { s.lanes with dispense := f s.lanes.dispense } }
  | .site => { s with lanes := { s.lanes with site := f s.lanes.site } }
  | .reader => { s with lanes := { s.lanes with reader := f s.lanes.reader } }

/-- Changes the MIU's records. -/
def State.modMiu (s : State) (f : Miu → Miu) : State := { s with miu := f s.miu }
/-- Changes the PRU's records. -/
def State.modPru (s : State) (f : Pru → Pru) : State := { s with pru := f s.pru }
/-- Changes the DLC's records. -/
def State.modDlc (s : State) (f : Dlc → Dlc) : State := { s with dlc := f s.dlc }
/-- Changes the NTC's records. -/
def State.modNtc (s : State) (f : Ntc → Ntc) : State := { s with ntc := f s.ntc }
/-- Changes the RIU's records. -/
def State.modRiu (s : State) (f : Riu → Riu) : State := { s with riu := f s.riu }
/-- Changes the SSU's records. -/
def State.modSsu (s : State) (f : Ssu → Ssu) : State := { s with ssu := f s.ssu }
/-- Changes the RSC's records. -/
def State.modRsc (s : State) (f : Rsc → Rsc) : State := { s with rsc := f s.rsc }
/-- Changes the IWU's records. -/
def State.modIwu (s : State) (f : Iwu → Iwu) : State := { s with iwu := f s.iwu }

/-- Advances the counter of the free values. -/
def State.tickFree (s : State) : State := { s with free := s.free + 1 }

/-- The present event writes this entry of a mirror part, whether or not it changes (R194); entries are numbered from 0 in the order
of the part's list in Mirror.lean. -/
def State.touch (s : State) (p : MirrorPart) (entry : Nat) : State :=
  { s with mirrors := { s.mirrors with touched := (p, entry) :: s.mirrors.touched } }
/-- The present event writes this mirror part whole. -/
def State.writeWhole (s : State) (p : MirrorPart) : State :=
  { s with mirrors := { s.mirrors with wholes := p :: s.mirrors.wholes } }

/-- The site clock as it stands (R156). -/
def State.stamp (s : State) : Stamp := { day := s.ssu.clock.day, second := s.ssu.clock.second }

/-- The site is in POWER DOWN. -/
def State.powerDown (s : State) : Bool := s.ssu.site == .powerDown

/-- The site is in WAKING at the STORE CHECK stage, or in FAULTED with reason STORE: configuration cards are refused BUSY (R155). -/
def State.storeClosed (s : State) : Bool :=
  (s.ssu.site == .waking && s.ssu.wake.stage == 1) || s.ssu.site == .faulted .store

/-! ## Notices -/

/-- Causes of POSITION A and B, in bit order (R207). -/
inductive PosCause where
  | calling | wrongHose | multiLift | liftWhileClosed | startFailed | authTimeout | quarantine | satelliteBusy
  | saleEnded | closed | displayFault | opened
  deriving DecidableEq, Repr

/-- Causes of LANE 0, 1 and 2, in bit order (R207). -/
inductive LaneCause where
  | noteCardFinished | refused | chainEnd | halted | goIgnored | aborted
  deriving DecidableEq, Repr

/-- Every cause of every source (R207). -/
inductive Cause where
  | supplyWarning | frozen | storeFailed | batteryLost | storeRebuilt
  | loopDeparted | loopReturned
  | position (side : Side) (c : PosCause)
  | meterFault | phaseError | unclaimedFlow
  | legalFieldFault | gradeFieldFault | statusFieldFault | retry
  | clockLost | closing | night | closingWithdrawn | waking | stage | faulted | siteOpen
  | noBuffer | linkErrors
  | lane (l : LaneId) (c : LaneCause)
  | watchEvent | watchMatch | door | seal | emergencyStop
  | writeRefused | hostParity
  deriving DecidableEq, Repr

/-- Number of the source less one: 0 SUPPLY to 12 MEMORY (11, table of sources). -/
def Cause.source : Cause → Fin 13
  | .supplyWarning | .frozen | .storeFailed | .batteryLost | .storeRebuilt => 0
  | .loopDeparted | .loopReturned => 1
  | .position .a _ => 2
  | .position .b _ => 3
  | .meterFault | .phaseError | .unclaimedFlow => 4
  | .legalFieldFault | .gradeFieldFault | .statusFieldFault | .retry => 5
  | .clockLost | .closing | .night | .closingWithdrawn | .waking | .stage | .faulted | .siteOpen => 6
  | .noBuffer | .linkErrors => 7
  | .lane .dispense _ => 8
  | .lane .site _ => 9
  | .lane .reader _ => 10
  | .watchEvent | .watchMatch | .door | .seal | .emergencyStop => 11
  | .writeRefused | .hostParity => 12

/-- Bit of a position cause (R207). -/
def PosCause.bit : PosCause → Nat
  | .calling => 0
  | .wrongHose => 1
  | .multiLift => 2
  | .liftWhileClosed => 3
  | .startFailed => 4
  | .authTimeout => 5
  | .quarantine => 6
  | .satelliteBusy => 7
  | .saleEnded => 8
  | .closed => 9
  | .displayFault => 10
  | .opened => 11

/-- Bit of a lane cause (R207). -/
def LaneCause.bit : LaneCause → Nat
  | .noteCardFinished => 0
  | .refused => 1
  | .chainEnd => 2
  | .halted => 3
  | .goIgnored => 4
  | .aborted => 5

/-- Bit of a cause in bytes 0 and 1 of its source's slot (R207). -/
def Cause.bit : Cause → Nat
  | .supplyWarning => 0
  | .frozen => 1
  | .storeFailed => 2
  | .batteryLost => 3
  | .storeRebuilt => 4
  | .loopDeparted => 0
  | .loopReturned => 1
  | .position _ c => c.bit
  | .meterFault => 0
  | .phaseError => 1
  | .unclaimedFlow => 2
  | .legalFieldFault => 0
  | .gradeFieldFault => 1
  | .statusFieldFault => 2
  | .retry => 3
  | .clockLost => 0
  | .closing => 1
  | .night => 2
  | .closingWithdrawn => 3
  | .waking => 4
  | .stage => 5
  | .faulted => 6
  | .siteOpen => 7
  | .noBuffer => 0
  | .linkErrors => 1
  | .lane _ c => c.bit
  | .watchEvent => 0
  | .watchMatch => 1
  | .door => 2
  | .seal => 3
  | .emergencyStop => 4
  | .writeRefused => 0
  | .hostParity => 1

/-- A source's record after a cause is raised for it (R207). -/
def SourceRec.gather (r : SourceRec) (bit : Nat) (detail : Half) (presented : Bool) : SourceRec :=
  { causes := r.causes ||| (1#16 <<< bit),
    first := if r.causes = 0 then detail else r.first,
    pending := true,
    overrun := r.overrun || presented }

/-- Raises a cause with its detail (R207). -/
def State.raise (s : State) (c : Cause) (detail : Nat) : State :=
  { s with ntc := { s.ntc with
      sources := s.ntc.sources.set c.source
        (s.ntc.sources[c.source].gather c.bit (BitVec.ofNat 16 detail) (s.ntc.presented == some c.source)) } }

/-- Raises a POSITION cause of a side (R77). -/
def State.raisePos (s : State) (side : Side) (c : PosCause) (detail : Nat) : State := s.raise (.position side c) detail

/-- Raises a lane cause (R203). -/
def State.raiseLane (s : State) (l : LaneId) (c : LaneCause) (detail : Nat) : State := s.raise (.lane l c) detail

/-- A source is eligible: pending and enabled (R208). -/
def Ntc.eligible (n : Ntc) (i : Fin 13) : Bool := n.sources[i].pending && n.enable.getLsbD i.val

/-- The eligible source with the lowest number (R208). -/
def Ntc.lowest (n : Ntc) : Option (Fin 13) := (List.finRange 13).find? n.eligible

/-- NOTICE_N is asserted (R210). -/
def State.noticeLine (s : State) : Bool := s.ntc.presented.isSome || s.ntc.lowest.isSome

end Sys2Proof.Machine
end

