-- ==== Sys2Proof/Machine/Operands.lean ====
section
/-! DEFINITION. The operand forms: card kinds, the fields of a card (10, Layouts), outcome codes, and the codes of the enumerations
that cards and mirrors carry (10, Layouts). -/
namespace Sys2Proof.Machine

/-! ## Card kinds -/

/-- The card kinds (10, Card kinds). -/
inductive Kind where
  | authorize | cancel | stop | resume | closeSale | readSale | closePosition | openPosition
  | configureMeter | configureHose | setRouting | clearMeterFault | readMeters | setPricing | clearSiteFlags
  | configurePosition | loadPrice | setDisplayPolicy | setWatch | setRelayFloor | setSchedule | setClock | nightNow | wakeNow
  | readTotals | rebuildStore
  | readerOn | readerOff | openLink | closeLink | send | armReceive | disarmReceive | releaseQuarantine
  deriving DecidableEq, Repr

/-- The kind of a kind byte, if it is known (10, Card kinds). -/
def Kind.ofByte (b : Byte) : Option Kind :=
  match b.toNat with
  | 0x01 => some .authorize
  | 0x02 => some .cancel
  | 0x03 => some .stop
  | 0x04 => some .resume
  | 0x05 => some .closeSale
  | 0x06 => some .readSale
  | 0x07 => some .closePosition
  | 0x08 => some .openPosition
  | 0x20 => some .configureMeter
  | 0x21 => some .configureHose
  | 0x22 => some .setRouting
  | 0x23 => some .clearMeterFault
  | 0x24 => some .readMeters
  | 0x25 => some .setPricing
  | 0x26 => some .clearSiteFlags
  | 0x27 => some .configurePosition
  | 0x28 => some .loadPrice
  | 0x29 => some .setDisplayPolicy
  | 0x2A => some .setWatch
  | 0x2B => some .setRelayFloor
  | 0x2C => some .setSchedule
  | 0x2D => some .setClock
  | 0x2E => some .nightNow
  | 0x2F => some .wakeNow
  | 0x30 => some .readTotals
  | 0x31 => some .rebuildStore
  | 0x40 => some .readerOn
  | 0x41 => some .readerOff
  | 0x42 => some .openLink
  | 0x43 => some .closeLink
  | 0x44 => some .send
  | 0x45 => some .armReceive
  | 0x46 => some .disarmReceive
  | 0x47 => some .releaseQuarantine
  | _ => none

/-- The lane of a kind (10, Card kinds). -/
def Kind.lane : Kind → LaneId
  | .authorize | .cancel | .stop | .resume | .closeSale | .readSale | .closePosition | .openPosition => .dispense
  | .readerOn | .readerOff | .openLink | .closeLink | .send | .armReceive | .disarmReceive | .releaseQuarantine => .reader
  | _ => .site

/-- The words of a kind's body (10, Card kinds). -/
def Kind.words : Kind → Nat
  | .authorize => 5
  | .closeSale => 1
  | .readSale => 12
  | .configureMeter => 2
  | .configureHose => 2
  | .setRouting => 2
  | .readMeters => 5
  | .setPricing => 1
  | .clearSiteFlags => 1
  | .configurePosition => 4
  | .loadPrice => 3
  | .setDisplayPolicy => 1
  | .setWatch => 1
  | .setRelayFloor => 1
  | .setSchedule => 3
  | .setClock => 2
  | .wakeNow => 1
  | .readTotals => 6
  | .send => 2
  | .armReceive => 1
  | _ => 0

/-! ## Fields of a card -/

/-- Byte `i` of the body. -/
def Card.byte (c : Card) (i : Nat) : Byte := c.body.getD i 0
/-- Byte `i` of the body as a number. -/
def Card.b (c : Card) (i : Nat) : Nat := (c.byte i).toNat
/-- The halfword at byte `i` of the body, least significant byte first. -/
def Card.h (c : Card) (i : Nat) : Nat := c.b i + 256 * c.b (i + 1)
/-- Word `i` of the body. -/
def Card.w (c : Card) (i : Nat) : Nat := c.h (4 * i) + 65536 * c.h (4 * i + 2)
/-- The NOTE flag (10, Layouts). -/
def Card.note (c : Card) : Bool := c.flags.getLsbD 0
/-- The FORM field, bits 2 and 1 of the flags (10, Layouts). -/
def Card.form (c : Card) : Nat := (c.flags.toNat / 2) % 4
/-- The body is shorter than the kind's (R198). -/
def Card.short (c : Card) (k : Kind) : Bool := decide (c.words.toNat < k.words)
/-- The target as a number. -/
def Card.to (c : Card) : Nat := c.target.toNat

/-- A position target: 0 for A, 1 for B (10, Layouts). -/
def Card.side (c : Card) : Option Side :=
  match c.to with
  | 0 => some .a
  | 1 => some .b
  | _ => none

/-- A hose target: 0 to 7 for A1 to A4 and B1 to B4 (10, Layouts). -/
def Card.hose (c : Card) : Option (Side × HoseNo) :=
  match c.to with
  | 0 => some (.a, 0)
  | 1 => some (.a, 1)
  | 2 => some (.a, 2)
  | 3 => some (.a, 3)
  | 4 => some (.b, 0)
  | 5 => some (.b, 1)
  | 6 => some (.b, 2)
  | 7 => some (.b, 3)
  | _ => none

/-- A number 1 to 8 as a meter. -/
def meterOfNumber (n : Nat) : Option MeterNo := if h : 1 ≤ n ∧ n ≤ 8 then some ⟨n - 1, by omega⟩ else none
/-- A number 0 to 7 as a grade. -/
def gradeOfNumber (n : Nat) : Option (Fin 8) := if h : n < 8 then some ⟨n, h⟩ else none

/-- A meter target, 1 to 8 (10, Layouts). -/
def Card.meter (c : Card) : Option MeterNo := meterOfNumber c.to
/-- A grade target, 0 to 7 (10, Layouts). -/
def Card.grade (c : Card) : Option (Fin 8) := gradeOfNumber c.to
/-- A buffer target, index 0 to 127 (R131). -/
def Card.buffer (c : Card) : Option Nat := if c.to ≤ 127 then some c.to else none

/-- An on/off byte: 1 and 0, and a free reading of any other value (10, Layouts; log 13). -/
def onOff (b : Byte) : Bool := if b = 0 then false else if b = 1 then true else Config.onOffByte b

/-- Rounding mode of a code 0 to 4 (R29). -/
def RoundMode.ofCode : Nat → Option RoundMode
  | 0 => some .halfEven
  | 1 => some .truncate
  | 2 => some .halfUp
  | 3 => some .ceiling
  | 4 => some .fiveCent
  | _ => none
/-- Rounding code 0 to 4, or 7 for SITE (R78). -/
def RoundCode.ofCode (n : Nat) : Option RoundCode := if n = 7 then some .site else (RoundMode.ofCode n).map .mode
/-- A report form: 0 DISPLAY, 1 FULL (10, Layouts). -/
def Form.ofCode : Nat → Option Form
  | 0 => some .display
  | 1 => some .full
  | _ => none
/-- The report form a card asks for, the persistent form given; `none` for form 3 (R72, R187). -/
def Card.reportForm (c : Card) (persistent : Form) : Option Form :=
  match c.form with
  | 0 => some persistent
  | 1 => some .display
  | 2 => some .full
  | _ => none
/-- A route kind (10, Layouts). -/
def RouteKind.ofCode : Nat → Option RouteKind
  | 0 => some .single
  | 1 => some .blend
  | 2 => some .satellite
  | _ => none
/-- A decoding (10, Layouts). -/
def Decoding.ofCode : Nat → Option Decoding
  | 0 => some .quadrature
  | 1 => some .single
  | _ => none
/-- An origin (10, Layouts). -/
def Origin.ofCode : Nat → Option Origin
  | 0 => some .reader
  | 1 => some .attendant
  | 2 => some .prepay
  | _ => none
/-- A policy action (10, Layouts). -/
def PanelAction.ofCode : Nat → Option PanelAction
  | 0 => some .block
  | 1 => some .record
  | _ => none
/-- A watch mode (10, Layouts). -/
def WatchMode.ofCode : Nat → Option WatchMode
  | 0 => some .event
  | 1 => some .matching
  | _ => none

/-! ## Codes the part writes (10, Layouts) -/

/-- Outcomes of cards. -/
inductive CardOutcome where
  | ok | wrongLane | unknownKind | badTarget | badValue | badForm | busy | closed | blocked | isSealed | unpaidFull | notFound
  | duplicate | linkClosed | listFull | inUse | badWindow | aborted | withdrawn | cut | noAnswer | parity
  deriving DecidableEq, Repr

/-- Outcome codes (10, Layouts). -/
def CardOutcome.code : CardOutcome → Nat
  | .ok => 0
  | .wrongLane => 1
  | .unknownKind => 2
  | .badTarget => 3
  | .badValue => 4
  | .badForm => 5
  | .busy => 6
  | .closed => 7
  | .blocked => 8
  | .isSealed => 9
  | .unpaidFull => 10
  | .notFound => 11
  | .duplicate => 12
  | .linkClosed => 13
  | .listFull => 14
  | .inUse => 15
  | .badWindow => 16
  | .aborted => 17
  | .withdrawn => 18
  | .cut => 19
  | .noAnswer => 20
  | .parity => 21

def RoundMode.code : RoundMode → Nat
  | .halfEven => 0
  | .truncate => 1
  | .halfUp => 2
  | .ceiling => 3
  | .fiveCent => 4
def RoundCode.code : RoundCode → Nat
  | .mode m => m.code
  | .site => 7
def Form.code : Form → Nat
  | .display => 0
  | .full => 1
def RouteKind.code : RouteKind → Nat
  | .single => 0
  | .blend => 1
  | .satellite => 2
def Decoding.code : Decoding → Nat
  | .quadrature => 0
  | .single => 1
def Origin.code : Origin → Nat
  | .reader => 0
  | .attendant => 1
  | .prepay => 2
def PanelAction.code : PanelAction → Nat
  | .block => 0
  | .record => 1
def WatchMode.code : WatchMode → Nat
  | .event => 0
  | .matching => 1
def Role.code : Role → Nat
  | .primary => 1
  | .secondary => 2
  | .satellite => 3
def sideCode : Side → Nat
  | .a => 0
  | .b => 1
def PanelState.code : PanelState → Nat
  | .current => 0
  | .updating => 1
  | .fault => 2
  | .unused => 3
def FieldState.code : FieldState → Nat
  | .current => 0
  | .pending => 1
  | .writing => 2
  | .fault => 3
def CloseReason.code : CloseReason → Nat
  | .night => 0
  | .host => 1
  | .display => 2
  | .wake => 3
  | .power => 4
def PosState.code : PosState → Nat
  | .closed _ => 0
  | .idle => 1
  | .calling => 2
  | .authorized => 3
  | .starting _ => 4
  | .fuelling => 5
  | .slowing => 6
  | .paused => 7
  | .ending => 8
def StartResult.code : StartResult → Nat
  | .none => 0
  | .blocked => 1
  | .meterBusy => 2
  | .meterFault => 3
  | .reverse => 4
  | .hung => 5
  | .cancelled => 6
  | .emergency => 7
  | .display => 8
def StopReason.code : StopReason → Nat
  | .preset => 1
  | .limit => 2
  | .hung => 3
  | .noFlow => 4
  | .host => 5
  | .emergency => 6
  | .meter => 7
  | .reverse => 8
  | .blend => 9
  | .display => 10
  | .power => 11
def SiteState.code : SiteState → Nat
  | .waking => 0
  | .opened => 1
  | .closing => 2
  | .night => 3
  | .faulted _ => 4
  | .powerDown => 5
def FaultedReason.code : FaultedReason → Nat
  | .store => 1
  | .display => 2
def ClosingPhase.code : ClosingPhase → Nat
  | .positions => 0
  | .readerDown => 1
  | .meters => 2
/-- Closing origin as the CLOSING notice details it (R160). -/
def ClosingOrigin.code : ClosingOrigin → Nat
  | .schedule => 0
  | .card => 1
/-- Wake origin as the WAKING notice details it (R163). -/
def WakeOrigin.code : WakeOrigin → Nat
  | .coldStart => 0
  | .schedule => 1
  | .card => 2
def Domain.code : Domain → Nat
  | .off => 0
  | .powering => 1
  | .gated => 2
  | .opened => 3
  | .quarantine => 4
/-- Answers in a result word: 0 none, 1 ACCEPT, 2 HOLD, 3 REJECT. -/
def answerCode : Option AnswerByte → Nat
  | none => 0
  | some .accept => 1
  | some .hold => 2
  | some .reject => 3
def FreezeState.code : FreezeState → Nat
  | .none => 0
  | .window => 1
  | .steps => 2
  | .done => 3
def LaneState.code : LaneState → Nat
  | .idle => 0
  | .walking => 1
  | .waiting => 2
  | .halted => 3
def HaltReason.code : HaltReason → Nat
  | .none => 0
  | .badCardAddress => 1
  | .staleCard => 2
  | .parity => 3
/-- Field number 0 to 7 (R93). -/
def fieldNumber : FieldId → Nat
  | .amount => 0
  | .volume => 1
  | .price => 2
  | .grade h => 3 + h.val
  | .status => 7
/-- Detail of a DISPLAY notice: board times 8 plus field (R103). -/
def fieldDetail (board : Side) (f : FieldId) : Nat := sideCode board * 8 + fieldNumber f

/-! ## Bytes, least significant first -/

/-- The `n` low bytes of a number, least significant first, at body bytes `i`, `i + 1`, …. -/
def leBytes (i value : Nat) : Nat → List (Nat × Byte)
  | 0 => []
  | n + 1 => (i, BitVec.ofNat 8 value) :: leBytes (i + 1) (value / 256) n

/-- One when true. -/
def flag (b : Bool) : Nat := if b then 1 else 0

end Sys2Proof.Machine
end

