-- ==== Sys2Proof/Machine/Flags.lean ====
section
/-! DEFINITION. The arithmetic of volume and amount (02) and every flag it computes: REVERSE, INEXACT, CEILING, DISCOUNT CLAMPED,
PRESET ADJUSTED, OVERRUN, BLEND, and the site accrued flags (R40). -/
namespace Sys2Proof.Machine

/-! ## Volume and amount -/

/-- Claim volume v = floor(max(0, n) × 1,000,000 / k) mL (R24). -/
def claimVolume (n : Int) (k : Nat) : Nat := n.toNat * 1000000 / k

/-- Volume of a claim entry (R24). -/
def Claim.volume (c : Claim) : Nat := claimVolume c.n c.k

/-- V, the sum of the claim volumes (R25). -/
def totalVolume (claims : List Claim) : Nat := (claims.map Claim.volume).sum

/-- R_mode(N / 10,000), in cents (R29). -/
def roundAmount (mode : RoundMode) (n : Nat) : Nat :=
  let q := n / 10000
  let r := n % 10000
  match mode with
  | .halfEven => if r < 5000 then q else if 5000 < r then q + 1 else if q % 2 = 0 then q else q + 1
  | .truncate => q
  | .halfUp => if 5000 ≤ r then q + 1 else q
  | .ceiling => if 0 < r then q + 1 else q
  | .fiveCent => if 25000 ≤ n % 50000 then 5 * (n / 50000 + 1) else 5 * (n / 50000)

/-- A, the rounded amount held at 9,999,999 (R31). -/
def saleAmount (mode : RoundMode) (n : Nat) : Nat := min Config.amountCap (roundAmount mode n)

/-- Effective price E = P − D, held at 1 (R27). -/
def effectivePrice (p d : Nat) : Nat := max 1 (p - d)

/-- P − D is below 1 (R27). -/
def discountClamps (p d : Nat) : Bool := decide (p < d + 1)

/-! ## Targets -/

/-- The amount sought under FIVE-CENT: the next multiple of 5 (R32). -/
def nextFive (x : Nat) : Nat := (x + 4) / 5 * 5

/-- The threshold T of R32's table, for an amount of 1 or more. -/
def threshold (mode : RoundMode) (x : Nat) : Nat :=
  match mode with
  | .halfEven => if x % 2 = 0 then 10000 * x - 5000 else 10000 * x - 4999
  | .truncate => 10000 * x
  | .halfUp => 10000 * x - 5000
  | .ceiling => 10000 * x - 9999
  | .fiveCent => 10000 * nextFive x - 25000

/-- The least V of 1 or more with R_mode(V × E / 10,000) ≥ X, by R32's table; 1 for X = 0. -/
def leastVolume (mode : RoundMode) (e x : Nat) : Nat :=
  if x = 0 then 1 else max 1 ((threshold mode x + e - 1) / e)

/-- An AMOUNT preset under FIVE-CENT is lowered to a multiple of 5 (R32). -/
def adjustPreset (mode : RoundMode) : Preset → Preset
  | .amount a => if mode = .fiveCent then .amount (a / 5 * 5) else .amount a
  | p => p

/-- The preset target, if the sale has one (R32); `p` as lowered. -/
def presetTarget (mode : RoundMode) (e : Nat) : Preset → Option Nat
  | .none => none
  | .volume v => some v
  | .amount a => some (leastVolume mode e a)

/-- The implicit ceiling target V_c (R33). -/
def ceilingTarget (mode : RoundMode) (e : Nat) : Nat := leastVolume mode e Config.amountCap

/-- V_t and its source (R34). -/
def effectiveTarget (preset : Option Nat) (limit ceiling : Nat) : Nat × TargetSource :=
  match preset with
  | some p => if p ≤ min limit ceiling then (p, .preset) else (min limit ceiling, .limit)
  | none => (min limit ceiling, .limit)

/-- V_s (R35). -/
def slowDownPoint (distance vt : Nat) : Option Nat :=
  if distance = 0 then none else if distance < vt then some (vt - distance) else some 0

/-- The four values and the targets the lock fixes (R27, R32 to R35). -/
def makeLock (p d : Nat) (mode : RoundMode) (preset : Preset) (limit distance : Nat) : Lock :=
  let e := effectivePrice p d
  let adjusted := adjustPreset mode preset
  let target := effectiveTarget (presetTarget mode e adjusted) limit (ceilingTarget mode e)
  { p := p, d := d, e := e, mode := mode, preset := adjusted, vt := target.1, source := target.2,
    vs := slowDownPoint distance target.1 }

/-- V has reached V_s (R35, R55, R58). -/
def Lock.slowed (l : Lock) (v : Nat) : Bool :=
  match l.vs with
  | some vs => decide (vs ≤ v)
  | none => false

/-- The stop reason of the target's source (R34). -/
def TargetSource.stop : TargetSource → StopReason
  | .preset => .preset
  | .limit => .limit

/-! ## Flags -/

/-- All flags clear (R46). -/
def SaleFlags.clear : SaleFlags :=
  { inexact := false, reverse := false, ceiling := false, discountClamped := false, presetAdjusted := false,
    overrun := false, blend := false, satelliteBusy := false }

/-- The sale's V, N, A after its claims have changed, with CEILING and INEXACT as the computation sets them (R25, R28 to R31);
before the lock N and A stay 0. -/
def Sale.recompute (sl : Sale) : Sale :=
  let v := totalVolume sl.claims
  match sl.lock with
  | none => { sl with v := v }
  | some l =>
    let n := v * l.e
    let a := saleAmount l.mode n
    { sl with v := v, n := n, amount := a, flags := { sl.flags with
        ceiling := sl.flags.ceiling || decide (Config.amountCap < roundAmount l.mode n),
        inexact := sl.flags.inexact || decide (a * 10000 ≠ n) } }

/-- The sale locked (R27, R53): the lock's values, DISCOUNT CLAMPED and PRESET ADJUSTED, the authorization held, N and A formed. -/
def Sale.locked (sl : Sale) (auth : Authorization) (l : Lock) : Sale :=
  Sale.recompute { sl with
    lock := some l, held := some auth,
    flags := { sl.flags with
      discountClamped := sl.flags.discountClamped || discountClamps l.p l.d,
      presetAdjusted := sl.flags.presetAdjusted || l.preset != auth.preset } }

/-- A claim after a count of its meter: n moves by the sign, h keeps the highest (R7, R26). -/
def Claim.count (c : Claim) (sign : Int) : Claim := { c with n := c.n + sign, h := max c.h (c.n + sign) }

/-- The claims after a count of a meter. -/
def countClaims (m : MeterNo) (sign : Int) (cs : List Claim) : List Claim :=
  cs.map fun c => if c.meter = m then c.count sign else c

/-- The sale after a count of a meter: claims, REVERSE when the claim's n is below zero (R24), V, N and A. -/
def Sale.count (sl : Sale) (m : MeterNo) (sign : Int) : Sale :=
  let claims := countClaims m sign sl.claims
  Sale.recompute { sl with claims := claims, flags := { sl.flags with
    reverse := sl.flags.reverse || claims.any fun c => decide (c.meter = m) && decide (c.n < 0) } }

/-- The excursion h − n of the meter's claim exceeds the allowance (R26). -/
def Sale.excursion (sl : Sale) (m : MeterNo) (allowance : Nat) : Bool :=
  sl.claims.any fun c => decide (c.meter = m) && decide ((allowance : Int) < c.h - c.n)

/-- Volume of the SECONDARY claim (R37). -/
def Sale.secondaryVolume (sl : Sale) : Nat :=
  totalVolume (sl.claims.filter fun c => c.role == .secondary)

/-- The blend fraction f is more than the tolerance away from r (R37). -/
def Sale.deviates (sl : Sale) (b : BlendValues) : Bool :=
  let f := 100 * sl.secondaryVolume / sl.v
  decide (b.tolerance < f - b.ratio) || decide (b.tolerance < b.ratio - f)

/-- The blend check (R37): the sale with its deviation start and BLEND flag, and whether it ends with stop reason BLEND. -/
def Sale.blendCheck (sl : Sale) : Sale × Bool :=
  match sl.blend with
  | none => (sl, false)
  | some b =>
    if sl.v < b.settleVolume ∨ sl.v < 1 then (sl, false)
    else if sl.deviates b then
      match sl.deviationStart with
      | none => ({ sl with deviationStart := some sl.v, flags := { sl.flags with blend := true } }, false)
      | some start => (sl, decide (start + Config.blendPersistence ≤ sl.v))
    else ({ sl with deviationStart := none }, false)

/-- OVERRUN is judged at the completion of ENDING (R36). -/
def Sale.overruns (sl : Sale) : Bool :=
  match sl.stop, sl.lock with
  | some .preset, some l =>
    match l.preset with
    | .amount a => decide (a < sl.amount)
    | .volume v => decide (v < sl.v)
    | .none => false
  | some .limit, some l => decide (l.vt < sl.v)
  | _, _ => false

/-- The accrued flags after a sale's flags have gone from `old` to `new`: a flag gained is accrued (R40). -/
def Accrued.gain (acc : Accrued) (old new : SaleFlags) : Accrued :=
  { inexact := acc.inexact || (new.inexact && !old.inexact),
    reverse := acc.reverse || (new.reverse && !old.reverse),
    ceiling := acc.ceiling || (new.ceiling && !old.ceiling),
    discountClamped := acc.discountClamped || (new.discountClamped && !old.discountClamped) }

/-- The accrued flags as a number: bit 0 INEXACT, 1 REVERSE, 2 CEILING, 3 DISCOUNT CLAMPED (10, Card kinds). -/
def Accrued.code (acc : Accrued) : Nat :=
  flag acc.inexact + 2 * flag acc.reverse + 4 * flag acc.ceiling + 8 * flag acc.discountClamped

/-- A sale's flags as the report's byte 11 (10, The sale report). -/
def SaleFlags.code (f : SaleFlags) : Nat :=
  flag f.inexact + 2 * flag f.reverse + 4 * flag f.ceiling + 8 * flag f.discountClamped + 16 * flag f.presetAdjusted
    + 32 * flag f.overrun + 64 * flag f.blend + 128 * flag f.satelliteBusy

/-- No accrued flag set. -/
def Accrued.clear : Accrued := { inexact := false, reverse := false, ceiling := false, discountClamped := false }

end Sys2Proof.Machine
end

