-- ==== Sys2Proof/Machine/Walker.lean ====
section
/-! DEFINITION. The Card Walker (R195 to R203): taking a card, finishing it, following its link, arming, abort. -/
namespace Sys2Proof.Machine

/-- Code of a card state (R195). -/
inductive CardState where
  | fresh | taken | finishedLink | finishedEnd
  deriving DecidableEq, Repr

/-- The state halfword of a card state (R195). -/
def CardState.code : CardState → Half
  | .fresh => 0
  | .taken => 1
  | .finishedLink => 2
  | .finishedEnd => 3

/-- Length of a card's extent in bytes, a body length above 12 counted as 12 (R198). -/
def cardExtent (words : Half) : Nat := 16 + 4 * min 12 words.toNat

/-- The card at an offset as the take reads it (R195). -/
def State.cardAt (s : State) (off : Nat) : Card :=
  { kind := Memory.read s.xm off, flags := Memory.read s.xm (off + 1), target := s.half (off + 8), words := s.half (off + 10),
    hostReference := s.half (off + 14) ++ s.half (off + 12), body := s.bytes (off + 16) (4 * min 12 (s.half (off + 10)).toNat) }

/-- What checks 1 to 5 of a take answer (R198). -/
inductive TakeResult where
  | halts (reason : HaltReason)
  | refused (o : CardOutcome)
  | given
  deriving DecidableEq, Repr

/-- Checks 1 to 5 of a take, in their order (R198). -/
def State.takeResult (s : State) (l : LaneId) (off : Nat) : TakeResult :=
  let extent := cardExtent (s.half (off + 10))
  if off % 4 ≠ 0 ∨ off < Config.poolBase ∨ s.riu.floor < off + extent then .halts .badCardAddress
  else if s.parityGood off extent = false then .halts .parity
  else if s.half (off + 4) ≠ CardState.fresh.code then .halts .staleCard
  else match Kind.ofByte (Memory.read s.xm off) with
    | none => .refused .unknownKind
    | some k =>
      if k.lane ≠ l then .refused .wrongLane
      else if 12 < (s.half (off + 10)).toNat then .refused .badValue
      else .given

/-- The lane halts at its current card (R198, R200, R202). -/
def State.haltLane (s : State) (l : LaneId) (reason : HaltReason) (off : Nat) : State :=
  (s.modLane l fun x => { x with st := .halted, halt := reason, current := off, held := none }).raiseLane l .halted off

/-- What a link read shows (R200). -/
inductive LinkRead where
  | parity | atEnd | next (off : Nat)
  deriving DecidableEq, Repr

/-- Reads a card's link: a parity failure counts as END; bit 0 set is END; the offset has its lowest bit cleared (R200). -/
def State.readLink (s : State) (off : Nat) : LinkRead :=
  if s.parityGood (off + 2) 2 = false then .parity
  else if (s.half (off + 2)).getLsbD 0 then .atEnd
  else .next (s.half (off + 2)).toNat

/-- The FINISHED state that records a link read (R195, R200). -/
def LinkRead.state : LinkRead → CardState
  | .next _ => .finishedLink
  | _ => .finishedEnd

/-- Writes outcome and FINISHED state of a card, sets the lane's last finished card and raises NOTE CARD FINISHED when the card asks
for it (R200, R202). -/
def State.markFinished (s : State) (l : LaneId) (off : Nat) (note : Bool) (o : CardOutcome) (st : CardState) : State :=
  let s := ((s.writeHalf (off + 6) (BitVec.ofNat 16 o.code)).writeHalf (off + 4) st.code).modLane l
    fun x => { x with lastFinished := off }
  if note then s.raiseLane l .noteCardFinished off else s

/-- The three steps of R200 on the card a lane holds: results, outcome, link, state; the lane then no longer holds it. -/
def State.closeCard (s : State) (l : LaneId) (off : Nat) (note : Bool) (results : List (Nat × Byte)) (o : CardOutcome) : State :=
  let s := s.writeAt (off + 16) results
  (s.markFinished l off note o (s.readLink off).state).modLane l fun x => { x with held := none }

/-- Where the lane goes after the card at `off`, whose link read is given; `true` when it takes its current card next (R200, R202). Stop
requested takes it to IDLE whatever the link read showed (log 52). -/
def State.moveOn (s : State) (l : LaneId) (off : Nat) (link : LinkRead) : State × Bool :=
  if (s.lane l).stopRequested then
    ((s.modLane l fun x => { x with st := .idle, stopRequested := false }).raiseLane l .aborted off, false)
  else match link with
    | .parity => (s.haltLane l .parity off, false)
    | .atEnd => ((s.modLane l fun x => { x with st := .idle }).raiseLane l .chainEnd off, false)
    | .next n => (s.modLane l fun x => { x with st := .walking, current := n }, true)

/-- The lane, WALKING, takes its current card, and goes on through cards that the common checks refuse (R198, R199). Every card
taken is left TAKEN or FINISHED, so that the walk meets each offset at most once. -/
def State.walk : Nat → State → LaneId → State
  | 0, s, _ => s
  | fuel + 1, s, l =>
    let off := (s.lane l).current
    match s.takeResult l off with
    | .halts reason => s.haltLane l reason off
    | .refused o =>
      let s := s.writeHalf (off + 4) CardState.taken.code
      let link := s.readLink off
      let note := (Memory.read s.xm (off + 1)).getLsbD 0
      let r := ((s.raiseLane l .refused off).closeCard l off note [] o).moveOn l off link
      if r.2 then State.walk fuel r.1 l else r.1
    | .given =>
      (s.writeHalf (off + 4) CardState.taken.code).modLane l
        fun x => { x with held := some { offset := off, card := s.cardAt off, phase := .undecided } }

/-- More than the offsets a lane can take cards from (R190, R198). -/
def walkFuel : Nat := 8192

/-- The lane goes on: it takes its current card if it is to (R200). -/
def State.follow (r : State × Bool) (l : LaneId) : State :=
  if r.2 then State.walk walkFuel r.1 l else r.1

/-- Finishes the card a lane holds and moves the lane on (R200, R201). -/
def State.finishCard (s : State) (l : LaneId) (results : List (Nat × Byte)) (o : CardOutcome) : State :=
  match (s.lane l).held with
  | none => s
  | some h =>
    let s := (s.modLane l fun x => { x with st := .walking }).writeAt (h.offset + 16) results
    State.follow ((s.closeCard l h.offset h.card.note [] o).moveOn l h.offset (s.readLink h.offset)) l

/-- Refuses the card a lane holds (R199). -/
def State.refuseCard (s : State) (l : LaneId) (o : CardOutcome) : State :=
  match (s.lane l).held with
  | none => s
  | some h => (s.raiseLane l .refused h.offset).finishCard l [] o

/-- Finishes the waiting card ABORTED; the lane enters IDLE and does not follow the link (R197, R201). Its result words stay as the host
left them, that of WAKE NOW too (log 60). -/
def State.abortCard (s : State) (l : LaneId) : State :=
  match (s.lane l).held with
  | none => s
  | some h =>
    ((s.closeCard l h.offset h.card.note [] .aborted).modLane l fun x => { x with st := .idle, stopRequested := false }).raiseLane
      l .aborted h.offset

/-- The owner of the held card makes it wait: the lane enters WAITING, or, with stop requested, the card finishes ABORTED at once
with the owner's undo (R197, R199). What a LOAD PRICE, a SEND or a NIGHT NOW so aborted has set going is the model's choice (log 54, log 62,
log 69). -/
def State.waitCard (s : State) (l : LaneId) (undo : State → State) : State :=
  if (s.lane l).stopRequested then undo (s.abortCard l)
  else s.modLane l fun x => { x with st := .waiting, held := x.held.map fun h => { h with phase := .waiting } }

/-- The held card is to be finished on a store step (R199). -/
def State.storeCard (s : State) (l : LaneId) : State :=
  s.modLane l fun x => { x with held := x.held.map fun h => { h with phase := .onStore } }

/-- The operation of a waiting card is dropped by a supply warning: the card stays TAKEN until power-on (R205). -/
def State.dropCard (s : State) (l : LaneId) : State :=
  s.modLane l fun x => { x with held := x.held.map fun h => if h.phase = .waiting then { h with phase := .dropped } else h }

/-- The kind of the card that a lane's WAITING state is for. -/
def State.waitingKind (s : State) (l : LaneId) : Option Kind :=
  match (s.lane l).held with
  | some h => if h.phase = .waiting then Kind.ofByte h.card.kind else none
  | none => none

/-- Finishes a waiting card of the given kind when its operation ends; nothing when the lane holds none (R201). -/
def State.endWaiting (s : State) (k : Kind) (results : List (Nat × Byte)) (o : CardOutcome) : State :=
  if s.waitingKind k.lane = some k then s.finishCard k.lane results o else s

/-- Finishes the card at `off` that the lane holds on a store step (R178, R199). -/
def State.endStored (s : State) (l : LaneId) (off : Nat) : State :=
  match (s.lane l).held with
  | some h => if h.phase = .onStore ∧ h.offset = off then s.finishCard l [] .ok else s
  | none => s

/-- Applies the owner's decision to the card of kind `k` that the kind's lane has taken and whose owner has not decided; without
such a card nothing happens (log 2). The function is given the card's offset and contents. -/
def State.withCard (s : State) (k : Kind) (f : Nat → Card → State → State) : State :=
  match (s.lane k.lane).held with
  | some h => if h.phase = .undecided ∧ Kind.ofByte h.card.kind = some k then f h.offset h.card s else s
  | none => s

/-- The armed receive card handed to the RIU: its link is read, it joins the armed list, the lane moves on and writes no state
(R137, R202); with stop requested and the link END the lane raises ABORTED alone (log 53). -/
def State.armCard (s : State) (off : Nat) (card : Card) (buffer : Nat) : State :=
  let link := s.readLink off
  let s := s.modRiu fun r => { r with
    armed := r.armed ++ [{ card := off, buffer := buffer, note := card.note, toEnd := link.state == .finishedEnd }] }
  State.follow ((s.modLane .reader fun x => { x with held := none }).moveOn .reader off link) .reader

/-- An armed receive card is finished by the RIU, its link as read at arming (R202). -/
def State.finishArmed (s : State) (e : Armed) (results : List (Nat × Byte)) (o : CardOutcome) : State :=
  (s.writeAt (e.card + 16) results).markFinished .reader e.card e.note o (if e.toEnd then .finishedEnd else .finishedLink)

end Sys2Proof.Machine
end

