-- ==== Sys2Proof/Machine/Store.lean ====
section
/-! DEFINITION. The retained store (R176 to R179): record contents from the live values, requests, joining, the beginning and the
writing of a step, the judgement of the records (R184). -/
namespace Sys2Proof.Machine

/-- Number of a record (R176). -/
def RecordId.number : RecordId → Fin 8
  | .header => 0
  | .config => 1
  | .prices => 2
  | .totals => 3
  | .meters => 4
  | .unpaidA => 5
  | .unpaidB => 6
  | .reader => 7

/-- The eight records in number order (R176). -/
def allRecords : List RecordId := [.header, .config, .prices, .totals, .meters, .unpaidA, .unpaidB, .reader]

/-- The UNPAID record of a position (R176). -/
def unpaidRecord : Side → RecordId
  | .a => .unpaidA
  | .b => .unpaidB

/-- The live values as CONFIG holds them (R176). -/
def State.liveConfig (s : State) : ConfigRecord :=
  { routes := s.miu.routes, meters := s.miu.meters.map Meter.config, positions := s.psc.map Position.config,
    enables := s.miu.enables, siteMode := s.pru.siteMode, totalsForm := s.pru.totalsForm, policy := s.dlc.policy,
    watch := s.iwu.watch, schedule := s.ssu.schedule, floor := s.riu.floor }

/-- The live values of every record (R176, R177). -/
def State.liveContents (s : State) : Contents :=
  { restart := s.rsc.restart, config := s.liveConfig, prices := s.pru.grades.map fun g => (g.price, g.code),
    totals := s.rsc.totals, meters := s.miu.meters.map fun m => { lifetime := m.lifetime, unclaimed := m.unclaimed },
    unpaid := s.psc.map Position.unpaid, reader := s.rsc.reader }

/-- Takes one record's contents from `new`. -/
def Contents.put (old new : Contents) : RecordId → Contents
  | .header => { old with restart := new.restart }
  | .config => { old with config := new.config }
  | .prices => { old with prices := new.prices }
  | .totals => { old with totals := new.totals }
  | .meters => { old with meters := new.meters }
  | .unpaidA => { old with unpaid := { old.unpaid with a := new.unpaid.a } }
  | .unpaidB => { old with unpaid := { old.unpaid with b := new.unpaid.b } }
  | .reader => { old with reader := new.reader }

/-! ## Check words (R176) -/

/-- A hose route entry as numbers. -/
def HoseRoute.numbers (e : HoseRoute) : List Nat :=
  [flag e.fitted, e.grade.val, e.kind.code, e.primary.val + 1, match e.secondary with
    | some m => m.val + 1
    | none => 0, e.ratio, e.slowDown]

/-- What CONFIG holds, as numbers. -/
def ConfigRecord.numbers (c : ConfigRecord) : List Nat :=
  (c.routes.a.toList ++ c.routes.b.toList).flatMap HoseRoute.numbers
    ++ (c.meters.toList.flatMap fun m => [m.decoding.code, m.k, m.reverseAllowance, m.creepLimit, m.phaseErrorLimit])
    ++ ([c.positions.a, c.positions.b].flatMap fun p =>
        [p.saleLimit, p.form.code, p.firstFlow, p.noFlow, p.motorSettle, p.settleWindow])
    ++ [flag c.enables.blend, flag c.enables.satellite, c.enables.tolerance, c.enables.settleVolume, c.siteMode.code,
        c.totalsForm.code, c.policy.retryLimit, c.policy.action.code, c.watch.interval, c.watch.mode.code, c.watch.mask.toNat,
        c.watch.compare.toNat]
    ++ (match c.schedule with
      | none => [0, 0, 0]
      | some x => [1, x.closing, x.opening])
    ++ [c.floor]

/-- An unpaid entry as numbers (R46). -/
def EndedSale.numbers (e : EndedSale) : List Nat :=
  [e.tag.toNat, e.origin.code, e.hose.val + 1, e.grade.val, e.kind.code, e.p, e.d, e.e, e.mode.code, e.v, e.amount, e.flags.code,
   e.stop.code, e.started.day, e.started.second, e.ended.day, e.ended.second, flag e.recovered]

/-- What a record holds, as numbers (R176); of HEADER the restart count, the generation standing before the contents. -/
def Contents.numbers (c : Contents) : RecordId → List Nat
  | .header => [c.restart]
  | .config => c.config.numbers
  | .prices => c.prices.toList.flatMap fun x => [flag x.1.isSome, x.1.getD 0, x.2.code]
  | .totals => (c.totals.a.toList ++ c.totals.b.toList).flatMap fun t => [t.volume, t.amount, t.sales]
  | .meters => c.meters.toList.flatMap fun m => [m.lifetime.toNat, m.unclaimed.toNat]
  | .unpaidA => c.unpaid.a.length :: c.unpaid.a.flatMap EndedSale.numbers
  | .unpaidB => c.unpaid.b.length :: c.unpaid.b.flatMap EndedSale.numbers
  | .reader => [flag c.reader]

/-- The check word of a record: the CRC-16 over its generation and its contents (R176), the contents' bytes being a free function of
what the record holds (log 15). -/
def Contents.checkWord (c : Contents) (r : RecordId) (generation : Nat) : Half :=
  crc16 (BitVec.ofNat 8 generation :: BitVec.ofNat 8 (generation / 256) :: Config.recordBytes r.number.val (c.numbers r))

/-- What stands with a record; the generation of HEADER is the store generation it holds. -/
def Store.seal (st : Store) (r : RecordId) : Seal := st.seals[r.number]

/-- The check word of a record matches (R176). -/
def Store.intact (st : Store) (r : RecordId) : Bool :=
  (st.seal r).check == some (st.contents.checkWord r (st.seal r).generation)

/-- A record is sound: its check word matches and its generation is that of a sound HEADER (R176). -/
def Store.sound (st : Store) (r : RecordId) : Bool :=
  st.intact .header && st.intact r && (st.seal r).generation == (st.seal .header).generation

/-! ## Writing -/

/-- Writes one record with a generation and a fresh check word; `good` is unset for a HEADER that R185 keeps unsound (R176, R178). -/
def Store.writeRecord (st : Store) (r : RecordId) (generation : Nat) (new : Contents) (good : Bool) : Store :=
  { contents := st.contents.put new r,
    seals := st.seals.set r.number
      { generation := generation, check := if good then some (new.checkWord r generation) else none } }

/-- A record's check word no longer matches (R179, R185). -/
def Store.spoil (st : Store) (r : RecordId) : Store :=
  { st with seals := st.seals.set r.number { st.seal r with check := none } }

/-- The first unsound record of the check, store lost failing it at record 0 (R184, R185). -/
def Rsc.firstUnsound (r : Rsc) : Option (Fin 8) :=
  if r.lost then some 0 else (allRecords.find? fun i => !r.store.sound i).map RecordId.number

/-- The requester asks for a freeze step (R182). -/
def Requester.isFreeze : Requester → Bool
  | .freeze _ => true
  | _ => false

/-- The requester is a card of a lane. -/
def Requester.isCard : Requester → Bool
  | .card _ _ => true
  | _ => false

/-- The queue after a request: it joins a step with the same records, or stands at the end (R178). -/
def joinQueue (records : List RecordId) (who : List Requester) : List StoreStep → List StoreStep
  | [] => [{ records := records, requesters := who }]
  | st :: q =>
    if st.records = records then { st with requesters := st.requesters ++ who } :: q else st :: joinQueue records who q

/-- Requests a store step; in POWER DOWN only the freeze steps are queued (R178, R183). -/
def State.requestStep (s : State) (records : List RecordId) (who : List Requester) : State :=
  if s.powerDown && !who.any Requester.isFreeze then s
  else s.modRsc fun r => { r with queue := joinQueue records who r.queue }

/-- Removes requesters from the waiting steps and from the step in progress: they are no longer answered. -/
def State.dismiss (s : State) (gone : Requester → Bool) : State :=
  let strip (st : StoreStep) : StoreStep := { st with requesters := st.requesters.filter fun q => !gone q }
  s.modRsc fun r => { r with queue := r.queue.map strip, active := r.active.map fun a => { a with step := strip a.step } }

/-- Generation after a rebuild: the previous plus 1, from 65,535 to 1; 1 when the HEADER cannot be read (R188). -/
def rebuiltGeneration (st : Store) : Nat :=
  if st.intact .header then (if (st.seal .header).generation = 65535 then 1 else (st.seal .header).generation + 1) else 1

/-- Restart count after a rebuild (R188). -/
def rebuiltRestart (st : Store) : Nat :=
  if st.intact .header then (st.contents.restart + 1) % 65536 else 1

/-- The step at the front of the queue can begin: none is in progress and no check is running (R178, R184). -/
def Rsc.canBegin (r : Rsc) : Bool :=
  r.active.isNone && !r.queue.isEmpty && r.check != .running

/-- Begins the oldest step. The answer holds the requesters of a step that completes at once, the live generation being absent
(R178, R188). Every step takes the live values of its own beginning (R178); that the freeze step of position B so takes METERS anew, with
counts recognised since A's began, is the model's choice (R182; log 66). -/
def State.beginStep (s : State) : State × List Requester :=
  match s.rsc.queue with
  | [] => (s, [])
  | st :: q =>
    if st.requesters.contains .rebuild || st.records = allRecords then
      let g := rebuiltGeneration s.rsc.store
      let n := rebuiltRestart s.rsc.store
      (s.modRsc fun r => { r with
        queue := q, generation := some g, restart := n,
        active := some { step := st, generation := g, contents := .default n } }, [])
    else match s.rsc.generation with
      | none => (s.modRsc fun r => { r with queue := q }, st.requesters)
      | some g =>
        (s.modRsc fun r => { r with
          queue := q,
          active := some { step := st, generation := g, contents := s.liveContents } }, [])

/-- The store after a step has written its records; while store lost is set and the step is no rebuild, the HEADER stays unsound
(R178, R185; log 17). -/
def Store.written (st : Store) (a : ActiveStep) (lost : Bool) : Store :=
  a.step.records.foldl (fun st r => st.writeRecord r a.generation a.contents (r != .header || !lost)) st

/-- The step in progress has written its records and leaves; the answer holds its requesters (R178). REBUILD STORE clears store
lost first (R188). -/
def State.endStep (s : State) : State × List Requester :=
  match s.rsc.active with
  | none => (s, [])
  | some a =>
    let lost := s.rsc.lost && a.step.records != allRecords
    (s.modRsc fun r => { r with active := none, store := r.store.written a lost, lost := lost }, a.step.requesters)

/-- What a supply fall leaves of the step in progress (R179): of each of its records a free choice among cut, whole and untouched
(log 11). -/
def Store.cut (st : Store) (a : ActiveStep) (lost : Bool) (free : Nat) : Store :=
  a.step.records.foldl (fun st r =>
    match Config.cutRecord free r.number.val with
    | none => st.spoil r
    | some true => st.writeRecord r a.generation a.contents (r != .header || !lost)
    | some false => st) st

end Sys2Proof.Machine
end

