-- ==== Sys2Proof/Machine/Display.lean ====
section
/-! DEFINITION. Display boards (05): contents, updates and postings, attempts, refresh, test records. -/
namespace Sys2Proof.Machine

/-! ## Contents (R94) -/

/-- The positions of a value in a field of `n` positions, `k` of them to the right of the point (R94). -/
def valuePositions (k v : Nat) : Nat → List Cell
  | 0 => []
  | p + 1 => (if v < 10 ^ p ∧ k < p then Cell.blank else Cell.digit (v / 10 ^ p % 10)) :: valuePositions k v p

/-- A value in AMOUNT or VOLUME (R93, R94). -/
def longValue (v : Nat) : Content := .digits (valuePositions 2 v 7)
/-- A value in PRICE or a grade field (R93, R94). -/
def priceValue (v : Nat) : Content := .digits (valuePositions 3 v 5)

/-- Number of digit positions of a field (R93). -/
def fieldWidth : FieldId → Nat
  | .amount | .volume => 7
  | _ => 5

/-- The same cell in every position of a field; lamps lit as given (R94). -/
def uniform (f : FieldId) (c : Cell) (lit : Bool) : Content :=
  match f with
  | .status => .lamps lit lit lit lit
  | _ => .digits (List.replicate (fieldWidth f) c)

/-- Eights, every lamp lit (R94). -/
def eights (f : FieldId) : Content := uniform f (.digit 8) true
/-- Blank, every lamp dark (R94). -/
def blank (f : FieldId) : Content := uniform f .blank false
/-- Dashes (R94). -/
def dashes (f : FieldId) : Content := uniform f .dash false

/-- The display form of a volume: floor(V / 10), held at 9,999,999 (R38). -/
def displayVolume (v : Nat) : Nat := min Config.shownVolumeCap (v / 10)

/-! ## Fields -/

/-- The fields in number order (R93). -/
def allFields : List FieldId := [.amount, .volume, .price, .grade 0, .grade 1, .grade 2, .grade 3, .status]
/-- The legal fields (R93). -/
def legalFields : List FieldId := [.amount, .volume, .price]

/-- The class of a field is legal (R93). -/
def isLegal : FieldId → Bool
  | .amount | .volume | .price => true
  | _ => false

/-- A field's record. -/
def Fields.get (x : Fields) : FieldId → FieldRec
  | .amount => x.amount
  | .volume => x.volume
  | .price => x.price
  | .grade h => x.grades[h]
  | .status => x.status
/-- Replaces a field's record. -/
def Fields.set (x : Fields) (f : FieldId) (r : FieldRec) : Fields :=
  match f with
  | .amount => { x with amount := r }
  | .volume => { x with volume := r }
  | .price => { x with price := r }
  | .grade h => { x with grades := x.grades.set h r }
  | .status => { x with status := r }

/-- A field of a board. -/
def Board.field (b : Board) (f : FieldId) : FieldRec := b.fields.get f
/-- Changes a field of a board. -/
def Board.modField (b : Board) (f : FieldId) (g : FieldRec → FieldRec) : Board :=
  { b with fields := b.fields.set f (g (b.fields.get f)) }

/-- The attempt in flight writes this field. -/
def Board.writes (b : Board) (f : FieldId) : Bool :=
  match b.attempt with
  | some a => a.field == f
  | none => false

/-- A segment test runs on the board (R110). -/
def Board.segment (b : Board) : Bool :=
  match b.test with
  | some (.segment _ _ _) => true
  | _ => false

/-- An update of a field (R99). -/
def FieldRec.update (r : FieldRec) (c : Content) : FieldRec :=
  if r.wanted = c then r
  else { r with wanted := c, st := if r.st = .current then .pending else r.st }

/-- A posting to a field; `inFlight` says that an attempt writes it (R100). -/
def FieldRec.post (r : FieldRec) (c : Content) (limit : Nat) (inFlight : Bool) : FieldRec :=
  { r with wanted := c, retries := limit, repost := r.repost || inFlight, st := if r.st = .writing then .writing else .pending }

/-- Updates a field of a side's board (R99). -/
def State.updateField (s : State) (side : Side) (f : FieldId) (c : Content) : State :=
  s.modBoard side fun b => b.modField f fun r => r.update c

/-- Posts to a field of a side's board (R100). -/
def State.postField (s : State) (side : Side) (f : FieldId) (c : Content) : State :=
  let limit := s.dlc.policy.retryLimit
  s.modBoard side fun b => b.modField f fun r => r.post c limit (b.writes f)

/-! ## The Pricing Unit's contents (R107) -/

/-- The wanted content of a grade field (R107). -/
def State.gradeContent (s : State) (side : Side) (h : HoseNo) : Content :=
  let e := s.route side h
  if e.fitted then
    match (s.grade e.grade).price with
    | some p => priceValue p
    | none => dashes (.grade h)
  else blank (.grade h)

/-- The Pricing Unit posts to a grade field; while a segment test runs on the board the posting is held back (R107, R110). -/
def State.postGrade (s : State) (side : Side) (h : HoseNo) : State :=
  if (s.board side).segment then s.modBoard side fun b => b.modField (.grade h) fun r => { r with heldPost := true }
  else s.postField side (.grade h) (s.gradeContent side h)

/-- The Pricing Unit updates a grade field, unless a segment test holds the content back (R107, R110). -/
def State.updateGrade (s : State) (side : Side) (h : HoseNo) : State :=
  if (s.board side).segment then s else s.updateField side (.grade h) (s.gradeContent side h)

/-! ## The Position Controller's contents (R105, R106) -/

/-- The wanted content of a legal field (R105); the start check's step has none of its own. -/
def Position.legalContent (p : Position) (f : FieldId) : Content :=
  match p.st with
  | .closed _ => dashes f
  | .idle | .calling | .authorized | .starting .gate | .starting .check =>
    match f with
    | .amount => longValue p.lastShown.amount
    | .volume => longValue (displayVolume p.lastShown.v)
    | _ => blank f
  | _ =>
    match p.sale with
    | none => dashes f
    | some sl =>
      match f with
      | .amount => longValue sl.amount
      | .volume => longValue (displayVolume sl.v)
      | _ => priceValue (match sl.lock with
        | some l => l.e
        | none => 0)

/-- The lamps of STATUS (R106). -/
def State.statusContent (s : State) (side : Side) : Content :=
  let p := s.pos side
  .lamps (p.st == .authorized || match p.st with
      | .starting _ => true
      | _ => false)
    (p.st == .paused || s.iwu.emergency == some true)
    (match p.st with
      | .closed _ => true
      | _ => false)
    (p.unpaid.any EndedSale.recovered)

/-- The freeze of a supply warning has been made: the contents of the legal fields that it changes are not sent (R105). -/
def State.freezeMade (s : State) : Bool := s.powerDown && (s.rsc.freeze == .steps || s.rsc.freeze == .done)

/-- The Position Controller's contents of a side's legal fields sent as updates, from the freeze on none (R105). -/
def State.sendLegal (s : State) (side : Side) : State :=
  if s.freezeMade then s else legalFields.foldl (fun u f => u.updateField side f ((s.pos side).legalContent f)) s

/-- The Position Controller's contents sent as updates, those that a test holds back excepted (R105, R106). An update with the
wanted content has no effect (R99), so that they may be sent at every event. -/
def State.sendContents (s : State) (side : Side) : State :=
  match (s.board side).test with
  | some (.segment _ _ _) => s
  | some (.startCheck _) => s.updateField side .status (s.statusContent side)
  | none => (s.sendLegal side).updateField side .status (s.statusContent side)

/-! ## Tests (R108 to R111) -/

/-- Posts a phase's content to each listed field. -/
def State.postAll (s : State) (side : Side) (fs : List FieldId) (c : FieldId → Content) : State :=
  fs.foldl (fun s f => s.postField side f (c f)) s

/-- Posts to every field but the grade and status fields in FAULT (R110). -/
def State.postSegment (s : State) (side : Side) (c : FieldId → Content) : State :=
  allFields.foldl (fun s f =>
    if !(isLegal f) && ((s.board side).field f).st == .fault then s else s.postField side f (c f)) s

/-- The sale-start check begins (R108), `e` the sale's effective price. -/
def State.beginStartCheck (s : State) (side : Side) (e : Nat) : State :=
  ((s.modBoard side fun b => { b with test := some (.startCheck .eights) }).postAll side [.amount, .volume] eights).postField
    side .price (priceValue e)

/-- A segment test is asked for: it joins the running test or begins one, whose EIGHTS phase posts to all eight fields, FAULT or
not (R110). -/
def State.requestSegment (s : State) (side : Side) (openPosition stage : Bool) : State :=
  match (s.board side).test with
  | some (.segment ph o g) => s.modBoard side fun b => { b with test := some (.segment ph (o || openPosition) (g || stage)) }
  | _ =>
    (s.modBoard side fun b => { b with test := some (.segment .eights openPosition stage) }).postAll side allFields eights

/-- The test record goes without a result (R109, R112). -/
def State.dropTest (s : State) (side : Side) : State := s.modBoard side fun b => { b with test := none }

/-- Every listed field is CURRENT. -/
def Board.allCurrent (b : Board) (fs : List FieldId) : Bool := fs.all fun f => (b.field f).st == .current

/-- The end condition of a segment test's phase (R110). -/
def Board.segmentDone (b : Board) : Bool :=
  b.allCurrent legalFields && allFields.all fun f => isLegal f || (b.field f).st == .current || (b.field f).st == .fault

/-! ## The link (R96 to R102) -/

/-- The link may begin an attempt: none is in flight, the site is not in POWER DOWN, and the night pace does not hold it (R98, R102,
R112). -/
def State.linkFree (s : State) (side : Side) : Bool :=
  (s.board side).attempt.isNone && !s.powerDown && (s.ssu.site != .night || (s.board side).pass)

/-- The field served next, and whether by a refresh attempt (R98). -/
def Board.next (b : Board) : Option (FieldId × Bool) :=
  match allFields.find? fun f => (b.field f).st == .pending with
  | some f => some (f, false)
  | none => (allFields.find? fun f => (b.field f).refreshDue).map fun f => (f, true)

/-- An attempt begins: a WRITE FIELD frame with the next write number (R96, R98, R101). -/
def Board.attemptField (b : Board) (f : FieldId) (refresh : Bool) : Board :=
  { (b.modField f fun r => if refresh then { r with refreshDue := false } else { r with st := .writing }) with
    attempt := some { field := f, number := b.writeNumber, sent := (b.field f).wanted }, writeNumber := b.writeNumber + 1 }

/-- Serves a link: the next attempt, or at night the end of the pass (R98, R102). -/
def State.serve (s : State) (side : Side) : State :=
  if s.linkFree side then
    match (s.board side).next with
    | some (f, refresh) => s.modBoard side fun b => b.attemptField f refresh
    | none => s.modBoard side fun b => { b with pass := false }
  else s

/-- A refresh instant of a board: refresh due on CURRENT and FAULT fields; at night a pass begins (R101, R102). -/
def State.refreshBoard (s : State) (side : Side) : State :=
  let night := s.ssu.site == .night
  s.modBoard side fun b =>
    { (allFields.foldl (fun b f => b.modField f fun r =>
        if r.st = .current ∨ r.st = .fault then { r with refreshDue := true } else r) b) with pass := night }

/-- The refresh period follows the site state (R101), in ms; the night pace ends when the site leaves NIGHT (R102). -/
def State.setPace (s : State) (side : Side) : State :=
  let night := s.ssu.site == .night
  s.modBoard side fun b => { b with refreshPeriod := if night then 10000 else 1000, pass := b.pass && night }

end Sys2Proof.Machine
end

