-- ==== Sys2Proof/Machine/Price.lean ====
section
/-! DEFINITION. The price table: grade panels, blocked flags, the apply (04; R27's mode, R79 to R84, R90). -/
namespace Sys2Proof.Machine

/-- The two sides. -/
def bothSides : List Side := [.a, .b]

/-- The member fields of a grade's panel on a side (04, Grade panels). -/
def State.members (s : State) (g : Fin 8) (side : Side) : List HoseNo :=
  (List.finRange 4).filter fun h => (s.route side h).fitted && (s.route side h).grade == g

/-- The panel state from its member fields (R79). -/
def State.panelState (s : State) (g : Fin 8) (side : Side) : PanelState :=
  let b := s.board side
  let ms := s.members g side
  if ms.isEmpty then .unused
  else if ms.any fun h => (b.field (.grade h)).st == .fault then .fault
  else if b.segment || ms.any fun h => (b.field (.grade h)).st != .current then .updating
  else .current

/-- A panel after its state is set again: the blocked flag follows the policy at an entry into FAULT, and is cleared when a posting
has led from UPDATING to CURRENT or when the panel is UNUSED (R80). -/
def Panel.become (p : Panel) (st : PanelState) (action : PanelAction) : Panel :=
  match st with
  | .unused => { state := .unused, blocked := false, posted := false, held := false }
  | .fault => { p with state := .fault, blocked := p.blocked || (p.state != .fault && action == .block), posted := false }
  | .updating => { p with state := .updating }
  | .current => { p with state := .current, blocked := p.blocked && !(p.state == .updating && p.posted), posted := false }

/-- A posting of R80 reaches a panel that is not UNUSED: UPDATING from this posting on; `held` says that a segment test holds it back
(R84, R110, R166). -/
def Panel.post (p : Panel) (held : Bool) : Panel :=
  if p.state = .unused then p else { p with state := .updating, posted := true, held := held }

/-- The posting that a segment test has held back is sent: what follows follows from it (R80, R110). -/
def Panel.release (p : Panel) : Panel := { p with posted := p.posted || p.held, held := false }

/-- Sets a grade's panel on a side again from its members (R79). -/
def State.refreshPanel (s : State) (side : Side) (g : Fin 8) : State :=
  s.modPanel g side fun p => p.become (s.panelState g side) s.dlc.policy.action

/-- Sets every panel of a side again from its members (R79, R90). -/
def State.refreshSide (s : State) (side : Side) : State :=
  (List.finRange 8).foldl (fun s g => s.refreshPanel side g) s

/-- The reports of the grade fields whose state has changed from a board's earlier fields: the panels of these fields are set again
(R79, R103). -/
def State.reportFields (s : State) (side : Side) (before : Fields) : State :=
  (List.finRange 8).foldl (fun s g =>
    if (s.members g side).any fun h => (before.get (.grade h)).st != ((s.board side).field (.grade h)).st then s.refreshPanel side g
    else s) s

/-- Serves a link and reports the grade field whose attempt so begins: it has turned from PENDING to WRITING (R79, R98). -/
def State.serveLink (s : State) (side : Side) : State := (s.serve side).reportFields side (s.board side).fields

/-- Sets every panel again from its members (R79, R90). -/
def State.refreshPanels (s : State) : State := (s.refreshSide .a).refreshSide .b

/-- A current sale of either position is locked on the grade (R83). -/
def State.lockedOn (s : State) (g : Fin 8) : Bool :=
  bothSides.any fun side =>
    match (s.pos side).sale with
    | some sl => sl.grade == g && sl.lock.isSome
    | none => false

/-- Posts every member field of a grade's panels and makes the panels UPDATING from this posting (R84, R166). -/
def State.postPanels (s : State) (g : Fin 8) : State :=
  bothSides.foldl (fun s side =>
    let s := (s.members g side).foldl (fun s h => s.postGrade side h) s
    s.modPanel g side fun p => p.post (s.board side).segment) s

/-- The apply of a grade's pending price (R84). During a segment test a panel with a field in FAULT is UPDATING until the next report of
one of its fields, as its turning WRITING (State.serveLink), sets it again (R79; log 40). -/
def State.applyPrice (s : State) (g : Fin 8) (price : Nat) (code : RoundCode) : State :=
  let s := (s.modGrade g fun e => { e with price := some price, code := code, pending := none }).postPanels g
  let mine := s.pru.loading.any fun (l : LoadPrice) => l.grade == g
  let s := s.requestStep [.prices] (if mine then [.loadPrice] else [])
  let s := s.modPru fun u => { u with
    loading := u.loading.map fun (l : LoadPrice) => if l.grade = g then { l with applied := true } else l }
  s.touch .price g.val

/-- Applies every pending price that R83 lets be applied. -/
def State.applyPrices (s : State) : State :=
  (List.finRange 8).foldl (fun s g =>
    match (s.grade g).pending with
    | some (p, c) => if s.lockedOn g || s.powerDown then s else s.applyPrice g p c
    | none => s) s

/-- The undo of a waiting LOAD PRICE: before the apply its pending price is withdrawn; after it nothing is undone (R88). -/
def State.undoLoad (s : State) : State :=
  match s.pru.loading with
  | none => s
  | some l =>
    let s := s.modPru fun u => { u with loading := none }
    let s := s.dismiss (· == .loadPrice)
    if l.applied then s else s.modGrade l.grade fun e => { e with pending := none }

/-- A grade's resolved rounding mode (R27). -/
def State.modeOf (s : State) (c : RoundCode) : RoundMode :=
  match c with
  | .mode m => m
  | .site => s.pru.siteMode

/-- A panel of the grade is UPDATING on either side (R87). -/
def State.updating (s : State) (g : Fin 8) : Bool :=
  bothSides.any fun side => ((s.grade g).panels.get side).state == .updating

/-- A panel of the grade is FAULT on either side (R87). -/
def State.faulted (s : State) (g : Fin 8) : Bool :=
  bothSides.any fun side => ((s.grade g).panels.get side).state == .fault

/-! ## The end of LOAD PRICE (R87) -/

/-- The result bytes of LOAD PRICE: the panel states of sides A and B (10, Card kinds; R87). -/
def Grade.loadResults (g : Grade) : List (Nat × Byte) :=
  [(8, BitVec.ofNat 8 g.panels.a.state.code), (9, BitVec.ofNat 8 g.panels.b.state.code)]

/-- LOAD PRICE finishes at the first moment at which its price is applied, its store step complete and no panel of the grade UPDATING,
with the panels as they then stand (R87); after a supply warning the card is left to the power-on (R89). It is examined at the
completion of the step (`State.answer`), at the report that ends an attempt (`State.attemptEnds`), at each report and at the setting of
the panels at the end of a segment test (`State.reporting`, `State.segmentEnds`), before the event can change a panel again, and at the
end of every event. -/
def State.finishLoad (s : State) : State :=
  match s.pru.loading with
  | none => s
  | some l =>
    if l.applied && l.stored && !s.updating l.grade && !s.powerDown then
      (s.modPru fun u => { u with loading := none }).endWaiting .loadPrice (s.grade l.grade).loadResults
        (if s.faulted l.grade then .blocked else .ok)
    else s

/-! ## The end of a segment test (R110, R111) -/

/-- An operation on a side's grade fields, with the reports that it gives rise to: the panels of the fields whose state it changes are set
again, and LOAD PRICE looks at them as they then stand (R79, R87, R103). -/
def State.reporting (s : State) (side : Side) (f : State → State) : State :=
  ((f s).reportFields side (s.board side).fields).finishLoad

/-- The restoring update of a grade field (R111). -/
def State.restoreGrade (s : State) (side : Side) (h : HoseNo) : State := s.reporting side fun s => s.updateGrade side h

/-- A posting held back for a grade field is sent (R110). -/
def State.sendHeld (s : State) (side : Side) (h : HoseNo) : State :=
  if ((s.board side).field (.grade h)).heldPost then
    s.reporting side fun s =>
      (s.modBoard side fun b => b.modField (.grade h) fun r => { r with heldPost := false }).postGrade side h
  else s

/-- The Pricing Unit's contents after a segment test: the restoring updates of all four fields, then the postings held back (R110, R111).
Each field's report sets its panels before the next field's content is sent. The Position Controller's contents follow with
State.sendContents. -/
def State.restoreGrades (s : State) (side : Side) : State :=
  (List.finRange 4).foldl (fun s h => s.sendHeld side h) ((List.finRange 4).foldl (fun s h => s.restoreGrade side h) s)

/-! ## Membership and the lock -/

/-- A field after a change of its hose's entry (R90): one that joins a panel is posted, one that leaves a panel and joins none is
updated. -/
def State.changeMember (s : State) (side : Side) (h : HoseNo) (old : HoseRoute) : State :=
  let new := s.route side h
  if new.fitted then (if old.fitted && old.grade == new.grade then s else s.postGrade side h)
  else s.updateGrade side h

/-- The Pricing Unit after a change of a hose's entry: its field, then the side's panels (R90). That every panel of the side is set from its
members, one whose membership stays the same too, is the model's choice (log 68). -/
def State.membershipChange (s : State) (side : Side) (h : HoseNo) (old : HoseRoute) : State :=
  (s.changeMember side h old).refreshSide side

/-- The resolved mode and the price table entry as they stand at the lock, with the position's sale limit and the route entry's
slow-down distance (R27, R53). -/
def State.lockFor (s : State) (side : Side) (auth : Authorization) (h : HoseNo) (g : Fin 8) (p : Nat) : Lock :=
  makeLock p auth.discount (s.modeOf (s.grade g).code) auth.preset (s.pos side).config.saleLimit (s.route side h).slowDown

end Sys2Proof.Machine
end

