-- ==== Sys2Proof/Machine/Position.lean ====
section
/-! DEFINITION. The Position Controller (03) with the meter claims it asks for (01, R12 to R16): states and outputs, starting a sale,
falling back, counts reaching a sale, ending, closing. -/
namespace Sys2Proof.Machine

/-! ## Nozzles, states, outputs -/

/-- A hose is in the lifted set: fitted, its nozzle input recognised lifted (R49; log 21). -/
def State.isLifted (s : State) (side : Side) (h : HoseNo) : Bool :=
  (s.route side h).fitted && (s.iwu.nozzles.get side)[h] == some true

/-- The lifted set of a position (R49). -/
def State.lifted (s : State) (side : Side) : List HoseNo := (List.finRange 4).filter (s.isLifted side)

/-- Hose number for a notice's detail. -/
def hoseDetail (h : HoseNo) : Nat := h.val + 1
/-- Meter number for a notice's detail. -/
def meterDetail (m : MeterNo) : Nat := m.val + 1

/-- The bit of a hose in an allowed set (R45). -/
def allows (allowed : BitVec 4) (h : HoseNo) : Bool := allowed.getLsbD h.val

/-- The outputs FAST, SLOW and PUMP of a state (R47); step 5 of STARTING is the motor step. -/
def PosState.outputs : PosState → Bool × Bool × Bool
  | .starting .motor => (false, false, true)
  | .fuelling => (true, true, true)
  | .slowing => (false, true, true)
  | .paused => (false, false, true)
  | _ => (false, false, false)

/-- The position takes a state, and its outputs that state's levels together (R47). -/
def Position.enter (p : Position) (st : PosState) : Position :=
  { p with st := st, fast := st.outputs.1, slow := st.outputs.2.1, pump := st.outputs.2.2 }

/-- The position is CLOSED. -/
def PosState.isClosed : PosState → Bool
  | .closed _ => true
  | _ => false
/-- The position is in STARTING. -/
def PosState.isStarting : PosState → Bool
  | .starting _ => true
  | _ => false
/-- The position is in FUELLING, SLOWING or PAUSED. -/
def PosState.isDispensing : PosState → Bool
  | .fuelling | .slowing | .paused => true
  | _ => false
/-- The position is CLOSED or IDLE. -/
def PosState.atRest : PosState → Bool
  | .closed _ | .idle => true
  | _ => false

/-- A sticky position flag is set, with its notice when it was clear (R50). -/
def State.setFlag (s : State) (side : Side) (c : PosCause) (h : HoseNo) : State :=
  let p := s.pos side
  let was := match c with
    | .wrongHose => p.wrongHose
    | .multiLift => p.multiLift
    | _ => p.liftWhileClosed
  if was then s
  else (s.modPos side fun p => match c with
    | .wrongHose => { p with wrongHose := true }
    | .multiLift => { p with multiLift := true }
    | _ => { p with liftWhileClosed := true }).raisePos side c (hoseDetail h)

/-- The three flags are cleared (R50). -/
def Position.clearFlags (p : Position) : Position :=
  { p with wrongHose := false, multiLift := false, liftWhileClosed := false }

/-- A position that is not CLOSED enters CLOSED: authorization withdrawn, authorization timer stopped, notice CLOSED (R48). -/
def State.closePos (s : State) (side : Side) (r : CloseReason) : State :=
  (s.modPos side fun p => { p.enter (.closed r) with auth := none, authTimer := none }).raisePos side .closed r.code

/-- A CLOSED position's reason changes (R48; log 19). -/
def State.setReason (s : State) (side : Side) (r : CloseReason) : State := s.modPos side fun p => p.enter (.closed r)

/-- An arrival at IDLE, CALLING or AUTHORIZED while the site is CLOSING closes the position (R48). -/
def State.closeIfClosing (s : State) (side : Side) : State :=
  if s.ssu.site = .closing then s.closePos side .night else s

/-- The position enters IDLE, its flags cleared (R50). -/
def State.enterIdle (s : State) (side : Side) : State := s.modPos side fun p => (p.enter .idle).clearFlags

/-- The authorization is withdrawn and the position enters CALLING with exactly one hose up, IDLE otherwise (R57, R61, R68, R77). -/
def State.arriveOpen (s : State) (side : Side) : State :=
  let s := s.modPos side fun p => { p with auth := none, authTimer := none }
  let s := if (s.lifted side).length = 1 then s.modPos side fun p => p.enter .calling else s.enterIdle side
  s.closeIfClosing side

/-- The authorization timer of an authorization, in ms; none for timeout 0 (R61). -/
def authTime (a : Authorization) : Option Nat := if a.timeout = 0 then none else some (a.timeout * 1000)

/-- The position enters AUTHORIZED, its timer started at the full timeout (R61). -/
def State.arriveAuthorized (s : State) (side : Side) (a : Authorization) : State :=
  (s.modPos side fun p => { p.enter .authorized with auth := some a, authTimer := authTime a }).closeIfClosing side

/-! ## Sales and the accrued flags -/

/-- Changes a position's current sale; a flag the sale gains is accrued (R40). -/
def State.modSale (s : State) (side : Side) (f : Sale → Sale) : State :=
  match (s.pos side).sale with
  | none => s
  | some sl =>
    let new := f sl
    (s.modPos side fun p => { p with sale := some new }).modPru fun u => { u with accrued := u.accrued.gain sl.flags new.flags }

/-! ## Routes and claims (R12 to R16) -/

/-- What route resolution fixes (R12). -/
structure Resolution where
  requests : List (MeterNo × Role)
  blend : Option BlendValues
  satellite : Bool
  deriving DecidableEq, Repr

/-- Route resolution of an entry under the site route enables; none when the start is refused BLOCKED (R12). -/
def HoseRoute.resolve (e : HoseRoute) (en : RouteEnables) : Option Resolution :=
  match e.kind with
  | .single => some { requests := [(e.primary, .primary)], blend := none, satellite := false }
  | .satellite => some { requests := [(e.primary, .primary)], blend := none, satellite := en.satellite }
  | .blend =>
    if e.ratio = 0 then some { requests := [(e.primary, .primary)], blend := none, satellite := false }
    else match e.secondary with
      | none => none
      | some m =>
        if e.ratio = 100 then some { requests := [(m, .secondary)], blend := none, satellite := false }
        else if en.blend then
          some { requests := [(e.primary, .primary), (m, .secondary)],
                 blend := some { ratio := e.ratio, tolerance := en.tolerance, settleVolume := en.settleVolume },
                 satellite := false }
        else none

/-- Why a meter fails a claim request, if it does (R13). -/
def Meter.refuses (m : Meter) : Option StartResult :=
  if m.owner.isSome then some .meterBusy else if m.faulted then some .blocked else none

/-- The first meter that fails a claim request, in the request's order (R13). -/
def State.firstRefusal (s : State) : List (MeterNo × Role) → Option (MeterNo × StartResult)
  | [] => none
  | (m, _) :: rest =>
    match (s.meter m).refuses with
    | some r => some (m, r)
    | none => s.firstRefusal rest

/-- A claim is granted: the meter's owner and the sale's claim entry (R14). -/
def State.grant (s : State) (side : Side) (m : MeterNo) (role : Role) : State :=
  let k := (s.meter m).config.k
  (s.modMeter m fun x => { x with owner := some (side, role), phaseErrors := 0 }).modSale side fun sl =>
    { sl with claims := sl.claims ++ [{ meter := m, role := role, n := 0, h := 0, k := k }] }

/-- The satellite claim request of a side, made when R15's conditions hold. -/
def State.requestSatellite (s : State) (side : Side) : State :=
  let p := s.pos side
  match p.sale with
  | none => s
  | some sl =>
    if sl.satelliteHonoured && !sl.claims.isEmpty && !(sl.claims.any fun c => c.role == .satellite)
        && (p.st.isStarting || p.st.isDispensing) then
      match (s.route side sl.hose).secondary with
      | none => s
      | some m =>
        if (s.meter m).refuses.isSome then
          (s.modSale side fun sl => { sl with flags := { sl.flags with satelliteBusy := true } }).raisePos side .satelliteBusy
            (meterDetail m)
        else s.grant side m .satellite
    else s

/-- The claims of a position's sale are released; `returning` adds their counts to unclaimed flow (R16). -/
def State.releaseClaims (s : State) (side : Side) (returning : Bool) : State :=
  match (s.pos side).sale with
  | none => s
  | some sl =>
    (sl.claims.foldl (fun s c => s.modMeter c.meter fun x =>
        { x with owner := none, phaseErrors := 0,
                 unclaimed := if returning then x.unclaimed + BitVec.ofInt 32 c.n else x.unclaimed }) s).modPos side
      fun p => { p with sale := p.sale.map fun sl => { sl with claims := [] } }

/-! ## Leaving STARTING (R54, R56, R57, R109) -/

/-- A sale-start check running on the side's board is withdrawn (R109). -/
def State.withdrawCheck (s : State) (side : Side) : State :=
  match (s.board side).test with
  | some (.startCheck _) => s.dropTest side
  | _ => s

/-- A start ends without flowing: the check withdrawn, the claims released with their counts returned, the motor timer stopped, the
sale discarded (R16, R56, R57). -/
def State.abandonStart (s : State) (side : Side) : State :=
  ((s.withdrawCheck side).releaseClaims side true).modPos side fun p => { p with sale := none, motorTimer := none }

/-- The fall-back to AUTHORIZED (R56): the authorization held by the sale, or by the position before the lock, stands again. While the
site is CLOSING the entry of step 4 closes the position, with CLOSED raised before step 5 raises START FAILED (R48; log 47). -/
def State.fallBack (s : State) (side : Side) (result : StartResult) (detail : Nat) : State :=
  let p := s.pos side
  let held := match p.sale with
    | some sl => sl.held
    | none => none
  let s := s.abandonStart side
  let s := match held.or p.auth with
    | some a => s.arriveAuthorized side a
    | none => s.arriveOpen side
  (s.modPos side fun p => { p with startResult := result }).raisePos side .startFailed detail

/-! ## Starting a sale (R51 to R55) -/

/-- The current sale at entry to STARTING (R46, R51). -/
def newSale (a : Authorization) (h : HoseNo) (e : HoseRoute) (now : Stamp) : Sale :=
  { tag := a.tag, origin := a.origin, hose := h, grade := e.grade, kind := e.kind, satelliteHonoured := false, claims := [],
    blend := none, held := none, lock := none, v := 0, n := 0, amount := 0, deviationStart := none, flags := .clear,
    stop := none, started := now }

/-- Entry to STARTING and step 1 (R51): the gate of step 2 is made at the end of the event. -/
def State.start (s : State) (side : Side) (h : HoseNo) (a : Authorization) : State :=
  let e := s.route side h
  let s := s.modPos side fun p =>
    { (p.enter (.starting .gate)).clearFlags with authTimer := none, auth := some a, sale := some (newSale a h e s.stamp) }
  match e.resolve s.miu.enables with
  | none => s.fallBack side .blocked 0
  | some r =>
    match s.firstRefusal r.requests with
    | some (m, result) => s.fallBack side result (meterDetail m)
    | none =>
      let s := s.modSale side fun sl => { sl with satelliteHonoured := r.satellite, blend := r.blend }
      let s := r.requests.foldl (fun s q => s.grant side q.1 q.2) s
      if s.iwu.satellites.get side = some true then s.requestSatellite side else s

/-- The lock (step 3) and the request of the start check (step 4) (R53, R108). -/
def State.lockSale (s : State) (side : Side) (price : Nat) : State :=
  let p := s.pos side
  match p.auth, p.sale with
  | some a, some sl =>
    let l := s.lockFor side a sl.hose sl.grade price
    let s := (s.modSale side fun sl => sl.locked a l).modPos side fun p =>
      { p.enter (.starting .check) with auth := none }
    s.beginStartCheck side l.e
  | _, _ => s

/-- Step 2, the price gate, made when the position waits at it (R52, R81). -/
def State.gate (s : State) (side : Side) : State :=
  let p := s.pos side
  match p.st, p.sale with
  | .starting .gate, some sl =>
    let e := s.grade sl.grade
    match e.price with
    | none => s.fallBack side .blocked 0
    | some price =>
      let panel := e.panels.get side
      if panel.state = .fault ∨ panel.blocked then s.fallBack side .blocked 0
      else if panel.state = .current then s.lockSale side price
      else s
  | _, _ => s

/-- Entry to ENDING with a stop reason (R59). -/
def State.endSale (s : State) (side : Side) (r : StopReason) : State :=
  (s.modSale side fun sl => { sl with stop := some r }).modPos side fun p =>
    { p.enter .ending with flowTimer := none, motorTimer := none, settleTimer := some p.config.settleWindow }

/-- V has reached V_t: the stop reason of the target's source (R34, R58). -/
def Sale.targetStop (sl : Sale) : Option StopReason :=
  match sl.lock with
  | some l => if l.vt ≤ sl.v then some l.source.stop else none
  | none => none

/-- V_s is present and V has reached it (R35). -/
def Sale.slowed (sl : Sale) : Bool :=
  match sl.lock with
  | some l => l.slowed sl.v
  | none => false

/-- Steps 6 and 7: the valves open, the flow timer starts, the held authorization is dropped (R46), and V is compared with V_t
(R55). -/
def State.openValves (s : State) (side : Side) : State :=
  match (s.pos side).sale with
  | none => s
  | some sl =>
    let s := (s.modSale side fun sl => { sl with held := none }).modPos side fun p =>
      { p.enter (if sl.slowed then .slowing else .fuelling) with
        motorTimer := none, flowTimer := some (p.config.firstFlow * 1000) }
    match sl.targetStop with
    | some r => s.endSale side r
    | none => s

/-- The start check is complete: PUMP and the motor settle timer; a motor settle of 0 ends at once (R55). A position that no longer
waits for the check ignores the report (R109). -/
def State.checkComplete (s : State) (side : Side) : State :=
  if (s.pos side).st ≠ .starting .check then s
  else
  let s := s.modPos side fun p => { p.enter (.starting .motor) with motorTimer := some p.config.motorSettle }
  if (s.pos side).config.motorSettle = 0 then s.openValves side else s

/-! ## Nozzles (R49, R50) -/

/-- The start trigger after a lift or hang of `h` in AUTHORIZED; a lift that fires none sets WRONG HOSE or MULTI LIFT (R50). -/
def State.trigger (s : State) (side : Side) (h : HoseNo) (lift : Bool) : State :=
  match (s.pos side).auth with
  | none => s
  | some a =>
    let fires := match s.lifted side with
      | [g] => allows a.allowed g && (if lift then g == h else g != h) && s.iwu.emergency != some true
      | _ => false
    if fires then s.start side ((s.lifted side).headD h) a
    else if lift then
      let s := if allows a.allowed h then s else s.setFlag side .wrongHose h
      if 1 < (s.lifted side).length then s.setFlag side .multiLift h else s
    else s

/-- A lift of a fitted hose acts by the position state (R49). -/
def State.lift (s : State) (side : Side) (h : HoseNo) : State :=
  match (s.pos side).st with
  | .closed _ => s.setFlag side .liftWhileClosed h
  | .idle =>
    let s := (s.modPos side fun p => p.enter .calling).raisePos side .calling (hoseDetail h)
    if 1 < (s.lifted side).length then s.setFlag side .multiLift h else s
  | .authorized => s.trigger side h true
  | .calling | .starting _ | .fuelling | .slowing | .paused | .ending => s.setFlag side .multiLift h

/-- A hang of a fitted hose acts by the position state (R49); a frozen sale stays as it is (R181). -/
def State.hang (s : State) (side : Side) (h : HoseNo) : State :=
  let p := s.pos side
  let own := match p.sale with
    | some sl => sl.hose == h
    | none => false
  match p.st with
  | .calling => if (s.lifted side).isEmpty then s.enterIdle side else s
  | .authorized => s.trigger side h false
  | .starting _ => if own then s.fallBack side .hung 0 else s
  | .fuelling | .slowing | .paused => if own && !s.powerDown then s.endSale side .hung else s
  | .closed _ | .idle | .ending => s

/-! ## Counts, meter faults, emergency stop, side fault -/

/-- One of the stop reasons that one count meets; of several, a free choice (log 10). -/
def State.pickStop (s : State) : List StopReason → State × Option StopReason
  | [] => (s, none)
  | [r] => (s, some r)
  | r :: rs => (s.tickFree, (r :: rs)[Config.stopChoice s.free % (rs.length + 1)]?)

/-- The present sale exceeds the reverse allowance of the meter (R26). -/
def State.reversed (s : State) (side : Side) (m : MeterNo) : Bool :=
  match (s.pos side).sale with
  | some sl => sl.excursion m (s.meter m).config.reverseAllowance
  | none => false

/-- The blend check of a dispensing sale: the deviation start and the BLEND flag are recorded; the answer says whether it ends the
sale (R37). -/
def State.checkBlend (s : State) (side : Side) : State × Bool :=
  match (s.pos side).sale with
  | some sl => (s.modSale side fun x => x.blendCheck.1, sl.blendCheck.2)
  | none => (s, false)

/-- What follows a count that a dispensing position's sale has taken: flow timer, reverse excursion, blend check, targets (R26, R37,
R58, R60). -/
def State.dispensed (s : State) (side : Side) (m : MeterNo) (forward : Bool) : State :=
  let st := (s.pos side).st
  let flowing := st == .fuelling || st == .slowing
  let s := if forward && flowing then s.modPos side fun p => { p with flowTimer := some (p.config.noFlow * 1000) } else s
  let reverse := s.reversed side m
  let b := s.checkBlend side
  let target := match (b.1.pos side).sale with
    | some sl => if flowing then sl.targetStop else none
    | none => none
  let stops := (if reverse then [StopReason.reverse] else []) ++ (if b.2 then [StopReason.blend] else []) ++ target.toList
  let c := b.1.pickStop stops
  match c.2 with
  | some r => c.1.endSale side r
  | none =>
    match (c.1.pos side).sale with
    | some sl => if st == .fuelling && sl.slowed then c.1.modPos side fun p => p.enter .slowing else c.1
    | none => c.1

/-- A count of a claimed meter reaches the sale of the claiming position (R7); a frozen sale only follows (R181). -/
def State.deliver (s : State) (side : Side) (m : MeterNo) (forward : Bool) : State :=
  let s := s.modSale side fun sl => sl.count m (if forward then 1 else -1)
  if s.powerDown then s
  else
    let st := (s.pos side).st
    if st.isStarting then (if s.reversed side m then s.fallBack side .reverse (meterDetail m) else s)
    else if st.isDispensing then s.dispensed side m forward
    else s

/-- The MIU's report of a faulted meter to the claiming position (R6, R62). -/
def State.meterFaultReport (s : State) (side : Side) (m : MeterNo) : State :=
  let st := (s.pos side).st
  if s.powerDown then s
  else if st.isStarting then s.fallBack side .meterFault (meterDetail m)
  else if st.isDispensing then s.endSale side .meter
  else s

/-- The assertion of the emergency stop at a position (R62); a frozen sale stays as it is (R181). -/
def State.emergencyAt (s : State) (side : Side) : State :=
  let st := (s.pos side).st
  if st.isStarting then s.fallBack side .emergency 0
  else if st.isDispensing && !s.powerDown then s.endSale side .emergency
  else s

/-- The failed start check (R54); the DISPLAY FAULT of its side fault follows CLOSED (log 47). -/
def State.startCheckFailed (s : State) (side : Side) : State :=
  ((s.abandonStart side).closePos side .display).modPos side fun p => { p with startResult := .display }

/-- The side fault is set and reported: the position acts by its state (R63), with a notice DISPLAY FAULT (log 34), which follows the
CLOSED of a position that so closes (log 47). -/
def State.sideFault (s : State) (side : Side) : State :=
  let s := s.modBoard side fun b => { b with sideFault := true }
  let s := match (s.pos side).st with
    | .fuelling | .slowing | .paused => s.endSale side .display
    | .ending => s
    | .starting _ => s.startCheckFailed side
    | .idle | .calling | .authorized => s.closePos side .display
    | .closed .host => s.setReason side .display
    | .closed _ => s
  s.raisePos side .displayFault 0

/-! ## Ending (R64 to R66) -/

/-- The entry that joins the unpaid list (R46). -/
def Sale.ended (sl : Sale) (stop : StopReason) (overrun recovered : Bool) (now : Stamp) : EndedSale :=
  let l := sl.lock
  { tag := sl.tag, origin := sl.origin, hose := sl.hose, grade := sl.grade, kind := sl.kind,
    p := (l.map Lock.p).getD 0, d := (l.map Lock.d).getD 0, e := (l.map Lock.e).getD 0,
    mode := (l.map Lock.mode).getD .halfEven, v := sl.v, amount := sl.amount,
    flags := { sl.flags with overrun := sl.flags.overrun || overrun }, stop := stop,
    started := sl.started, ended := now, recovered := recovered }

/-- An ended sale as the last shown sale (R66). -/
def EndedSale.shown (e : EndedSale) : Shown := { v := e.v, amount := e.amount, e := e.e }

/-- A hose's totals after an ended sale (R186). -/
def Total.add (t : Total) (e : EndedSale) : Total :=
  { volume := (t.volume + e.v) % 10 ^ 15, amount := (t.amount + e.amount) % 10 ^ 13, sales := (t.sales + 1) % 10 ^ 8 }

/-- The RSC adds an ended sale to the live totals of its hose (R178, R186). -/
def State.addTotals (s : State) (side : Side) (e : EndedSale) : State :=
  s.modRsc fun r => { r with totals := r.totals.set side ((r.totals.get side).set e.hose ((r.totals.get side)[e.hose].add e)) }

/-- The current sale ends: claims released with their counts staying, the entry joins the unpaid list and becomes the last shown
sale, the totals grow (R64, R182). -/
def State.finishSale (s : State) (side : Side) (e : EndedSale) : State :=
  ((s.releaseClaims side false).modPos side fun p =>
    { p with sale := none, unpaid := p.unpaid ++ [e], lastShown := e.shown }).addTotals side e

/-- The completion of ENDING at the expiry of the settle window (R64). -/
def State.completeEnding (s : State) (side : Side) : State :=
  match (s.pos side).sale with
  | none => s
  | some sl =>
    let e := sl.ended (sl.stop.getD .host) sl.overruns false s.stamp
    let s := (s.finishSale side e).modPos side fun p => { p with settleTimer := none }
    let s := if (s.board side).sideFault then s.closePos side .display
      else if s.ssu.site = .closing then s.closePos side .night
      else s.enterIdle side
    (s.requestStep [.totals, .meters, unpaidRecord side] []).raisePos side .saleEnded (e.tag.setWidth 16).toNat

/-- The freeze step's event at a position: a frozen sale ends with POWER and RECOVERED (R182). The answer says whether there was
one. -/
def State.freezePosition (s : State) (side : Side) : State × Bool :=
  match (s.pos side).sale with
  | none => (s, false)
  | some sl =>
    let e := sl.ended .power false true s.stamp
    ((s.finishSale side e).closePos side .power, true)

/-! ## Requests of other blocks -/

/-- The quarantine request at a position (R57, R77). In a CLOSING site the arrival closes the position, with CLOSED raised before
QUARANTINE (R48; log 47). -/
def State.quarantineAt (s : State) (side : Side) : State :=
  let p := s.pos side
  if p.st.isStarting && (p.sale.any fun (sl : Sale) => sl.origin == .reader) then
    ((s.abandonStart side).arriveOpen side).raisePos side .quarantine 0
  else if p.st == .authorized && (p.auth.any fun (a : Authorization) => a.origin == .reader) then
    (s.arriveOpen side).raisePos side .quarantine 0
  else s

/-- The supply warning at a position (R180): timers stop, outputs drop; a position without a sale to freeze enters CLOSED(POWER);
a frozen sale keeps its state. -/
def State.powerDownAt (s : State) (side : Side) : State :=
  let st := (s.pos side).st
  let s := if st.isStarting then s.abandonStart side else s
  let s := if st.isClosed then s.setReason side .power
    else if st.isDispensing || st == .ending then s
    else s.closePos side .power
  s.modPos side fun p =>
    { p with fast := false, slow := false, pump := false, flowTimer := none, settleTimer := none, motorTimer := none,
             authTimer := none }

/-- The site enters CLOSING (R48, R160). -/
def State.closingAt (s : State) (side : Side) : State :=
  match (s.pos side).st with
  | .idle | .calling | .authorized => s.closePos side .night
  | .closed .wake => s.setReason side .night
  | _ => s

/-- A CLOSED position of the given reason is let go: to IDLE, or to CLOSED(DISPLAY) with the side fault set (R48). The answer says
whether it entered IDLE. -/
def State.release (s : State) (side : Side) (r : CloseReason) : State × Bool :=
  if (s.pos side).st = .closed r then
    if (s.board side).sideFault then (s.setReason side .display, false) else (s.enterIdle side, true)
  else (s, false)

/-- The site enters WAKING (R48, R163). -/
def State.wakingAt (s : State) (side : Side) : State :=
  match (s.pos side).st with
  | .closed .night | .closed .power => s.setReason side .wake
  | _ => s

end Sys2Proof.Machine
end

