-- ==== Sys2Proof/Machine/Reader.lean ====
section
/-! DEFINITION. The Reader Isolation Unit (07): closing the link, powering, resume, quarantine, night and supply loss; frames and answer bytes. -/
namespace Sys2Proof.Machine

/-! ## Frames and answer bytes (R133) -/

/-- The check of a frame: over kind, length and payload (R133). -/
def frameCheck (kind : Byte) (payload : List Byte) : Half := crc16 (kind :: BitVec.ofNat 8 payload.length :: payload)

/-- The bytes of a frame (R133). -/
def frameBytes (kind : Byte) (payload : List Byte) : List Byte :=
  let c := frameCheck kind payload
  0x5A :: kind :: BitVec.ofNat 8 payload.length :: payload ++ [c.setWidth 8, (c >>> 8).setWidth 8]

/-- A frame kind the reader link knows: 01h DATA, 02h STATUS (R133). -/
def knownFrameKind (kind : Byte) : Bool := kind == 1 || kind == 2

/-- The answer byte on the link (R133). -/
def AnswerByte.byte : AnswerByte → Byte
  | .accept => 0xA1
  | .hold => 0xA2
  | .reject => 0xA3

/-- The answer that a byte outside a frame is (R133, R134); `none` for a start byte and for a byte that is discarded. -/
def AnswerByte.ofByte (b : Byte) : Option AnswerByte :=
  if b = 0xA1 then some .accept else if b = 0xA2 then some .hold else if b = 0xA3 then some .reject else none

/-- The bytes owed to the reader, the next to be sent first (R133, R135). -/
def Riu.owedBytes (r : Riu) : List Byte := r.answers.map AnswerByte.byte

/-! ## Outputs and the tamper condition -/

/-- The reader supply is on (R128, R129). -/
def Domain.supply : Domain → Bool
  | .powering | .gated | .opened => true
  | _ => false
/-- The link gate is open (R128, R129). -/
def Domain.gate : Domain → Bool
  | .opened => true
  | _ => false

/-- The tamper loops are normal (R121). -/
def State.loopsNormal (s : State) : Bool := s.iwu.enclosure == some true && s.iwu.cable == some true

/-! ## Ends of Sends and armed receives -/

/-- The result bytes of a Send: attempts used, HOLD resends made, last answer (10, Card kinds; R142, R143). -/
def Send.results (x : Send) : List (Nat × Byte) :=
  [(4, BitVec.ofNat 8 x.attempts), (5, BitVec.ofNat 8 x.holds), (6, BitVec.ofNat 8 (answerCode x.last))]

/-- The Send in flight leaves the RIU and its card finishes with the outcome, its lane moving on with the finish (R142, R143, R200). -/
def State.finishSend (s : State) (x : Send) (o : CardOutcome) : State :=
  (s.modRiu fun r => { r with send := none }).endWaiting .send x.results o

/-- A Send in flight finishes CUT, and its lane moves on, before any armed receive finishes WITHDRAWN in the same event: the notices that
the lane so raises come first (log 47). -/
def State.cutSend (s : State) : State :=
  match s.riu.send with
  | some x => s.finishSend x .cut
  | none => s

/-- Every armed receive finishes WITHDRAWN, oldest first, its result word unwritten (log 61), and the list is emptied (R136). -/
def State.withdrawArmed (s : State) : State :=
  let armed := s.riu.armed
  armed.foldl (fun s e => s.finishArmed e [] .withdrawn) (s.modRiu fun r => { r with armed := [] })

/-- The gate closes: a frame being received is discarded, a frame being sent is cut, the answers go unsent (R129, R146). -/
def State.shutGate (s : State) : State := s.modRiu fun r => { r with answers := [], receiver := .outside, orphan := false }

/-- The domain takes a state; the settle timer runs in POWERING alone (R130). -/
def State.setDomain (s : State) (d : Domain) : State :=
  s.modRiu fun r => { r with domain := d, settleTimer := if d = .powering then some Config.readerSettle else none }

/-- The link is closed, and the domain is GATED (R146); the cut Send's lane moves on before the armed receives finish (log 47). -/
def State.closeReaderLink (s : State) : State := ((s.setDomain .gated).shutGate.cutSend).withdrawArmed

/-- The domain enters OPEN as OPEN LINK opens it (R145). -/
def State.openReaderLink (s : State) : State :=
  (s.setDomain .opened).modRiu fun r => { r with badRun := 0, receiver := .outside, answers := [] }

/-- The path of READER OFF from the present state (R147, R150). -/
def State.readerToOff (s : State) : State :=
  match s.riu.domain with
  | .opened => s.closeReaderLink.setDomain .off
  | .gated => s.withdrawArmed.setDomain .off
  | .powering => s.setDomain .off
  | .off | .quarantine => s

/-- The reader is taken down for the night: the OPEN note becomes the live READER value, and the READER step is requested (R150). -/
def State.readerDown (s : State) : State :=
  let note := s.riu.domain == .opened
  ((s.readerToOff.endWaiting .readerOn [] .closed).modRsc fun r => { r with reader := note }).requestStep [.reader] [.nightReader]

/-- The supply warning at the RIU (R151): no card is written. In NIGHT no note is handed over. -/
def State.riuPowerDown (s : State) : State :=
  let note := if s.ssu.site = .night then s.rsc.reader else s.riu.domain == .opened
  let s := (s.setDomain (if s.riu.domain = .quarantine then .quarantine else .off)).shutGate
  (s.modRiu fun r => { r with armed := [], send := none, badRun := 0, resuming := false }).modRsc fun r => { r with reader := note }

/-- Entry to QUARANTINE at the RIU, steps 1 to 4 (R148), the lane of a card that step 2 finishes moving on before step 3 (log 47); step 5
is the positions'. -/
def State.enterQuarantine (s : State) : State :=
  (((((s.setDomain .quarantine).shutGate).cutSend).endWaiting .readerOn [] .blocked).withdrawArmed).modRiu
    fun r => { r with badRun := 0 }

/-- The undo of a waiting READER ON: a powering reader returns to OFF (R144). -/
def State.undoReaderOn (s : State) : State := if s.riu.domain = .powering then s.setDomain .off else s

/-- The undo of a waiting SEND: no further attempt is made, a frame being sent is completed (R143), that of a Send aborted in the event of
its acceptance too (log 62). -/
def State.undoSend (s : State) : State :=
  match s.riu.send with
  | none => s
  | some x => s.modRiu fun r => { r with send := none, orphan := r.orphan || x.phase == .sending }

/-- The RIU's action at stage 5 (R152): the outcome code it reports at once, if it does. -/
def State.beginResume (s : State) : State × Option Nat :=
  if !s.rsc.reader then (s, some 0)
  else if s.riu.domain = .quarantine || !s.loopsNormal then (s, some 2)
  else match s.riu.domain with
    | .off => ((s.setDomain .powering).modRiu fun r => { r with resuming := true }, none)
    | .powering => (s.modRiu fun r => { r with resuming := true }, none)
    | .gated => (s.openReaderLink, some 1)
    | _ => (s, some 1)

end Sys2Proof.Machine
end

