-- ==== Sys2Proof/Machine/Site.lean ====
section
/-! DEFINITION. The Site Schedule Unit (08): closing, night, the wake stages; the store check's effect on the live values (R184). -/
namespace Sys2Proof.Machine

/-! ## Small operations -/

/-- The site takes a state; the boards' pace follows (R101, R102). -/
def State.setSite (s : State) (st : SiteState) : State :=
  ((s.modSsu fun u => { u with site := st }).setPace .a).setPace .b

/-- Writes the last wake result into the identity block (R169, R193). -/
def State.writeWakeResult (s : State) (n : Nat) : State := s.writeHalf 0x0C (BitVec.ofNat 16 n)

/-- The result byte of WAKE NOW (R174). -/
def wakeResult (n : Nat) : List (Nat × Byte) := [(0, BitVec.ofNat 8 n)]

/-- The requester belongs to the night entry. -/
def Requester.isNight : Requester → Bool
  | .nightReader | .nightMeters => true
  | _ => false

/-- A second of the day is inside the closed hours of a schedule (R158). -/
def Schedule.closedAt (x : Schedule) (t : Nat) : Bool :=
  if x.closing < x.opening then decide (x.closing ≤ t) && decide (t < x.opening) else decide (x.closing ≤ t) || decide (t < x.opening)

/-! ## Closing and night (R160 to R162) -/

/-- Both positions CLOSED in phase POSITIONS: the reader is taken down for the night (R161). -/
def State.examinePositions (s : State) : State :=
  if s.ssu.site = .closing ∧ s.ssu.closingPhase = some .positions ∧ (s.pos .a).st.isClosed ∧ (s.pos .b).st.isClosed then
    (s.modSsu fun u => { u with closingPhase := some .readerDown }).readerDown
  else s

/-- The site enters CLOSING, its four steps in their order, the last of which examines the positions (R160, R161). -/
def State.enterClosing (s : State) (origin : ClosingOrigin) : State :=
  let s := (s.setSite .closing).modSsu fun u => { u with closingOrigin := some origin, closingPhase := some .positions }
  (((s.closingAt .a).closingAt .b).raise .closing origin.code).examinePositions

/-- The READER step of the night entry is complete: in phase READER DOWN of a closing the METERS step follows (R161). -/
def State.nightReaderDone (s : State) : State :=
  if s.ssu.site = .closing ∧ s.ssu.closingPhase = some .readerDown then
    (s.modSsu fun u => { u with closingPhase := some .meters }).requestStep [.meters] [.nightMeters]
  else s

/-- The METERS step of the night entry is complete: in phase METERS of a closing the site enters NIGHT (R161). A reader powered again since
phase READER DOWN is taken down (R145, R150; log 42). -/
def State.enterNight (s : State) : State :=
  if s.ssu.site = .closing ∧ s.ssu.closingPhase = some .meters then
    let s := s.readerToOff.endWaiting .readerOn [] .closed
    (((s.setSite .night).modSsu fun u => { u with closingPhase := none }).endWaiting .nightNow [] .ok).raise .night 0
  else s

/-- The closing is withdrawn (R162); `detail` is the notice's. -/
def State.withdrawClosing (s : State) (detail : Nat) : State :=
  let s := ((s.setSite .opened).modSsu fun u => { u with closingOrigin := none, closingPhase := none }).dismiss Requester.isNight
  let s := (((s.release .a .night).1).release .b .night).1
  (s.endWaiting .nightNow [] .withdrawn).raise .closingWithdrawn detail

/-- The undo of a waiting NIGHT NOW: the closing is withdrawn while its origin is CARD (R173). -/
def State.undoNight (s : State) : State :=
  if s.ssu.site = .closing ∧ s.ssu.closingOrigin = some .card then s.withdrawClosing 2 else s

/-! ## The wake (R163 to R169) -/

/-- A stage ends with an outcome code (R163). -/
def State.endStage (s : State) (stage : Fin 6) (code : Nat) : State :=
  (s.modSsu fun u => { u with stageTimer := none, wake := { u.wake with outcomes := u.wake.outcomes.set stage (some code) } }).raise
    .stage ((stage.val + 1) * 256 + code)

/-- A stage begins with its timeout in ms (R163). -/
def State.beginStage (s : State) (stage : Nat) (timeout : Option Nat) : State :=
  s.modSsu fun u => { u with stageTimer := timeout, wake := { u.wake with stage := stage } }

/-- The wake ends in FAULTED (R164, R165), raised after the STAGE of the stage that ended (log 47). -/
def State.endFaulted (s : State) (reason : FaultedReason) (result : Nat) : State :=
  (((s.setSite (.faulted reason)).raise .faulted reason.code).writeWakeResult result).endWaiting .wakeNow (wakeResult result) .blocked

/-- The closing is due at stage 6 (R169). -/
def Ssu.closingDue (u : Ssu) : Bool :=
  u.heldOver || (u.wake.origin == .coldStart && !u.clock.lost && match u.schedule with
    | some x => x.closedAt u.clock.second
    | none => false)

/-- Stage 2 ended with code 1 or 2 (R169). -/
def Ssu.degraded (u : Ssu) : Bool := u.wake.outcomes[1] == some 1 || u.wake.outcomes[1] == some 2

/-- Stage 6, POSITIONS READY: begins and ends the wake in one event (R169). Its STAGE is raised before SITE OPEN or CLOSING (log 47). -/
def State.positionsReady (s : State) : State :=
  let s := s.beginStage 6 none
  if s.ssu.closingDue then
    (((s.endStage 5 0).enterClosing .schedule).writeWakeResult 3).endWaiting .wakeNow (wakeResult 3) .ok
  else
    let result := if s.ssu.degraded then 2 else 1
    let ra := (s.setSite .opened).release .a .wake
    let rb := ra.1.release .b .wake
    let s := rb.1.endStage 5 ((if ra.2 then 1 else 0) + if rb.2 then 1 else 0)
    ((s.raise .siteOpen result).writeWakeResult result).endWaiting .wakeNow (wakeResult result) .ok

/-- Stage 5 ends with a code and stage 6 follows (R168). -/
def State.resumeEnds (s : State) (code : Nat) : State :=
  ((s.modRiu fun r => { r with resuming := false }).endStage 4 code).positionsReady

/-- A READER RESUME in progress ends with a report (R152, R168). -/
def State.reportResume (s : State) (code : Nat) : State := if s.riu.resuming then s.resumeEnds code else s

/-- Stage 4 ends and stage 5, READER RESUME, begins (R167, R168). -/
def State.beginReaderResume (s : State) : State :=
  let r := (s.beginStage 5 (some 5000)).beginResume
  match r.2 with
  | some code => r.1.resumeEnds code
  | none => r.1

/-- Stage 4, METER SETTLE, begins: its timer is the window (R167). -/
def State.beginMeterSettle (s : State) : State := s.beginStage 4 (some 2000)

/-- Some panel of any grade is UPDATING (R166). -/
def State.anyUpdating (s : State) : Bool := (List.finRange 8).any s.updating
/-- Some panel of any grade is FAULT (R166). -/
def State.anyFault (s : State) : Bool := (List.finRange 8).any s.faulted

/-- Stage 3 ends at the first moment at which no panel is UPDATING (R166). -/
def State.examinePanels (s : State) : State :=
  if s.ssu.site = .waking ∧ s.ssu.wake.stage = 3 ∧ s.anyUpdating = false then
    (s.endStage 2 (if s.anyFault then 1 else 0)).beginMeterSettle
  else s

/-- Stage 3, PRICE PANELS: every grade field of both boards is posted, and the panels are UPDATING from this posting (R166). -/
def State.beginPricePanels (s : State) : State :=
  let s := s.beginStage 3 (some 20000)
  let s := bothSides.foldl (fun s side => (List.finRange 4).foldl (fun s h => s.postGrade side h) s) s
  (List.finRange 8).foldl (fun s g =>
    bothSides.foldl (fun s side => s.modPanel g side fun p => p.post (s.board side).segment) s) s

/-- Stage 2 ends when both boards have a result: stage 3, or FAULTED(DISPLAY), whose cause follows STAGE (R165; log 47). -/
def State.examineResults (s : State) : State :=
  match s.ssu.results.a, s.ssu.results.b with
  | some pa, some pb =>
    let code := (if pa then 0 else 1) + if pb then 0 else 2
    let s := (s.endStage 1 code).modSsu fun u => { u with results := { a := none, b := none } }
    if code = 3 then s.endFaulted .display 5 else s.beginPricePanels
  | _, _ => s

/-- The SSU takes a board's result in stage 2; a failed board closes its side (R48, R165). -/
def State.displayResult (s : State) (side : Side) (passed : Bool) : State :=
  if s.ssu.site = .waking ∧ s.ssu.wake.stage = 2 then
    let s := s.modSsu fun u => { u with results := u.results.set side (some passed) }
    (if passed || !(s.pos side).st.isClosed then s else s.setReason side .display).examineResults
  else s

/-- The Position Controller takes the result of a test that OPEN POSITION asked for, its position CLOSED (R74). -/
def State.openResult (s : State) (side : Side) (passed : Bool) : State :=
  if !(s.pos side).st.isClosed then s
  else if passed then
    let s := match s.ssu.site with
      | .opened => s.enterIdle side
      | .closing | .night => s.setReason side .night
      | _ => s.setReason side .wake
    s.raisePos side .opened 0
  else (s.setReason side .display).raisePos side .displayFault 0

/-- The postings of R80 that a side's segment test has held back are sent (R110). -/
def State.releasePosts (s : State) (side : Side) : State :=
  (List.finRange 8).foldl (fun s g => s.modPanel g side Panel.release) s

/-- A segment test ends: the owners' contents follow, those of the position still CLOSED before the requesters act (log 41). Each report
of a grade field sets its panels (R79, R103); that the side's panels are set again from their members for the test's end itself last,
after the restoring updates and the postings held back, is the model's choice (log 64). -/
def State.segmentEnds (s : State) (side : Side) (passed : Bool) : State :=
  match (s.board side).test with
  | some (.segment _ openPosition stage) =>
    let s := (s.modBoard side fun b => { b with test := none, sideFault := if passed then false else b.sideFault }).sendContents side
    let s := if openPosition then s.openResult side passed else s
    let s := (((s.restoreGrades side).releasePosts side).refreshSide side).finishLoad
    if stage then s.displayResult side passed else s
  | _ => s

/-- Stage 2, DISPLAY TEST, begins (R165). -/
def State.beginDisplayTest (s : State) : State :=
  let s := (s.beginStage 2 (some 30000)).modSsu fun u => { u with results := { a := none, b := none } }
  ((s.requestSegment .a false true).requestSegment .b false true).refreshPanels

/-- A board without a result at the timeout has failed, its test withdrawn (R165). -/
def State.displayTimeoutAt (s : State) (side : Side) : State := (s.sideFault side).segmentEnds side false

/-- Stage 2's timer expires: each board without a result counts as failed (R165). -/
def State.displayTimeout (s : State) : State :=
  let late := bothSides.filter fun side => (s.ssu.results.get side).isNone
  late.foldl (fun s side => s.displayTimeoutAt side) s

/-- Stage 1, STORE CHECK, begins: the check is requested of the RSC (R164, R184). -/
def State.beginStoreCheck (s : State) : State := (s.beginStage 1 (some 5000)).modRsc fun r => { r with check := .requested }

/-- The site enters WAKING (R163). -/
def State.enterWaking (s : State) (origin : WakeOrigin) : State :=
  let s := (s.setSite .waking).modSsu fun u =>
    { u with heldOver := false, closingOrigin := none, closingPhase := none,
             wake := { origin := origin, stage := 1, outcomes := Vector.replicate 6 none } }
  ((((s.wakingAt .a).wakingAt .b).raise .waking origin.code).writeWhole .ssu).beginStoreCheck

/-! ## The store check (R184) -/

/-- The relay floor as a store check sets it: with a different floor and receives armed, these finish WITHDRAWN first (R131). -/
def State.checkFloor (s : State) (floor : Nat) : State :=
  (if s.riu.floor = floor then s else s.withdrawArmed).modRiu fun r => { r with floor := floor }

/-- Every grade field takes the content of the hose's entry, joining fields by a posting, others by an update; once all fields have
theirs, the panels are set again (R90, R107), all of both sides, which is the model's choice (log 68). -/
def State.allMembership (s : State) (old : Sides (Vector HoseRoute 4)) : State :=
  (bothSides.foldl (fun s side =>
    (List.finRange 4).foldl (fun s h => (s.changeMember side h (old.get side)[h]).updateGrade side h) s) s).refreshPanels

/-- Each block takes its CONFIG part (R184). -/
def State.takeConfig (s : State) (c : ConfigRecord) : State :=
  let s := s.modMiu fun u => { u with
    routes := c.routes, enables := c.enables, meters := Vector.ofFn fun i => { u.meters[i] with config := c.meters[i] } }
  let s := (s.modPos .a fun p => { p with config := c.positions.a }).modPos .b fun p => { p with config := c.positions.b }
  let s := s.modPru fun u => { u with siteMode := c.siteMode, totalsForm := c.totalsForm }
  let s := (s.modDlc fun u => { u with policy := c.policy }).modIwu fun u => { u with watch := c.watch }
  let s := s.modSsu fun u => { u with schedule := c.schedule }
  s.checkFloor c.floor

/-- The Pricing Unit takes the PRICES record (R78). -/
def State.takePrices (s : State) (p : Vector (Option Nat × RoundCode) 8) : State :=
  s.modPru fun u => { u with grades := Vector.ofFn fun i => { u.grades[i] with price := p[i].1, code := p[i].2 } }

/-- The MIU takes the METERS record (R2). -/
def State.takeMeters (s : State) (m : Vector MeterCounts 8) : State :=
  s.modMiu fun u => { u with
    meters := Vector.ofFn fun i => { u.meters[i] with lifetime := m[i].lifetime, unclaimed := m[i].unclaimed } }

/-- A position takes its unpaid list, and the last shown sale from its newest entry (R65, R66). -/
def State.takeUnpaid (s : State) (side : Side) (l : List EndedSale) : State :=
  s.modPos side fun p => { p with
    unpaid := l,
    lastShown := match l.getLast? with
      | some e => e.shown
      | none => { v := 0, amount := 0, e := 0 } }

/-- The mirrors that the end of a store check writes whole (R22, R76, R92, R189). -/
def State.writeCheckMirrors (s : State) : State :=
  [MirrorPart.positionA, .positionB, .price, .totals, .meterState, .meterCounts].foldl (fun s p => s.writeWhole p) s

/-- Replaces the live values by the record contents; `keep` names the records not restored (R184). -/
def State.takeContents (s : State) (c : Contents) (keep : List RecordId) : State :=
  let old := s.miu.routes
  let s := if keep.contains .config then s else s.takeConfig c.config
  let s := if keep.contains .prices then s else s.takePrices c.prices
  let s := if keep.contains .totals then s else s.modRsc fun r => { r with totals := c.totals }
  let s := if keep.contains .meters then s else s.takeMeters c.meters
  let s := if keep.contains .unpaidA then s else s.takeUnpaid .a c.unpaid.a
  let s := if keep.contains .unpaidB then s else s.takeUnpaid .b c.unpaid.b
  let s := if keep.contains .reader then s else s.modRsc fun r => { r with reader := c.reader }
  ((s.modMiu fun u => { u with counting := true }).allMembership old).writeCheckMirrors

/-- RESTORED reaches stage 1 (R164). -/
def State.reportRestored (s : State) : State :=
  let s := s.modRsc fun r => { r with lastCheck := .restored, check := .none }
  if s.ssu.site = .waking ∧ s.ssu.wake.stage = 1 then (s.endStage 0 1).beginDisplayTest else s

/-- The restoring event of a check that every record has passed (R184). The RIU writes its mirror part whole and the SSU writes the
schedule (R154, R175). -/
def State.checkPassed (s : State) : State :=
  let st := s.rsc.store
  let cold := s.ssu.wake.origin == .coldStart
  let keep := s.rsc.queue.flatMap StoreStep.records ++ (if cold then [] else [RecordId.meters])
  let s := ((s.takeContents st.contents keep).writeWhole .riu).touch .ssu 1
  let s := s.modRsc fun r => { r with
    generation := some (st.seal .header).generation,
    restart := if cold then (st.contents.restart + 1) % 65536 else st.contents.restart }
  if cold then (s.modRsc fun r => { r with check := .headerStep }).requestStep [.header] [.header]
  else s.reportRestored

/-- The values in force after a failed check: the power-on values of every block's retained state (R184). -/
def State.checkFails (s : State) (record : Nat) : State :=
  ((s.takeContents (Contents.default 0) []).modRsc fun r =>
    { r with generation := none, restart := 0, lastCheck := .failed record, check := .none }).raise .storeFailed record

/-- Stage 1 ends in FAULTED(STORE) with outcome 2 or 3 (R164). -/
def State.stageOneFails (s : State) (code : Nat) : State := (s.endStage 0 code).endFaulted .store 4

/-- Stage 1's timer expires: the check stops and counts as failed (R184). -/
def State.storeCheckTimeout (s : State) : State :=
  let running := s.rsc.check == .running
  let record := if running then (Config.recordUnderExamination s.free).val else 0
  let s := if running then s.tickFree else s
  let s := (s.modRsc fun r => { r with queue := r.queue.filter fun st => !(st.requesters.contains .header) }).dismiss (· == .header)
  (s.checkFails record).stageOneFails 3

/-- The store check ends (R184). -/
def State.storeCheckEnds (s : State) : State :=
  match s.rsc.firstUnsound with
  | none => s.checkPassed
  | some i => (s.checkFails i.val).stageOneFails 2

end Sys2Proof.Machine
end

