-- ==== Sys2Proof/Machine/Link.lean ====
section
/-! DEFINITION. The end of an attempt on a display link and what follows from it: field states, faults, test phases (R97, R103, R104,
R108, R110, R111). -/
namespace Sys2Proof.Machine

/-- A field after a verified attempt (R97). -/
def FieldRec.verified (r : FieldRec) (sent : Content) (limit : Nat) : FieldRec :=
  { r with shown := some sent, retries := limit, repost := false,
           st := if !r.repost && r.wanted == sent then .current else .pending }

/-- A field after a failed attempt (R97). -/
def FieldRec.failed (r : FieldRec) : FieldRec :=
  if r.retries = 0 then { r with shown := none, st := .fault }
  else { r with shown := none, retries := r.retries - 1, st := .pending }

/-- A failed attempt makes the field enter FAULT (R97). -/
def FieldRec.faultsNow (r : FieldRec) : Bool := r.retries == 0 && r.st != .fault

/-- The actions of a field's entry into FAULT (R103, R104); a grade field's report follows with the panels. -/
def State.fieldFault (s : State) (side : Side) (f : FieldId) : State :=
  let d := fieldDetail side f
  match f with
  | .amount | .volume | .price =>
    let s := (s.raise .legalFieldFault d).sideFault side
    if (s.board side).segment then s.segmentEnds side false else s
  | .grade _ => s.raise .gradeFieldFault d
  | .status => s.raise .statusFieldFault d

/-- The running test goes on when its phase has ended (R108, R110, R111). -/
def State.advanceTest (s : State) (side : Side) : State :=
  let b := s.board side
  match b.test with
  | some (.startCheck .eights) =>
    if b.allCurrent legalFields then
      (s.modBoard side fun b => { b with test := some (.startCheck .blank) }).postAll side [.amount, .volume] blank
    else s
  | some (.startCheck .blank) =>
    if b.allCurrent [.amount, .volume] then
      (s.modBoard side fun b => { b with test := some (.startCheck .zeros) }).postAll side [.amount, .volume]
        fun _ => longValue 0
    else s
  | some (.startCheck .zeros) =>
    if b.allCurrent [.amount, .volume] then (s.dropTest side).checkComplete side else s
  | some (.segment .eights o g) =>
    if b.segmentDone then
      ((s.modBoard side fun b => { b with test := some (.segment .blank o g) }).postSegment side blank).reportFields side b.fields
    else s
  | some (.segment _ _ _) => if b.segmentDone then s.segmentEnds side true else s
  | none => s

/-- The attempt in flight on a link ends (R97). The report that the field's state has changed sets its panel, and LOAD PRICE looks at the
panels as that report leaves them, also where the attempt ends a segment test whose held posting then makes the panel UPDATING again
(R79, R87, R110). -/
def State.attemptEnds (s : State) (side : Side) (verified : Bool) : State :=
  match (s.board side).attempt with
  | none => s
  | some a =>
    let limit := s.dlc.policy.retryLimit
    let r := (s.board side).field a.field
    let before := (s.board side).fields
    let s := s.modBoard side fun b =>
      { (b.modField a.field fun r => if verified then r.verified a.sent limit else r.failed) with attempt := none }
    let s := if verified && decide (r.retries < limit) then s.raise .retry (fieldDetail side a.field) else s
    let s := (s.reportFields side before).finishLoad
    let s := if !verified && r.faultsNow then s.fieldFault side a.field else s
    s.advanceTest side

/-- A LIT frame reaches a link (R96): with the write number of the attempt in flight it ends the attempt. -/
def State.takeLit (s : State) (side : Side) (f : LitFrame) : State :=
  match (s.board side).attempt with
  | none => s
  | some a =>
    if f.number ≠ a.number then s
    else s.attemptEnds side (f.wellFormed && f.field == a.field && f.content == a.sent)

end Sys2Proof.Machine
end

