-- ==== Sys2Proof/Machine/Mirror.lean ====
section
/-! DEFINITION. The mirrors (R22, R76, R92, R114, R127, R154, R175, R189, R194): the fields of each part in the order in which its rule
lists them, the updates, and the host's view of the regions below the card pool. -/
namespace Sys2Proof.Machine

/-! ## Encodings of fields as numbers; an absent field reads 0 with a leading 0, a present one has a leading 1 -/

def optNat (o : Option Nat) : List Nat :=
  match o with
  | none => [0, 0]
  | some v => [1, v]
def presetList : Preset → List Nat
  | .none => [0, 0]
  | .volume v => [1, v]
  | .amount a => [2, a]
def ownerList : Option (Side × Role) → List Nat
  | none => [0, 0]
  | some (side, role) => [sideCode side + 1, role.code]
def stopCode : Option StopReason → Nat
  | none => 0
  | some r => r.code
def sourceCode : TargetSource → Nat
  | .preset => 0
  | .limit => 1
def levelCode : Option Bool → Nat
  | none => 0
  | some false => 1
  | some true => 2

/-! ## Parts, each as the list of its entries -/

def authImage : Option Authorization → List Nat
  | none => List.replicate 8 0
  | some a => [1, a.tag.toNat, a.allowed.toNat] ++ presetList a.preset ++ [a.origin.code, a.discount, a.timeout]

def lockImage : Option Lock → List Nat
  | none => List.replicate 11 0
  | some l => [1, l.p, l.d, l.e, l.mode.code] ++ presetList l.preset ++ [l.vt, sourceCode l.source] ++ optNat l.vs

/-- The current sale: identity, lock and targets, V, N, A, flags, stop reason. -/
def saleImage (x : Option Sale) : List (List Nat) :=
  [match x with
    | none => List.replicate 6 0
    | some x => [1, x.tag.toNat, x.origin.code, x.hose.val + 1, x.grade.val, x.kind.code],
   lockImage (x.bind Sale.lock), optNat (x.map Sale.v), optNat (x.map Sale.n), optNat (x.map Sale.amount),
   optNat (x.map fun x => x.flags.code), optNat (x.map fun x => stopCode x.stop)]

def endedImage : Option EndedSale → List Nat
  | none => List.replicate 6 0
  | some e => [1, e.tag.toNat, e.v, e.amount, e.stop.code, flag e.recovered]

def configImage (c : PositionConfig) : List Nat :=
  [c.saleLimit, c.form.code, c.firstFlow, c.noFlow, c.motorSettle, c.settleWindow]

/-- The close reason, present in CLOSED. -/
def reasonImage : PosState → List Nat
  | .closed r => [1, r.code]
  | _ => [0, 0]

/-- A position mirror's entries (R76). -/
def State.positionImage (s : State) (side : Side) : List (List Nat) :=
  let p := s.pos side
  [[p.st.code], reasonImage p.st, (List.finRange 4).map fun h => flag (s.isLifted side h), [flag p.wrongHose], [flag p.multiLift],
   [flag p.liftWhileClosed], [flag (s.board side).sideFault], [p.startResult.code], [flag p.fast], [flag p.slow], [flag p.pump],
   authImage p.auth]
    ++ saleImage p.sale
    ++ [[p.unpaid.length], endedImage p.unpaid[0]?, endedImage p.unpaid[1]?, [p.lastShown.v, p.lastShown.amount, p.lastShown.e],
        configImage p.config]

/-- A grade's part of the price mirror (R92). -/
def gradeImage (g : Grade) : List Nat :=
  optNat g.price ++ [g.code.code]
    ++ (match g.pending with
      | none => [0, 0, 0]
      | some (p, c) => [1, p, c.code])
    ++ [g.panels.a.state.code, g.panels.b.state.code, flag g.panels.a.blocked, flag g.panels.b.blocked]

/-- The price mirror's entries: the grades' parts 0 to 7, then the site part (R92). -/
def State.priceImage (s : State) : List (List Nat) :=
  s.pru.grades.toList.map gradeImage ++ [[s.pru.siteMode.code, s.pru.totalsForm.code, s.pru.accrued.code]]

def totalImage (t : Total) : List Nat := [t.volume, t.amount, t.sales]

/-- A record set as a number, bit n for record n. -/
def recordSet (rs : List RecordId) : Nat := rs.foldl (fun n r => n + 2 ^ r.number.val) 0

def checkImage : CheckResult → List Nat
  | .none => [0, 0]
  | .restored => [1, 0]
  | .failed r => [2, r]

/-- The totals mirror's entries: the hoses' totals 0 to 7, generation and restart count, and the rest of R189's list. -/
def State.totalsImage (s : State) : List (List Nat) :=
  let r := s.rsc
  r.totals.a.toList.map totalImage ++ r.totals.b.toList.map totalImage
    ++ [optNat r.generation ++ [r.restart], [flag r.lost], checkImage r.lastCheck, [r.freeze.code],
        [r.queue.length + if r.active.isSome then 1 else 0],
        match r.active with
        | some a => [recordSet a.step.records]
        | none => [0]]

/-- The fields of the meter mirror that are written when they change: configuration, fault state, claim owner and role, phase-error
count, four entries for each meter (R22). -/
def meterImage (m : Meter) : List (List Nat) :=
  [[m.config.decoding.code, m.config.k, m.config.reverseAllowance, m.config.creepLimit, m.config.phaseErrorLimit], [flag m.faulted],
   ownerList m.owner, [m.phaseErrors]]
/-- The count fields of the meter mirror (R22); a negative since-report count modulo 65,536 (log 58). -/
def countImage (m : Meter) : List Nat :=
  [m.lifetime.toNat, m.unclaimed.toNat, (m.sinceReport % 65536).toNat, m.rate]

def State.meterStateImage (s : State) : List (List Nat) := s.miu.meters.toList.flatMap meterImage
def State.meterCountsImage (s : State) : List (List Nat) := s.miu.meters.toList.map countImage

def testImage : Option Test → List Nat
  | none => [0, 0]
  | some (.startCheck ph) => [1, phaseCode ph]
  | some (.segment ph _ _) => [2, phaseCode ph]
where
  phaseCode : TestPhase → Nat
    | .eights => 0
    | .blank => 1
    | .zeros => 2

/-- A board: its fields' entries 0 to 7, the side fault, the test (R114). -/
def boardImage (b : Board) : List (List Nat) :=
  (allFields.map fun f => [(b.field f).st.code, (b.field f).retries, flag (b.field f).refreshDue])
    ++ [[flag b.sideFault], testImage b.test]

/-- The DLC's part of the site mirror (R114). -/
def State.dlcImage (s : State) : List (List Nat) :=
  boardImage (s.board .a) ++ boardImage (s.board .b) ++ [[s.dlc.policy.retryLimit, s.dlc.policy.action.code]]

/-- The IWU's part of the site mirror: IN0 to IN23, the tamper condition, the interval, the watch (R127). -/
def State.iwuImage (s : State) : List (List Nat) :=
  let u := s.iwu
  (u.nozzles.a.toList ++ u.nozzles.b.toList
    ++ [u.satellites.a, u.satellites.b, u.enclosure, u.cable, u.cabinet, u.hydraulic, u.calSeal, u.emergency]
    ++ u.general.toList).map (fun v => [levelCode v])
    ++ [[flag s.loopsNormal], [u.watch.interval],
        [u.watch.mode.code, u.watch.mask.toNat, u.watch.compare.toNat, flag u.armed, u.latched.toNat]]

def armedImage : Option Armed → List Nat
  | none => [0, 0, 0]
  | some e => [1, e.card, e.buffer]

/-- The RIU's part of the site mirror (R154). -/
def State.riuImage (s : State) : List (List Nat) :=
  let r := s.riu
  [[r.domain.code], [flag r.domain.supply, flag r.domain.gate], [r.floor],
   r.armed.length :: (List.range 8).flatMap (fun i => armedImage r.armed[i]?),
   match r.send with
   | none => [0, 0, 0, 0, 0, 0]
   | some x => [1, x.card, x.buffer, x.attempts, x.holds, answerCode x.last],
   [r.badRun], [r.answers.length], [flag r.resuming]]

def scheduleImage : Option Schedule → List Nat
  | none => [0, 0, 0]
  | some x => [1, x.closing, x.opening]

/-- A NIGHT NOW or a WAKE NOW waits on lane 1 (R175). A card whose operation a supply warning has dropped no longer waits, though its
lane stays WAITING (log 51). -/
def State.siteCardWaits (s : State) : Bool := s.waitingKind .site == some .nightNow || s.waitingKind .site == some .wakeNow

/-- The SSU's part of the site mirror (R175). -/
def State.ssuImage (s : State) : List (List Nat) :=
  let u := s.ssu
  [[u.clock.day, u.clock.second, flag u.clock.lost], scheduleImage u.schedule,
   [u.site.code, match u.site with
     | .faulted r => r.code
     | _ => 0],
   optNat (u.closingOrigin.map ClosingOrigin.code), optNat (u.closingPhase.map ClosingPhase.code),
   [flag u.heldOver], [u.wake.origin.code], [u.wake.stage], u.wake.outcomes.toList.flatMap optNat, [flag s.siteCardWaits]]

/-- The entries of a part. -/
def State.image (s : State) : MirrorPart → List (List Nat)
  | .positionA => s.positionImage .a
  | .positionB => s.positionImage .b
  | .price => s.priceImage
  | .totals => s.totalsImage
  | .meterState => s.meterStateImage
  | .meterCounts => s.meterCountsImage
  | .dlc => s.dlcImage
  | .iwu => s.iwuImage
  | .riu => s.riuImage
  | .ssu => s.ssuImage

/-! ## Updates (R194) -/

/-- Writes into the mirror's entries those that have changed from `old` to `new` and those that `names` asks for, entries numbered
from `i`; the others keep what stood there. -/
def mergeEntries (names : Nat → Bool) : Nat → MirrorEntries → List (List Nat) → List (List Nat) → MirrorEntries
  | _, _, _, [] => []
  | i, mirror, old, n :: ns =>
    (if old.head? = some n ∧ names i = false then mirror.headD none else some n)
      :: mergeEntries names (i + 1) mirror.tail old.tail ns

/-- A part's entries after an event, and whether the event wrote it: `whole` writes every entry, `names` the entries named. -/
def updatePart (mirror : MirrorEntries) (old new : List (List Nat)) (named : List Nat) (whole : Bool) : MirrorEntries × Bool :=
  if whole then (new.map some, true)
  else if old = new ∧ named = [] then (mirror, false)
  else (mergeEntries named.contains 0 mirror old new, true)

/-- The generation after an update, if there was one: two steps of 1 (R194). -/
def stepGeneration (g : Half) (updated : Bool) : Half := if updated then g + 2 else g

/-- A part's update over an event from `s0` to `s`. -/
def State.partUpdate (s0 s : State) (p : MirrorPart) (mirror : MirrorEntries) : MirrorEntries × Bool :=
  updatePart mirror (s0.image p) (s.image p) ((s.mirrors.touched.filter fun x => x.1 == p).map Prod.snd) (s.mirrors.wholes.contains p)

/-- The mirrors after the event from `s0` to `s` (R194). The count fields of the meters are written at the end of each second and
when a store check ends, and at no other change (R22); the site mirror has an update for each owner. -/
def publish (s0 s : State) : State :=
  let m := s.mirrors
  let pa := State.partUpdate s0 s .positionA m.positionA
  let pb := State.partUpdate s0 s .positionB m.positionB
  let pr := State.partUpdate s0 s .price m.price
  let tt := State.partUpdate s0 s .totals m.totals
  let ms := State.partUpdate s0 s .meterState m.meterState
  let countsNow := m.wholes.contains .meterCounts
  let dl := State.partUpdate s0 s .dlc m.dlc
  let iw := State.partUpdate s0 s .iwu m.iwu
  let ri := State.partUpdate s0 s .riu m.riu
  let ss := State.partUpdate s0 s .ssu m.ssu
  { s with mirrors := {
      genPositionA := stepGeneration m.genPositionA pa.2
      genPositionB := stepGeneration m.genPositionB pb.2
      genPrice := stepGeneration m.genPrice pr.2
      genTotals := stepGeneration m.genTotals tt.2
      genMeter := stepGeneration m.genMeter (ms.2 || countsNow)
      genSite := stepGeneration (stepGeneration (stepGeneration (stepGeneration m.genSite dl.2) iw.2) ri.2) ss.2
      positionA := pa.1
      positionB := pb.1
      price := pr.1
      totals := tt.1
      meterState := ms.1
      meterCounts := if countsNow then s.meterCountsImage.map some else m.meterCounts
      dlc := dl.1
      iwu := iw.1
      riu := ri.1
      ssu := ss.1
      touched := []
      wholes := [] } }

/-! ## What the host reads (R190, R206) -/

/-- A byte of a halfword, 0 the least significant. -/
def halfByte (h : Half) (i : Nat) : Byte := (h >>> (8 * (i % 2))).setWidth 8

/-- A bit of a mirror of number `n`, given the entries of its parts: the layout says which entry it shows; it reads 0 when it shows
none, and until its entry is first written (R76, R193; log 7). -/
def mirrorBitAt (n : Nat) (parts : List MirrorEntries) (bit : Nat) : Bool :=
  match Config.mirrorEntry n bit with
  | none => false
  | some (part, entry) =>
    match (parts.getD part []).getD entry none with
    | none => false
    | some numbers => Config.mirrorBit n bit numbers

/-- A byte of a mirror: the generation halfword, then the bytes of its entries (R194). -/
def mirrorByteAt (n : Nat) (generation : Half) (parts : List MirrorEntries) (i : Nat) : Byte :=
  if i < 2 then halfByte generation i
  else (List.range 8).foldl (fun x k => if mirrorBitAt n parts (8 * i + k) then x ||| (1#8 <<< k) else x) 0

/-- A byte of a lane status word (10, Layouts). -/
def Lane.statusByte (x : Lane) (i : Nat) : Byte :=
  match i with
  | 0 => BitVec.ofNat 8 x.st.code
  | 1 => BitVec.ofNat 8 (flag x.goIgnored)
  | 2 => BitVec.ofNat 8 x.current
  | 3 => BitVec.ofNat 8 (x.current / 256)
  | 4 => BitVec.ofNat 8 x.lastFinished
  | 5 => BitVec.ofNat 8 (x.lastFinished / 256)
  | 6 => BitVec.ofNat 8 x.halt.code
  | _ => 0

/-- A byte of exchange memory as the host reads it (R190); while HRESET_N is asserted a read returns zero (R191). -/
def State.byteAt (s : State) (a : Nat) : Byte :=
  let m := s.mirrors
  if s.hostReset then 0
  else if 0xA8 ≤ a ∧ a < 0xB0 then s.lanes.dispense.statusByte (a - 0xA8)
  else if 0xB0 ≤ a ∧ a < 0xB8 then s.lanes.site.statusByte (a - 0xB0)
  else if 0xB8 ≤ a ∧ a < 0xC0 then s.lanes.reader.statusByte (a - 0xB8)
  else if 0x100 ≤ a ∧ a < 0x200 then mirrorByteAt 0 m.genPositionA [m.positionA] (a - 0x100)
  else if 0x200 ≤ a ∧ a < 0x300 then mirrorByteAt 1 m.genPositionB [m.positionB] (a - 0x200)
  else if 0x300 ≤ a ∧ a < 0x400 then mirrorByteAt 2 m.genPrice [m.price] (a - 0x300)
  else if 0x400 ≤ a ∧ a < 0x600 then mirrorByteAt 3 m.genTotals [m.totals] (a - 0x400)
  else if 0x600 ≤ a ∧ a < 0x700 then mirrorByteAt 4 m.genMeter [m.meterState, m.meterCounts] (a - 0x600)
  else if 0x700 ≤ a ∧ a < 0x800 then mirrorByteAt 5 m.genSite [m.dlc, m.iwu, m.riu, m.ssu] (a - 0x700)
  else Memory.read s.xm a

/-- A GO register as the host reads it (R197, R206). A current card offset that does not fit 13 bits when divided by 4, as a link above
7FFFh or with bit 1 set leaves it at a halt, shows the floor of its quarter modulo 8,192 (log 63). -/
def State.goRegister (s : State) (l : LaneId) : Half :=
  if s.hostReset then 0 else BitVec.ofNat 16 ((s.lane l).st.code * 8192 + (s.lane l).current / 4 % 8192)

/-- The OVERRUN register as the host reads it (R206, R209). -/
def State.overrunRegister (s : State) : Half :=
  if s.hostReset then 0
  else BitVec.ofNat 16 ((List.finRange 13).foldl (fun n i => n + (if s.ntc.sources[i].overrun then 2 ^ i.val else 0)) 0)

/-- The ENABLE register as the host reads it (R206, R209). -/
def State.enableRegister (s : State) : Half := if s.hostReset then 0 else s.ntc.enable.setWidth 16

/-- What a host read of NOTICE returns (R208). -/
def State.noticeRegister (s : State) : Half :=
  if s.hostReset then 0
  else match s.ntc.presented with
    | some i => BitVec.ofNat 16 (i.val + 1)
    | none => match s.ntc.lowest with
      | some i => BitVec.ofNat 16 (i.val + 1)
      | none => 0

/-- What a host read of the register window returns at an offset (R206): an access acts on the halfword that contains its offset
(R191), and a read where no register stands returns 0. -/
def State.registerAt (s : State) (offset : Nat) : Half :=
  match offset / 2 with
  | 0 => s.goRegister .dispense
  | 1 => s.goRegister .site
  | 2 => s.goRegister .reader
  | 3 => s.noticeRegister
  | 4 => s.overrunRegister
  | 5 => s.enableRegister
  | _ => 0

end Sys2Proof.Machine
end

