-- ==== Sys2Proof/Machine/React.lean ====
section
/-! DEFINITION. What follows in the same event once a command has acted: conditions that the rules say are acted on at the first event
after which they hold, in one fixed order (log 4), and the mirrors' updates. -/
namespace Sys2Proof.Machine

/-! ## Store steps (R178) -/

/-- The RSC writes the store generation and restart count into the identity block (R184, R188, R193). -/
def State.writeIdentity (s : State) : State :=
  (s.writeHalf 0x08 (BitVec.ofNat 16 (s.rsc.generation.getD 0))).writeHalf 0x0A (BitVec.ofNat 16 s.rsc.restart)

/-- REBUILD STORE's work at the completion of its step (R188). -/
def State.rebuildDone (s : State) : State :=
  (((s.modRsc fun r => { r with lastCheck := .none }).writeIdentity).touch .totals 8).raise .storeRebuilt (s.rsc.generation.getD 0)

/-- A requester is answered: its step has completed (R178); LOAD PRICE examines its second phase (R87). -/
def State.answer (s : State) : Requester → State
  | .card l off => s.endStored l off
  | .loadPrice =>
    (s.modPru fun u => { u with loading := u.loading.map fun (l : LoadPrice) => { l with stored := true } }).finishLoad
  | .nightReader => s.nightReaderDone
  | .nightMeters => s.enterNight
  | .header => s.writeIdentity.reportRestored
  | .rebuild => s.rebuildDone
  | .freeze .a => s
  | .freeze .b => (s.modRsc fun r => { r with freeze := .done }).raise .frozen s.rsc.frozen

/-- The requesters of a completed step are answered in the order of their requests (R178). -/
def State.answerAll (s : State) (qs : List Requester) : State := qs.foldl State.answer s

/-- Begins the oldest step when one can begin; steps that complete at once are answered and the next begins (R178). -/
def State.runStore : Nat → State → State
  | 0, s => s
  | fuel + 1, s =>
    if s.rsc.canBegin then
      let r := s.beginStep
      State.runStore fuel (r.1.answerAll r.2)
    else s

/-- More than the steps that one event can begin: ten queued at most (R177), two more of a night entry. -/
def storeFuel : Nat := 16

/-- The step in progress completes (R178). -/
def State.completeStep (s : State) : State :=
  let r := s.endStep
  r.1.answerAll r.2

/-! ## The event -/

/-- The Position Controller's contents are sent to both boards (R105, R106), in POWER DOWN too, where the links have stopped: the fields
take them as wanted contents (R99, R112; log 65). -/
def State.sendAll (s : State) : State := (s.sendContents .a).sendContents .b

/-- The conditions that the rules act on, in one order: price applies (R83), the gates (R52), the end of stage 3 (R166), the night
entry (R161), store steps (R178), the end of LOAD PRICE (R87), wanted contents (R105). -/
def State.examine (s : State) : State :=
  let s := (s.applyPrices.gate .a).gate .b
  let s := s.examinePanels.examinePositions
  ((State.runStore storeFuel s).finishLoad).sendAll

/-- Both links are served (R98). -/
def State.serveLinks (s : State) : State := (s.serveLink .a).serveLink .b

/-- The conditions are examined and the links served; where a report of a field that turns WRITING has changed a panel, the conditions
are examined again, since the gate, stage 3 and LOAD PRICE look at the panel states (R81, R87, R166). -/
def State.settle : Nat → State → State
  | 0, s => s
  | fuel + 1, s =>
    let t := s.examine
    let u := t.serveLinks
    if u.pru = t.pru then u else State.settle fuel u

/-- More rounds than one event can need: in an event each link begins one attempt at most, since an attempt stays in flight. -/
def settleFuel : Nat := 3

/-- What follows in the same event (log 4). -/
def State.react (s : State) : State := State.settle settleFuel s

/-- A command's event: its own effect, what follows, and the mirrors (R194). -/
def event (s : State) (f : State → State) : Host.Outcome State Fault Refusal := .next (publish s (f s).react)

/-- An event of the part while main supply is present; without it the part does nothing (R183). -/
def poweredEvent (s : State) (f : State → State) : Host.Outcome State Fault Refusal :=
  if s.mainSupply then event s f else .next s

/-- An event that its row describes only while a condition holds (a timer runs, a level changes, an attempt is in flight); otherwise
the command changes nothing (log 1). -/
def eventWhen (s : State) (c : Bool) (f : State → State) : Host.Outcome State Fault Refusal :=
  if c then poweredEvent s f else .next s

/-- A host access: none is taken while HRESET_N is asserted (R191). -/
def hostEvent (s : State) (f : State → State) : Host.Outcome State Fault Refusal :=
  if s.hostReset then .next s else poweredEvent s f

/-- The owner's decision of a card of a kind (R199; log 2). -/
def cardEvent (s : State) (k : Kind) (f : Nat → Card → State → State) : Host.Outcome State Fault Refusal :=
  poweredEvent s fun s => s.withCard k f

end Sys2Proof.Machine
end

