-- ==== Sys2Proof/Machine/MeterCommands.lean ====
section
/-! DEFINITION. The commands of the Meter Input Unit (01). -/
namespace Sys2Proof.Machine

/-! ## Recognition and counting -/

/-- A newly recognised level is an edge: the phase had another recognised level (R3). -/
def edge (old new : Option Bool) : Bool := old.isSome && new.isSome && old != new

/-- What a recognition instant is decoded as (R4, R5); `open` where R4 has no row: phase A alone to high, no level on phase B. -/
inductive Decoded where
  | nothing | count (forward : Bool) | phaseError | noPhaseB
  deriving DecidableEq, Repr

/-- The decoding of a recognition instant (R4, R5). -/
def Meter.decode (m : Meter) (a b : Option Bool) : Decoded :=
  match m.config.decoding with
  | .single => if edge m.phaseA a && a == some true then .count true else .nothing
  | .quadrature =>
    if edge m.phaseA a && edge m.phaseB b then .phaseError
    else if edge m.phaseA a && a == some true then
      match m.phaseB with
      | some false => .count true
      | some true => .count false
      | none => .noPhaseB
    else .nothing

/-- The recognised levels take their new values (R4). -/
def Meter.recognise (m : Meter) (a b : Option Bool) : Meter := { m with phaseA := a.or m.phaseA, phaseB := b.or m.phaseB }

/-- The recognised level of a phase changes. -/
def Meter.recognises (m : Meter) (a b : Option Bool) : Bool := (a.isSome && a != m.phaseA) || (b.isSome && b != m.phaseB)

/-- A count by its sign. -/
def signOf (forward : Bool) : Int := if forward then 1 else -1

/-- An unclaimed count, with creep reporting (R7, R8): the report is made when the magnitude has come to the creep limit, and, whichever
way the count goes, when a lowered limit had already been reached before the count (log 56). -/
def State.unclaimedCount (s : State) (m : MeterNo) (forward : Bool) : State :=
  let reached := (s.meter m).config.creepLimit ≤ (s.meter m).sinceReport.natAbs
  let s := s.modMeter m fun x =>
    { x with unclaimed := x.unclaimed + BitVec.ofInt 32 (signOf forward), sinceReport := x.sinceReport + signOf forward }
  if reached ∨ (s.meter m).config.creepLimit ≤ (s.meter m).sinceReport.natAbs then
    (s.modMeter m fun x => { x with sinceReport := 0 }).raise .unclaimedFlow (meterDetail m)
  else s

/-- A count of a meter: lifetime, tally, and the sale that claims it or unclaimed flow (R7, R9); none before STORE CHECK has completed
or failed (R23). -/
def State.countMeter (s : State) (m : MeterNo) (forward : Bool) : State :=
  if s.miu.counting then
    let s := s.modMeter m fun x => { x with lifetime := x.lifetime + BitVec.ofInt 48 (signOf forward), tally := x.tally + 1 }
    match (s.meter m).owner with
    | some (side, _) => s.deliver side m forward
    | none => s.unclaimedCount m forward
  else s

/-- A phase error acts by claim owner and fault state (R6). -/
def State.phaseError (s : State) (m : MeterNo) : State :=
  let x := s.meter m
  if x.faulted then s
  else match x.owner with
    | none => s.raise .phaseError (meterDetail m)
    | some (side, _) =>
      let s := s.modMeter m fun x => { x with phaseErrors := x.phaseErrors + 1 }
      if x.config.phaseErrorLimit ≤ x.phaseErrors + 1 then
        ((s.modMeter m fun x => { x with faulted := true }).raise .meterFault (meterDetail m)).meterFaultReport side m
      else s

/-- A recognition instant acts (R4, R5). -/
def State.recognition (s : State) (m : MeterNo) (a b : Option Bool) : State :=
  let d := (s.meter m).decode a b
  let s := s.modMeter m fun x => x.recognise a b
  match d with
  | .nothing => s
  | .count forward => s.countMeter m forward
  | .phaseError => s.phaseError m
  | .noPhaseB =>
    match Config.countWithoutPhaseB s.free with
    | none => s.tickFree
    | some forward => s.tickFree.countMeter m forward

/-- RECOGNITION_INSTANT (R4). -/
def execRecognitionInstant (m : MeterNo) (a b : Option Bool) (s : State) : Host.Outcome State Fault Refusal :=
  eventWhen s ((s.meter m).recognises a b) fun s => s.recognition m a b

/-- The end of a second: each tally becomes the count rate, and the mirror's count fields are written (R9). -/
def State.endSecond (s : State) : State :=
  (s.modMiu fun u => { u with meters := u.meters.map fun (m : Meter) => { m with rate := m.tally, tally := 0 } }).writeWhole .meterCounts

/-- ONE_SECOND_PERIOD (R9). -/
def execOneSecondPeriod (s : State) : Host.Outcome State Fault Refusal := poweredEvent s State.endSecond

/-! ## Cards -/

/-- The accepted configuration card asks for a CONFIG store step and finishes on it (R178, R199). -/
def State.finishOnConfig (s : State) (l : LaneId) (off : Nat) : State := (s.storeCard l).requestStep [.config] [.card l off]

/-- The configuration of CONFIGURE METER's body, if every field is in range (R1, R17). -/
def Card.meterConfig (c : Card) : Option MeterConfig :=
  match Decoding.ofCode (c.b 0) with
  | none => none
  | some d =>
    if 1 ≤ c.b 2 ∧ 1 ≤ c.b 3 ∧ c.b 3 ≤ 15 ∧ 10000 ≤ c.w 1 ∧ c.w 1 ≤ 2000000 then
      some { decoding := d, k := c.w 1, reverseAllowance := c.b 1, creepLimit := c.b 2, phaseErrorLimit := c.b 3 }
    else none

/-- CONFIGURE METER decided (R17): BAD TARGET before BAD VALUE (log 48). -/
def decideConfigureMeter (off : Nat) (c : Card) (s : State) : State :=
  match c.meter with
  | none => s.refuseCard .site .badTarget
  | some m =>
    match if c.short .configureMeter then none else c.meterConfig with
    | none => s.refuseCard .site .badValue
    | some cfg =>
      if s.storeClosed then s.refuseCard .site .busy
      else if s.iwu.calSeal ≠ some true then s.refuseCard .site .isSealed
      else if (s.meter m).owner.isSome then s.refuseCard .site .busy
      else
        ((s.modMeter m fun x => { x with config := cfg, faulted := false, phaseErrors := 0 }).touch .meterState (4 * m.val)).finishOnConfig
          .site off

/-- CONFIGURE_METER (R17). -/
def execConfigureMeter (s : State) : Host.Outcome State Fault Refusal := cardEvent s .configureMeter decideConfigureMeter

/-- The entry of CONFIGURE HOSE's body, if every field is in range (R10, R18). -/
def Card.hoseRoute (c : Card) : Option HoseRoute :=
  match gradeOfNumber (c.b 1), RouteKind.ofCode (c.b 2), meterOfNumber (c.b 3) with
  | some g, some k, some p =>
    let second := meterOfNumber (c.b 4)
    if 5000 < c.h 6 then none
    else if k ≠ .single ∧ (second = none ∨ second = some p) then none
    else if k = .blend ∧ 100 < c.b 5 then none
    else some { fitted := onOff (c.byte 0), grade := g, kind := k, primary := p,
                secondary := if k = .single then none else second, ratio := if k = .blend then c.b 5 else 0, slowDown := c.h 6 }
  | _, _, _ => none

/-- CONFIGURE HOSE decided (R18, R90): BAD TARGET before BAD VALUE (log 48). The lifted set is a view of the entry and the input (R49). -/
def decideConfigureHose (off : Nat) (c : Card) (s : State) : State :=
  match c.hose with
  | none => s.refuseCard .site .badTarget
  | some (side, h) =>
    match if c.short .configureHose then none else c.hoseRoute with
    | none => s.refuseCard .site .badValue
    | some e =>
      if s.storeClosed then s.refuseCard .site .busy
      else if !(s.pos side).st.atRest then s.refuseCard .site .busy
      else
        let old := s.route side h
        let s := s.modMiu fun u => { u with routes := u.routes.set side ((u.routes.get side).set h e) }
        (s.membershipChange side h old).finishOnConfig .site off

/-- CONFIGURE_HOSE (R18). -/
def execConfigureHose (s : State) : Host.Outcome State Fault Refusal := cardEvent s .configureHose decideConfigureHose

/-- SET ROUTING decided (R19): BAD VALUE before BUSY (log 48). -/
def decideSetRouting (off : Nat) (c : Card) (s : State) : State :=
  if c.short .setRouting ∨ c.b 2 < 1 ∨ 20 < c.b 2 ∨ 10000 < c.w 1 then s.refuseCard .site .badValue
  else if s.storeClosed then s.refuseCard .site .busy
  else
    (s.modMiu fun u => { u with enables :=
      { blend := onOff (c.byte 0), satellite := onOff (c.byte 1), tolerance := c.b 2, settleVolume := c.w 1 } }).finishOnConfig
      .site off

/-- SET_ROUTING (R19). -/
def execSetRouting (s : State) : Host.Outcome State Fault Refusal := cardEvent s .setRouting decideSetRouting

/-- CLEAR METER FAULT decided (R20). -/
def decideClearMeterFault (_ : Nat) (c : Card) (s : State) : State :=
  match c.meter with
  | none => s.refuseCard .site .badTarget
  | some m =>
    let s := if (s.meter m).faulted then (s.modMeter m fun x => { x with faulted := false, phaseErrors := 0 }).touch .meterState (4 * m.val + 1) else s
    s.finishCard .site [] .ok

/-- CLEAR_METER_FAULT (R20). -/
def execClearMeterFault (s : State) : Host.Outcome State Fault Refusal := cardEvent s .clearMeterFault decideClearMeterFault

/-- READ METERS' result words (10, Card kinds): the role byte is 0 when the claim owner is NONE (log 57), a negative since-report count is
written modulo 65,536 (log 58). -/
def Meter.report (m : Meter) : List (Nat × Byte) :=
  leBytes 0 m.lifetime.toNat 6 ++ leBytes 6 (m.sinceReport % 65536).toNat 2 ++ leBytes 8 m.unclaimed.toNat 4
    ++ leBytes 12 m.rate 2 ++ leBytes 14 (flag m.faulted) 1 ++ leBytes 15 m.phaseErrors 1
    ++ (match m.owner with
      | none => leBytes 16 0 2
      | some (side, role) => leBytes 16 (sideCode side + 1) 1 ++ leBytes 17 role.code 1)

/-- READ METERS decided (R21): BAD TARGET before BAD VALUE (log 48). -/
def decideReadMeters (_ : Nat) (c : Card) (s : State) : State :=
  match c.meter with
  | none => s.refuseCard .site .badTarget
  | some m => if c.short .readMeters then s.refuseCard .site .badValue else s.finishCard .site (s.meter m).report .ok

/-- READ_METERS (R21). -/
def execReadMeters (s : State) : Host.Outcome State Fault Refusal := cardEvent s .readMeters decideReadMeters

end Sys2Proof.Machine
end

