-- ==== Sys2Proof/Machine/PositionCommands.lean ====
section
/-! DEFINITION. The commands of the Position Controller (03), the nozzle inputs among them (R118, R119). -/
namespace Sys2Proof.Machine

/-! ## Nozzles -/

/-- A nozzle input's recognised level takes a value (R117). -/
def State.setNozzle (s : State) (side : Side) (h : HoseNo) (v : Bool) : State :=
  s.modIwu fun u => { u with nozzles := u.nozzles.set side ((u.nozzles.get side).set h (some v)) }
/-- A satellite input's recognised level takes a value (R117). -/
def State.setSatellite (s : State) (side : Side) (v : Bool) : State :=
  s.modIwu fun u => { u with satellites := u.satellites.set side (some v) }

/-- NOZZLE_LIFT (R49): the level, then the delivery; an unfitted hose's lift has no effect on the position. Every hose is unfitted until
STORE CHECK restores the routes (R10), so that a lift first recognised before sets no LIFT WHILE CLOSED and raises no notice, then or at
the restore, although R118 speaks of a power-on that finds the nozzle lifted (log 21). -/
def execNozzleLift (side : Side) (h : HoseNo) (s : State) : Host.Outcome State Fault Refusal :=
  eventWhen s ((s.iwu.nozzles.get side)[h] != some true) fun s =>
    let s := s.setNozzle side h true
    if (s.route side h).fitted then s.lift side h else s

/-- NOZZLE_HANG (R49): a first recognition as hung is not delivered (R117). -/
def execNozzleHang (side : Side) (h : HoseNo) (s : State) : Host.Outcome State Fault Refusal :=
  let first := (s.iwu.nozzles.get side)[h] == none
  eventWhen s ((s.iwu.nozzles.get side)[h] != some false) fun s =>
    let s := s.setNozzle side h false
    if (s.route side h).fitted && !first then s.hang side h else s

/-- SATELLITE_NOZZLE_LIFT (R15, R119). -/
def execSatelliteNozzleLift (side : Side) (s : State) : Host.Outcome State Fault Refusal :=
  eventWhen s (s.iwu.satellites.get side != some true) fun s => (s.setSatellite side true).requestSatellite side

/-- SATELLITE_NOZZLE_HANG (R119): no effect on claims. -/
def execSatelliteNozzleHang (side : Side) (s : State) : Host.Outcome State Fault Refusal :=
  eventWhen s (s.iwu.satellites.get side != some false) fun s => s.setSatellite side false

/-! ## Timers -/

/-- MOTOR_SETTLE_EXPIRY (R55). -/
def execMotorSettleExpiry (side : Side) (s : State) : Host.Outcome State Fault Refusal :=
  eventWhen s ((s.pos side).st == .starting .motor && (s.pos side).motorTimer.isSome) fun s => s.openValves side

/-- SETTLE_WINDOW_EXPIRY (R64). -/
def execSettleWindowExpiry (side : Side) (s : State) : Host.Outcome State Fault Refusal :=
  eventWhen s ((s.pos side).st == .ending && (s.pos side).settleTimer.isSome) fun s => s.completeEnding side

/-- FLOW_TIMER_EXPIRY (R60). -/
def execFlowTimerExpiry (side : Side) (s : State) : Host.Outcome State Fault Refusal :=
  eventWhen s (((s.pos side).st == .fuelling || (s.pos side).st == .slowing) && (s.pos side).flowTimer.isSome) fun s =>
    s.endSale side .noFlow

/-- AUTH_TIMER_EXPIRY (R61): the arrival before the notice (log 47). -/
def execAuthTimerExpiry (side : Side) (s : State) : Host.Outcome State Fault Refusal :=
  eventWhen s ((s.pos side).st == .authorized && (s.pos side).authTimer.isSome) fun s =>
    (s.arriveOpen side).raisePos side .authTimeout 0

/-! ## AUTHORIZE (R67) -/

/-- The preset of a body, if its kind is known and an AMOUNT in range (R45, R67). -/
def Card.preset (c : Card) : Option Preset :=
  match c.b 5 with
  | 0 => some .none
  | 1 => some (.volume (c.w 2))
  | 2 => if 1 ≤ c.w 2 ∧ c.w 2 ≤ 9999999 then some (.amount (c.w 2)) else none
  | _ => none

/-- The authorization of AUTHORIZE's body, if the values checked at the take are in range (R67). -/
def Card.authorization (c : Card) : Option Authorization :=
  match c.preset, Origin.ofCode (c.b 6) with
  | some p, some o =>
    if c.w 3 ≤ 99999 ∧ c.w 4 ≤ 3600 then
      some { tag := BitVec.ofNat 32 (c.w 0), allowed := (c.byte 4).setWidth 4, preset := p, origin := o, discount := c.w 3,
             timeout := c.w 4 }
    else none
  | _, _ => none

/-- The allowed hose byte names hoses of the position, fitted ones only, and is not empty (R45, R67 check 4; log 30). -/
def State.hosesAllowed (s : State) (side : Side) (b : Byte) : Bool :=
  b != 0 && decide (b.toNat < 16) && (List.finRange 4).all fun h => !b.getLsbD h.val || (s.route side h).fitted

/-- A VOLUME preset lies from 1 to the sale limit (R67 check 4). -/
def presetInLimit (p : Preset) (limit : Nat) : Bool :=
  match p with
  | .volume v => decide (1 ≤ v) && decide (v ≤ limit)
  | _ => true

/-- The PSC's checks 1 to 8 of AUTHORIZE in their order (R67). -/
def State.authorizeRefusal (s : State) (side : Side) (hoses : Byte) (a : Authorization) : Option CardOutcome :=
  let p := s.pos side
  if p.st.isClosed then some .closed
  else if p.st ≠ .idle ∧ p.st ≠ .calling then some .busy
  else if s.ssu.site ≠ .opened then some .closed
  else if !s.hosesAllowed side hoses || !presetInLimit a.preset p.config.saleLimit then some .badValue
  else if Config.unpaidCapacity ≤ p.unpaid.length then some .unpaidFull
  else if s.iwu.emergency = some true then some .blocked
  else if a.origin = .reader ∧ s.riu.domain = .quarantine then some .blocked
  else if p.unpaid.any fun e => e.tag == a.tag then some .duplicate
  else none

/-- The accepted authorization acts: AUTHORIZED, or STARTING from CALLING with exactly one hose up and that hose allowed (R67). -/
def State.authorize (s : State) (side : Side) (a : Authorization) : State :=
  let calling := (s.pos side).st == .calling
  let s := s.modPos side fun p => { p with startResult := .none }
  match s.lifted side with
  | [h] =>
    if calling && allows a.allowed h then s.start side h a
    else
      let s := s.arriveAuthorized side a
      if calling then s.setFlag side .wrongHose h else s
  | _ => s.arriveAuthorized side a

/-- AUTHORIZE decided (R67): BAD TARGET first (log 48), the range checks before the PSC's (03, Lane 0 cards). -/
def decideAuthorize (_ : Nat) (c : Card) (s : State) : State :=
  match c.side with
  | none => s.refuseCard .dispense .badTarget
  | some side =>
    match if c.short .authorize then none else c.authorization with
    | none => s.refuseCard .dispense .badValue
    | some a =>
      match s.authorizeRefusal side (c.byte 4) a with
      | some o => s.refuseCard .dispense o
      | none => (s.authorize side a).finishCard .dispense [] .ok

/-- AUTHORIZE (R67). -/
def execAuthorize (s : State) : Host.Outcome State Fault Refusal := cardEvent s .authorize decideAuthorize

/-! ## The other lane 0 cards -/

/-- CANCEL decided (R68): BAD TARGET first (log 48). -/
def decideCancel (_ : Nat) (c : Card) (s : State) : State :=
  match c.side with
  | none => s.refuseCard .dispense .badTarget
  | some side =>
    let st := (s.pos side).st
    if s.powerDown then s.refuseCard .dispense .busy
    else if st = .authorized then (s.arriveOpen side).finishCard .dispense [] .ok
    else if st.isStarting then (s.fallBack side .cancelled 0).finishCard .dispense [] .ok
    else if st.isDispensing then (s.endSale side .host).finishCard .dispense [] .ok
    else s.refuseCard .dispense .busy

/-- CANCEL (R68). -/
def execCancel (s : State) : Host.Outcome State Fault Refusal := cardEvent s .cancel decideCancel

/-- A flowing sale is paused (R69). -/
def State.pause (s : State) (side : Side) : State := s.modPos side fun p => { p.enter .paused with flowTimer := none }

/-- A position that STOP acts on: in FUELLING or SLOWING, the site not in POWER DOWN (R69). -/
def State.stoppable (s : State) (side : Side) : Bool :=
  !s.powerDown && ((s.pos side).st == .fuelling || (s.pos side).st == .slowing)

/-- STOP decided (R69): BAD TARGET first (log 48). -/
def decideStop (_ : Nat) (c : Card) (s : State) : State :=
  if c.to = 2 then
    let s := if s.stoppable .a then s.pause .a else s
    (if s.stoppable .b then s.pause .b else s).finishCard .dispense [] .ok
  else match c.side with
    | none => s.refuseCard .dispense .badTarget
    | some side => if s.stoppable side then (s.pause side).finishCard .dispense [] .ok else s.refuseCard .dispense .busy

/-- STOP (R69). -/
def execStop (s : State) : Host.Outcome State Fault Refusal := cardEvent s .stop decideStop

/-- The accepted RESUME acts by the volume reached (R70). -/
def State.resumeSale (s : State) (side : Side) : State :=
  match (s.pos side).sale with
  | none => s
  | some sl =>
    match sl.targetStop with
    | some r => s.endSale side r
    | none => s.modPos side fun p =>
      { p.enter (if sl.slowed then .slowing else .fuelling) with flowTimer := some (p.config.noFlow * 1000) }

/-- RESUME decided (R70): BAD TARGET first (log 48). -/
def decideResume (_ : Nat) (c : Card) (s : State) : State :=
  match c.side with
  | none => s.refuseCard .dispense .badTarget
  | some side =>
    if s.powerDown then s.refuseCard .dispense .busy
    else if (s.pos side).st ≠ .paused then s.refuseCard .dispense .busy
    else if s.iwu.emergency = some true then s.refuseCard .dispense .blocked
    else (s.resumeSale side).finishCard .dispense [] .ok

/-- RESUME (R70). -/
def execResume (s : State) : Host.Outcome State Fault Refusal := cardEvent s .resume decideResume

/-- CLOSE SALE decided (R71): BAD TARGET first (log 48). -/
def decideCloseSale (off : Nat) (c : Card) (s : State) : State :=
  match c.side with
  | none => s.refuseCard .dispense .badTarget
  | some side =>
    let tag := BitVec.ofNat 32 (c.w 0)
    if c.short .closeSale then s.refuseCard .dispense .badValue
    else if s.storeClosed then s.refuseCard .dispense .busy
    else if !((s.pos side).unpaid.any fun e => e.tag == tag) then s.refuseCard .dispense .notFound
    else
      ((s.modPos side fun p => { p with unpaid := p.unpaid.filter fun e => e.tag != tag }).storeCard .dispense).requestStep
        [unpaidRecord side] [.card .dispense off]

/-- CLOSE_SALE (R71). -/
def execCloseSale (s : State) : Host.Outcome State Fault Refusal := cardEvent s .closeSale decideCloseSale

/-- The part of a sale report that current and ended sales share (10, The sale report; R72, R73). -/
structure Report where
  tag : Word
  origin : Origin
  hose : HoseNo
  grade : Fin 8
  kind : RouteKind
  mode : Nat
  stop : Nat
  recovered : Bool
  flags : SaleFlags
  p : Nat
  d : Nat
  e : Nat
  amount : Nat
  v : Nat
  product : Nat
  started : Stamp
  ended : Option Stamp
  deriving DecidableEq, Repr

/-- The report of a current sale (R72): before the lock P, D, E, N and A are 0 and the mode is none. -/
def Sale.report (x : Sale) : Report :=
  { tag := x.tag, origin := x.origin, hose := x.hose, grade := x.grade, kind := x.kind,
    mode := match x.lock with
      | some l => l.mode.code
      | none => 0xFF,
    stop := stopCode x.stop, recovered := false, flags := x.flags,
    p := (x.lock.map Lock.p).getD 0, d := (x.lock.map Lock.d).getD 0, e := (x.lock.map Lock.e).getD 0,
    amount := x.amount, v := x.v, product := x.n, started := x.started, ended := none }

/-- The report of an ended sale: its product is V × E (R46, R72, R73). -/
def EndedSale.report (x : EndedSale) : Report :=
  { tag := x.tag, origin := x.origin, hose := x.hose, grade := x.grade, kind := x.kind, mode := x.mode.code, stop := x.stop.code,
    recovered := x.recovered, flags := x.flags, p := x.p, d := x.d, e := x.e, amount := x.amount, v := x.v, product := x.v * x.e,
    started := x.started, ended := some x.ended }

/-- The bytes of a report in a form (10, The sale report; R73). -/
def Report.bytes (x : Report) (form : Form) : List (Nat × Byte) :=
  leBytes 0 x.tag.toNat 4 ++ leBytes 4 x.origin.code 1 ++ leBytes 5 (hoseDetail x.hose) 1 ++ leBytes 6 x.grade.val 1
    ++ leBytes 7 x.kind.code 1 ++ leBytes 8 x.mode 1 ++ leBytes 9 x.stop 1
    ++ leBytes 10 (flag x.recovered + 2 * flag x.ended.isSome) 1 ++ leBytes 11 x.flags.code 1
    ++ leBytes 12 x.p 3 ++ leBytes 15 x.d 3 ++ leBytes 18 x.e 3 ++ leBytes 21 x.amount 3
    ++ leBytes 24 (match form with
      | .display => x.v / 10
      | .full => x.v) 4
    ++ leBytes 28 (match form with
      | .display => 0
      | .full => x.product) 6
    ++ leBytes 34 x.started.day 2 ++ leBytes 36 x.started.second 3
    ++ (match x.ended with
      | some t => leBytes 40 t.day 2 ++ leBytes 42 t.second 3
      | none => [])

/-- The sale a selector names (R72). -/
def Position.selected (p : Position) (selector : Nat) : Option Report :=
  match selector with
  | 0 => p.sale.map Sale.report
  | n + 1 => p.unpaid[n]?.map EndedSale.report

/-- READ SALE decided (R72): BAD TARGET, BAD FORM, BAD VALUE, NOT FOUND, in this order (log 48). -/
def decideReadSale (_ : Nat) (c : Card) (s : State) : State :=
  match c.side with
  | none => s.refuseCard .dispense .badTarget
  | some side =>
    match c.reportForm (s.pos side).config.form with
    | none => s.refuseCard .dispense .badForm
    | some form =>
      if c.short .readSale ∨ 2 < c.b 0 then s.refuseCard .dispense .badValue
      else match (s.pos side).selected (c.b 0) with
        | none => s.refuseCard .dispense .notFound
        | some r => s.finishCard .dispense (r.bytes form) .ok

/-- READ_SALE (R72). -/
def execReadSale (s : State) : Host.Outcome State Fault Refusal := cardEvent s .readSale decideReadSale

/-- CLOSE POSITION decided (R74): BAD TARGET first (log 48). -/
def decideClosePosition (_ : Nat) (c : Card) (s : State) : State :=
  match c.side with
  | none => s.refuseCard .dispense .badTarget
  | some side =>
    if (s.pos side).st = .idle then (s.closePos side .host).finishCard .dispense [] .ok else s.refuseCard .dispense .busy

/-- CLOSE_POSITION (R74). -/
def execClosePosition (s : State) : Host.Outcome State Fault Refusal := cardEvent s .closePosition decideClosePosition

/-- OPEN POSITION decided (R74, R110): BAD TARGET first (log 48). -/
def decideOpenPosition (_ : Nat) (c : Card) (s : State) : State :=
  match c.side with
  | none => s.refuseCard .dispense .badTarget
  | some side =>
    let st := (s.pos side).st
    if s.ssu.site ≠ .opened then s.refuseCard .dispense .closed
    else if (st ≠ .closed .host ∧ st ≠ .closed .display) ∨ (s.board side).segment then s.refuseCard .dispense .busy
    else ((s.requestSegment side true false).refreshSide side).finishCard .dispense [] .ok

/-- OPEN_POSITION (R74). -/
def execOpenPosition (s : State) : Host.Outcome State Fault Refusal := cardEvent s .openPosition decideOpenPosition

/-- The configuration of CONFIGURE POSITION's body, if every field is in range (R44, R75). -/
def Card.positionConfig (c : Card) : Option PositionConfig :=
  match Form.ofCode (c.b 12) with
  | none => none
  | some f =>
    if 1000 ≤ c.w 0 ∧ c.w 0 ≤ 99999990 ∧ 5 ≤ c.h 4 ∧ c.h 4 ≤ 120 ∧ 5 ≤ c.h 6 ∧ c.h 6 ≤ 300 ∧ c.h 8 ≤ 5000
        ∧ 100 ≤ c.h 10 ∧ c.h 10 ≤ 2000 then
      some { saleLimit := c.w 0, form := f, firstFlow := c.h 4, noFlow := c.h 6, motorSettle := c.h 8, settleWindow := c.h 10 }
    else none

/-- The mirror part of a position. -/
def positionPart : Side → MirrorPart
  | .a => .positionA
  | .b => .positionB

/-- CONFIGURE POSITION decided (R75): BAD TARGET first (log 48), the range checks before the PSC's. -/
def decideConfigurePosition (off : Nat) (c : Card) (s : State) : State :=
  match c.side with
  | none => s.refuseCard .site .badTarget
  | some side =>
    match if c.short .configurePosition then none else c.positionConfig with
    | none => s.refuseCard .site .badValue
    | some cfg =>
      if s.storeClosed then s.refuseCard .site .busy
      else if !(s.pos side).st.atRest then s.refuseCard .site .busy
      else ((s.modPos side fun p => { p with config := cfg }).touch (positionPart side) 23).finishOnConfig .site off

/-- CONFIGURE_POSITION (R75). -/
def execConfigurePosition (s : State) : Host.Outcome State Fault Refusal := cardEvent s .configurePosition decideConfigurePosition

end Sys2Proof.Machine
end

