-- ==== Sys2Proof/Machine/PriceCommands.lean ====
section
/-! DEFINITION. The cards of the Pricing Unit (02, 04). -/
namespace Sys2Proof.Machine

/-- SET PRICING decided (R41): BAD VALUE before BUSY (log 48). -/
def decideSetPricing (off : Nat) (c : Card) (s : State) : State :=
  match RoundMode.ofCode (c.b 0), Form.ofCode (c.b 1) with
  | some m, some f =>
    if c.short .setPricing then s.refuseCard .site .badValue
    else if s.storeClosed then s.refuseCard .site .busy
    else ((s.modPru fun u => { u with siteMode := m, totalsForm := f }).touch .price 8).finishOnConfig .site off
  | _, _ => s.refuseCard .site .badValue

/-- SET_PRICING (R41). -/
def execSetPricing (s : State) : Host.Outcome State Fault Refusal := cardEvent s .setPricing decideSetPricing

/-- CLEAR SITE FLAGS decided (R42). -/
def decideClearSiteFlags (_ : Nat) (c : Card) (s : State) : State :=
  if c.short .clearSiteFlags then s.refuseCard .site .badValue
  else
    let code := s.pru.accrued.code
    ((s.modPru fun u => { u with accrued := .clear }).touch .price 8).finishCard .site (leBytes 0 code 4) .ok

/-- CLEAR_SITE_FLAGS (R42). -/
def execClearSiteFlags (s : State) : Host.Outcome State Fault Refusal := cardEvent s .clearSiteFlags decideClearSiteFlags

/-- LOAD PRICE decided (R86): the pending price is recorded and the card waits; an apply that R83 allows follows in the event. With stop
requested the card is aborted first, and its price withdrawn before any apply (R88, R197; log 54). -/
def decideLoadPrice (_ : Nat) (c : Card) (s : State) : State :=
  match c.grade with
  | none => s.refuseCard .site .badTarget
  | some g =>
    match if c.short .loadPrice ∨ c.w 0 < 1 ∨ 99999 < c.w 0 then none else RoundCode.ofCode (c.b 4) with
    | none => s.refuseCard .site .badValue
    | some code =>
      if s.storeClosed then s.refuseCard .site .busy
      else
        let s := (s.modGrade g fun e => { e with pending := some (c.w 0, code) }).touch .price g.val
        (s.modPru fun u => { u with loading := some { grade := g, applied := false, stored := false } }).waitCard .site
          State.undoLoad

/-- LOAD_PRICE (R86). -/
def execLoadPrice (s : State) : Host.Outcome State Fault Refusal := cardEvent s .loadPrice decideLoadPrice

end Sys2Proof.Machine
end

