-- ==== Sys2Proof/Machine/DisplayCommands.lean ====
section
/-! DEFINITION. The commands of the Display Link Controller (05). -/
namespace Sys2Proof.Machine

/-- LIT_FRAME (R96): without an attempt in flight, or with another write number, the frame is discarded. -/
def execLitFrame (board : Side) (f : LitFrame) (s : State) : Host.Outcome State Fault Refusal :=
  eventWhen s ((s.board board).attempt.any fun (a : Attempt) => a.number == f.number) fun s => s.takeLit board f

/-- ANSWER_TIMEOUT (R96): the attempt in flight has failed. -/
def execAnswerTimeout (board : Side) (s : State) : Host.Outcome State Fault Refusal :=
  eventWhen s (s.board board).attempt.isSome fun s => s.attemptEnds board false

/-- REFRESH_INSTANT (R101, R102): none falls in POWER DOWN (R112). -/
def execRefreshInstant (board : Side) (s : State) : Host.Outcome State Fault Refusal :=
  eventWhen s (!s.powerDown) fun s => s.refreshBoard board

/-- A retry limit is 1, 3, 7 or 15 (R95). -/
def retryLimitOk (n : Nat) : Bool := n == 1 || n == 3 || n == 7 || n == 15

/-- SET DISPLAY POLICY decided (R113): the policy is replaced and the board part of the site mirror written. -/
def decideSetDisplayPolicy (off : Nat) (c : Card) (s : State) : State :=
  match if c.short .setDisplayPolicy || !retryLimitOk (c.b 0) then none else PanelAction.ofCode (c.b 1) with
  | none => s.refuseCard .site .badValue
  | some action =>
    if s.storeClosed then s.refuseCard .site .busy
    else ((s.modDlc fun u => { u with policy := { retryLimit := c.b 0, action := action } }).writeWhole .dlc).finishOnConfig .site off

/-- SET_DISPLAY_POLICY (R113). -/
def execSetDisplayPolicy (s : State) : Host.Outcome State Fault Refusal := cardEvent s .setDisplayPolicy decideSetDisplayPolicy

end Sys2Proof.Machine
end

