-- ==== Sys2Proof/Machine/InputCommands.lean ====
section
/-! DEFINITION. The commands of the Input Watch Unit (06): emergency stop, seal, doors, general inputs, SET WATCH. -/
namespace Sys2Proof.Machine

/-! ## Emergency stop (R120) -/

/-- EMERGENCY_STOP_ASSERTION (R62, R120). -/
def execEmergencyStopAssertion (s : State) : Host.Outcome State Fault Refusal :=
  eventWhen s (s.iwu.emergency != some true) fun s =>
    (((s.modIwu fun u => { u with emergency := some true }).emergencyAt .a).emergencyAt .b).raise .emergencyStop 271

/-- EMERGENCY_STOP_RELEASE (R120): a first recognition as released is not delivered (R117). -/
def execEmergencyStopRelease (s : State) : Host.Outcome State Fault Refusal :=
  let first := s.iwu.emergency == none
  eventWhen s (s.iwu.emergency != some false) fun s =>
    let s := s.modIwu fun u => { u with emergency := some false }
    if first then s else s.raise .emergencyStop 271

/-! ## Seal and doors (R122, R123) -/

/-- A notice is raised for a recognised change of a door or the seal: not for a first recognition as closed (R117). -/
def reports (old : Option Bool) (isOpen : Bool) : Bool := isOpen || old.isSome

/-- SEAL_CHANGE (R122). -/
def execSealChange (isOpen : Bool) (s : State) : Host.Outcome State Fault Refusal :=
  let old := s.iwu.calSeal
  eventWhen s (old != some isOpen) fun s =>
    let s := s.modIwu fun u => { u with calSeal := some isOpen }
    if reports old isOpen then s.raise .seal 270 else s

/-- The recognised level of a door input. -/
def Iwu.door (u : Iwu) : Door → Option Bool
  | .cabinet => u.cabinet
  | .hydraulic => u.hydraulic
/-- A door input's level takes a value. -/
def Iwu.setDoor (u : Iwu) (d : Door) (v : Bool) : Iwu :=
  match d with
  | .cabinet => { u with cabinet := some v }
  | .hydraulic => { u with hydraulic := some v }
/-- Detail of a DOOR notice (R123). -/
def doorDetail : Door → Nat
  | .cabinet => 268
  | .hydraulic => 269

/-- DOOR_CHANGE (R123). -/
def execDoorChange (d : Door) (isOpen : Bool) (s : State) : Host.Outcome State Fault Refusal :=
  let old := s.iwu.door d
  eventWhen s (old != some isOpen) fun s =>
    let s := s.modIwu fun u => u.setDoor d isOpen
    if reports old isOpen then s.raise .door (doorDetail d) else s

/-! ## The general input watch (R124, R125) -/

/-- A pattern of eight positions as a byte. -/
def patternOf (f : Fin 8 → Bool) : Byte :=
  (List.finRange 8).foldl (fun n i => if f i then n ||| (1#8 <<< i.val) else n) 0

/-- The pattern to latch: the recognised levels, masked inputs and inputs without a level inactive (R124). -/
def Iwu.pattern (u : Iwu) : Byte := patternOf fun i => u.general[i] == some true && !u.watch.mask.getLsbD i.val

/-- The unmasked inputs match (R125). -/
def Iwu.matchesCompare (u : Iwu) : Bool :=
  u.watch.mask != 0xFF && (List.finRange 8).all fun i =>
    u.watch.mask.getLsbD i.val || u.general[i] == some (u.watch.compare.getLsbD i.val)

/-- Latches the pattern and raises a watch notice (R124, R125). -/
def State.latch (s : State) (c : Cause) : State :=
  let p := s.iwu.pattern
  (s.modIwu fun u => { u with latched := p }).raise c p.toNat

/-- The evaluation of the match in MATCH mode (R125). -/
def State.evaluateMatch (s : State) : State :=
  if s.iwu.matchesCompare then
    (if s.iwu.armed then (s.latch .watchMatch).modIwu fun u => { u with armed := false } else s)
  else s.modIwu fun u => { u with armed := true }

/-- The general inputs that have a recognised change at an instant, first recognitions left out (R117). -/
def Iwu.changes (u : Iwu) (which levels : Byte) (i : Fin 8) : Bool :=
  which.getLsbD i.val && u.general[i] == some (!levels.getLsbD i.val)

/-- The general inputs after an instant. -/
def Iwu.takeGeneral (u : Iwu) (which levels : Byte) : Iwu :=
  { u with general := Vector.ofFn fun i => if which.getLsbD i.val then some (levels.getLsbD i.val) else u.general[i] }

/-- A change of general inputs judged by the watch (R124, R125). -/
def State.judgeGeneral (s : State) (which levels : Byte) : State :=
  let u := s.iwu
  let s := s.modIwu fun u => u.takeGeneral which levels
  match u.watch.mode with
  | .event => if (List.finRange 8).any fun i => u.changes which levels i && !u.watch.mask.getLsbD i.val then s.latch .watchEvent else s
  | .matching => if (List.finRange 8).any fun i => u.changes which levels i then s.evaluateMatch else s

/-- GENERAL_INPUT_CHANGE (R124, R125). -/
def execGeneralInputChange (which levels : Byte) (s : State) : Host.Outcome State Fault Refusal :=
  eventWhen s (s.iwu.takeGeneral which levels != s.iwu) fun s => s.judgeGeneral which levels

/-- SET WATCH decided (R126): the settings, armed, and in MATCH mode the evaluation of R125, which on a match latches its pattern
(log 50). -/
def decideSetWatch (off : Nat) (c : Card) (s : State) : State :=
  match if c.short .setWatch ∨ c.b 0 < 1 ∨ 20 < c.b 0 then none else WatchMode.ofCode (c.b 1) with
  | none => s.refuseCard .site .badValue
  | some m =>
    if s.storeClosed then s.refuseCard .site .busy
    else
      let s := s.modIwu fun u =>
        { u with watch := { interval := c.b 0, mode := m, mask := c.byte 2, compare := c.byte 3 }, armed := true }
      let s := match m with
        | .event => s
        | .matching => s.evaluateMatch
      ((s.touch .iwu 25).touch .iwu 26).finishOnConfig .site off

/-- SET_WATCH (R126). -/
def execSetWatch (s : State) : Host.Outcome State Fault Refusal := cardEvent s .setWatch decideSetWatch

end Sys2Proof.Machine
end

