-- ==== Sys2Proof/WellFormed.lean ====
section
/-! DEFINITION. Which terms of Instr are commands the spec's rows describe. Operand types that are exact need no check. -/
namespace Sys2Proof

/-- The offsets of the register window at which a register stands: GO0, GO1, GO2, NOTICE, OVERRUN, ENABLE, both bytes of each
halfword (R206). -/
def registerOffsets : List Nat := [0x0, 0x1, 0x2, 0x3, 0x4, 0x5, 0x6, 0x7, 0x8, 0x9, 0xA, 0xB]

/-- A frame end that the receiver of R134 can report: a frame received whole has a length byte of at most 250, and a length byte
judged bad is above 250. -/
def FrameEnd.wellFormed : FrameEnd → Bool
  | .complete _ payload _ => decide (payload.length ≤ 250)
  | .badLength n => decide (250 < n.toNat)
  | .badStop _ => true

/-- The content has the shape of the field: 7, 7, 5 digit positions or four lamps (R93, R94), each digit 0 to 9. -/
def Content.fits : Content → FieldId → Bool
  | .digits ps, .amount => decide (ps.length = 7) && digitsOk ps
  | .digits ps, .volume => decide (ps.length = 7) && digitsOk ps
  | .digits ps, .price => decide (ps.length = 5) && digitsOk ps
  | .digits ps, .grade _ => decide (ps.length = 5) && digitsOk ps
  | .lamps _ _ _ _, .status => true
  | _, _ => false
where
  digitsOk (ps : List Cell) : Bool :=
    ps.all fun c => match c with
      | .digit d => decide (d ≤ 9)
      | .dash => true
      | .blank => true

/-- A command is well formed when it stands for an event of its row: a recognition instant recognises a level, a general input
change names an input, a good LIT frame's content fits its field, a reader frame's end is possible, and an "other" register
write names no register. -/
def Instr.wellFormed : Instr → Bool
  | .recognitionInstant _ a b => a.isSome || b.isSome
  | .generalInputChange which _ => decide (which ≠ 0)
  | .litFrame _ f => !f.wellFormed || f.content.fits f.field
  | .inboundFrame f => f.wellFormed
  | .registerWriteOther offset _ => !registerOffsets.contains offset.toNat
  | _ => true

end Sys2Proof
end

