-- ==== Sys2Proof/Machine/ReaderCommands.lean ====
section
/-! DEFINITION. The commands of the Reader Isolation Unit (07), the tamper inputs among them (R121). -/
namespace Sys2Proof.Machine

/-! ## Tamper loops -/

/-- The recognised level of a tamper loop. -/
def Iwu.loop (u : Iwu) : Loop → Option Bool
  | .enclosure => u.enclosure
  | .cable => u.cable
/-- A tamper loop's level takes a value. -/
def Iwu.setLoop (u : Iwu) (l : Loop) (v : Bool) : Iwu :=
  match l with
  | .enclosure => { u with enclosure := some v }
  | .cable => { u with cable := some v }
/-- Detail of a TAMPER notice (R148). -/
def loopDetail : Loop → Nat
  | .enclosure => 0
  | .cable => 1

/-- Entry to QUARANTINE with its effects everywhere (R148, R152). -/
def State.quarantine (s : State) : State :=
  ((s.enterQuarantine.quarantineAt .a).quarantineAt .b).reportResume 2

/-- LOOP_DEPARTED (R148): a first recognition as departed counts (R117, R121). -/
def execLoopDeparted (l : Loop) (s : State) : Host.Outcome State Fault Refusal :=
  eventWhen s (s.iwu.loop l != some false) fun s =>
    let s := (s.modIwu fun u => u.setLoop l false).raise .loopDeparted (loopDetail l)
    if s.riu.domain = .quarantine then s else s.quarantine

/-- LOOP_RETURNED (R149): a first recognition as normal is not delivered (R117). -/
def execLoopReturned (l : Loop) (s : State) : Host.Outcome State Fault Refusal :=
  let first := s.iwu.loop l == none
  eventWhen s (s.iwu.loop l != some true) fun s =>
    let s := s.modIwu fun u => u.setLoop l true
    if first then s else s.raise .loopReturned (loopDetail l)

/-! ## The settle timer and the floor -/

/-- SETTLE_TIMER_EXPIRY (R130): GATED, a waiting READER ON finishes, a resume opens the link. -/
def execSettleTimerExpiry (s : State) : Host.Outcome State Fault Refusal :=
  eventWhen s (s.riu.domain == .powering && s.riu.settleTimer.isSome) fun s =>
    let s := (s.setDomain .gated).endWaiting .readerOn [] .ok
    if s.riu.resuming then s.openReaderLink.resumeEnds 1 else s

/-- A relay floor is 4000h to 7C00h in steps of 400h (R131). -/
def floorOk (n : Nat) : Bool := decide (0x4000 ≤ n) && decide (n ≤ 0x7C00) && n % 0x400 == 0

/-- SET RELAY FLOOR decided (R132). -/
def decideSetRelayFloor (off : Nat) (c : Card) (s : State) : State :=
  if c.short .setRelayFloor || !floorOk (c.h 0) then s.refuseCard .site .badValue
  else if s.storeClosed then s.refuseCard .site .busy
  else if s.riu.domain ≠ .off ∨ s.riu.armed ≠ [] then s.refuseCard .site .busy
  else ((s.modRiu fun r => { r with floor := c.h 0 }).writeWhole .riu).finishOnConfig .site off

/-- SET_RELAY_FLOOR (R132). -/
def execSetRelayFloor (s : State) : Host.Outcome State Fault Refusal := cardEvent s .setRelayFloor decideSetRelayFloor

/-! ## Inbound frames (R134 to R140) -/

/-- INBOUND_FRAME_START (R134). -/
def execInboundFrameStart (s : State) : Host.Outcome State Fault Refusal :=
  eventWhen s (s.riu.domain == .opened && s.riu.receiver == .outside) fun s =>
    s.modRiu fun r => { r with receiver := .inside }

/-- LINE_SILENCE (R134). -/
def execLineSilence (s : State) : Host.Outcome State Fault Refusal :=
  eventWhen s (s.riu.receiver == .discarding) fun s => s.modRiu fun r => { r with receiver := .outside }

/-- A good frame with room in the answer queue: relayed to the oldest armed receive, or held (R138, R140). -/
def State.goodFrame (s : State) (kind : Byte) (payload : List Byte) : State :=
  match s.riu.armed with
  | e :: rest =>
    let s := s.modRiu fun r => { r with armed := rest, badRun := 0, answers := r.answers ++ [.accept] }
    (s.writeBytes (e.buffer * 256) payload).finishArmed e [(0, kind), (1, BitVec.ofNat 8 payload.length)] .ok
  | [] =>
    (s.modRiu fun r => { r with badRun := 0, answers := r.answers ++ [.hold] }).raise .noBuffer
      (kind.toNat * 256 + payload.length)

/-- A bad frame with room in the answer queue: a REJECT is owed, or the run closes the link (R135, R140). -/
def State.badFrame (s : State) : State :=
  if Config.badRunLimit ≤ s.riu.badRun + 1 then
    (s.closeReaderLink.modRiu fun r => { r with badRun := 0 }).raise .linkErrors 16
  else s.modRiu fun r => { r with badRun := r.badRun + 1, answers := r.answers ++ [.reject] }

/-- A judged frame, none for a bad one; dropped while four answers are owed (R135). -/
def State.judgeFrame (s : State) (next : Receiver) (good : Option (Byte × List Byte)) : State :=
  let s := s.modRiu fun r => { r with receiver := next }
  if Config.answerCapacity ≤ s.riu.answers.length then s
  else match good with
    | some (kind, payload) => s.goodFrame kind payload
    | none => s.badFrame

/-- The frame that a frame's end makes good (R134). -/
def frameGood : FrameEnd → Option (Byte × List Byte)
  | .complete kind payload check =>
    if check = frameCheck kind payload ∧ knownFrameKind kind then some (kind, payload) else none
  | _ => none

/-- Where a frame's end leaves the receiver (R134). -/
def frameNext : FrameEnd → Receiver
  | .complete _ _ _ => .outside
  | .badLength _ => .discarding
  | .badStop last => if last then .outside else .discarding

/-- INBOUND_FRAME (R134). -/
def execInboundFrame (f : FrameEnd) (s : State) : Host.Outcome State Fault Refusal :=
  eventWhen s (s.riu.domain == .opened && s.riu.receiver == .inside && f.wellFormed) fun s => s.judgeFrame (frameNext f) (frameGood f)

/-- INBOUND_FRAME_TIMEOUT (R134): the line has then been silent for 2 ms (log 27). -/
def execInboundFrameTimeout (s : State) : Host.Outcome State Fault Refusal :=
  eventWhen s (s.riu.domain == .opened && s.riu.receiver == .inside) fun s => s.judgeFrame .outside none

/-- The part is sending a frame of its own (R135). -/
def Riu.sending (r : Riu) : Bool :=
  r.orphan || match r.send with
    | some x => x.phase == .sending
    | none => false

/-- ANSWER_BYTE_SENT (R135). -/
def execAnswerByteSent (s : State) : Host.Outcome State Fault Refusal :=
  eventWhen s (s.riu.domain == .opened && !s.riu.answers.isEmpty && !s.riu.sending) fun s =>
    s.modRiu fun r => { r with answers := r.answers.tail }

/-! ## Sends (R141, R142) -/

/-- The attempt in flight waits for its answer (R142). -/
def Riu.awaits (r : Riu) (ph : SendPhase) : Bool :=
  match r.send with
  | some x => x.phase == ph
  | none => false

/-- SEND_FRAME_END (R142): a frame left over from an ended Send ends first (R143; log 26). -/
def execSendFrameEnd (s : State) : Host.Outcome State Fault Refusal :=
  eventWhen s (s.riu.domain == .opened && s.riu.sending) fun s =>
    if s.riu.orphan then s.modRiu fun r => { r with orphan := false }
    else s.modRiu fun r => { r with send := r.send.map fun x => { x with phase := .awaiting } }

/-- An attempt is rejected or ignored: the next begins at once, or the Send finishes NO ANSWER (R142). -/
def State.attemptUsed (s : State) (x : Send) (last : Option AnswerByte) : State :=
  let x := { x with attempts := x.attempts + 1, last := last }
  if x.attempts < Config.sendAttempts then s.modRiu fun r => { r with send := some { x with phase := .sending } }
  else s.finishSend x .noAnswer

/-- An answer ends the attempt that waits (R142). -/
def State.sendAnswered (s : State) (x : Send) (a : AnswerByte) : State :=
  match a with
  | .accept => s.finishSend { x with attempts := x.attempts + 1, last := some .accept } .ok
  | .reject => s.attemptUsed x (some .reject)
  | .hold =>
    if x.holds < Config.holdResends then
      s.modRiu fun r => { r with send := some { x with holds := x.holds + 1, last := some .hold, phase := .holding } }
    else s.finishSend { x with last := some .hold } .noAnswer

/-- READER_ANSWER (R142): outside a frame, while an attempt waits; otherwise the byte is discarded or belongs to a frame. -/
def execReaderAnswer (a : AnswerByte) (s : State) : Host.Outcome State Fault Refusal :=
  eventWhen s (s.riu.domain == .opened && s.riu.receiver == .outside && s.riu.awaits .awaiting) fun s =>
    match s.riu.send with
    | some x => s.sendAnswered x a
    | none => s

/-- SEND_ANSWER_EXPIRY (R142). -/
def execSendAnswerExpiry (s : State) : Host.Outcome State Fault Refusal :=
  eventWhen s (s.riu.awaits .awaiting) fun s =>
    match s.riu.send with
    | some x => s.attemptUsed x x.last
    | none => s

/-- HOLD_DELAY_EXPIRY (R142). -/
def execHoldDelayExpiry (s : State) : Host.Outcome State Fault Refusal :=
  eventWhen s (s.riu.awaits .holding) fun s =>
    s.modRiu fun r => { r with send := r.send.map fun x => { x with phase := .sending } }

/-- The RIU's checks of SEND in their order (R141). -/
def State.sendRefusal (s : State) (buffer : Nat) : Option CardOutcome :=
  if s.storeClosed then some .busy
  else if s.riu.domain = .quarantine then some .blocked
  else if buffer * 256 < s.riu.floor then some .badWindow
  else if s.riu.domain ≠ .opened then some .linkClosed
  else if s.riu.armed.any fun e => e.buffer == buffer then some .inUse
  else none

/-- SEND decided (R141): BAD TARGET before BAD VALUE (log 48); a parity failure on the buffer refuses the card PARITY (10, Card kinds);
otherwise the first attempt begins, its frame on the line also where stop requested aborts the card in the same event (log 62). -/
def decideSend (off : Nat) (c : Card) (s : State) : State :=
  match c.buffer with
  | none => s.refuseCard .reader .badTarget
  | some buffer =>
    if c.short .send ∨ !knownFrameKind (c.byte 0) ∨ c.b 1 < 1 ∨ 250 < c.b 1 then s.refuseCard .reader .badValue
    else match s.sendRefusal buffer with
      | some o => s.refuseCard .reader o
      | none =>
        if s.parityGood (buffer * 256) (c.b 1) then
          let x : Send :=
            { card := off, buffer := buffer, frame := frameBytes (c.byte 0) (s.bytes (buffer * 256) (c.b 1)), attempts := 0,
              holds := 0, last := none, phase := .sending }
          (s.modRiu fun r => { r with send := some x }).waitCard .reader State.undoSend
        else s.refuseCard .reader .parity

/-- SEND (R141). -/
def execSend (s : State) : Host.Outcome State Fault Refusal := cardEvent s .send decideSend

/-! ## Armed receives (R137, R139) -/

/-- The RIU's checks of ARM RECEIVE in their order (R137). -/
def State.armRefusal (s : State) (buffer : Nat) : Option CardOutcome :=
  if s.storeClosed then some .busy
  else if s.riu.domain = .quarantine then some .blocked
  else if buffer * 256 < s.riu.floor then some .badWindow
  else if s.riu.domain = .off ∨ s.riu.domain = .powering then some .linkClosed
  else if Config.armedCapacity ≤ s.riu.armed.length then some .listFull
  else if s.riu.armed.any fun e => e.buffer == buffer then some .inUse
  else none

/-- ARM RECEIVE decided (R137): BAD TARGET before BAD VALUE (log 48). -/
def decideArmReceive (off : Nat) (c : Card) (s : State) : State :=
  match c.buffer with
  | none => s.refuseCard .reader .badTarget
  | some buffer =>
    if c.short .armReceive then s.refuseCard .reader .badValue
    else match s.armRefusal buffer with
      | some o => s.refuseCard .reader o
      | none => s.armCard off c buffer

/-- ARM_RECEIVE (R137). -/
def execArmReceive (s : State) : Host.Outcome State Fault Refusal := cardEvent s .armReceive decideArmReceive

/-- DISARM RECEIVE decided (R139). -/
def decideDisarmReceive (_ : Nat) (c : Card) (s : State) : State :=
  match c.buffer with
  | none => s.refuseCard .reader .badTarget
  | some buffer =>
    match s.riu.armed.find? fun e => e.buffer == buffer with
    | none => s.refuseCard .reader .notFound
    | some e =>
      (((s.modRiu fun r => { r with armed := r.armed.filter fun x => x.buffer != buffer }).finishArmed e [] .withdrawn).touch
        .riu 3).finishCard .reader [] .ok

/-- DISARM_RECEIVE (R139). -/
def execDisarmReceive (s : State) : Host.Outcome State Fault Refusal := cardEvent s .disarmReceive decideDisarmReceive

/-! ## Powering, opening, closing (R144 to R149) -/

/-- READER ON and OPEN LINK are refused CLOSED in NIGHT and POWER DOWN (R144, R145). -/
def State.readerShut (s : State) : Bool := s.ssu.site == .night || s.ssu.site == .powerDown

/-- READER ON decided (R144). -/
def decideReaderOn (_ : Nat) (_ : Card) (s : State) : State :=
  if s.storeClosed then s.refuseCard .reader .busy
  else if s.riu.domain = .quarantine then s.refuseCard .reader .blocked
  else if s.readerShut then s.refuseCard .reader .closed
  else match s.riu.domain with
    | .off => (s.setDomain .powering).waitCard .reader State.undoReaderOn
    | .powering => s.waitCard .reader State.undoReaderOn
    | _ => s.finishCard .reader [] .ok

/-- READER_ON (R144). -/
def execReaderOn (s : State) : Host.Outcome State Fault Refusal := cardEvent s .readerOn decideReaderOn

/-- OPEN LINK decided (R145). -/
def decideOpenLink (_ : Nat) (_ : Card) (s : State) : State :=
  if s.storeClosed then s.refuseCard .reader .busy
  else if s.riu.domain = .quarantine then s.refuseCard .reader .blocked
  else if s.readerShut then s.refuseCard .reader .closed
  else if s.riu.domain = .off ∨ s.riu.domain = .powering then s.refuseCard .reader .busy
  else if !s.loopsNormal then s.refuseCard .reader .blocked
  else (if s.riu.domain = .gated then s.openReaderLink else s).finishCard .reader [] .ok

/-- OPEN_LINK (R145). -/
def execOpenLink (s : State) : Host.Outcome State Fault Refusal := cardEvent s .openLink decideOpenLink

/-- CLOSE LINK decided (R146). -/
def decideCloseLink (_ : Nat) (_ : Card) (s : State) : State :=
  match s.riu.domain with
  | .opened => s.closeReaderLink.finishCard .reader [] .ok
  | .gated => s.finishCard .reader [] .ok
  | _ => s.refuseCard .reader .busy

/-- CLOSE_LINK (R146). -/
def execCloseLink (s : State) : Host.Outcome State Fault Refusal := cardEvent s .closeLink decideCloseLink

/-- READER OFF decided (R147); a resume in progress ends NOT RESUMED when the card takes the domain to OFF (R152). -/
def decideReaderOff (_ : Nat) (_ : Card) (s : State) : State :=
  match s.riu.domain with
  | .quarantine => s.refuseCard .reader .blocked
  | .off => s.finishCard .reader [] .ok
  | .powering | .gated | .opened => (s.readerToOff.finishCard .reader [] .ok).reportResume 2

/-- READER_OFF (R147). -/
def execReaderOff (s : State) : Host.Outcome State Fault Refusal := cardEvent s .readerOff decideReaderOff

/-- RELEASE QUARANTINE decided (R149). -/
def decideReleaseQuarantine (_ : Nat) (_ : Card) (s : State) : State :=
  if s.riu.domain ≠ .quarantine then s.refuseCard .reader .busy
  else if !s.loopsNormal then s.refuseCard .reader .blocked
  else (s.setDomain .off).finishCard .reader [] .ok

/-- RELEASE_QUARANTINE (R149). -/
def execReleaseQuarantine (s : State) : Host.Outcome State Fault Refusal :=
  cardEvent s .releaseQuarantine decideReleaseQuarantine

end Sys2Proof.Machine
end

