-- ==== Sys2Proof/Machine/SiteCommands.lean ====
section
/-! DEFINITION. The commands of the Site Schedule Unit (08). -/
namespace Sys2Proof.Machine

/-! ## The clock and the schedule (R156 to R159) -/

/-- The clock one second later (R156). -/
def Clock.tick (c : Clock) : Clock :=
  if c.second = 86399 then { c with day := (c.day + 1) % 65536, second := 0 } else { c with second := c.second + 1 }

/-- The closing time is reached (R159). -/
def State.closingReached (s : State) : State :=
  match s.ssu.site with
  | .opened => s.enterClosing .schedule
  | .closing => s.modSsu fun u => { u with closingOrigin := some .schedule }
  | .waking => s.modSsu fun u => { u with heldOver := true }
  | .night | .faulted _ | .powerDown => s

/-- The opening time is reached (R159). -/
def State.openingReached (s : State) : State :=
  match s.ssu.site with
  | .closing => s.withdrawClosing 0
  | .night => s.enterWaking .schedule
  | .waking => s.modSsu fun u => { u with heldOver := false }
  | .opened | .faulted _ | .powerDown => s

/-- The clock counts and the schedule is judged, unless it is disabled or suspended (R156, R157, R159). -/
def State.countClock (s : State) : State :=
  let s := s.modSsu fun u => { u with clock := u.clock.tick }
  match s.ssu.schedule with
  | none => s
  | some x =>
    if s.ssu.clock.lost then s
    else if s.ssu.clock.second = x.closing then s.closingReached
    else if s.ssu.clock.second = x.opening then s.openingReached
    else s

/-- CLOCK_COUNT (R156): with main supply off the clock counts on its battery and nothing else happens. -/
def execClockCount (s : State) : Host.Outcome State Fault Refusal :=
  if s.mainSupply then event s State.countClock else .next (s.modSsu fun u => { u with clock := u.clock.tick })

/-! ## Stage timers (R163, R167) -/

/-- The expiry of the present stage's timer (R163 to R168); stage 4's window is METER_SETTLE_EXPIRY's (log 36). -/
def State.stageTimeout (s : State) : State :=
  match s.ssu.wake.stage with
  | 1 => s.storeCheckTimeout
  | 2 => s.displayTimeout
  | 3 => (s.endStage 2 2).beginMeterSettle
  | 5 => s.resumeEnds 2
  | _ => s

/-- STAGE_TIMER_EXPIRY (R163). -/
def execStageTimerExpiry (s : State) : Host.Outcome State Fault Refusal :=
  eventWhen s (s.ssu.site == .waking && s.ssu.stageTimer.isSome && s.ssu.wake.stage != 4) State.stageTimeout

/-- METER_SETTLE_EXPIRY (R167). -/
def execMeterSettleExpiry (s : State) : Host.Outcome State Fault Refusal :=
  eventWhen s (s.ssu.site == .waking && s.ssu.stageTimer.isSome && s.ssu.wake.stage == 4) fun s =>
    (s.endStage 3 0).beginReaderResume

/-! ## Cards (R171 to R174) -/

/-- The schedule of SET SCHEDULE's body, if its values are in range (R171). -/
def Card.schedule (c : Card) : Option (Option Schedule) :=
  match c.b 0 with
  | 0 => some none
  | 1 => if c.w 1 ≤ 86399 ∧ c.w 2 ≤ 86399 ∧ c.w 1 ≠ c.w 2 then some (some { closing := c.w 1, opening := c.w 2 }) else none
  | _ => none

/-- SET SCHEDULE decided (R171). -/
def decideSetSchedule (off : Nat) (c : Card) (s : State) : State :=
  match if c.short .setSchedule then none else c.schedule with
  | none => s.refuseCard .site .badValue
  | some x =>
    if s.storeClosed || s.powerDown then s.refuseCard .site .busy
    else ((s.modSsu fun u => { u with schedule := x }).touch .ssu 1).finishOnConfig .site off

/-- SET_SCHEDULE (R171). -/
def execSetSchedule (s : State) : Host.Outcome State Fault Refusal := cardEvent s .setSchedule decideSetSchedule

/-- SET CLOCK decided (R172): BAD VALUE before BUSY (log 48). -/
def decideSetClock (_ : Nat) (c : Card) (s : State) : State :=
  if c.short .setClock ∨ 65535 < c.w 0 ∨ 86399 < c.w 1 then s.refuseCard .site .badValue
  else if s.powerDown then s.refuseCard .site .busy
  else
    ((s.modSsu fun u => { u with clock := { day := c.w 0, second := c.w 1, lost := false } }).touch .ssu 0).finishCard .site [] .ok

/-- SET_CLOCK (R172). -/
def execSetClock (s : State) : Host.Outcome State Fault Refusal := cardEvent s .setClock decideSetClock

/-- NIGHT NOW decided (R173). That one accepted in OPEN with stop requested makes the whole entry of CLOSING before the closing is withdrawn
(R160, R197) is the model's choice (log 69). -/
def decideNightNow (_ : Nat) (_ : Card) (s : State) : State :=
  match s.ssu.site with
  | .opened => (s.enterClosing .card).waitCard .site State.undoNight
  | .closing => s.waitCard .site State.undoNight
  | .night => s.finishCard .site [] .ok
  | .waking | .faulted _ | .powerDown => s.refuseCard .site .busy

/-- NIGHT_NOW (R173). -/
def execNightNow (s : State) : Host.Outcome State Fault Refusal := cardEvent s .nightNow decideNightNow

/-- The last wake result as it stands in the identity block (R193). -/
def State.lastWakeResult (s : State) : Nat := (s.half 0x0C).toNat

/-- WAKE NOW decided (R174): a short body is refused BAD VALUE before BUSY (R198; log 48). -/
def decideWakeNow (_ : Nat) (c : Card) (s : State) : State :=
  if c.short .wakeNow then s.refuseCard .site .badValue
  else match s.ssu.site with
    | .night | .faulted _ => (s.waitCard .site id).enterWaking .card
    | .closing => (s.withdrawClosing 1).finishCard .site (wakeResult s.lastWakeResult) .ok
    | .opened => s.finishCard .site (wakeResult s.lastWakeResult) .ok
    | .waking | .powerDown => s.refuseCard .site .busy

/-- WAKE_NOW (R174). -/
def execWakeNow (s : State) : Host.Outcome State Fault Refusal := cardEvent s .wakeNow decideWakeNow

end Sys2Proof.Machine
end

