-- ==== Sys2Proof/Machine/StoreCommands.lean ====
section
/-! DEFINITION. The commands of the supplies and the Retained Store Controller (09). -/
namespace Sys2Proof.Machine

/-! ## Supply warning and freeze (R180 to R183) -/

/-- A board at the supply warning: its link stops, its test record goes (R112). -/
def Board.stopLink (b : Board) : Board := { b with attempt := none, test := none, pass := false }

/-- The waiting cards whose operation the warning drops stay TAKEN (R89, R144, R151, R173, R174, R205): SEND and READER ON, NIGHT NOW
and WAKE NOW, and a LOAD PRICE whose price has been applied. -/
def State.dropCards (s : State) : State :=
  let s := s.dropCard .reader
  match s.pru.loading with
  | some l => if l.applied then s.dropCard .site else s
  | none => s.dropCard .site

/-- The step queue is emptied; the step in progress goes on, the night entry and a REBUILD STORE card no longer answered (R161, R180,
R188). -/
def State.emptyQueue (s : State) : State :=
  let rebuild := s.rsc.active.any fun (a : ActiveStep) => a.step.records == allRecords
  (s.modRsc fun r => { r with queue := [], check := .none }).dismiss fun q => q.isNight || (rebuild && q.isCard)

/-- The supply warning (R180). A segment test goes without a result, and the Pricing Unit sets no panel again for it (R112; log 49). -/
def State.warnSupply (s : State) : State :=
  let s := ((s.riuPowerDown.powerDownAt .a).powerDownAt .b).setSite .powerDown
  let s := s.modSsu fun u => { u with closingOrigin := none, closingPhase := none, stageTimer := none }
  let s := ((s.modBoard .a Board.stopLink).modBoard .b Board.stopLink).dropCards.emptyQueue
  (s.modRsc fun r => { r with freeze := .window, frozen := 0, coldWait := false }).raise .supplyWarning 0

/-- SUPPLY_WARNING (R180, R183): in POWER DOWN an assertion only restarts the second of a cold start. -/
def execSupplyWarning (s : State) : Host.Outcome State Fault Refusal :=
  eventWhen s (s.rsc.supplyWarn != some true) fun s =>
    let s := s.modRsc fun r => { r with supplyWarn := some true }
    if s.powerDown then s.modRsc fun r => { r with coldWait := false } else s.warnSupply

/-- The freeze steps of both positions are requested (R182). -/
def State.freezeAll (s : State) : State :=
  let ra := s.freezePosition .a
  let rb := ra.1.freezePosition .b
  let s := rb.1.modRsc fun r =>
    { r with freeze := .steps, frozen := (if ra.2 then 1 else 0) + if rb.2 then 1 else 0 }
  (s.requestStep [.totals, .meters, .unpaidA, .reader] [.freeze .a]).requestStep [.totals, .meters, .unpaidB] [.freeze .b]

/-- FREEZE_WINDOW_EXPIRY (R182). -/
def execFreezeWindowExpiry (s : State) : Host.Outcome State Fault Refusal :=
  eventWhen s (s.powerDown && s.rsc.freeze == .window) State.freezeAll

/-- SUPPLY_WARN_RELEASE (R180, R183). -/
def execSupplyWarnRelease (s : State) : Host.Outcome State Fault Refusal :=
  let first := s.rsc.supplyWarn == none
  eventWhen s (s.rsc.supplyWarn != some false) fun s =>
    s.modRsc fun r => { r with supplyWarn := some false, coldWait := !first && s.powerDown }

/-! ## Power-on, supply fall (R183, R184) -/

/-- What power-on sets before its own effects, from what it keeps: the clock and the store, unless the battery-backed contents were
lost (R157, R184, R185). Store lost is not written into the totals mirror before STORE CHECK ends (R189; log 59). -/
def State.powerOnBase (s : State) : State :=
  let cut := s.rsc.batteryCut
  let clock : Clock := if cut then { day := 0, second := 0, lost := true } else s.ssu.clock
  let store := if cut then Store.unwritten else s.rsc.store
  (State.powerOnValues s.pending s.hostReset clock store s.rsc.batteryLow s.free).modRsc fun r => { r with lost := cut }

/-- The power-on's own effects: the first writes of the IWU's and the RIU's mirror parts (R127, R154; log 55), the wake of origin COLD
START, and the notice of a clock lost while main supply was off, after WAKING (R157, R163; log 47). -/
def State.powerOnEffects (s : State) : State :=
  let s := ((s.writeWhole .iwu).writeWhole .riu).enterWaking .coldStart
  if s.rsc.lost then s.raise .clockLost 0 else s

/-- Power-on as one event (R184). -/
def State.doPowerOn (s : State) : Host.Outcome State Fault Refusal := event s.powerOnBase State.powerOnEffects

/-- POWER_ON (R184): main supply returns. -/
def execPowerOn (s : State) : Host.Outcome State Fault Refusal := if s.mainSupply then .next s else s.doPowerOn

/-- COLD_START (R183). -/
def execColdStart (s : State) : Host.Outcome State Fault Refusal :=
  if s.mainSupply && s.powerDown && s.rsc.freeze == .done && s.rsc.coldWait && s.rsc.supplyWarn == some false then s.doPowerOn
  else .next s

/-- SUPPLY_FALL (R179, R183): the part stops; a step in progress is cut (log 11). -/
def execSupplyFall (s : State) : Host.Outcome State Fault Refusal :=
  if s.mainSupply then
    let store := match s.rsc.active with
      | some a => s.rsc.store.cut a (s.rsc.lost && a.step.records != allRecords) s.free
      | none => s.rsc.store
    .next ({ s with mainSupply := false }.tickFree.modRsc fun r =>
      { r with store := store, active := none, batteryCut := r.batteryLow })
  else .next s

/-! ## Store check and steps (R178, R184) -/

/-- STORE_CHECK_BEGIN (R184). -/
def execStoreCheckBegin (s : State) : Host.Outcome State Fault Refusal :=
  eventWhen s (s.rsc.check == .requested && s.rsc.active.isNone && s.rsc.queue.isEmpty) fun s =>
    s.modRsc fun r => { r with check := .running }

/-- STORE_CHECK_END (R184). -/
def execStoreCheckEnd (s : State) : Host.Outcome State Fault Refusal :=
  eventWhen s (s.rsc.check == .running) State.storeCheckEnds

/-- STORE_STEP_COMPLETION (R178). -/
def execStoreStepCompletion (s : State) : Host.Outcome State Fault Refusal :=
  eventWhen s s.rsc.active.isSome State.completeStep

/-! ## Battery (R157, R185) -/

/-- A battery loss recognised while main supply is present (R157, R185). -/
def State.loseBattery (s : State) : State :=
  let s := s.modRsc fun r => { r with batteryLow := true, lost := true, store := r.store.spoil .header }
  ((s.modSsu fun u => { u with clock := { day := 0, second := 0, lost := true } }).raise .batteryLost 0).raise .clockLost 0

/-- BATTERY_LOSS (R185): with main supply off the contents are lost and power-on finds it (R157; log 16). -/
def execBatteryLoss (s : State) : Host.Outcome State Fault Refusal :=
  if s.mainSupply then (if s.rsc.batteryLow then .next s else event s State.loseBattery)
  else .next (s.modRsc fun r => { r with batteryLow := true, batteryCut := true })

/-- BATTERY_RETURN (R185): store lost stays set. -/
def execBatteryReturn (s : State) : Host.Outcome State Fault Refusal :=
  .next (s.modRsc fun r => { r with batteryLow := false })

/-! ## Cards (R187, R188) -/

/-- READ TOTALS' result words (10, Card kinds; R187). -/
def Total.report (t : Total) (form : Form) (generation : Nat) : List (Nat × Byte) :=
  leBytes 0 (match form with
      | .display => t.volume / 1000
      | .full => t.volume) 8
    ++ leBytes 8 (match form with
      | .display => t.amount / 100
      | .full => t.amount) 8
    ++ leBytes 16 t.sales 4 ++ leBytes 20 generation 4

/-- READ TOTALS decided (R187): BAD TARGET, BAD FORM, BAD VALUE, BUSY, in this order (log 48); with the live generation absent its word is a
free value (log 14). -/
def decideReadTotals (_ : Nat) (c : Card) (s : State) : State :=
  match c.hose with
  | none => s.refuseCard .site .badTarget
  | some (side, h) =>
    match c.reportForm s.pru.totalsForm with
    | none => s.refuseCard .site .badForm
    | some form =>
      if c.short .readTotals then s.refuseCard .site .badValue
      else if s.storeClosed then s.refuseCard .site .busy
      else
        let t := (s.rsc.totals.get side)[h]
        match s.rsc.generation with
        | some g => s.finishCard .site (t.report form g) .ok
        | none => s.tickFree.finishCard .site (t.report form (Config.absentGeneration s.free).toNat) .ok

/-- READ_TOTALS (R187). -/
def execReadTotals (s : State) : Host.Outcome State Fault Refusal := cardEvent s .readTotals decideReadTotals

/-- REBUILD STORE decided (R188). -/
def decideRebuildStore (off : Nat) (_ : Card) (s : State) : State :=
  if s.ssu.site ≠ .faulted .store then s.refuseCard .site .busy
  else if s.iwu.calSeal ≠ some true then s.refuseCard .site .isSealed
  else
    let s := (s.modPos .a fun p => { p with unpaid := [] }).modPos .b fun p => { p with unpaid := [] }
    let s := s.modRsc fun r => { r with totals := { a := Vector.replicate 4 .zero, b := Vector.replicate 4 .zero } }
    (s.storeCard .site).requestStep allRecords [.rebuild, .card .site off]

/-- REBUILD_STORE (R188). -/
def execRebuildStore (s : State) : Host.Outcome State Fault Refusal := cardEvent s .rebuildStore decideRebuildStore

end Sys2Proof.Machine
end

