-- ==== Sys2Proof/Machine/HostCommands.lean ====
section
/-! DEFINITION. The host port (10) and the Notice Controller's registers (11): GO, NOTICE, OVERRUN, ENABLE, host writes and reads,
HRESET_N. -/
namespace Sys2Proof.Machine

/-! ## GO registers (R197) -/

/-- A GO write that the lane's state does not take (R197). -/
def State.ignoreGo (s : State) (l : LaneId) (value : Nat) : State :=
  (s.modLane l fun x => { x with goIgnored := true }).raiseLane l .goIgnored value

/-- A start (R197, R198). -/
def State.startLane (s : State) (l : LaneId) (value : Nat) : State :=
  match (s.lane l).st with
  | .idle | .halted =>
    State.walk walkFuel (s.modLane l fun x =>
      { x with st := .walking, current := value - value % 4, halt := .none, goIgnored := false }) l
  | .walking | .waiting => s.ignoreGo l value

/-- GO_START (R197). -/
def execGoStart (l : LaneId) (value : BitVec 15) (s : State) : Host.Outcome State Fault Refusal :=
  hostEvent s fun s => s.startLane l value.toNat

/-- The undo that the owner of a waiting kind gives (R88, R143, R144, R173, R174). -/
def Kind.undo (k : Kind) (s : State) : State :=
  match k with
  | .loadPrice => s.undoLoad
  | .nightNow => s.undoNight
  | .readerOn => s.undoReaderOn
  | .send => s.undoSend
  | _ => s

/-- An abort (R197, R201). -/
def State.abortLane (s : State) (l : LaneId) : State :=
  match (s.lane l).st with
  | .idle | .halted => s
  | .walking =>
    if (s.lane l).held.isSome then s.modLane l fun x => { x with stopRequested := true }
    else (s.modLane l fun x => { x with st := .idle, stopRequested := false }).raiseLane l .aborted 0
  | .waiting =>
    match s.waitingKind l with
    | some k => k.undo (s.abortCard l)
    | none => s

/-- GO_ABORT (R197): the low bits of the value say nothing. -/
def execGoAbort (l : LaneId) (_value : BitVec 15) (s : State) : Host.Outcome State Fault Refusal :=
  hostEvent s fun s => s.abortLane l

/-! ## Notice registers (R208, R209) -/

/-- The eight bytes of a cause slot (R208; 10, Layouts). -/
def SourceRec.slot (r : SourceRec) (i : Fin 13) : List Byte :=
  [r.causes.setWidth 8, (r.causes >>> 8).setWidth 8, r.first.setWidth 8, (r.first >>> 8).setWidth 8, BitVec.ofNat 8 (i.val + 1), 0, 0, 0]

/-- A source is presented: its slot is written in full, its accumulator emptied (R208). -/
def State.present (s : State) (i : Fin 13) : State :=
  let r := s.ntc.sources[i]
  { s.writeBytes (0x40 + 8 * i.val) (r.slot i) with ntc := { s.ntc with
      sources := s.ntc.sources.set i { causes := 0, first := 0, pending := false, overrun := r.overrun },
      presented := some i } }

/-- NOTICE_READ (R208). -/
def execNoticeRead (s : State) : Host.Outcome State Fault Refusal :=
  hostEvent s fun s =>
    match s.ntc.presented, s.ntc.lowest with
    | none, some i => s.present i
    | _, _ => s

/-- NOTICE_DONE (R208). -/
def execNoticeDone (_value : Half) (s : State) : Host.Outcome State Fault Refusal :=
  hostEvent s fun s => s.modNtc fun n => { n with presented := none }

/-- OVERRUN_WRITE (R209). -/
def execOverrunWrite (value : Half) (s : State) : Host.Outcome State Fault Refusal :=
  hostEvent s fun s => s.modNtc fun n => { n with
    sources := Vector.ofFn fun i => { n.sources[i] with overrun := n.sources[i].overrun && !value.getLsbD i.val } }

/-- ENABLE_WRITE (R209). -/
def execEnableWrite (value : Half) (s : State) : Host.Outcome State Fault Refusal :=
  hostEvent s fun s => s.modNtc fun n => { n with enable := value.setWidth 13 }

/-- REGISTER_WRITE_OTHER (R206): the write is ignored. -/
def execRegisterWriteOther (_offset : Byte) (_value : Half) (s : State) : Host.Outcome State Fault Refusal := .next s

/-! ## Exchange memory (R190 to R192) -/

/-- The offset of the halfword that contains an offset (R191). -/
def halfOffset (a : Nat) : Nat := a - a % 2

/-- HOST_WRITE (R190, R191). -/
def execHostWrite (offset : BitVec 15) (value : Half) (s : State) : Host.Outcome State Fault Refusal :=
  hostEvent s fun s =>
    let a := halfOffset offset.toNat
    if a < Config.poolBase then s.raise .writeRefused a else s.writeHalf a value

/-- A byte fails parity: it is marked where a later read of the part checks it, in the card pool and the relay region (R192; log 24). -/
def State.failParity (s : State) (a : Nat) : State :=
  if Config.poolBase ≤ a then { s with upset := insertRising a s.upset } else s

/-- HOST_PARITY (R192): the byte's parity fails at a host read of its halfword; the byte goes on failing until it is next written. -/
def execHostParity (offset : BitVec 15) (s : State) : Host.Outcome State Fault Refusal :=
  hostEvent s fun s => (s.failParity offset.toNat).raise .hostParity (halfOffset offset.toNat)

/-! ## Host reset (R191, R204) -/

/-- A lane after a host reset (R196, R204). -/
def Lane.hostReset (x : Lane) : Lane :=
  { x with st := .idle, halt := .none, goIgnored := false, stopRequested := false, held := none }

/-- The requester is a card or the LOAD PRICE card, which a host reset abandons (R89, R204). -/
def Requester.ofHost (q : Requester) : Bool := q.isCard || q == .loadPrice

/-- The assertion of HRESET_N (R153, R204, R207 to R209). -/
def State.resetHost (s : State) : State :=
  let s := ((s.modLane .dispense Lane.hostReset).modLane .site Lane.hostReset).modLane .reader Lane.hostReset
  let s := s.undoSend.modRiu fun r => { r with armed := [] }
  let s := (s.modPru fun u => { u with loading := none }).dismiss Requester.ofHost
  { s with ntc := .default, hostReset := true }

/-- HOST_RESET (R204). The site mirror follows in the event what the reset changes of it, an armed list, a Send, a NIGHT NOW or WAKE NOW that
waits, with its generation (R154, R175): R194 and R204 leave every mirror as it is, so that this is the model's choice (log 67). -/
def execHostReset (s : State) : Host.Outcome State Fault Refusal :=
  if s.hostReset then .next s else if s.mainSupply then event s State.resetHost else .next { s with hostReset := true }

/-- HOST_RESET_RELEASE (R191). -/
def execHostResetRelease (s : State) : Host.Outcome State Fault Refusal := .next { s with hostReset := false }

end Sys2Proof.Machine
end

