-- ==== Sys2Proof/Machine/Dispatch.lean ====
section
/-! DEFINITION. exec: one arm per command, one direct call of its meaning. -/
namespace Sys2Proof.Machine

def exec (i : Instr) (s : State) : Host.Outcome State Fault Refusal :=
  match i with
  | .recognitionInstant meter phaseA phaseB => Sys2Proof.Machine.execRecognitionInstant meter phaseA phaseB s
  | .oneSecondPeriod => Sys2Proof.Machine.execOneSecondPeriod s
  | .nozzleLift side hose => Sys2Proof.Machine.execNozzleLift side hose s
  | .nozzleHang side hose => Sys2Proof.Machine.execNozzleHang side hose s
  | .motorSettleExpiry side => Sys2Proof.Machine.execMotorSettleExpiry side s
  | .satelliteNozzleLift side => Sys2Proof.Machine.execSatelliteNozzleLift side s
  | .satelliteNozzleHang side => Sys2Proof.Machine.execSatelliteNozzleHang side s
  | .emergencyStopAssertion => Sys2Proof.Machine.execEmergencyStopAssertion s
  | .emergencyStopRelease => Sys2Proof.Machine.execEmergencyStopRelease s
  | .loopDeparted loop => Sys2Proof.Machine.execLoopDeparted loop s
  | .loopReturned loop => Sys2Proof.Machine.execLoopReturned loop s
  | .sealChange isOpen => Sys2Proof.Machine.execSealChange isOpen s
  | .doorChange door isOpen => Sys2Proof.Machine.execDoorChange door isOpen s
  | .generalInputChange which levels => Sys2Proof.Machine.execGeneralInputChange which levels s
  | .settleWindowExpiry side => Sys2Proof.Machine.execSettleWindowExpiry side s
  | .flowTimerExpiry side => Sys2Proof.Machine.execFlowTimerExpiry side s
  | .authTimerExpiry side => Sys2Proof.Machine.execAuthTimerExpiry side s
  | .authorize => Sys2Proof.Machine.execAuthorize s
  | .cancel => Sys2Proof.Machine.execCancel s
  | .stop => Sys2Proof.Machine.execStop s
  | .resume => Sys2Proof.Machine.execResume s
  | .closeSale => Sys2Proof.Machine.execCloseSale s
  | .readSale => Sys2Proof.Machine.execReadSale s
  | .closePosition => Sys2Proof.Machine.execClosePosition s
  | .openPosition => Sys2Proof.Machine.execOpenPosition s
  | .configurePosition => Sys2Proof.Machine.execConfigurePosition s
  | .configureMeter => Sys2Proof.Machine.execConfigureMeter s
  | .configureHose => Sys2Proof.Machine.execConfigureHose s
  | .setRouting => Sys2Proof.Machine.execSetRouting s
  | .clearMeterFault => Sys2Proof.Machine.execClearMeterFault s
  | .readMeters => Sys2Proof.Machine.execReadMeters s
  | .setPricing => Sys2Proof.Machine.execSetPricing s
  | .clearSiteFlags => Sys2Proof.Machine.execClearSiteFlags s
  | .loadPrice => Sys2Proof.Machine.execLoadPrice s
  | .setDisplayPolicy => Sys2Proof.Machine.execSetDisplayPolicy s
  | .litFrame board frame => Sys2Proof.Machine.execLitFrame board frame s
  | .answerTimeout board => Sys2Proof.Machine.execAnswerTimeout board s
  | .refreshInstant board => Sys2Proof.Machine.execRefreshInstant board s
  | .setWatch => Sys2Proof.Machine.execSetWatch s
  | .setRelayFloor => Sys2Proof.Machine.execSetRelayFloor s
  | .settleTimerExpiry => Sys2Proof.Machine.execSettleTimerExpiry s
  | .inboundFrame frame => Sys2Proof.Machine.execInboundFrame frame s
  | .inboundFrameTimeout => Sys2Proof.Machine.execInboundFrameTimeout s
  | .answerByteSent => Sys2Proof.Machine.execAnswerByteSent s
  | .readerAnswer answer => Sys2Proof.Machine.execReaderAnswer answer s
  | .sendAnswerExpiry => Sys2Proof.Machine.execSendAnswerExpiry s
  | .holdDelayExpiry => Sys2Proof.Machine.execHoldDelayExpiry s
  | .armReceive => Sys2Proof.Machine.execArmReceive s
  | .disarmReceive => Sys2Proof.Machine.execDisarmReceive s
  | .send => Sys2Proof.Machine.execSend s
  | .readerOn => Sys2Proof.Machine.execReaderOn s
  | .openLink => Sys2Proof.Machine.execOpenLink s
  | .closeLink => Sys2Proof.Machine.execCloseLink s
  | .readerOff => Sys2Proof.Machine.execReaderOff s
  | .releaseQuarantine => Sys2Proof.Machine.execReleaseQuarantine s
  | .clockCount => Sys2Proof.Machine.execClockCount s
  | .stageTimerExpiry => Sys2Proof.Machine.execStageTimerExpiry s
  | .meterSettleExpiry => Sys2Proof.Machine.execMeterSettleExpiry s
  | .setSchedule => Sys2Proof.Machine.execSetSchedule s
  | .setClock => Sys2Proof.Machine.execSetClock s
  | .nightNow => Sys2Proof.Machine.execNightNow s
  | .wakeNow => Sys2Proof.Machine.execWakeNow s
  | .supplyWarning => Sys2Proof.Machine.execSupplyWarning s
  | .freezeWindowExpiry => Sys2Proof.Machine.execFreezeWindowExpiry s
  | .supplyWarnRelease => Sys2Proof.Machine.execSupplyWarnRelease s
  | .coldStart => Sys2Proof.Machine.execColdStart s
  | .supplyFall => Sys2Proof.Machine.execSupplyFall s
  | .powerOn => Sys2Proof.Machine.execPowerOn s
  | .storeCheckBegin => Sys2Proof.Machine.execStoreCheckBegin s
  | .storeCheckEnd => Sys2Proof.Machine.execStoreCheckEnd s
  | .storeStepCompletion => Sys2Proof.Machine.execStoreStepCompletion s
  | .batteryLoss => Sys2Proof.Machine.execBatteryLoss s
  | .readTotals => Sys2Proof.Machine.execReadTotals s
  | .rebuildStore => Sys2Proof.Machine.execRebuildStore s
  | .hostReset => Sys2Proof.Machine.execHostReset s
  | .goStart lane value => Sys2Proof.Machine.execGoStart lane value s
  | .goAbort lane value => Sys2Proof.Machine.execGoAbort lane value s
  | .noticeRead => Sys2Proof.Machine.execNoticeRead s
  | .noticeDone value => Sys2Proof.Machine.execNoticeDone value s
  | .overrunWrite value => Sys2Proof.Machine.execOverrunWrite value s
  | .enableWrite value => Sys2Proof.Machine.execEnableWrite value s
  | .registerWriteOther offset value => Sys2Proof.Machine.execRegisterWriteOther offset value s
  | .hostWrite offset value => Sys2Proof.Machine.execHostWrite offset value s
  | .hostParity offset => Sys2Proof.Machine.execHostParity offset s
  | .inboundFrameStart => Sys2Proof.Machine.execInboundFrameStart s
  | .lineSilence => Sys2Proof.Machine.execLineSilence s
  | .sendFrameEnd => Sys2Proof.Machine.execSendFrameEnd s
  | .batteryReturn => Sys2Proof.Machine.execBatteryReturn s
  | .hostResetRelease => Sys2Proof.Machine.execHostResetRelease s

end Sys2Proof.Machine
end

