-- ==== Sys2Proof/Safety.lean ====
section
/-! DEFINITION. What a safe state is, and the terms that statements use: invariants, the parts of a state for frames, what it means that
a lane holds a card and that it has ended, and that nothing waits for the next event. -/
namespace Sys2Proof.Machine

/-! ## Memory and mirrors -/

/-- Exchange memory and the parity marks are in canonical form. -/
def State.memoryOk (s : State) : Prop := Memory.wf s.xm = true ∧ rising s.upset = true

/-- A halfword is even. -/
def evenHalf (h : Half) : Prop := h.toNat % 2 = 0

/-- Every mirror's generation is even (R194: odd only while an update runs). -/
def State.generationsEven (s : State) : Prop :=
  evenHalf s.mirrors.genPositionA ∧ evenHalf s.mirrors.genPositionB ∧ evenHalf s.mirrors.genPrice
    ∧ evenHalf s.mirrors.genTotals ∧ evenHalf s.mirrors.genMeter ∧ evenHalf s.mirrors.genSite

/-! ## Sales -/

/-- A current sale's V is the sum of its claim volumes (R25), and its N and A follow from V under the lock, both 0 before it
(R28, R31). -/
def Sale.lawful (x : Sale) : Prop :=
  x.v = totalVolume x.claims ∧
    match x.lock with
    | none => x.n = 0 ∧ x.amount = 0
    | some l => x.n = x.v * l.e ∧ x.amount = saleAmount l.mode (x.v * l.e)

/-- An ended sale's A is that of its V under its E and mode (R31). -/
def EndedSale.lawful (x : EndedSale) : Prop := x.amount = saleAmount x.mode (x.v * x.e)

/-- Both unpaid lists of record contents hold lawful sales. -/
def Contents.lawful (c : Contents) : Prop :=
  (∀ x ∈ c.unpaid.a, x.lawful) ∧ ∀ x ∈ c.unpaid.b, x.lawful

/-- Every sale of the machine is lawful: current, unpaid, retained, and in the contents that a store step in progress writes. -/
def State.salesLawful (s : State) : Prop :=
  (∀ side x, (s.pos side).sale = some x → x.lawful) ∧ (∀ side, ∀ x ∈ (s.pos side).unpaid, x.lawful)
    ∧ s.rsc.store.contents.lawful ∧ ∀ a, s.rsc.active = some a → a.contents.lawful

/-! ## Positions -/

/-- The states in which a current sale is present (R43). -/
def PosState.selling : PosState → Bool
  | .starting _ | .fuelling | .slowing | .paused | .ending => true
  | _ => false

/-- A current sale is present from STARTING to the end of ENDING and no other time (R43); an authorization in AUTHORIZED and in
STARTING up to the lock (R45), of the origin of the sale it started; a lock from step 4 on (R46); an authorization held by the sale
has the sale's origin. -/
def Position.shaped (p : Position) : Prop :=
  p.sale.isSome = p.st.selling
    ∧ (p.auth.isSome = true ↔ p.st = .authorized ∨ p.st = .starting .gate)
    ∧ (∀ x, p.sale = some x → (x.lock.isSome = true ↔ p.st ≠ .starting .gate))
    ∧ (∀ x a, p.sale = some x → p.auth = some a → a.origin = x.origin)
    ∧ ∀ x a, p.sale = some x → x.held = some a → a.origin = x.origin

/-- No valve is open and no pump on but in the states R47 gives them. -/
def Position.outputsSafe (p : Position) : Prop :=
  (p.fast = true → p.st = .fuelling) ∧ (p.slow = true → p.st = .fuelling ∨ p.st = .slowing)
    ∧ (p.pump = true → p.st = .starting .motor ∨ p.st = .fuelling ∨ p.st = .slowing ∨ p.st = .paused)

/-- No authorization and no sale in STARTING of origin READER (R148). -/
def Position.noReader (p : Position) : Prop :=
  (∀ a, p.auth = some a → a.origin ≠ .reader) ∧ ∀ x, p.sale = some x → p.st.isStarting = true → x.origin ≠ .reader

/-! ## Site, positions and tests -/

/-- The positions fit the site state: CLOSED in NIGHT, WAKING and FAULTED, and in a CLOSING that has left phase POSITIONS (R48, R161, R163);
in CLOSING not in IDLE, CALLING or AUTHORIZED (R48, R160); in POWER DOWN not in AUTHORIZED or STARTING (R180). -/
def State.positionsFit (s : State) : Prop :=
  ∀ side, let st := (s.pos side).st
    ((s.ssu.site = .night ∨ s.ssu.site = .waking ∨ ∃ r, s.ssu.site = .faulted r) → st.isClosed = true)
      ∧ (s.ssu.site = .closing → st ≠ .idle ∧ st ≠ .calling ∧ st ≠ .authorized
          ∧ (s.ssu.closingPhase ≠ some .positions → st.isClosed = true))
      ∧ (s.ssu.site = .powerDown → st ≠ .authorized ∧ st.isStarting = false)

/-- The tests fit the positions: a start check runs only on the board of a position at its step 4 (R108, R109); a segment test only on that
of a CLOSED position, closed for HOST or DISPLAY before stage 2 of a wake, and in stage 2 while the board has no result (R74, R110, R165). -/
def State.testsFit (s : State) : Prop :=
  ∀ side, let st := (s.pos side).st
    (∀ ph, (s.board side).test = some (.startCheck ph) → st = .starting .check)
      ∧ ((s.board side).segment = true → st.isClosed = true
          ∧ (s.ssu.site = .waking ∧ s.ssu.wake.stage = 2 ∧ s.ssu.results.get side = none
            ∨ (st = .closed .host ∨ st = .closed .display) ∧ (s.ssu.site = .waking → s.ssu.wake.stage = 1)))

/-- A store check is asked for, runs or has its HEADER step in progress only in stage 1 of a wake, and a READER RESUME only in stage 5
(R164, R168, R170, R184). -/
def State.wakeFits (s : State) : Prop :=
  (s.rsc.check ≠ .none → s.ssu.site = .waking ∧ s.ssu.wake.stage = 1)
    ∧ (s.riu.resuming = true → s.ssu.site = .waking ∧ s.ssu.wake.stage = 5)

/-- Site, positions, tests and wake fit each other. -/
def State.inOrder (s : State) : Prop := s.positionsFit ∧ s.testsFit ∧ s.wakeFits

/-- Both positions are CLOSED without a sale, as they are throughout WAKING. -/
def State.allClosed (s : State) : Prop := ∀ side, (s.pos side).st.isClosed = true ∧ (s.pos side).sale = none

/-! ## Contents sent to the boards -/

/-- A side's board wants what the Position Controller sends: in its legal fields R105's content of the position unless a test runs or the
freeze of a supply warning has been made, in STATUS R106's lamps unless a segment test runs. -/
def State.contentsSent (s : State) (side : Side) : Prop :=
  ((s.board side).test = none → ¬ (s.ssu.site = .powerDown ∧ (s.rsc.freeze = .steps ∨ s.rsc.freeze = .done)) →
      ∀ f ∈ legalFields, ((s.board side).field f).wanted = (s.pos side).legalContent f)
    ∧ ((s.board side).segment = false → ((s.board side).field .status).wanted = s.statusContent side)

/-! ## Routes and claims -/

/-- The bounds of an entry (R10): a secondary meter, different from the primary, exactly for BLEND and SATELLITE; a ratio for BLEND
alone. -/
def HoseRoute.lawful (e : HoseRoute) : Prop :=
  (e.kind = .single → e.secondary = none) ∧ (e.kind ≠ .single → ∃ m, e.secondary = some m ∧ m ≠ e.primary)
    ∧ (e.kind ≠ .blend → e.ratio = 0) ∧ e.ratio ≤ 100 ∧ e.slowDown ≤ 5000

/-- Every route entry is lawful: of the live table, of the retained one, of one that a store step in progress writes. -/
def State.routesLawful (s : State) : Prop :=
  (∀ side h, (s.route side h).lawful) ∧ (∀ side (h : HoseNo), ((s.rsc.store.contents.config.routes.get side)[h]).lawful)
    ∧ ∀ a, s.rsc.active = some a → ∀ side (h : HoseNo), ((a.contents.config.routes.get side)[h]).lawful

/-- Claim owners and claim entries name each other: each entry of a sale is of a meter that its position owns in the entry's role,
and each claimed meter has its entry in the owner's current sale (R13, R14). -/
def State.claimsAgree (s : State) : Prop :=
  (∀ side x, (s.pos side).sale = some x → ∀ c ∈ x.claims, (s.meter c.meter).owner = some (side, c.role))
    ∧ ∀ m side role, (s.meter m).owner = some (side, role) →
        ∃ x, (s.pos side).sale = some x ∧ ∃ c ∈ x.claims, c.meter = m ∧ c.role = role

/-! ## Reader and clock -/

/-- The bounds of the RIU's records: at most 8 armed receives of distinct buffers (R136), at most 4 owed answers (R135), a bad-frame
run of at most 15 (R128). -/
def Riu.bounded (r : Riu) : Prop :=
  r.armed.length ≤ 8 ∧ (r.armed.map Armed.buffer).Nodup ∧ r.answers.length ≤ 4 ∧ r.badRun ≤ 15

/-- The domain is OFF or QUARANTINE. -/
def Domain.down (d : Domain) : Prop := d = .off ∨ d = .quarantine

/-- The clock's ranges (R156). -/
def Clock.inRange (c : Clock) : Prop := c.day ≤ 65535 ∧ c.second ≤ 86399

/-! ## Mirrors -/

/-- The entries last written into a part of a mirror. -/
def Mirrors.fields (m : Mirrors) : MirrorPart → MirrorEntries
  | .positionA => m.positionA
  | .positionB => m.positionB
  | .price => m.price
  | .totals => m.totals
  | .meterState => m.meterState
  | .meterCounts => m.meterCounts
  | .dlc => m.dlc
  | .iwu => m.iwu
  | .riu => m.riu
  | .ssu => m.ssu

/-- A part of a mirror shows every entry as it stands. -/
def State.mirrored (s : State) (p : MirrorPart) : Prop := s.mirrors.fields p = (s.image p).map some

/-! ## Frames -/

/-- The parts of a state, the mirrors apart, which R194 makes follow the others. -/
inductive Part where
  | queue | lines | memory | parity | lanes | notices | meters | positions | prices | displays | inputs | reader | site | store | free
  deriving DecidableEq, Repr

/-- A part is the same in two states. Memory is compared byte by byte, as it reads. -/
def Part.same (s t : State) : Part → Prop
  | .queue => t.pending = s.pending
  | .lines => t.mainSupply = s.mainSupply ∧ t.hostReset = s.hostReset
  | .memory => ∀ a, Memory.read t.xm a = Memory.read s.xm a
  | .parity => t.upset = s.upset
  | .lanes => t.lanes = s.lanes
  | .notices => t.ntc = s.ntc
  | .meters => t.miu = s.miu
  | .positions => t.psc = s.psc
  | .prices => t.pru = s.pru
  | .displays => t.dlc = s.dlc
  | .inputs => t.iwu = s.iwu
  | .reader => t.riu = s.riu
  | .site => t.ssu = s.ssu
  | .store => t.rsc = s.rsc
  | .free => t.free = s.free

/-- Between two states nothing changes but the parts named. -/
def State.changesOnly (s t : State) (parts : List Part) : Prop := ∀ p, p ∉ parts → p.same s t

/-! ## What waits for the next event -/

/-- Stage 3 of a wake has a panel that is UPDATING (R166). -/
def State.panelsWait (s : State) : Prop :=
  s.ssu.site = .waking → s.ssu.wake.stage = 3 → ∃ g side, ((s.grade g).panels.get side).state = .updating

/-- A closing in phase POSITIONS has a position that is not CLOSED (R161). -/
def State.closingWaits (s : State) : Prop :=
  s.ssu.site = .closing → s.ssu.closingPhase = some .positions → ∃ side, (s.pos side).st.isClosed = false

/-- Every pending price has a sale locked on its grade, or the site is in POWER DOWN (R83). -/
def State.pricesWait (s : State) : Prop :=
  s.ssu.site ≠ .powerDown → ∀ g, (s.grade g).pending.isSome = true → s.lockedOn g = true

/-- A LOAD PRICE in progress waits for its apply, its store step or a panel, or the site is in POWER DOWN (R87, R89). -/
def State.loadWaits (s : State) : Prop :=
  s.ssu.site ≠ .powerDown → ∀ l, s.pru.loading = some l → l.applied = true → l.stored = true → s.updating l.grade = true

/-- No store step in the queue can begin: it waits for the one in progress or for a check (R178, R184). -/
def State.stepsWait (s : State) : Prop := s.rsc.queue = [] ∨ s.rsc.active.isSome = true ∨ s.rsc.check = .running

/-- A start that waits at the price gate goes on waiting: its grade's price stands and is not blocked, its panel is UPDATING (R52,
R81). -/
def State.gateWaits (s : State) (side : Side) : Prop :=
  (s.pos side).st = .starting .gate → ∀ x, (s.pos side).sale = some x →
    (s.grade x.grade).price.isSome = true ∧ ((s.grade x.grade).panels.get side).state = .updating
      ∧ ((s.grade x.grade).panels.get side).blocked = false

/-- A panel whose members make it FAULT or UPDATING is so, or the site is in POWER DOWN: a report that a grade field turns WRITING changes
no panel (R79). It can only where a price was applied during a segment test to a panel with a member in FAULT (R84, R110; log 40). -/
def State.panelsStand (s : State) : Prop :=
  s.ssu.site ≠ .powerDown → ∀ side g, s.panelState g side = .fault ∨ s.panelState g side = .updating →
    ((s.grade g).panels.get side).state = s.panelState g side
      ∧ (((s.grade g).panels.get side).state = .fault → ((s.grade g).panels.get side).posted = false)

/-- What waits goes on waiting: the next event acts on nothing besides its own effect and what that sets going. -/
def State.calm (s : State) : Prop :=
  s.panelsWait ∧ s.closingWaits ∧ s.pricesWait ∧ s.loadWaits ∧ s.stepsWait ∧ (∀ side, s.gateWaits side) ∧ s.panelsStand

/-- Nothing waits: no stage 3, no closing in phase POSITIONS, no pending price, no LOAD PRICE in progress, no store step in the queue, no
start at the price gate. -/
def State.idle (s : State) : Prop :=
  (s.ssu.site = .waking → s.ssu.wake.stage ≠ 3) ∧ (s.ssu.site = .closing → s.ssu.closingPhase ≠ some .positions)
    ∧ (∀ g, (s.grade g).pending = none) ∧ s.pru.loading = none ∧ s.rsc.queue = [] ∧ ∀ side, (s.pos side).st ≠ .starting .gate

/-- Nothing waits, and no report would change a panel: an effect that would let something go on finds nothing that waits. -/
def State.quiet (s : State) : Prop := s.idle ∧ s.panelsStand

/-- No price is pending. -/
def State.noPending (s : State) : Prop := ∀ g, (s.grade g).pending = none

/-- What the start of a night entry touches besides (R161): it follows in the event in which a CLOSING site's last position closes. -/
def State.nightEntry (s : State) : List Part :=
  if s.ssu.site = .closing then [.memory, .parity, .lanes, .notices, .reader, .site, .store] else []

/-- The store can begin a step and write it: no step is in progress, no check runs, the store is readable, and the site is not in
POWER DOWN. -/
def State.storeFree (s : State) : Prop :=
  s.rsc.active = none ∧ s.rsc.check = .none ∧ s.rsc.generation.isSome = true ∧ s.ssu.site ≠ .powerDown

/-- A record holds the same in two contents (R176). -/
def Contents.agrees (c d : Contents) : RecordId → Prop
  | .header => c.restart = d.restart
  | .config => c.config = d.config
  | .prices => c.prices = d.prices
  | .totals => c.totals = d.totals
  | .meters => c.meters = d.meters
  | .unpaidA => c.unpaid.a = d.unpaid.a
  | .unpaidB => c.unpaid.b = d.unpaid.b
  | .reader => c.reader = d.reader

/-- This step has begun, with the live generation and the live values of that moment (R178). -/
def State.stepBegun (s t : State) (records : List RecordId) (who : List Requester) : Prop :=
  ∃ a, t.rsc.active = some a ∧ a.step = { records := records, requesters := who } ∧ some a.generation = s.rsc.generation
    ∧ a.contents = t.liveContents

/-! ## Notices -/

/-- The cause stands in its source's accumulator, and the source is pending (R207). -/
def State.notified (s : State) (c : Cause) : Prop :=
  s.ntc.sources[c.source].pending = true ∧ s.ntc.sources[c.source].causes.getLsbD c.bit = true

/-- The cause stands in the later state, with this detail as its source's first when the source held no cause before (R207). -/
def State.reports (s t : State) (c : Cause) (detail : Nat) : Prop :=
  t.notified c ∧ (s.ntc.sources[c.source].causes = 0 → t.ntc.sources[c.source].first = BitVec.ofNat 16 detail)

/-- The cause is the one cause raised between the two states (R207): it joins its source's set, whose first detail stays when there is one;
the overrun bit is set when the source is the presented one and stays otherwise; the other sources, the presentation and ENABLE stay. -/
def State.reportsAlone (s t : State) (c : Cause) (detail : Nat) : Prop :=
  let x := s.ntc.sources[c.source]
  let y := t.ntc.sources[c.source]
  y.pending = true ∧ (∀ i, y.causes.getLsbD i = (x.causes.getLsbD i || i == c.bit))
    ∧ y.first = (if x.causes = 0 then BitVec.ofNat 16 detail else x.first)
    ∧ y.overrun = (x.overrun || s.ntc.presented == some c.source)
    ∧ (∀ i, i ≠ c.source → t.ntc.sources[i] = s.ntc.sources[i])
    ∧ t.ntc.presented = s.ntc.presented ∧ t.ntc.enable = s.ntc.enable

/-- NOTICE_N is asserted exactly while a source is presented or a pending source is enabled (R210). -/
def State.lineDriven (t : State) : Prop :=
  t.noticeLine = true ↔ t.ntc.presented.isSome = true ∨ ∃ i : Fin 13, t.ntc.sources[i].pending = true ∧ t.ntc.enable.getLsbD i.val = true

/-- The step without the host's requesters, the cards and the LOAD PRICE card, which a host reset abandons (R89, R204). -/
def StoreStep.withoutHost (n : StoreStep) : StoreStep :=
  { n with requesters := n.requesters.filter fun q => match q with
    | .card _ _ | .loadPrice => false
    | .nightReader | .nightMeters | .header | .rebuild | .freeze _ => true }

/-! ## Positions and sales, as statements speak of them -/

/-- A position after the fall-back of R56: AUTHORIZED under the authorization, its timer at the full timeout, the sale gone. -/
def Position.fallenBack (p : Position) (a : Authorization) (r : StartResult) : Position :=
  { p.enter .authorized with
    auth := some a, authTimer := if a.timeout = 0 then none else some (a.timeout * 1000), sale := none, motorTimer := none,
    startResult := r }

/-- A position whose sale has entered ENDING (R59). -/
def Position.endingWith (p : Position) (x : Sale) (r : StopReason) : Position :=
  { p.enter .ending with
    sale := some { x with stop := some r }, flowTimer := none, motorTimer := none, settleTimer := some p.config.settleWindow }

/-- A position whose valves are open for the sale `x`, its flow timer at `seconds`: SLOWING once V has reached V_s (R55, R58). -/
def Position.flowing (p : Position) (x : Sale) (l : Lock) (seconds : Nat) : Position :=
  { p.enter (if l.vs.any (fun vs => decide (vs ≤ x.v)) then .slowing else .fuelling) with
    sale := some { x with held := none }, motorTimer := none, flowTimer := some (seconds * 1000) }

/-- What becomes of the start of `p` when its motor settle time is over: it flows, or ends at once with V at V_t (R34, R55). -/
def Position.settled (p : Position) (x : Sale) (l : Lock) : Position :=
  if l.vt ≤ x.v then p.endingWith { x with held := none } (match l.source with
    | .preset => .preset
    | .limit => .limit)
  else p.flowing x l p.config.firstFlow

/-- A position whose authorization is withdrawn: CALLING with exactly one hose up, IDLE with its flags clear otherwise (R57, R61, R68). -/
def Position.withdrawn (p : Position) (oneUp : Bool) : Position :=
  if oneUp then { p.enter .calling with auth := none, authTimer := none }
  else { p.enter .idle with auth := none, authTimer := none, wrongHose := false, multiLift := false, liftWhileClosed := false }

/-- A position that has entered CLOSED (R48). -/
def Position.closedFor (p : Position) (r : CloseReason) : Position := { p.enter (.closed r) with auth := none, authTimer := none }

/-- A CLOSED position that is let go: IDLE with its flags clear, CLOSED for DISPLAY with the side fault set (R48). -/
def State.readied (s : State) (side : Side) : Position :=
  if (s.board side).sideFault then (s.pos side).enter (.closed .display) else ((s.pos side).enter .idle).clearFlags

/-- The recognition instant with these new levels is a count of the meter by `d` (R4, R5). -/
def State.countsBy (s : State) (m : MeterNo) (a b : Option Bool) (d : Int) : Prop :=
  (s.meter m).phaseA = some false ∧ a = some true
    ∧ ((s.meter m).config.decoding = .single ∧ d = 1
      ∨ (s.meter m).config.decoding = .quadrature ∧ b = none
        ∧ ((s.meter m).phaseB = some false ∧ d = 1 ∨ (s.meter m).phaseB = some true ∧ d = -1))

/-- A sale after a count of the meter by `d`, the blend check and a stop apart: the claim's n and h, V the sum of the claim volumes,
REVERSE; of a locked sale N and A from V, INEXACT and CEILING (R7, R24 to R26, R28 to R31). -/
def Sale.afterCount (x : Sale) (m : MeterNo) (d : Int) : Sale :=
  let claims := x.claims.map fun c => if c.meter = m then { c with n := c.n + d, h := max c.h (c.n + d) } else c
  let v := (claims.map fun c => c.n.toNat * 1000000 / c.k).sum
  let reverse := x.flags.reverse || claims.any fun c => c.meter == m && decide (c.n < 0)
  match x.lock with
  | none => { x with claims := claims, v := v, flags := { x.flags with reverse := reverse } }
  | some l =>
    let rounded := roundAmount l.mode (v * l.e)
    { x with claims := claims, v := v, n := v * l.e, amount := min 9999999 rounded, flags := { x.flags with
        reverse := reverse, inexact := x.flags.inexact || min 9999999 rounded * 10000 != v * l.e,
        ceiling := x.flags.ceiling || decide (9999999 < rounded) } }

/-- The blend check on a sale at its V (R37): none when it is not made, otherwise whether the fraction is out of tolerance. -/
def Sale.offBlend (x : Sale) : Option Bool :=
  x.blend.bind fun b =>
    if b.settleVolume ≤ x.v ∧ 1 ≤ x.v then
      let secondary := ((x.claims.filter fun c => c.role == .secondary).map fun c => c.n.toNat * 1000000 / c.k).sum
      some (decide (b.tolerance < ((100 * secondary / x.v : Nat) - (b.ratio : Int)).natAbs))
    else none

/-- A sale `x` after the blend check on its volume as counted, `y` (R37): the deviation start and the BLEND flag. -/
def Sale.blendChecked (x y : Sale) : Sale :=
  { y with
    deviationStart := match y.offBlend with
      | none => x.deviationStart
      | some false => none
      | some true => some (x.deviationStart.getD y.v)
    flags := { y.flags with blend := x.flags.blend || (y.offBlend == some true && x.deviationStart.isNone) } }

/-- The accrued flags take what the sale gains from `x` to `y` (R40). -/
def State.accrues (s t : State) (x y : Sale) : Prop :=
  let gained := fun f : SaleFlags → Bool => f y.flags && !f x.flags
  t.pru.accrued = {
    inexact := s.pru.accrued.inexact || gained SaleFlags.inexact,
    reverse := s.pru.accrued.reverse || gained SaleFlags.reverse,
    ceiling := s.pru.accrued.ceiling || gained SaleFlags.ceiling,
    discountClamped := s.pru.accrued.discountClamped || gained SaleFlags.discountClamped }

/-- The claims of a sale are released with their counts returned to unclaimed flow, and no other meter changes (R16). -/
def State.claimsReturned (s t : State) (x : Sale) : Prop :=
  (∀ c ∈ x.claims, (t.meter c.meter).owner = none)
    ∧ ((x.claims.map Claim.meter).Nodup → ∀ c ∈ x.claims,
        t.meter c.meter = { s.meter c.meter with
          owner := none, phaseErrors := 0, unclaimed := (s.meter c.meter).unclaimed + BitVec.ofInt 32 c.n })
    ∧ ∀ m, (∀ c ∈ x.claims, c.meter ≠ m) → t.meter m = s.meter m

/-- The claim request of a start through an entry, in its order (R12); none when the route refuses it BLOCKED. -/
def HoseRoute.asks (e : HoseRoute) (en : RouteEnables) : Option (List (MeterNo × Role)) :=
  match e.kind with
  | .single | .satellite => some [(e.primary, .primary)]
  | .blend =>
    if e.ratio = 0 then some [(e.primary, .primary)]
    else e.secondary.bind fun m =>
      if e.ratio = 100 then some [(m, .secondary)]
      else if en.blend then some [(e.primary, .primary), (m, .secondary)] else none

/-- The meter of the satellite request that follows a start's claims at once (R15). -/
def State.satelliteAsked (s : State) (side : Side) (h : HoseNo) : Option MeterNo :=
  let e := s.route side h
  if e.kind = .satellite ∧ s.miu.enables.satellite = true ∧ s.iwu.satellites.get side = some true then e.secondary else none

/-- A meter grants a claim: it has no owner and is OK (R13). -/
def Meter.grants (m : Meter) : Bool := m.owner.isNone && !m.faulted

/-- A start with the hose gets its claims: the entry is lawful, its route refuses nothing, every meter of the request grants (R12, R13). -/
def State.canClaim (s : State) (side : Side) (h : HoseNo) : Prop :=
  (s.route side h).lawful ∧ ∃ rs, (s.route side h).asks s.miu.enables = some rs ∧ ∀ q ∈ rs, (s.meter q.1).grants = true

/-- The claims that a start with the hose gets: those of the request, then the satellite meter's when that is granted (R14, R15). -/
def State.startClaims (s : State) (side : Side) (h : HoseNo) : List (MeterNo × Role) :=
  ((s.route side h).asks s.miu.enables).getD []
    ++ ((s.satelliteAsked side h).filter fun m => (s.meter m).grants).toList.map fun m => (m, .satellite)

/-- The current sale of a start with the hose once its claims are granted (R12, R14, R15, R51). -/
def State.startSale (s : State) (side : Side) (h : HoseNo) (a : Authorization) : Sale :=
  let e := s.route side h
  let en := s.miu.enables
  { tag := a.tag, origin := a.origin, hose := h, grade := e.grade, kind := e.kind,
    satelliteHonoured := decide (e.kind = .satellite) && en.satellite,
    claims := (s.startClaims side h).map fun q => { meter := q.1, role := q.2, n := 0, h := 0, k := (s.meter q.1).config.k },
    blend := if e.kind = .blend ∧ 1 ≤ e.ratio ∧ e.ratio ≤ 99 then
        some { ratio := e.ratio, tolerance := en.tolerance, settleVolume := en.settleVolume } else none,
    held := none, lock := none, v := 0, n := 0, amount := 0, deviationStart := none,
    flags := { SaleFlags.clear with satelliteBusy := (s.satelliteAsked side h).any fun m => !(s.meter m).grants },
    stop := none, started := s.stamp }

/-- The claims of a start are granted, and no other meter changes (R14, R15). -/
def State.claimsGranted (s t : State) (side : Side) (h : HoseNo) : Prop :=
  (∀ q ∈ s.startClaims side h, t.meter q.1 = { s.meter q.1 with owner := some (side, q.2), phaseErrors := 0 })
    ∧ (∀ m, (∀ q ∈ s.startClaims side h, q.1 ≠ m) → t.meter m = s.meter m)
    ∧ ∀ m, s.satelliteAsked side h = some m → (s.meter m).grants = false → s.reports t (.position side .satelliteBusy) (m.val + 1)

/-- A position `p` whose start with the hose has its claims and waits at the price gate (R50 to R52). -/
def State.atGate (s : State) (side : Side) (p : Position) (h : HoseNo) (a : Authorization) : Position :=
  { p.enter (.starting .gate) with
    wrongHose := false, multiLift := false, liftWhileClosed := false, authTimer := none, auth := some a,
    sale := some (s.startSale side h a) }

/-- What the lock fixes from price, discount, mode and preset (R27, R32 to R35): `vl` is the sale limit, `dist` the slow-down
distance. -/
def Lock.fixes (l : Lock) (p d : Nat) (mode : RoundMode) (preset : Preset) (vl dist : Nat) : Prop :=
  l.p = p ∧ l.d = d ∧ l.e = (if p < d + 1 then 1 else p - d) ∧ l.mode = mode
    ∧ l.preset = (match preset with
      | .amount x => .amount (if mode = .fiveCent then x - x % 5 else x)
      | q => q)
    ∧ (let vp := match l.preset with
        | .none => none
        | .volume v => some v
        | .amount x => some (leastVolume mode l.e x)
      l.vt = (match vp with
        | none => min vl (leastVolume mode l.e 9999999)
        | some v => min v (min vl (leastVolume mode l.e 9999999)))
      ∧ l.source = if vp = some l.vt then .preset else .limit)
    ∧ l.vs = if dist = 0 then none else some (l.vt - dist)

/-- A sale at the lock: the lock's values and flags, the authorization held, N and A for the V of its claims (R27 to R31, R53). -/
def Sale.lockedAt (x : Sale) (a : Authorization) (l : Lock) : Sale :=
  let v := (x.claims.map fun c => c.n.toNat * 1000000 / c.k).sum
  let rounded := roundAmount l.mode (v * l.e)
  { x with lock := some l, held := some a, v := v, n := v * l.e, amount := min 9999999 rounded, flags := { x.flags with
      discountClamped := x.flags.discountClamped || decide (l.p < l.d + 1),
      presetAdjusted := x.flags.presetAdjusted || l.preset != a.preset,
      inexact := x.flags.inexact || min 9999999 rounded * 10000 != v * l.e,
      ceiling := x.flags.ceiling || decide (9999999 < rounded) } }

/-- The sale `x` of the start of `p` locks at the grade's price, and its start check runs: AMOUNT and VOLUME show eights, PRICE shows E
(R51, R53, R54, R108). -/
def State.locks (s t : State) (side : Side) (p : Position) (x : Sale) (a : Authorization) (price : Nat) : Prop :=
  ∃ l : Lock, l.fixes price a.discount (s.modeOf (s.grade x.grade).code) a.preset p.config.saleLimit (s.route side x.hose).slowDown
    ∧ t.pos side = { p.enter (.starting .check) with auth := none, sale := some (x.lockedAt a l) }
    ∧ s.accrues t x (x.lockedAt a l)
    ∧ (t.board side).test = some (.startCheck .eights) ∧ ((t.board side).field .amount).wanted = eights .amount
    ∧ ((t.board side).field .volume).wanted = eights .volume ∧ ((t.board side).field .price).wanted = priceValue l.e

/-- The start of `p` has fallen back to AUTHORIZED (R56), which while the site is CLOSING closes the position at once (R48; log 47). -/
def State.fallsBack (s t : State) (side : Side) (p : Position) (a : Authorization) (r : StartResult) (detail : Nat) : Prop :=
  t.notified (.position side .startFailed)
    ∧ (s.ssu.site ≠ .closing → t.pos side = p.fallenBack a r ∧ s.reports t (.position side .startFailed) detail)
    ∧ (s.ssu.site = .closing → t.pos side = (p.fallenBack a r).closedFor .night ∧ s.reports t (.position side .closed) 0)

/-! ## Cards -/

/-- The body of AUTHORIZE carries this authorization, its fields in the ranges checked at the take (R45, R67); of the hose byte the
four low bits are taken. -/
def Card.authorizes (c : Card) (a : Authorization) : Prop :=
  c.w 0 = a.tag.toNat ∧ (c.byte 4).setWidth 4 = a.allowed
    ∧ (match a.preset with
      | .none => c.b 5 = 0
      | .volume v => c.b 5 = 1 ∧ c.w 2 = v
      | .amount x => c.b 5 = 2 ∧ c.w 2 = x ∧ 1 ≤ x ∧ x ≤ 9999999)
    ∧ c.b 6 = a.origin.code ∧ c.w 3 = a.discount ∧ a.discount ≤ 99999 ∧ c.w 4 = a.timeout ∧ a.timeout ≤ 3600

/-- The card's checks let AUTHORIZE go on for the side with this authorization, the position's state apart (R67). -/
def State.authorizable (s : State) (side : Side) (c : Card) (a : Authorization) : Prop :=
  c.to = sideCode side ∧ 5 ≤ c.words.toNat ∧ c.authorizes a ∧ s.ssu.site = .opened ∧ 1 ≤ c.b 4 ∧ c.b 4 < 16
    ∧ (∀ h : HoseNo, a.allowed.getLsbD h.val = true → (s.route side h).fitted = true)
    ∧ (c.b 5 = 1 → 1 ≤ c.w 2 ∧ c.w 2 ≤ (s.pos side).config.saleLimit) ∧ (s.pos side).unpaid.length < 2
    ∧ s.iwu.emergency ≠ some true ∧ (a.origin = .reader → s.riu.domain ≠ .quarantine) ∧ ∀ e ∈ (s.pos side).unpaid, e.tag ≠ a.tag

/-- Main supply is present, and the kind's lane holds this card of the kind, its owner not having decided (R198, R199). -/
def State.holds (s : State) (k : Kind) (off : Nat) (c : Card) : Prop :=
  s.mainSupply = true ∧ (s.lane k.lane).held = some { offset := off, card := c, phase := .undecided }
    ∧ Kind.ofByte c.kind = some k

/-- The card at the offset is written FINISHED-END with the outcome, its lane is IDLE and holds no card, and it is the lane's last
finished card (R200). -/
def State.cardEnded (t : State) (l : LaneId) (off : Nat) (o : CardOutcome) : Prop :=
  t.half (off + 6) = BitVec.ofNat 16 o.code ∧ t.half (off + 4) = CardState.finishedEnd.code
    ∧ (t.lane l).st = .idle ∧ (t.lane l).held = none ∧ (t.lane l).lastFinished = off

/-- When nothing else waits and the card's link shows END, the card has ended with the outcome. -/
def State.endsCard (s t : State) (l : LaneId) (off : Nat) (o : CardOutcome) : Prop :=
  s.calm → s.memoryOk → s.readLink off = .atEnd → t.cardEnded l off o

/-- When nothing else waits and the store is free, the card waits on a store step of the records given, begun with the live values
(R178, R199). -/
def State.startsStep (s t : State) (records : List RecordId) (l : LaneId) (off : Nat) : Prop :=
  s.calm → s.storeFree →
    s.stepBegun t records [.card l off]
    ∧ (t.lane l).st = (s.lane l).st
    ∧ (t.lane l).held = (s.lane l).held.map fun h => { h with phase := .onStore }

/-- The card is refused with the outcome (R199, R200): its state and outcome are written, nothing else of memory, its lane moves on and
raises REFUSED, and nothing else changes. -/
def State.refusesCard (s t : State) (l : LaneId) (off : Nat) (o : CardOutcome) : Prop :=
  s.endsCard t l off o ∧ (s.calm → s.readLink off = .atEnd →
    s.reports t (.lane l .refused) off ∧ (∀ k, k ≠ l → t.lane k = s.lane k)
      ∧ (s.memoryOk → ∀ x, (x < off + 4 ∨ off + 8 ≤ x) → Memory.read t.xm x = Memory.read s.xm x)
      ∧ s.changesOnly t [.memory, .parity, .lanes, .notices, .displays])

/-- The bytes from an address on show the `n` low bytes of a number, least significant first. -/
def State.shows (t : State) (start n value : Nat) : Prop := ∀ i, i < n → Memory.read t.xm (start + i) = BitVec.ofNat 8 (value / 256 ^ i)

/-- The body of the card at the offset shows the sale report in the form (10, The sale report; R73). -/
def State.showsReport (t : State) (off : Nat) (r : Report) (full : Bool) : Prop :=
  t.shows (off + 16) 4 r.tag.toNat ∧ t.shows (off + 20) 1 r.origin.code ∧ t.shows (off + 21) 1 (r.hose.val + 1)
    ∧ t.shows (off + 22) 1 r.grade.val ∧ t.shows (off + 23) 1 r.kind.code ∧ t.shows (off + 24) 1 r.mode ∧ t.shows (off + 25) 1 r.stop
    ∧ t.shows (off + 26) 1 ((if r.recovered then 1 else 0) + if r.ended.isSome then 2 else 0)
    ∧ (∀ b, b < 8 → (Memory.read t.xm (off + 27)).getLsbD b = [r.flags.inexact, r.flags.reverse, r.flags.ceiling,
        r.flags.discountClamped, r.flags.presetAdjusted, r.flags.overrun, r.flags.blend, r.flags.satelliteBusy].getD b false)
    ∧ t.shows (off + 28) 3 r.p ∧ t.shows (off + 31) 3 r.d ∧ t.shows (off + 34) 3 r.e ∧ t.shows (off + 37) 3 r.amount
    ∧ t.shows (off + 40) 4 (if full then r.v else r.v / 10) ∧ t.shows (off + 44) 6 (if full then r.product else 0)
    ∧ t.shows (off + 50) 2 r.started.day ∧ t.shows (off + 52) 3 r.started.second
    ∧ ∀ z, r.ended = some z → t.shows (off + 56) 2 z.day ∧ t.shows (off + 58) 3 z.second

/-- The row that decides a card of the kind. -/
def Kind.command : Kind → Instr
  | .authorize => .authorize
  | .cancel => .cancel
  | .stop => .stop
  | .resume => .resume
  | .closeSale => .closeSale
  | .readSale => .readSale
  | .closePosition => .closePosition
  | .openPosition => .openPosition
  | .configureMeter => .configureMeter
  | .configureHose => .configureHose
  | .setRouting => .setRouting
  | .clearMeterFault => .clearMeterFault
  | .readMeters => .readMeters
  | .setPricing => .setPricing
  | .clearSiteFlags => .clearSiteFlags
  | .configurePosition => .configurePosition
  | .loadPrice => .loadPrice
  | .setDisplayPolicy => .setDisplayPolicy
  | .setWatch => .setWatch
  | .setRelayFloor => .setRelayFloor
  | .setSchedule => .setSchedule
  | .setClock => .setClock
  | .nightNow => .nightNow
  | .wakeNow => .wakeNow
  | .readTotals => .readTotals
  | .rebuildStore => .rebuildStore
  | .readerOn => .readerOn
  | .readerOff => .readerOff
  | .openLink => .openLink
  | .closeLink => .closeLink
  | .send => .send
  | .armReceive => .armReceive
  | .disarmReceive => .disarmReceive
  | .releaseQuarantine => .releaseQuarantine

/-- What a card of the kind is refused with for its target, its form or its body, whatever the part's state (10, Layouts and Card
kinds; R17 to R21, R41, R42, R67 to R72, R74, R75, R86, R113, R126, R132, R137, R139, R141, R171, R172, R174, R187, R198); none for a
kind whose target is not examined and whose body is empty. That a bad target comes first, and a bad form before a bad value, is the
model's choice where no rule gives an order (log 48). -/
def Card.misfits (c : Card) (k : Kind) : Option CardOutcome :=
  let n := c.words.toNat
  let checks := fun target body : Bool => if !target then some CardOutcome.badTarget else if !body then some .badValue else none
  match k with
  | .cancel | .resume | .closePosition | .openPosition => checks (c.to ≤ 1) true
  | .stop => checks (c.to ≤ 2) true
  | .closeSale => checks (c.to ≤ 1) (1 ≤ n)
  | .readSale => if c.to ≤ 1 ∧ c.form = 3 then some .badForm else checks (c.to ≤ 1) (12 ≤ n ∧ c.b 0 ≤ 2)
  | .authorize => checks (c.to ≤ 1) (5 ≤ n ∧ c.b 5 ≤ 2 ∧ (c.b 5 = 2 → 1 ≤ c.w 2 ∧ c.w 2 ≤ 9999999) ∧ c.b 6 ≤ 2 ∧ c.w 3 ≤ 99999
      ∧ c.w 4 ≤ 3600)
  | .configurePosition => checks (c.to ≤ 1) (4 ≤ n ∧ 1000 ≤ c.w 0 ∧ c.w 0 ≤ 99999990 ∧ 5 ≤ c.h 4 ∧ c.h 4 ≤ 120 ∧ 5 ≤ c.h 6 ∧ c.h 6 ≤ 300
      ∧ c.h 8 ≤ 5000 ∧ 100 ≤ c.h 10 ∧ c.h 10 ≤ 2000 ∧ c.b 12 ≤ 1)
  | .configureMeter => checks (1 ≤ c.to ∧ c.to ≤ 8) (2 ≤ n ∧ c.b 0 ≤ 1 ∧ 1 ≤ c.b 2 ∧ 1 ≤ c.b 3 ∧ c.b 3 ≤ 15 ∧ 10000 ≤ c.w 1
      ∧ c.w 1 ≤ 2000000)
  | .configureHose => checks (c.to ≤ 7) (2 ≤ n ∧ c.b 1 ≤ 7 ∧ c.b 2 ≤ 2 ∧ 1 ≤ c.b 3 ∧ c.b 3 ≤ 8
      ∧ (1 ≤ c.b 2 → 1 ≤ c.b 4 ∧ c.b 4 ≤ 8 ∧ c.b 4 ≠ c.b 3) ∧ (c.b 2 = 1 → c.b 5 ≤ 100) ∧ c.h 6 ≤ 5000)
  | .setRouting => checks true (2 ≤ n ∧ 1 ≤ c.b 2 ∧ c.b 2 ≤ 20 ∧ c.w 1 ≤ 10000)
  | .clearMeterFault => checks (1 ≤ c.to ∧ c.to ≤ 8) true
  | .readMeters => checks (1 ≤ c.to ∧ c.to ≤ 8) (5 ≤ n)
  | .setPricing => checks true (1 ≤ n ∧ c.b 0 ≤ 4 ∧ c.b 1 ≤ 1)
  | .clearSiteFlags | .wakeNow => checks true (1 ≤ n)
  | .loadPrice => checks (c.to ≤ 7) (3 ≤ n ∧ 1 ≤ c.w 0 ∧ c.w 0 ≤ 99999 ∧ (c.b 4 ≤ 4 ∨ c.b 4 = 7))
  | .setDisplayPolicy => checks true (1 ≤ n ∧ (c.b 0 = 1 ∨ c.b 0 = 3 ∨ c.b 0 = 7 ∨ c.b 0 = 15) ∧ c.b 1 ≤ 1)
  | .setWatch => checks true (1 ≤ n ∧ 1 ≤ c.b 0 ∧ c.b 0 ≤ 20 ∧ c.b 1 ≤ 1)
  | .setRelayFloor => checks true (1 ≤ n ∧ 0x4000 ≤ c.h 0 ∧ c.h 0 ≤ 0x7C00 ∧ c.h 0 % 0x400 = 0)
  | .setSchedule => checks true (3 ≤ n ∧ (c.b 0 = 0 ∨ c.b 0 = 1 ∧ c.w 1 ≤ 86399 ∧ c.w 2 ≤ 86399 ∧ c.w 1 ≠ c.w 2))
  | .setClock => checks true (2 ≤ n ∧ c.w 0 ≤ 65535 ∧ c.w 1 ≤ 86399)
  | .readTotals => if c.to ≤ 7 ∧ c.form = 3 then some .badForm else checks (c.to ≤ 7) (6 ≤ n)
  | .send => checks (c.to ≤ 127) (2 ≤ n ∧ (c.b 0 = 1 ∨ c.b 0 = 2) ∧ 1 ≤ c.b 1 ∧ c.b 1 ≤ 250)
  | .armReceive => checks (c.to ≤ 127) (1 ≤ n)
  | .disarmReceive => checks (c.to ≤ 127) true
  | .nightNow | .rebuildStore | .readerOn | .readerOff | .openLink | .closeLink | .releaseQuarantine => none

/-- Why the lane halts when it takes the card at the offset (R198). -/
def State.haltsAt (s : State) (off : Nat) : Option HaltReason :=
  let extent := 16 + 4 * min 12 (s.half (off + 10)).toNat
  if off % 4 ≠ 0 ∨ off < 0x800 ∨ s.riu.floor < off + extent then some .badCardAddress
  else if s.upset.any fun a => decide (off ≤ a) && decide (a < off + extent) then some .parity
  else if s.half (off + 4) ≠ 0 then some .staleCard
  else none

/-- What the common checks refuse the card at the offset with (R198). -/
def State.refusesAt (s : State) (l : LaneId) (off : Nat) : Option CardOutcome :=
  match Kind.ofByte (Memory.read s.xm off) with
  | none => some .unknownKind
  | some k => if k.lane ≠ l then some .wrongLane else if 12 < (s.half (off + 10)).toNat then some .badValue else none

/-- The lane has taken the card at the offset, or halted there; a card that the common checks refuse apart (R198, R200). -/
def State.takesNext (s t : State) (l : LaneId) (off : Nat) : Prop :=
  (∀ r, s.haltsAt off = some r →
    (t.lane l).st = .halted ∧ (t.lane l).halt = r ∧ (t.lane l).current = off ∧ (t.lane l).held = none ∧ t.notified (.lane l .halted))
  ∧ (s.haltsAt off = none → s.refusesAt l off = none →
    (t.lane l).st = .walking ∧ (t.lane l).current = off ∧ t.half (off + 4) = CardState.taken.code
      ∧ (t.lane l).held = some { offset := off, card := s.cardAt off, phase := .undecided })

/-- The cards that the lanes hold lie apart from each other, none below the card pool, and their links show END; no armed receive lies
below the card pool. -/
def State.cardsEnd (s : State) : Prop :=
  (∀ l h, (s.lane l).held = some h → 0x800 ≤ h.offset ∧ s.readLink h.offset = .atEnd
      ∧ ∀ k g, (s.lane k).held = some g → k ≠ l → h.offset + 64 ≤ g.offset ∨ g.offset + 64 ≤ h.offset)
    ∧ ∀ e ∈ s.riu.armed, 0x800 ≤ e.card

/-- A card of the kind that waits on the site lane has ended with the outcome (R201). -/
def State.siteCardEnds (s t : State) (k : Kind) (o : CardOutcome) : Prop :=
  s.memoryOk → s.cardsEnd → ∀ off c, s.lanes.site.held = some { offset := off, card := c, phase := .waiting } →
    Kind.ofByte c.kind = some k → t.cardEnded .site off o

/-! ## The reader's cards -/

/-- The cards of the armed receives lie apart from each other and from the card that the reader lane holds, whose link shows END. -/
def State.readerCardsApart (s : State) : Prop :=
  (s.riu.armed.Pairwise fun e f => e.card + 8 ≤ f.card ∨ f.card + 8 ≤ e.card)
    ∧ ∀ h, s.lanes.reader.held = some h →
        s.readLink h.offset = .atEnd ∧ ∀ e ∈ s.riu.armed, e.card + 8 ≤ h.offset ∨ h.offset + 64 ≤ e.card

/-- Every armed receive has finished WITHDRAWN, its state telling the link as read at arming, with NOTE CARD FINISHED where its NOTE flag
is set (R136, R202). -/
def State.armedWithdrawn (s t : State) : Prop :=
  (∀ e ∈ s.riu.armed, e.note = true → t.notified (.lane .reader .noteCardFinished))
    ∧ (s.memoryOk → s.readerCardsApart → ∀ e ∈ s.riu.armed, t.half (e.card + 6) = BitVec.ofNat 16 CardOutcome.withdrawn.code
        ∧ t.half (e.card + 4) = if e.toEnd then CardState.finishedEnd.code else CardState.finishedLink.code)

/-- A card of the kind that waits on the reader lane has finished with the outcome, and the lane is IDLE and holds no card (R200). -/
def State.waiterEnds (s t : State) (k : Kind) (o : CardOutcome) : Prop :=
  s.memoryOk → s.readerCardsApart → ∀ off c, s.lanes.reader.held = some { offset := off, card := c, phase := .waiting } →
    Kind.ofByte c.kind = some k → t.half (off + 6) = BitVec.ofNat 16 o.code ∧ t.half (off + 4) = CardState.finishedEnd.code
      ∧ t.lanes.reader.st = .idle ∧ t.lanes.reader.held = none

/-- A Send in flight has finished CUT, its result word giving attempts used, resends and last answer (R143). -/
def State.sendCut (s t : State) : Prop :=
  ∀ x, s.riu.send = some x → s.waiterEnds t .send .cut
    ∧ (s.memoryOk → s.readerCardsApart → ∀ off c, s.lanes.reader.held = some { offset := off, card := c, phase := .waiting } →
        Kind.ofByte c.kind = some .send → Memory.read t.xm (off + 20) = BitVec.ofNat 8 x.attempts
          ∧ Memory.read t.xm (off + 21) = BitVec.ofNat 8 x.holds ∧ Memory.read t.xm (off + 22) = (match x.last with
            | none => 0
            | some .accept => 1
            | some .hold => 2
            | some .reject => 3))

/-! ## Closing, night and wake -/

/-- The closing is withdrawn (R161, R162): the site is OPEN, the positions closed for NIGHT are let go, the night entry is no longer
answered, a NIGHT NOW that waits finishes WITHDRAWN. -/
def State.closingWithdrawn (s t : State) (detail : Nat) : Prop :=
  s.reports t .closingWithdrawn detail
    ∧ t.ssu = { s.ssu with site := .opened, closingOrigin := none, closingPhase := none, clock := t.ssu.clock }
    ∧ (∀ side, t.pos side = if (s.pos side).st = .closed .night then s.readied side else s.pos side)
    ∧ t.rsc.active = s.rsc.active.map (fun a => { a with step := { a.step with
        requesters := a.step.requesters.filter fun q => q ≠ .nightReader ∧ q ≠ .nightMeters } })

/-- The night entry has begun, the reader at the domain `d` before it (R136, R143, R150, R161): the reader is taken down, an OPEN link
noted in READER, and the READER step asked for. -/
def State.nightBegins (s t : State) (d : Domain) : Prop :=
  t.ssu.closingPhase = some .readerDown ∧ t.riu.domain = (if d = .quarantine then .quarantine else .off)
    ∧ t.rsc.reader = (d == .opened) ∧ (d = .opened ∨ d = .gated → s.armedWithdrawn t) ∧ (d = .opened → s.sendCut t)
    ∧ (s.storeFree → s.stepBegun t [.reader] [.nightReader])

/-- Stage 3 has begun (R107, R166): every grade field is posted and every panel that has members is UPDATING; with no such panel the
stage is over at once. -/
def State.pricePanels (s t : State) : Prop :=
  (∀ side h, ((t.board side).field (.grade h)).wanted = s.gradeContent side h
      ∧ ((t.board side).field (.grade h)).retries = s.dlc.policy.retryLimit ∧ ((t.board side).field (.grade h)).st ≠ .current)
    ∧ (∀ g side, ((t.grade g).panels.get side).state = .updating ∨ ((t.grade g).panels.get side).state = .unused)
    ∧ ((∃ g side, ((t.grade g).panels.get side).state = .updating) → t.ssu.wake.stage = 3 ∧ t.ssu.stageTimer = some 20000)

/-- Stage 2 has ended with these results (R165): both failed, FAULTED for DISPLAY with result 5 and a WAKE NOW that waits BLOCKED; stage 3
otherwise. -/
def State.displayTested (s t : State) (a b : Bool) : Prop :=
  let code := (if a then 0 else 1) + if b then 0 else 2
  s.reports t .stage (512 + code) ∧ t.ssu.wake.outcomes[1] = some code
    ∧ (code ≠ 3 → t.ssu.site = .waking ∧ s.pricePanels t)
    ∧ (code = 3 → t.ssu.site = .faulted .display ∧ t.ssu.stageTimer = none ∧ t.notified .faulted ∧ s.siteCardEnds t .wakeNow .blocked
        ∧ (s.memoryOk → s.cardsEnd → t.half 0x0C = 5))

/-- The wake has ended with stage 6 (R48, R163, R169): CLOSING with result 3 when the closing is due, with the night entry begun when both
positions are CLOSED; otherwise OPEN with result 1 or 2, each position closed for WAKE let go. A WAKE NOW that waits finishes OK. -/
def State.wakeEnds (s t : State) (d : Domain) : Prop :=
  let result := if s.ssu.closingDue then 3 else if s.ssu.wake.outcomes[1] = some 1 ∨ s.ssu.wake.outcomes[1] = some 2 then 2 else 1
  let readied := [Side.a, .b].filter fun side => (s.pos side).st == .closed .wake && !(s.board side).sideFault
  t.ssu.wake.stage = 6 ∧ t.ssu.stageTimer = none ∧ t.riu.resuming = false ∧ s.siteCardEnds t .wakeNow .ok
    ∧ (s.memoryOk → s.cardsEnd → t.half 0x0C = BitVec.ofNat 16 result)
    ∧ (s.ssu.closingDue = false → t.ssu.site = .opened ∧ t.notified .siteOpen ∧ t.ssu.wake.outcomes[5] = some readied.length
        ∧ ∀ side, t.pos side = if (s.pos side).st = .closed .wake then s.readied side else s.pos side)
    ∧ (s.ssu.closingDue = true → s.rsc.generation.isSome = true → t.ssu.site = .closing ∧ t.ssu.closingOrigin = some .schedule ∧ t.notified .closing
        ∧ t.ssu.wake.outcomes[5] = some 0
        ∧ ((∀ side, (s.pos side).st.isClosed = true) → s.lanes.site.held = none → s.nightBegins t d
            ∧ ∀ side, t.pos side = if (s.pos side).st = .closed .wake then (s.pos side).enter (.closed .night) else s.pos side))

end Sys2Proof.Machine
end

