-- ==== Sys2Proof/Certificates/Slice0/Obligations.lean ====
section
/-! DEFINITION. The statements for the provers: what the rules of spec/ say of the commands and of the whole part. Where a clause is the
model's choice the docstring names its log entry. A command's statement has three parts: that it completes in a next state under
conditions on the state and the operands alone; the values the rule gives; and, when nothing else waits for the next event
(`State.calm`), the frame. -/

open Sys2Proof Sys2Proof.Machine

/-! ## The step, the reset state, the invariants -/

/-- The step takes the command at the front of the queue and runs it on the state with the queue's rest; on an empty queue the block
idles (log 3). -/
def Obligations.StepRunsTheFrontCommand : Prop :=
  (∀ (c : Instr) (rest : List Instr) (s : State), s.pending = c :: rest → step s = exec c { s with pending := rest })
    ∧ ∀ s : State, s.pending = [] → step s = .next s

/-- The reset state has every invariant stated below. The values that no rule gives are the model's (log 5). -/
def Obligations.ResetHasTheInvariants : Prop :=
  State.reset.memoryOk ∧ State.reset.generationsEven ∧ State.reset.salesLawful ∧ (∀ side, (State.reset.pos side).shaped)
    ∧ (∀ side, (State.reset.pos side).outputsSafe) ∧ (∀ side, State.reset.contentsSent side) ∧ State.reset.routesLawful
    ∧ State.reset.claimsAgree ∧ State.reset.riu.bounded ∧ State.reset.ssu.clock.inRange
    ∧ (State.reset.riu.domain = .quarantine → ∀ side, (State.reset.pos side).noReader)
    ∧ (State.reset.ssu.site = .night → State.reset.riu.domain.down) ∧ State.reset.inOrder

/-- Every step keeps exchange memory and the parity marks in canonical form. -/
def Obligations.MemoryKeepsItsForm : Prop :=
  ∀ s t : State, s.memoryOk → step s = .next t → t.memoryOk

/-- Every step keeps each sale's V the sum of its claim volumes and its N and A those of V, and each ended sale's A that of its V
(R25, R28, R31). -/
def Obligations.SalesStayLawful : Prop :=
  ∀ s t : State, s.salesLawful → step s = .next t → t.salesLawful

/-- Every step keeps each position's sale, authorization and lock present exactly in the states that have them (R43, R45, R46). -/
def Obligations.PositionsStayShaped : Prop :=
  ∀ s t : State, (∀ side, (s.pos side).shaped) → step s = .next t → ∀ side, (t.pos side).shaped

/-- Every step keeps valves shut and pumps off but in the states that R47 gives them, and the boards' wanted contents of the legal fields
and of STATUS, which the Position Controller sends, those of its position: of the legal fields unless a test runs or the freeze of a supply
warning has been made, of STATUS unless a segment test runs (R105, R106, R109). That R105's exception is of the legal contents alone and
holds from the freeze on is the model's reading (log 65). -/
def Obligations.OutputsStaySafe : Prop :=
  (∀ s t : State, (∀ side, (s.pos side).outputsSafe) → step s = .next t → ∀ side, (t.pos side).outputsSafe)
    ∧ ∀ s t : State, (∀ side, s.contentsSent side) → step s = .next t → ∀ side, t.contentsSent side

/-- Every step keeps claim owners and claim entries naming each other, so that no meter is claimed by two sales (R13, R14), given lawful
route entries and well-shaped positions, which every step keeps too. -/
def Obligations.ClaimsStayInAgreement : Prop :=
  ∀ s t : State, s.routesLawful → (∀ side, (s.pos side).shaped) → s.claimsAgree → step s = .next t → t.routesLawful ∧ t.claimsAgree

/-- Every step keeps QUARANTINE free of authorizations and starting sales of origin READER (R148), given well-shaped positions; and only
RELEASE QUARANTINE and a power-on end a quarantine (R128, R149). -/
def Obligations.QuarantineHolds : Prop :=
  (∀ s t : State, (∀ side, (s.pos side).shaped) → (s.riu.domain = .quarantine → ∀ side, (s.pos side).noReader) → step s = .next t →
    t.riu.domain = .quarantine → ∀ side, (t.pos side).noReader)
  ∧ ∀ (c : Instr) (s t : State), c ≠ .releaseQuarantine → c ≠ .powerOn → c ≠ .coldStart → s.riu.domain = .quarantine →
    exec c s = .next t → t.riu.domain = .quarantine

/-- Every step keeps the reader down in NIGHT (R150, R161). Every step keeps site, positions, tests and wake fitting each other
(`State.inOrder`): every position CLOSED in NIGHT, WAKING and FAULTED, none in IDLE, CALLING or AUTHORIZED in CLOSING, every one CLOSED in
a CLOSING that has left phase POSITIONS, none in AUTHORIZED or STARTING in POWER DOWN (R48, R160, R161, R163, R180); a start check only at
step 4 of a start and a segment test only at a CLOSED position (R108 to R110); a store check only in stage 1 of a wake and a READER RESUME
only in stage 5 (R164, R168). So in NIGHT and WAKING no position has a sale and no meter is claimed (R13, R43). -/
def Obligations.NightKeepsTheReaderDown : Prop :=
  (∀ s t : State, (s.ssu.site = .night → s.riu.domain.down) → step s = .next t → t.ssu.site = .night → t.riu.domain.down)
    ∧ (∀ s t : State, s.inOrder → step s = .next t → t.inOrder)
    ∧ ∀ s : State, s.inOrder → (∀ side, (s.pos side).shaped) → s.claimsAgree → (s.ssu.site = .night ∨ s.ssu.site = .waking) →
        s.allClosed ∧ ∀ m, (s.meter m).owner = none

/-- Every step keeps the bounds of the armed list, the answer queue and the bad-frame run (R128, R135, R136), and the clock in its
ranges (R156). -/
def Obligations.BoundsAreKept : Prop :=
  (∀ s t : State, s.riu.bounded → step s = .next t → t.riu.bounded)
    ∧ ∀ s t : State, s.ssu.clock.inRange → step s = .next t → t.ssu.clock.inRange

/-- Every step leaves every mirror's generation even (R194); and a mirror part that shows its fields as they stand goes on doing so
through every command of the powered part (R76, R92, R114, R127, R154, R175, R189), the meters' count fields apart, which R22 has written
at moments of their own. What counts as one update is the model's reading (log 8). -/
def Obligations.MirrorsFollowTheirOwners : Prop :=
  (∀ s t : State, s.generationsEven → step s = .next t → t.generationsEven)
    ∧ ∀ (c : Instr) (s t : State) (p : MirrorPart), s.mainSupply = true → c ≠ .supplyFall → c ≠ .coldStart → p ≠ .meterCounts →
      exec c s = .next t → s.mirrored p → t.mirrored p

/-- Whatever an inbound reader frame carries, it reaches no position, meter, price, board, input or site record: two frames that end
at the same moment leave the same there (07). -/
def Obligations.ReaderFramesStayIsolated : Prop :=
  ∀ (f g : FrameEnd) (s t u : State), f.wellFormed = true → g.wellFormed = true → exec (.inboundFrame f) s = .next t →
    exec (.inboundFrame g) s = .next u →
    t.psc = u.psc ∧ t.miu = u.miu ∧ t.pru = u.pru ∧ t.dlc = u.dlc ∧ t.iwu = u.iwu ∧ t.ssu = u.ssu

/-! ## Meters (01) -/

/-- QUADRATURE decoding (R4), while counting (R23): phase A alone to high counts by phase B's level, phase A alone to low and phase B
alone do not count, both together are a phase error and no count; the levels take their new values in every case; a full cycle of the
phases is one count, by its direction. The first level of a phase is no edge and no count (R3), nor anything else of the meter; an instant
at which one phase gets its first level and the other has one is the model's reading of R4, stated with the unclaimed count and the phase
error (log 9). -/
def Obligations.QuadratureDecoding : Prop :=
  (∀ (s : State) (m : MeterNo) (a b : Bool), s.mainSupply = true → s.miu.counting = true →
    (s.meter m).config.decoding = .quadrature → (s.meter m).phaseA = some a → (s.meter m).phaseB = some b →
    (∃ t, exec (.recognitionInstant m (some !a) none) s = .next t ∧ (t.meter m).phaseA = some !a ∧ (t.meter m).phaseB = some b
      ∧ (t.meter m).lifetime = (s.meter m).lifetime + (if a then 0 else if b then -1 else 1)
      ∧ (t.meter m).tally = (s.meter m).tally + (if a then 0 else 1))
    ∧ (∃ t, exec (.recognitionInstant m none (some !b)) s = .next t ∧ (t.meter m).phaseA = some a ∧ (t.meter m).phaseB = some !b
      ∧ (t.meter m).lifetime = (s.meter m).lifetime ∧ (t.meter m).tally = (s.meter m).tally)
    ∧ ∃ t, exec (.recognitionInstant m (some !a) (some !b)) s = .next t ∧ (t.meter m).phaseA = some !a
      ∧ (t.meter m).phaseB = some !b ∧ (t.meter m).lifetime = (s.meter m).lifetime ∧ (t.meter m).tally = (s.meter m).tally
      ∧ ((s.meter m).faulted = false → (s.meter m).owner = none → s.reports t .phaseError (m.val + 1)))
  ∧ (∀ (s : State) (m : MeterNo), s.mainSupply = true → s.miu.counting = true → (s.meter m).config.decoding = .quadrature →
    (s.meter m).phaseA = some false → (s.meter m).phaseB = some false →
    let up := fun (n : BitVec 48) (x y z w : Instr) => ∃ t1, exec x s = .next t1 ∧ ∃ t2, exec y t1 = .next t2
      ∧ ∃ t3, exec z t2 = .next t3 ∧ ∃ t4, exec w t3 = .next t4
      ∧ (t4.meter m).lifetime = (s.meter m).lifetime + n ∧ (t4.meter m).phaseA = some false ∧ (t4.meter m).phaseB = some false
    let a := fun v : Bool => Instr.recognitionInstant m (some v) none
    let b := fun v : Bool => Instr.recognitionInstant m none (some v)
    up 1 (a true) (b true) (a false) (b false) ∧ up (-1) (b true) (a true) (b false) (a false))
  ∧ ∀ (s : State) (m : MeterNo) (a b : Option Bool), s.mainSupply = true → (s.meter m).config.decoding = .quadrature →
    (a.isSome = true → (s.meter m).phaseA = none) → (b.isSome = true → (s.meter m).phaseB = none) →
    ∃ t, exec (.recognitionInstant m a b) s = .next t ∧ (t.meter m).phaseA = a.or (s.meter m).phaseA
      ∧ (t.meter m).phaseB = b.or (s.meter m).phaseB ∧ (t.meter m).lifetime = (s.meter m).lifetime
      ∧ (t.meter m).tally = (s.meter m).tally ∧ (t.meter m).faulted = (s.meter m).faulted
      ∧ (s.calm → t.meter m = { s.meter m with phaseA := a.or (s.meter m).phaseA, phaseB := b.or (s.meter m).phaseB }
          ∧ s.changesOnly t [.meters, .displays])

/-- SINGLE decoding (R5), while counting (R23): phase A to high counts +1 whatever phase B shows; no other change counts, the first level
of phase A, low or high, among them (R3), and two phases at one instant make no phase error; phase B's level is recognised all the same.
CONFIGURE METER changes the decoding with the levels carried over and without a count. -/
def Obligations.SingleDecoding : Prop :=
  (∀ (s : State) (m : MeterNo) (b : Option Bool), s.mainSupply = true → s.miu.counting = true →
    (s.meter m).config.decoding = .single → (s.meter m).phaseA = some false →
    ∃ t, exec (.recognitionInstant m (some true) b) s = .next t ∧ (t.meter m).phaseA = some true
      ∧ (t.meter m).phaseB = b.or (s.meter m).phaseB
      ∧ (t.meter m).lifetime = (s.meter m).lifetime + 1 ∧ (t.meter m).tally = (s.meter m).tally + 1
      ∧ (t.meter m).faulted = (s.meter m).faulted
      ∧ (s.calm → (s.meter m).owner = none → (t.meter m).phaseErrors = (s.meter m).phaseErrors))
  ∧ (∀ (s : State) (m : MeterNo) (a b : Option Bool), s.mainSupply = true → (s.meter m).config.decoding = .single →
    ((s.meter m).phaseA = some false → a ≠ some true) →
    ∃ t, exec (.recognitionInstant m a b) s = .next t ∧ (t.meter m).lifetime = (s.meter m).lifetime
      ∧ (t.meter m).tally = (s.meter m).tally ∧ (t.meter m).faulted = (s.meter m).faulted
      ∧ (s.calm → t.meter m = { s.meter m with phaseA := a.or (s.meter m).phaseA, phaseB := b.or (s.meter m).phaseB }
          ∧ s.changesOnly t [.meters, .displays]))
  ∧ ∀ (s : State) (off : Nat) (c : Card) (m : MeterNo) (g : MeterConfig), s.holds .configureMeter off c → c.meter = some m →
    2 ≤ c.words.toNat → c.meterConfig = some g → s.storeClosed = false → s.iwu.calSeal = some true → (s.meter m).owner = none →
    ∃ t, exec .configureMeter s = .next t ∧ (t.meter m).config.decoding = g.decoding ∧ (t.meter m).phaseA = (s.meter m).phaseA
      ∧ (t.meter m).phaseB = (s.meter m).phaseB ∧ (t.meter m).lifetime = (s.meter m).lifetime
      ∧ (t.meter m).tally = (s.meter m).tally

/-- An unclaimed count under either decoding (R7, R8): it moves lifetime, unclaimed and since-report counts by its sign. UNCLAIMED FLOW is
raised and the since-report count cleared when its magnitude reaches the creep limit, and, whichever way the count goes, when it stood at
or above a lowered limit before; otherwise no notice is raised. Nothing else changes when nothing else waits. That a limit lowered by a
restored CONFIG record acts as one that CONFIGURE METER lowers is the model's reading (log 56). Phase A alone to high while phase B has no
recognised level, for which R4 has no row, counts forward, backward or not at all, and the count acts as any other (log 9). -/
def Obligations.UnclaimedCountReportsCreep : Prop :=
  (∀ (s : State) (m : MeterNo) (a b : Option Bool) (d : Int), s.mainSupply = true → s.miu.counting = true → s.countsBy m a b d →
    (s.meter m).owner = none →
    let n : Int := (s.meter m).sinceReport + d
    let limit := (s.meter m).config.creepLimit
    let due := decide (limit ≤ n.natAbs) || decide (limit ≤ (s.meter m).sinceReport.natAbs)
    ∃ t, exec (.recognitionInstant m a b) s = .next t
      ∧ (t.meter m).lifetime = (s.meter m).lifetime + BitVec.ofInt 48 d ∧ (t.meter m).tally = (s.meter m).tally + 1
      ∧ (t.meter m).sinceReport = (if due then 0 else n)
      ∧ (due = true → s.reports t .unclaimedFlow (m.val + 1))
      ∧ (s.calm → (t.meter m).unclaimed = (s.meter m).unclaimed + BitVec.ofInt 32 d ∧ (due = false → t.ntc = s.ntc)
          ∧ (∀ x, x ≠ m → t.meter x = s.meter x) ∧ s.changesOnly t [.meters, .notices, .displays]))
  ∧ ∀ (s : State) (m : MeterNo) (b : Option Bool), s.mainSupply = true → s.miu.counting = true →
    (s.meter m).config.decoding = .quadrature → (s.meter m).phaseA = some false → (s.meter m).phaseB = none →
    ∃ t, exec (.recognitionInstant m (some true) b) s = .next t ∧ (t.meter m).phaseA = some true ∧ (t.meter m).phaseB = b
      ∧ ∃ d : Int, (d = 0 ∨ d = 1 ∨ d = -1) ∧ (t.meter m).lifetime = (s.meter m).lifetime + BitVec.ofInt 48 d
        ∧ (t.meter m).tally = (s.meter m).tally + d.natAbs
        ∧ ((s.meter m).owner = none →
          let n : Int := (s.meter m).sinceReport + d
          let limit := (s.meter m).config.creepLimit
          let due := decide (d ≠ 0) && (decide (limit ≤ n.natAbs) || decide (limit ≤ (s.meter m).sinceReport.natAbs))
          (t.meter m).sinceReport = (if due then 0 else n) ∧ (due = true → s.reports t .unclaimedFlow (m.val + 1))
            ∧ (s.calm → (t.meter m).unclaimed = (s.meter m).unclaimed + BitVec.ofInt 32 d ∧ (due = false → t.ntc = s.ntc)
                ∧ (∀ x, x ≠ m → t.meter x = s.meter x) ∧ s.changesOnly t [.meters, .notices, .displays, .free]))

/-- A count of a claimed meter reaches its sale by the position's state (R7, R24 to R26, R28 to R31, R37, R40, R58, R60): the claim, V, N,
A and the flags follow in every state, and a gained flag is accrued. A dispensing sale restarts its flow timer at a forward count, has
its blend checked, ends for a reverse excursion, a lasting deviation or at its target, and otherwise slows down at its slow-down point;
a start with a reverse excursion falls back with REVERSE; a sale in ENDING or frozen only follows. Of several stop reasons met by one
count any may be taken (log 10). That the first detail of the fall-back's START FAILED is the meter's number is the model's choice
(log 28), and so is CLOSED before it where the site is CLOSING (log 47). -/
def Obligations.ClaimedCountReachesTheSale : Prop :=
  ∀ (s : State) (m : MeterNo) (a b : Option Bool) (d : Int) (side : Side) (role : Role) (x : Sale), s.mainSupply = true →
    s.miu.counting = true → s.countsBy m a b d → (s.meter m).owner = some (side, role) → (s.pos side).sale = some x →
    let p := s.pos side
    let y := x.afterCount m d
    let z := x.blendChecked y
    let frozen := s.ssu.site = .powerDown
    let excursion := ∃ c ∈ y.claims, c.meter = m ∧ ((s.meter m).config.reverseAllowance : Int) < c.h - c.n
    let cause := fun r : StopReason => r = .reverse ∧ excursion
      ∨ r = .blend ∧ y.offBlend = some true ∧ (∃ v, x.deviationStart = some v ∧ v + 1000 ≤ y.v)
      ∨ p.st ≠ .paused ∧ ∃ l, x.lock = some l ∧ l.vt ≤ y.v ∧ r = (match l.source with
        | .preset => .preset
        | .limit => .limit)
    let slows := p.st = .fuelling ∧ ∃ l, x.lock = some l ∧ ∃ vs, l.vs = some vs ∧ vs ≤ y.v
    let timer := if d = 1 ∧ p.st ≠ .paused then some (p.config.noFlow * 1000) else p.flowTimer
    ∃ t, exec (.recognitionInstant m a b) s = .next t
      ∧ (t.meter m).lifetime = (s.meter m).lifetime + BitVec.ofInt 48 d ∧ (t.meter m).tally = (s.meter m).tally + 1
      ∧ (t.meter m).sinceReport = (s.meter m).sinceReport
      ∧ (p.st.isStarting = false → (p.st.isDispensing = false ∨ frozen) → t.pos side = { p with sale := some y })
      ∧ (p.st.isDispensing = true → ¬ frozen →
          ((∃ r, cause r) → ∃ r, cause r ∧ t.pos side = p.endingWith z r)
          ∧ ((∀ r, ¬ cause r) → slows → t.pos side = { p.enter .slowing with sale := some z, flowTimer := timer })
          ∧ ((∀ r, ¬ cause r) → ¬ slows → t.pos side = { p with sale := some z, flowTimer := timer }))
      ∧ (p.st.isStarting = true → ¬ frozen → s.calm →
          (¬ excursion → t.pos side = { p with sale := some y })
          ∧ (excursion → ∀ f, x.held.or p.auth = some f → s.fallsBack t side p f .reverse (m.val + 1)
              ∧ (∀ c ∈ x.claims, (t.meter c.meter).owner = none)
              ∧ ((x.claims.map Claim.meter).Nodup → ∀ c ∈ y.claims,
                  (t.meter c.meter).unclaimed = (s.meter c.meter).unclaimed + BitVec.ofInt 32 c.n)))
      ∧ (s.calm → s.accrues t x y ∧ (s.noPending → t.pru = { s.pru with accrued := t.pru.accrued }) ∧ t.pos (other side) = s.pos (other side)
          ∧ ((p.st.isStarting = false ∨ s.noPending) →
              s.changesOnly t ([.meters, .positions, .prices, .notices, .displays, .free] ++ s.nightEntry))
          ∧ (p.st.isStarting = false → t.ntc = s.ntc ∧ (t.meter m).owner = (s.meter m).owner
              ∧ (t.meter m).unclaimed = (s.meter m).unclaimed ∧ ∀ q, q ≠ m → t.meter q = s.meter q))

/-- A phase error (R6): on a claimed meter that is OK the error count rises, and at the limit the meter is FAULTED, a dispensing sale ends
with stop reason METER, a start falls back with METER FAULT, and a sale in ENDING or frozen stays; on an unclaimed one only the notice is
raised; on a FAULTED one nothing but the levels changes. That the first detail of a failed start's START FAILED is the meter's number is
the model's choice (log 28), and so is CLOSED before it where the site is CLOSING (log 47). An instant at which a phase gets its first level
is no phase error, whatever the other phase shows, and no count but where phase A rises (log 9). -/
def Obligations.PhaseErrorActsByClaimAndFault : Prop :=
  (∀ (s : State) (m : MeterNo) (a b : Bool), s.mainSupply = true → s.calm → (s.meter m).config.decoding = .quadrature →
    (s.meter m).phaseA = some a → (s.meter m).phaseB = some b →
    ∃ t, exec (.recognitionInstant m (some !a) (some !b)) s = .next t
      ∧ ((s.meter m).faulted = true →
          t.meter m = { s.meter m with phaseA := some !a, phaseB := some !b } ∧ s.changesOnly t [.meters, .displays])
      ∧ ((s.meter m).faulted = false → (s.meter m).owner = none →
          t.meter m = { s.meter m with phaseA := some !a, phaseB := some !b } ∧ s.reports t .phaseError (m.val + 1)
            ∧ s.changesOnly t [.meters, .notices, .displays])
      ∧ ∀ side role, (s.meter m).faulted = false → (s.meter m).owner = some (side, role) →
          ((s.meter m).phaseErrors + 1 < (s.meter m).config.phaseErrorLimit →
            t.meter m = { s.meter m with phaseA := some !a, phaseB := some !b, phaseErrors := (s.meter m).phaseErrors + 1 }
              ∧ s.changesOnly t [.meters, .displays])
          ∧ ((s.meter m).config.phaseErrorLimit ≤ (s.meter m).phaseErrors + 1 → (s.pos side).st.isDispensing = true →
            s.ssu.site ≠ .powerDown → ∀ x, (s.pos side).sale = some x → (t.meter m).faulted = true
              ∧ s.reports t .meterFault (m.val + 1) ∧ t.pos side = (s.pos side).endingWith x .meter
              ∧ s.changesOnly t [.meters, .positions, .notices, .displays])
          ∧ ((s.meter m).config.phaseErrorLimit ≤ (s.meter m).phaseErrors + 1 → (s.pos side).st.isStarting = true →
            s.ssu.site ≠ .powerDown → ∀ x f, (s.pos side).sale = some x → x.held.or (s.pos side).auth = some f →
            (t.meter m).faulted = true ∧ s.reports t .meterFault (m.val + 1)
              ∧ s.fallsBack t side (s.pos side) f .meterFault (m.val + 1))
          ∧ ((s.meter m).config.phaseErrorLimit ≤ (s.meter m).phaseErrors + 1 →
            ((s.pos side).st = .ending ∨ s.ssu.site = .powerDown) → (t.meter m).faulted = true
              ∧ s.reports t .meterFault (m.val + 1) ∧ t.pos side = s.pos side ∧ s.changesOnly t [.meters, .notices, .displays]))
  ∧ ∀ (s : State) (m : MeterNo) (a b : Option Bool), s.mainSupply = true → s.calm → (s.meter m).config.decoding = .quadrature →
    ((s.meter m).phaseA = none ∧ a.isSome = true
      ∨ (s.meter m).phaseB = none ∧ b.isSome = true ∧ ¬ ((s.meter m).phaseA = some false ∧ a = some true)) →
    ∃ t, exec (.recognitionInstant m a b) s = .next t
      ∧ t.meter m = { s.meter m with phaseA := a.or (s.meter m).phaseA, phaseB := b.or (s.meter m).phaseB }
      ∧ s.changesOnly t [.meters, .displays]

/-- The end of a second (R9, R22): each tally becomes its meter's count rate and starts again from 0, and the count fields of the meter
mirror are written with the live counts. The tally has no bound in the model (log 33). -/
def Obligations.SecondSetsCountRates : Prop :=
  ∀ s : State, s.mainSupply = true →
    ∃ t, exec .oneSecondPeriod s = .next t
      ∧ (∀ m, (t.meter m).rate = (s.meter m).tally ∧ (t.meter m).tally = 0 ∧ (t.meter m).lifetime = (s.meter m).lifetime)
      ∧ t.mirrored .meterCounts ∧ t.mirrors.genMeter = s.mirrors.genMeter + 2
      ∧ (s.calm → s.changesOnly t [.meters, .displays])

/-- CONFIGURE METER (R17): with the seal open and the meter unclaimed, outside the two site states in which configuration is refused, the
meter's configuration is replaced, its fault cleared, its counts and levels unchanged, and a CONFIG store step begun on which the card
finishes; its refusals in their order: BAD TARGET, BAD VALUE, BUSY in those site states, SEALED, BUSY for a claimed meter. That BAD TARGET
comes before BAD VALUE is the model's choice (log 48); the order from BAD VALUE on is R17's. -/
def Obligations.ConfigureMeterActs : Prop :=
  (∀ (s : State) (off : Nat) (c : Card) (m : MeterNo) (g : MeterConfig), s.holds .configureMeter off c → c.to = m.val + 1 →
    2 ≤ c.words.toNat → c.b 0 = g.decoding.code → c.b 1 = g.reverseAllowance → c.b 2 = g.creepLimit → c.b 3 = g.phaseErrorLimit →
    c.w 1 = g.k → 1 ≤ g.creepLimit → 1 ≤ g.phaseErrorLimit → g.phaseErrorLimit ≤ 15 → 10000 ≤ g.k → g.k ≤ 2000000 →
    s.storeClosed = false → s.iwu.calSeal = some true → (s.meter m).owner = none →
    ∃ t, exec .configureMeter s = .next t ∧ (t.meter m).config = g ∧ (t.meter m).faulted = false ∧ (t.meter m).phaseErrors = 0
      ∧ (t.meter m).lifetime = (s.meter m).lifetime ∧ (t.meter m).sinceReport = (s.meter m).sinceReport
      ∧ (t.meter m).phaseA = (s.meter m).phaseA ∧ (t.meter m).phaseB = (s.meter m).phaseB
      ∧ s.startsStep t [.config] .site off
      ∧ (s.calm → s.storeFree → (∀ x, x ≠ m → t.meter x = s.meter x) ∧ (t.meter m).unclaimed = (s.meter m).unclaimed
          ∧ s.changesOnly t [.meters, .lanes, .store, .displays]))
  ∧ ∀ (s : State) (off : Nat) (c : Card), s.holds .configureMeter off c →
    let refused := fun (t : State) (o : CardOutcome) => s.endsCard t .site off o
      ∧ (s.calm → s.readLink off = .atEnd → s.changesOnly t [.memory, .parity, .lanes, .notices, .displays])
    ∃ t, exec .configureMeter s = .next t
      ∧ (c.meter = none → refused t .badTarget)
      ∧ (∀ m, c.meter = some m → c.words.toNat < 2 ∨ c.meterConfig = none → refused t .badValue)
      ∧ ∀ m g, c.meter = some m → 2 ≤ c.words.toNat → c.meterConfig = some g →
          (s.storeClosed = true → refused t .busy)
          ∧ (s.storeClosed = false → s.iwu.calSeal ≠ some true → refused t .isSealed)
          ∧ (s.storeClosed = false → s.iwu.calSeal = some true → (s.meter m).owner.isSome = true → refused t .busy)

/-- CONFIGURE HOSE and SET ROUTING (R18, R19): accepted, the entry or the enables are replaced and a CONFIG store step begun; where the
panel of the hose is the last that stage 3 of a wake waits for and has no member left, the stage ends in the same event (R90, R166); in range,
they are refused BUSY, nothing changed, in WAKING at STORE CHECK and in FAULTED for STORE, CONFIGURE HOSE also while its position is
neither CLOSED nor IDLE. That a body out of range is refused before BUSY is, for SET ROUTING, the model's choice (log 48), stated with the
other cards. The on/off bytes of an accepted card are given as 0 or 1 (log 13). -/
def Obligations.RoutingCardsReplaceTheRoutes : Prop :=
  (∀ (s : State) (off : Nat) (c : Card) (side : Side) (h : HoseNo) (e : HoseRoute), s.holds .configureHose off c →
    c.to = 4 * sideCode side + h.val → 2 ≤ c.words.toNat → c.b 0 = flag e.fitted → c.b 1 = e.grade.val → c.b 2 = e.kind.code →
    c.b 3 = e.primary.val + 1 → (∀ m, e.secondary = some m → c.b 4 = m.val + 1) → (e.kind = .blend → c.b 5 = e.ratio) →
    c.h 6 = e.slowDown → e.lawful → s.storeClosed = false → (s.pos side).st.atRest = true →
    ∃ t, exec .configureHose s = .next t ∧ t.route side h = e
      ∧ (∀ x k, (x, k) ≠ (side, h) → t.route x k = s.route x k) ∧ s.startsStep t [.config] .site off
      ∧ (s.calm → s.storeFree → t.miu.meters = s.miu.meters
          ∧ ((s.ssu.site = .waking → s.ssu.wake.stage ≠ 3) → s.changesOnly t [.meters, .prices, .lanes, .store, .displays])
          ∧ s.changesOnly t [.meters, .prices, .lanes, .notices, .site, .store, .displays]
          ∧ (s.ssu.site = .waking → s.ssu.wake.stage = 3 →
              ((∃ g x, ((t.grade g).panels.get x).state = .updating) → t.ssu = s.ssu ∧ t.ntc = s.ntc)
              ∧ ((∀ g x, ((t.grade g).panels.get x).state ≠ .updating) →
                  ∃ code, (code = 0 ∧ (∀ g x, ((t.grade g).panels.get x).state ≠ .fault)
                      ∨ code = 1 ∧ ∃ g x, ((t.grade g).panels.get x).state = .fault)
                    ∧ s.reports t .stage (768 + code) ∧ t.ssu = { s.ssu with stageTimer := some 2000, wake := { s.ssu.wake with
                    stage := 4, outcomes := s.ssu.wake.outcomes.set 2 (some code) } }))))
  ∧ (∀ (s : State) (off : Nat) (c : Card) (e : RouteEnables), s.holds .setRouting off c → 2 ≤ c.words.toNat → c.b 0 = flag e.blend →
    c.b 1 = flag e.satellite → c.b 2 = e.tolerance → c.w 1 = e.settleVolume → 1 ≤ e.tolerance → e.tolerance ≤ 20 →
    e.settleVolume ≤ 10000 → s.storeClosed = false →
    ∃ t, exec .setRouting s = .next t ∧ t.miu.enables = e ∧ t.miu.routes = s.miu.routes ∧ s.startsStep t [.config] .site off
      ∧ (s.calm → s.storeFree → t.miu.meters = s.miu.meters ∧ s.changesOnly t [.meters, .lanes, .store, .displays]))
  ∧ (∀ (s : State) (off : Nat) (c : Card) (side : Side) (h : HoseNo), s.holds .configureHose off c →
    c.to = 4 * sideCode side + h.val → c.misfits .configureHose = none → (s.storeClosed = true ∨ (s.pos side).st.atRest = false) →
    ∃ t, exec .configureHose s = .next t ∧ s.refusesCard t .site off .busy)
  ∧ ∀ (s : State) (off : Nat) (c : Card), s.holds .setRouting off c → c.misfits .setRouting = none → s.storeClosed = true →
    ∃ t, exec .setRouting s = .next t ∧ s.refusesCard t .site off .busy

/-- CLEAR METER FAULT (R20), whatever the seal and the claims: a FAULTED meter becomes OK with no phase errors and the meter mirror is
written, a claim standing; on a meter that is OK nothing changes; the card finishes OK and no store step is made. Any target but 1 to 8
is refused BAD TARGET. -/
def Obligations.ClearMeterFaultClearsTheFault : Prop :=
  ∀ (s : State) (off : Nat) (c : Card), s.holds .clearMeterFault off c →
    ∃ t, exec .clearMeterFault s = .next t
      ∧ ((c.to < 1 ∨ 8 < c.to) → s.endsCard t .site off .badTarget ∧ (s.calm → t.miu = s.miu ∧ t.rsc = s.rsc))
      ∧ ∀ m : MeterNo, c.to = m.val + 1 → s.endsCard t .site off .ok ∧ (t.meter m).faulted = false
        ∧ (s.calm →
            t.meter m = (if (s.meter m).faulted then { s.meter m with faulted := false, phaseErrors := 0 } else s.meter m)
            ∧ (∀ x, x ≠ m → t.meter x = s.meter x) ∧ t.rsc = s.rsc
            ∧ ((s.meter m).faulted = true → t.mirrors.genMeter = s.mirrors.genMeter + 2
                ∧ (s.mirrored .meterState → t.mirrored .meterState))
            ∧ (s.readLink off = .atEnd → s.changesOnly t [.memory, .parity, .lanes, .notices, .meters, .displays]
                ∧ ((s.meter m).faulted = false → s.changesOnly t [.memory, .parity, .lanes, .notices, .displays])))

/-! ## Volume and amount (02) -/

/-- The rounded amount (R29): each mode's row, with q and r of N over 10,000 and over 50,000; no result falls when N rises, and 0 gives
0; the codes 0 to 4 are the modes; LOAD PRICE refuses codes 5 and 6, SET PRICING any site mode outside 0 to 4, and code 7 resolves to
the site mode. That SET PRICING refuses a bad value in every state, where its BUSY of R41 applies too, is the model's choice (log 48). -/
def Obligations.AmountRounding : Prop :=
  (∀ n : Nat,
      (n % 10000 < 5000 → roundAmount .halfEven n = n / 10000) ∧ (5000 < n % 10000 → roundAmount .halfEven n = n / 10000 + 1)
      ∧ (n % 10000 = 5000 → n / 10000 % 2 = 0 → roundAmount .halfEven n = n / 10000)
      ∧ (n % 10000 = 5000 → n / 10000 % 2 = 1 → roundAmount .halfEven n = n / 10000 + 1)
      ∧ roundAmount .truncate n = n / 10000
      ∧ (5000 ≤ n % 10000 → roundAmount .halfUp n = n / 10000 + 1) ∧ (n % 10000 < 5000 → roundAmount .halfUp n = n / 10000)
      ∧ (0 < n % 10000 → roundAmount .ceiling n = n / 10000 + 1) ∧ (n % 10000 = 0 → roundAmount .ceiling n = n / 10000)
      ∧ (25000 ≤ n % 50000 → roundAmount .fiveCent n = 5 * (n / 50000 + 1))
      ∧ (n % 50000 < 25000 → roundAmount .fiveCent n = 5 * (n / 50000)))
    ∧ (∀ (mode : RoundMode) (n k : Nat), n ≤ k → roundAmount mode n ≤ roundAmount mode k)
    ∧ (∀ mode : RoundMode, roundAmount mode 0 = 0)
    ∧ (∀ (mode : RoundMode) (code : Nat), RoundMode.ofCode code = some mode ↔ code = mode.code)
    ∧ (∀ (s : State) (off : Nat) (c : Card), s.holds .loadPrice off c → c.to < 8 → (c.b 4 = 5 ∨ c.b 4 = 6) →
        ∃ t, exec .loadPrice s = .next t ∧ s.endsCard t .site off .badValue ∧ (s.calm → t.pru = s.pru))
    ∧ (∀ (s : State) (off : Nat) (c : Card), s.holds .setPricing off c → 4 < c.b 0 →
        ∃ t, exec .setPricing s = .next t ∧ s.endsCard t .site off .badValue ∧ (s.calm → t.pru = s.pru))
    ∧ RoundCode.ofCode 7 = some .site ∧ ∀ s : State, s.modeOf .site = s.pru.siteMode

/-- The targets of a lock (R32 to R35): the volume that an amount asks for is the least of 1 or more whose rounded amount reaches it;
every lock has the values of R27, the effective target and its source, and the slow-down point. -/
def Obligations.TargetsOfALock : Prop :=
  (∀ (mode : RoundMode) (e x : Nat), 1 ≤ e →
      1 ≤ leastVolume mode e x ∧ x ≤ roundAmount mode (leastVolume mode e x * e)
        ∧ ∀ w, 1 ≤ w → x ≤ roundAmount mode (w * e) → leastVolume mode e x ≤ w)
    ∧ ∀ (p d : Nat) (mode : RoundMode) (preset : Preset) (vl dist : Nat), (makeLock p d mode preset vl dist).fixes p d mode preset vl dist

/-! ## Positions and sales (03) -/

/-- A lift of a fitted hose by position state (R49); an unfitted hose's lift leaves every position alone, in AUTHORIZED too. In AUTHORIZED, a
lift that does not fire the start trigger sets WRONG HOSE for a hose not allowed and MULTI LIFT when it leaves more than one hose up, each
with its notice when the flag was clear (R50). That the lifted set is that of the fitted hoses is the model's reading, and that a lift before
STORE CHECK has restored the routes, when every hose is unfitted (R10), sets no LIFT WHILE CLOSED is its choice (log 21). -/
def Obligations.NozzleLiftActsByState : Prop :=
  (∀ (s : State) (side : Side) (h : HoseNo), s.mainSupply = true → s.calm → (s.iwu.nozzles.get side)[h] ≠ some true →
    (s.pos side).st ≠ .authorized →
    ∃ t, exec (.nozzleLift side h) s = .next t ∧ (t.iwu.nozzles.get side)[h] = some true
      ∧ (∀ k, k ≠ h → (t.iwu.nozzles.get side)[k] = (s.iwu.nozzles.get side)[k])
      ∧ t.pos (other side) = s.pos (other side)
      ∧ ((s.route side h).fitted = false → t.pos side = s.pos side ∧ s.changesOnly t [.inputs, .displays])
      ∧ ((s.route side h).fitted = true → s.changesOnly t [.inputs, .positions, .notices, .displays]
        ∧ ((s.pos side).st.isClosed = true → t.pos side = { s.pos side with liftWhileClosed := true }
            ∧ ((s.pos side).liftWhileClosed = false → s.reports t (.position side .liftWhileClosed) (h.val + 1)))
        ∧ ((s.pos side).st = .idle → s.reports t (.position side .calling) (h.val + 1)
            ∧ t.pos side = { (s.pos side).enter .calling with
                multiLift := (s.pos side).multiLift || decide (1 < (t.lifted side).length) })
        ∧ ((s.pos side).st.isClosed = false → (s.pos side).st ≠ .idle → t.pos side = { s.pos side with multiLift := true }
            ∧ ((s.pos side).multiLift = false → s.reports t (.position side .multiLift) (h.val + 1)))))
  ∧ (∀ (s : State) (side : Side) (h : HoseNo), s.mainSupply = true → s.calm → (s.pos side).st = .authorized →
    (s.iwu.nozzles.get side)[h] ≠ some true → (s.route side h).fitted = false →
    ∃ t, exec (.nozzleLift side h) s = .next t ∧ (t.iwu.nozzles.get side)[h] = some true ∧ (∀ x, t.pos x = s.pos x)
      ∧ s.changesOnly t [.inputs, .displays])
  ∧ ∀ (s : State) (side : Side) (h : HoseNo) (a : Authorization), s.mainSupply = true → s.calm → (s.pos side).st = .authorized →
    (s.pos side).auth = some a → (s.iwu.nozzles.get side)[h] ≠ some true → (s.route side h).fitted = true →
    (a.allowed.getLsbD h.val = false ∨ s.iwu.emergency = some true ∨ ∃ k, k ≠ h ∧ s.isLifted side k = true) →
    ∃ t, exec (.nozzleLift side h) s = .next t
      ∧ t.pos side = { s.pos side with
          wrongHose := (s.pos side).wrongHose || !a.allowed.getLsbD h.val,
          multiLift := (s.pos side).multiLift || (List.finRange 4).any fun k => k != h && s.isLifted side k }
      ∧ (a.allowed.getLsbD h.val = false → (s.pos side).wrongHose = false → s.reports t (.position side .wrongHose) (h.val + 1))
      ∧ ((∃ k, k ≠ h ∧ s.isLifted side k = true) → (s.pos side).multiLift = false →
          s.reports t (.position side .multiLift) (h.val + 1))
      ∧ t.pos (other side) = s.pos (other side) ∧ s.changesOnly t [.inputs, .positions, .notices, .displays]

/-- A hang of a fitted hose by position state (R49): CALLING ends when no hose is up; the sale's own hose makes a start, one that waits at
the price gate too, fall back with HUNG (R56) and ends a dispensing sale (R59), but for a frozen sale in POWER DOWN, which stays (R181); in
AUTHORIZED a hang that does not leave one allowed hose alone up, or with the emergency stop asserted, fires no start and changes nothing
(R50). A hang of an unfitted hose, and a first recognition as hung, change the level alone (R49, R117). In a CLOSING site the fall-back
closes the position (log 47). -/
def Obligations.NozzleHangActsByState : Prop :=
  (∀ (s : State) (side : Side) (h : HoseNo), s.mainSupply = true → s.calm → (s.iwu.nozzles.get side)[h] = some true →
    (s.route side h).fitted = true → (s.pos side).st ≠ .authorized →
    ∃ t, exec (.nozzleHang side h) s = .next t ∧ (t.iwu.nozzles.get side)[h] = some false
      ∧ (∀ k, k ≠ h → (t.iwu.nozzles.get side)[k] = (s.iwu.nozzles.get side)[k]) ∧ t.pos (other side) = s.pos (other side)
      ∧ (s.noPending → s.changesOnly t ([.inputs, .meters, .positions, .notices, .displays] ++ s.nightEntry))
      ∧ ((s.pos side).st = .calling → t.miu = s.miu
          ∧ t.pos side = if t.lifted side = [] then ((s.pos side).enter .idle).clearFlags else s.pos side)
      ∧ (((s.pos side).st.atRest = true ∨ (s.pos side).st = .ending ∨ ∃ x, (s.pos side).sale = some x ∧ x.hose ≠ h) →
          (s.pos side).st ≠ .calling → t.pos side = s.pos side ∧ t.miu = s.miu)
      ∧ (∀ x a, (s.pos side).sale = some x → x.hose = h → x.held.or (s.pos side).auth = some a → (s.pos side).st.isStarting = true →
          s.fallsBack t side (s.pos side) a .hung 0 ∧ s.claimsReturned t x)
      ∧ (∀ x, (s.pos side).sale = some x → x.hose = h → (s.pos side).st.isDispensing = true → s.ssu.site ≠ .powerDown →
          t.pos side = (s.pos side).endingWith x .hung ∧ t.miu = s.miu)
      ∧ (∀ x, (s.pos side).sale = some x → x.hose = h → (s.pos side).st.isDispensing = true → s.ssu.site = .powerDown →
          t.pos side = s.pos side ∧ t.miu = s.miu ∧ s.changesOnly t [.inputs, .displays]))
  ∧ (∀ (s : State) (side : Side) (h : HoseNo) (a : Authorization), s.mainSupply = true → s.calm → (s.pos side).st = .authorized →
    (s.pos side).auth = some a → (s.iwu.nozzles.get side)[h] = some true → (s.route side h).fitted = true →
    (s.iwu.emergency = some true ∨ ∀ k, k ≠ h → s.isLifted side k = true → a.allowed.getLsbD k.val = true →
      ∃ j, j ≠ h ∧ j ≠ k ∧ s.isLifted side j = true) →
    ∃ t, exec (.nozzleHang side h) s = .next t ∧ (t.iwu.nozzles.get side)[h] = some false
      ∧ (∀ k, k ≠ h → (t.iwu.nozzles.get side)[k] = (s.iwu.nozzles.get side)[k]) ∧ s.changesOnly t [.inputs, .displays])
  ∧ ∀ (s : State) (side : Side) (h : HoseNo), s.mainSupply = true → s.calm → (s.iwu.nozzles.get side)[h] ≠ some false →
    ((s.route side h).fitted = false ∨ (s.iwu.nozzles.get side)[h] = none) →
    ∃ t, exec (.nozzleHang side h) s = .next t ∧ (t.iwu.nozzles.get side)[h] = some false
      ∧ (∀ k, k ≠ h → (t.iwu.nozzles.get side)[k] = (s.iwu.nozzles.get side)[k]) ∧ s.changesOnly t [.inputs, .displays]

/-- The start trigger and the price gate (R12, R14, R15, R50 to R54, R81): in AUTHORIZED, the lift of an allowed hose that is then alone
up, or the hang that leaves an allowed hose alone up, starts a sale over a route of any kind that gets its claims, the satellite meter's
among them when the satellite nozzle is up; it locks in the same event when its price stands and its panel is CURRENT, and waits at the
gate while the panel is UPDATING. A start that waits locks in the event in which a verified attempt makes the panel CURRENT. -/
def Obligations.StartTriggerStartsTheSale : Prop :=
  (∀ (s : State) (side : Side) (h : HoseNo), s.mainSupply = true → s.calm → (s.pos side).st = .authorized →
    s.iwu.emergency ≠ some true → (s.route side h).fitted = true → s.canClaim side h →
    ∀ a, (s.pos side).auth = some a → a.allowed.getLsbD h.val = true →
    ∀ e : Instr,
    ((e = .nozzleLift side h ∧ (s.iwu.nozzles.get side)[h] ≠ some true ∧ ∀ k, k ≠ h → s.isLifted side k = false)
      ∨ ∃ g, g ≠ h ∧ e = .nozzleHang side g ∧ (s.iwu.nozzles.get side)[g] = some true ∧ (s.route side g).fitted = true
          ∧ (s.iwu.nozzles.get side)[h] = some true ∧ ∀ k, k ≠ h → k ≠ g → s.isLifted side k = false) →
    let g := s.grade (s.route side h).grade
    let p := s.atGate side (s.pos side) h a
    (g.panels.get side).blocked = false → g.price.isSome = true →
    ((g.panels.get side).state = .current ∨ (g.panels.get side).state = .updating) →
    ∃ t, exec e s = .next t ∧ s.claimsGranted t side h
      ∧ (∀ price, (g.panels.get side).state = .current → g.price = some price → s.locks t side p (s.startSale side h a) a price)
      ∧ ((g.panels.get side).state = .updating → t.pos side = p ∧ t.pru = s.pru)
      ∧ t.pos (other side) = s.pos (other side) ∧ s.changesOnly t [.inputs, .meters, .positions, .prices, .notices, .displays]
      ∧ t.pru.grades = s.pru.grades)
  ∧ ∀ (s : State) (side : Side) (h : HoseNo), s.mainSupply = true → s.calm → (s.pos side).st = .starting .gate →
    (s.board side).test = none →
    ∀ x, (s.pos side).sale = some x → x.lock = none → ∀ a, (s.pos side).auth = some a →
    ∀ price, (s.grade x.grade).price = some price → ∀ w, (s.board side).attempt = some w → w.field = .grade h →
    (s.route side h).fitted = true → (s.route side h).grade = x.grade →
    (∀ k, k ≠ h → (s.route side k).fitted = true → (s.route side k).grade = x.grade → ((s.board side).field (.grade k)).st = .current) →
    (let f := (s.board side).field (.grade h); f.st ≠ .current ∧ f.repost = false ∧ f.wanted = w.sent) →
    ∃ t, exec (.litFrame side { number := w.number, wellFormed := true, field := w.field, content := w.sent }) s = .next t
      ∧ ((t.grade x.grade).panels.get side).state = .current ∧ s.locks t side (s.pos side) x a price
      ∧ t.pos (other side) = s.pos (other side)
      ∧ (s.ssu.site ≠ .waking → s.pru.loading = none → s.changesOnly t [.positions, .prices, .notices, .displays])

/-- A start that cannot be granted or whose price cannot be locked falls back to AUTHORIZED in the same event, whether a lift, a hang or
an AUTHORIZE from CALLING triggers it (R12, R13, R50 to R52, R56, R67): BLOCKED with detail 0 when the route refuses it; METER BUSY or
BLOCKED for the first meter of its request that is claimed or FAULTED; BLOCKED with detail 0 for an absent price, a panel in FAULT or a
blocked grade, its claims returned. The AUTHORIZE card ends OK all the same. A start that waits at the price gate falls back with BLOCKED
in the event in which its panel enters FAULT (R52, R81, R103). The meter as detail of a failed claim request is the model's reading of R56
(log 28); in a CLOSING site the fall-back closes the position, CLOSED before START FAILED (log 47). -/
def Obligations.StartFailuresFallBack : Prop :=
  (∀ (s : State) (side : Side) (h : HoseNo) (a : Authorization) (e : Instr), s.mainSupply = true → s.calm →
    s.iwu.emergency ≠ some true → (s.route side h).fitted = true → (s.route side h).lawful → a.allowed.getLsbD h.val = true →
    ((s.pos side).st = .authorized ∧ (s.pos side).auth = some a
        ∧ (e = .nozzleLift side h ∧ (s.iwu.nozzles.get side)[h] ≠ some true ∧ (∀ k, k ≠ h → s.isLifted side k = false)
          ∨ ∃ g, g ≠ h ∧ e = .nozzleHang side g ∧ (s.iwu.nozzles.get side)[g] = some true ∧ (s.route side g).fitted = true
              ∧ (s.iwu.nozzles.get side)[h] = some true ∧ ∀ k, k ≠ h → k ≠ g → s.isLifted side k = false)
      ∨ e = .authorize ∧ (s.pos side).st = .calling ∧ s.lifted side = [h]
          ∧ ∃ off c, s.holds .authorize off c ∧ s.authorizable side c a) →
    let g := s.grade (s.route side h).grade
    let p := { s.pos side with wrongHose := false, multiLift := false, liftWhileClosed := false }
    ∃ t, exec e s = .next t
      ∧ ((s.route side h).asks s.miu.enables = none → s.fallsBack t side p a .blocked 0 ∧ t.miu = s.miu)
      ∧ (∀ granted m role rest, (s.route side h).asks s.miu.enables = some (granted ++ (m, role) :: rest) →
          (∀ q ∈ granted, (s.meter q.1).grants = true) →
          ((s.meter m).owner.isSome = true → s.fallsBack t side p a .meterBusy (m.val + 1) ∧ t.miu = s.miu)
          ∧ ((s.meter m).owner = none → (s.meter m).faulted = true → s.fallsBack t side p a .blocked (m.val + 1) ∧ t.miu = s.miu))
      ∧ (s.canClaim side h →
          (g.price = none ∨ (g.panels.get side).state = .fault ∨ (g.panels.get side).blocked = true) →
          ((∀ m, s.satelliteAsked side h = some m → (s.meter m).grants = true) → s.fallsBack t side p a .blocked 0)
            ∧ (t.pos side).sale = none ∧ t.notified (.position side .startFailed)
            ∧ (∀ m, t.meter m = if m ∈ (s.startClaims side h).map Prod.fst then { s.meter m with phaseErrors := 0 } else s.meter m))
      ∧ (((s.route side h).asks s.miu.enables = none ∨ ¬ s.canClaim side h ∨ g.price = none ∨ (g.panels.get side).state = .fault
            ∨ (g.panels.get side).blocked = true) →
          t.pos (other side) = s.pos (other side) ∧ t.pru.grades = s.pru.grades
            ∧ s.changesOnly t ([.inputs, .meters, .positions, .prices, .notices, .displays] ++ s.nightEntry
                ++ if e = .authorize then [.memory, .parity, .lanes] else []))
      ∧ (e = .authorize → ∀ off c, s.holds .authorize off c → s.endsCard t .dispense off .ok))
  ∧ ∀ (s : State) (side : Side) (h : HoseNo), s.mainSupply = true → s.calm → (s.pos side).st = .starting .gate →
    (s.board side).test = none →
    ∀ x, (s.pos side).sale = some x → ∀ a, x.held.or (s.pos side).auth = some a →
    ∀ w, (s.board side).attempt = some w → w.field = .grade h → (s.route side h).fitted = true → (s.route side h).grade = x.grade →
    ((s.board side).field (.grade h)).retries = 0 →
    ((s.board side).field (.grade h)).st ≠ .fault → (s.grade x.grade).price.isSome = true →
    ∃ t, exec (.answerTimeout side) s = .next t
      ∧ ((t.grade x.grade).panels.get side).state = .fault ∧ s.reports t .gradeFieldFault (fieldDetail side (.grade h))
      ∧ (((t.grade x.grade).panels.get side).blocked = decide (s.dlc.policy.action = .block))
      ∧ s.fallsBack t side (s.pos side) a .blocked 0 ∧ s.claimsReturned t x
      ∧ t.pos (other side) = s.pos (other side)
      ∧ (s.ssu.site ≠ .waking → s.pru.loading = none →
          s.changesOnly t ([.meters, .positions, .prices, .notices, .displays] ++ s.nightEntry))

/-- The expiries of the motor settle, flow and authorization timers (R55, R60, R61): the valves open and the flow timer starts, or the
sale ends at once when V has reached V_t; NO FLOW; the authorization is withdrawn with AUTH TIMEOUT. -/
def Obligations.PositionTimerExpiries : Prop :=
  (∀ (s : State) (side : Side) (x : Sale) (l : Lock), s.mainSupply = true → s.calm → (s.pos side).st = .starting .motor →
    (s.pos side).motorTimer.isSome = true → (s.pos side).sale = some x → x.lock = some l →
    ∃ t, exec (.motorSettleExpiry side) s = .next t ∧ t.pos (other side) = s.pos (other side)
      ∧ s.changesOnly t [.positions, .displays]
      ∧ t.pos side = (s.pos side).settled x l)
  ∧ (∀ (s : State) (side : Side) (x : Sale), s.mainSupply = true → s.calm →
    ((s.pos side).st = .fuelling ∨ (s.pos side).st = .slowing) → (s.pos side).flowTimer.isSome = true → (s.pos side).sale = some x →
    ∃ t, exec (.flowTimerExpiry side) s = .next t ∧ t.pos side = (s.pos side).endingWith x .noFlow
      ∧ t.pos (other side) = s.pos (other side) ∧ s.changesOnly t [.positions, .displays])
  ∧ ∀ (s : State) (side : Side), s.mainSupply = true → s.calm → s.ssu.site ≠ .closing → (s.pos side).st = .authorized →
    (s.pos side).authTimer.isSome = true →
    ∃ t, exec (.authTimerExpiry side) s = .next t ∧ t.pos side = (s.pos side).withdrawn (decide ((s.lifted side).length = 1))
      ∧ s.reports t (.position side .authTimeout) 0 ∧ t.pos (other side) = s.pos (other side)
      ∧ s.changesOnly t [.positions, .notices, .displays]

/-- The completion of ENDING (R36, R64, R66, R186): the sale joins the unpaid list with OVERRUN judged and becomes the last shown
sale, its claims are released with their counts staying, its hose's totals grow by V, A and one sale, the position opens or closes,
and one store step of TOTALS, METERS and the UNPAID record begins. -/
def Obligations.SettleWindowCompletesTheSale : Prop :=
  ∀ (s : State) (side : Side) (x : Sale) (l : Lock) (r : StopReason), s.mainSupply = true → (s.pos side).st = .ending →
    (s.pos side).settleTimer.isSome = true → (s.pos side).sale = some x → x.lock = some l → x.stop = some r →
    ∃ t, exec (.settleWindowExpiry side) s = .next t ∧ ∃ overrun : Bool,
      let e : EndedSale :=
        { tag := x.tag, origin := x.origin, hose := x.hose, grade := x.grade, kind := x.kind, p := l.p, d := l.d, e := l.e,
          mode := l.mode, v := x.v, amount := x.amount, flags := { x.flags with overrun := overrun }, stop := r,
          started := x.started, ended := s.stamp, recovered := false }
      (overrun = true ↔ x.flags.overrun = true ∨ (r = .preset ∧ ∃ a, l.preset = .amount a ∧ a < x.amount)
          ∨ (r = .preset ∧ ∃ v, l.preset = .volume v ∧ v < x.v) ∨ (r = .limit ∧ l.vt < x.v))
      ∧ (t.pos side).unpaid = (s.pos side).unpaid ++ [e] ∧ (t.pos side).lastShown = { v := x.v, amount := x.amount, e := l.e }
      ∧ (t.pos side).sale = none ∧ (t.pos side).settleTimer = none
      ∧ (t.pos side).st = (if (s.board side).sideFault then .closed .display
          else if s.ssu.site = .closing then .closed .night else .idle)
      ∧ (t.pos side).fast = false ∧ (t.pos side).slow = false ∧ (t.pos side).pump = false
      ∧ t.notified (.position side .saleEnded)
      ∧ ((t.pos side).st = .idle → s.reports t (.position side .saleEnded) (x.tag.toNat % 65536))
      ∧ (s.calm → s.noPending → s.storeFree → s.ssu.site ≠ .closing →
          (∃ act, t.rsc.active = some act ∧ act.step.records = [.totals, .meters, unpaidRecord side] ∧ act.contents = t.liveContents)
            ∧ (let k := (s.rsc.totals.get side)[x.hose]
              (t.rsc.totals.get side)[x.hose] =
                { volume := (k.volume + x.v) % 10 ^ 15, amount := (k.amount + x.amount) % 10 ^ 13, sales := (k.sales + 1) % 10 ^ 8 })
            ∧ (∀ k, k ≠ x.hose → (t.rsc.totals.get side)[k] = (s.rsc.totals.get side)[k])
            ∧ t.rsc.totals.get (other side) = s.rsc.totals.get (other side)
            ∧ (∀ c ∈ x.claims, t.meter c.meter = { s.meter c.meter with owner := none, phaseErrors := 0 })
            ∧ (∀ m, (∀ c ∈ x.claims, c.meter ≠ m) → t.meter m = s.meter m) ∧ t.pos (other side) = s.pos (other side)
            ∧ s.changesOnly t [.meters, .positions, .notices, .store, .displays])

/-- A satellite lift (R15) claims the entry's secondary meter for the sale when the meter is free and OK, and sets SATELLITE BUSY
otherwise; in a sale without honoured satellite lifts, with a SATELLITE claim, without claims, or in ENDING, for an entry without a
secondary meter, and at a position without a current sale it changes no claim. A satellite hang has no effect on claims (R119). That a
lift during a frozen sale makes its claim request, the site in POWER DOWN, is the model's reading (log 43). -/
def Obligations.SatelliteNozzleCommands : Prop :=
  (∀ (s : State) (side : Side) (x : Sale) (m : MeterNo), s.mainSupply = true → s.calm → s.iwu.satellites.get side ≠ some true →
    (s.pos side).sale = some x → (s.route side x.hose).secondary = some m →
    ∃ t, exec (.satelliteNozzleLift side) s = .next t ∧ t.iwu.satellites.get side = some true
      ∧ t.pos (other side) = s.pos (other side) ∧ s.changesOnly t [.inputs, .meters, .positions, .notices, .displays]
      ∧ (x.satelliteHonoured = true → x.claims ≠ [] → (∀ c ∈ x.claims, c.role ≠ .satellite) →
          ((s.pos side).st.isStarting = true ∨ (s.pos side).st.isDispensing = true) →
          ((s.meter m).owner = none → (s.meter m).faulted = false →
            t.meter m = { s.meter m with owner := some (side, .satellite), phaseErrors := 0 }
              ∧ t.pos side = { s.pos side with sale := some { x with
                  claims := x.claims ++ [{ meter := m, role := .satellite, n := 0, h := 0, k := (s.meter m).config.k }] } })
          ∧ (((s.meter m).owner.isSome = true ∨ (s.meter m).faulted = true) → t.miu = s.miu
              ∧ t.pos side = { s.pos side with sale := some { x with flags := { x.flags with satelliteBusy := true } } }
              ∧ s.reports t (.position side .satelliteBusy) (m.val + 1)))
      ∧ ((x.satelliteHonoured = false ∨ (∃ c ∈ x.claims, c.role = .satellite) ∨ (s.pos side).st = .ending) →
          s.changesOnly t [.inputs, .displays]))
  ∧ (∀ (s : State) (side : Side), s.mainSupply = true → s.calm → s.iwu.satellites.get side ≠ some true →
    (∀ x, (s.pos side).sale = some x → x.claims = [] ∨ (s.route side x.hose).secondary = none) →
    ∃ t, exec (.satelliteNozzleLift side) s = .next t ∧ t.iwu.satellites.get side = some true ∧ s.changesOnly t [.inputs, .displays])
  ∧ ∀ (s : State) (side : Side), s.mainSupply = true → s.calm → s.iwu.satellites.get side ≠ some false →
    ∃ t, exec (.satelliteNozzleHang side) s = .next t ∧ t.iwu.satellites.get side = some false
      ∧ s.changesOnly t [.inputs, .displays]

/-- AUTHORIZE (R67): its refusals in their order, after a bad target and a body out of range, each of which changes nothing but the card
and its lane; that the bad target comes before all others is the model's choice (log 48). Accepted, AUTHORIZED from IDLE, and from CALLING
unless exactly one hose is up and allowed, WRONG HOSE set when the one hose up is not; from CALLING with the one hose up allowed, the
sale's start, which locks at once or waits at the price gate. The accepted card ends OK. That bits 4 to 7 of the allowed hoses name hoses
not fitted is the model's reading (log 30). -/
def Obligations.AuthorizeActsByItsChecks : Prop :=
  (∀ (s : State) (off : Nat) (c : Card), s.holds .authorize off c →
    ∃ t, exec .authorize s = .next t
      ∧ (1 < c.to → s.refusesCard t .dispense off .badTarget)
      ∧ ∀ side, c.to = sideCode side →
        ((c.words.toNat < 5 ∨ 2 < c.b 5 ∨ (c.b 5 = 2 ∧ (c.w 2 < 1 ∨ 9999999 < c.w 2)) ∨ 2 < c.b 6 ∨ 99999 < c.w 3 ∨ 3600 < c.w 4) →
          s.refusesCard t .dispense off .badValue)
        ∧ ∀ a, 5 ≤ c.words.toNat → c.authorizes a →
          let p := s.pos side
          let refusal : Option CardOutcome :=
            if p.st.isClosed then some .closed
            else if p.st ≠ .idle ∧ p.st ≠ .calling then some .busy
            else if s.ssu.site ≠ .opened then some .closed
            else if c.b 4 = 0 ∨ 16 ≤ c.b 4 ∨ (∃ h : HoseNo, a.allowed.getLsbD h.val = true ∧ (s.route side h).fitted = false)
                ∨ (c.b 5 = 1 ∧ (c.w 2 < 1 ∨ p.config.saleLimit < c.w 2)) then some .badValue
            else if 2 ≤ p.unpaid.length then some .unpaidFull
            else if s.iwu.emergency = some true then some .blocked
            else if a.origin = .reader ∧ s.riu.domain = .quarantine then some .blocked
            else if ∃ e ∈ p.unpaid, e.tag = a.tag then some .duplicate
            else none
          ∀ o, refusal = some o → s.refusesCard t .dispense off o)
  ∧ ∀ (s : State) (off : Nat) (c : Card) (side : Side) (a : Authorization), s.holds .authorize off c → s.authorizable side c a →
    s.calm → s.readLink off = .atEnd →
    let timer := if a.timeout = 0 then none else some (a.timeout * 1000)
    let p := s.pos side
    ∃ t, exec .authorize s = .next t
      ∧ (p.st = .idle → t.pos side = { p.enter .authorized with auth := some a, authTimer := timer, startResult := .none }
          ∧ s.endsCard t .dispense off .ok)
      ∧ (p.st = .calling → (∀ h, s.lifted side = [h] → a.allowed.getLsbD h.val = false) →
          t.pos side = { p.enter .authorized with
              auth := some a, authTimer := timer, startResult := .none,
              wrongHose := p.wrongHose || decide ((s.lifted side).length = 1) }
            ∧ s.endsCard t .dispense off .ok)
      ∧ (∀ h, p.st = .calling → s.lifted side = [h] → a.allowed.getLsbD h.val = true → s.canClaim side h →
          let g := s.grade (s.route side h).grade
          let q := s.atGate side { p with startResult := .none } h a
          (g.panels.get side).blocked = false →
          (∀ price, (g.panels.get side).state = .current → g.price = some price →
            s.claimsGranted t side h ∧ s.locks t side q (s.startSale side h a) a price ∧ s.endsCard t .dispense off .ok)
          ∧ ((g.panels.get side).state = .updating → g.price.isSome = true →
            s.claimsGranted t side h ∧ t.pos side = q ∧ s.endsCard t .dispense off .ok))
      ∧ t.pos (other side) = s.pos (other side)
      ∧ s.changesOnly t [.memory, .parity, .lanes, .notices, .meters, .positions, .prices, .displays]

/-- CANCEL by position state (R68): it withdraws an authorization, makes a start, one that waits at the price gate too, fall back with
CANCELLED, ends a dispensing sale with HOST, and is refused BUSY otherwise and while the site is in POWER DOWN. In a CLOSING site the
fall-back closes the position (log 47). -/
def Obligations.CancelActsByState : Prop :=
  ∀ (s : State) (off : Nat) (c : Card) (side : Side), s.holds .cancel off c → c.to = sideCode side →
    ∃ t, exec .cancel s = .next t
      ∧ (s.ssu.site = .powerDown → s.endsCard t .dispense off .busy ∧ (s.calm → t.pos side = s.pos side))
      ∧ (s.ssu.site ≠ .powerDown → (s.pos side).st.atRest = true ∨ (s.pos side).st = .calling ∨ (s.pos side).st = .ending →
          s.endsCard t .dispense off .busy ∧ t.pos side = s.pos side)
      ∧ (s.ssu.site ≠ .powerDown → s.ssu.site ≠ .closing → (s.pos side).st = .authorized → s.endsCard t .dispense off .ok
          ∧ t.pos side = (s.pos side).withdrawn (decide ((s.lifted side).length = 1)))
      ∧ (∀ x a, s.ssu.site ≠ .powerDown → (s.pos side).st.isStarting = true → (s.pos side).sale = some x →
          x.held.or (s.pos side).auth = some a → s.endsCard t .dispense off .ok ∧ s.fallsBack t side (s.pos side) a .cancelled 0
            ∧ (s.calm → s.claimsReturned t x))
      ∧ (∀ x, s.ssu.site ≠ .powerDown → (s.pos side).st.isDispensing = true → (s.pos side).sale = some x →
          s.endsCard t .dispense off .ok ∧ t.pos side = (s.pos side).endingWith x .host)
      ∧ (s.calm → s.noPending → s.readLink off = .atEnd → t.pos (other side) = s.pos (other side)
          ∧ s.changesOnly t ([.memory, .parity, .lanes, .notices, .meters, .positions, .displays] ++ s.nightEntry))

/-- STOP and RESUME (R69, R70): a flowing sale pauses, its valves shut, its pump on, its flow timer stopped; STOP ALL pauses every
flowing sale; RESUME ends a sale that has reached its target and lets the others flow again. Refusals BUSY and BLOCKED. -/
def Obligations.StopAndResume : Prop :=
  (∀ (s : State) (off : Nat) (c : Card), s.holds .stop off c → s.calm → s.readLink off = .atEnd →
    ∃ t, exec .stop s = .next t ∧ s.changesOnly t [.memory, .parity, .lanes, .notices, .positions, .displays]
      ∧ (2 < c.to → s.endsCard t .dispense off .badTarget ∧ t.psc = s.psc)
      ∧ (∀ side, c.to = sideCode side →
          let flows := s.ssu.site ≠ .powerDown ∧ ((s.pos side).st = .fuelling ∨ (s.pos side).st = .slowing)
          t.pos (other side) = s.pos (other side)
            ∧ (flows → s.endsCard t .dispense off .ok ∧ t.pos side = { (s.pos side).enter .paused with flowTimer := none })
            ∧ (¬ flows → s.endsCard t .dispense off .busy ∧ t.pos side = s.pos side))
      ∧ (c.to = 2 → s.endsCard t .dispense off .ok ∧ ∀ side,
          let flows := s.ssu.site ≠ .powerDown ∧ ((s.pos side).st = .fuelling ∨ (s.pos side).st = .slowing)
          (flows → t.pos side = { (s.pos side).enter .paused with flowTimer := none }) ∧ (¬ flows → t.pos side = s.pos side)))
  ∧ ∀ (s : State) (off : Nat) (c : Card) (side : Side), s.holds .resume off c → c.to = sideCode side → s.calm →
    s.readLink off = .atEnd →
    ∃ t, exec .resume s = .next t ∧ t.pos (other side) = s.pos (other side)
      ∧ s.changesOnly t [.memory, .parity, .lanes, .notices, .positions, .displays]
      ∧ ((s.ssu.site = .powerDown ∨ (s.pos side).st ≠ .paused) → s.endsCard t .dispense off .busy ∧ t.pos side = s.pos side)
      ∧ (s.ssu.site ≠ .powerDown → (s.pos side).st = .paused → s.iwu.emergency = some true →
          s.endsCard t .dispense off .blocked ∧ t.pos side = s.pos side)
      ∧ ∀ x l, s.ssu.site ≠ .powerDown → (s.pos side).st = .paused → s.iwu.emergency ≠ some true → (s.pos side).sale = some x →
          x.lock = some l → s.endsCard t .dispense off .ok
            ∧ (l.vt ≤ x.v → t.pos side = (s.pos side).endingWith x (match l.source with
                | .preset => .preset
                | .limit => .limit))
            ∧ (x.v < l.vt → t.pos side =
                { (s.pos side).enter (if l.vs.any (fun vs => decide (vs ≤ x.v)) then .slowing else .fuelling) with
                  flowTimer := some ((s.pos side).config.noFlow * 1000) })

/-- CLOSE SALE and READ SALE (R71 to R73): the tagged sale leaves the unpaid list and the UNPAID record is written; the report of the
current sale or of an unpaid one carries its fields as the report's layout gives them, volume and product in the form asked for. The
order of READ SALE's refusals, BAD FORM before BAD VALUE before NOT FOUND, is the model's choice (log 48), but that the checks of ranges
come before NOT FOUND (03, Lane 0 cards). -/
def Obligations.SaleCards : Prop :=
  (∀ (s : State) (off : Nat) (c : Card) (side : Side), s.holds .closeSale off c → c.to = sideCode side → 1 ≤ c.words.toNat →
    ∃ t, exec .closeSale s = .next t
      ∧ (s.storeClosed = true → s.endsCard t .dispense off .busy ∧ (s.calm → t.pos side = s.pos side))
      ∧ (s.storeClosed = false → (∀ e ∈ (s.pos side).unpaid, e.tag.toNat ≠ c.w 0) →
          s.endsCard t .dispense off .notFound ∧ (s.calm → t.pos side = s.pos side))
      ∧ (s.storeClosed = false → (∃ e ∈ (s.pos side).unpaid, e.tag.toNat = c.w 0) →
          s.startsStep t [unpaidRecord side] .dispense off
            ∧ (s.calm → s.storeFree →
                t.pos side = { s.pos side with unpaid := (s.pos side).unpaid.filter fun e => decide (e.tag.toNat ≠ c.w 0) }
                  ∧ t.pos (other side) = s.pos (other side) ∧ s.changesOnly t [.positions, .lanes, .store, .displays])))
  ∧ ∀ (s : State) (off : Nat) (c : Card) (side : Side), s.holds .readSale off c → c.to = sideCode side → s.calm →
    s.readLink off = .atEnd → s.memoryOk →
    let p := s.pos side
    let full := decide (c.form = 2) || (decide (c.form = 0) && decide (p.config.form = .full))
    ∃ t, exec .readSale s = .next t ∧ s.changesOnly t [.memory, .parity, .lanes, .notices, .displays]
      ∧ (c.form = 3 → s.refusesCard t .dispense off .badForm)
      ∧ (c.form < 3 → (c.words.toNat < 12 ∨ 2 < c.b 0) → s.refusesCard t .dispense off .badValue)
      ∧ (c.form < 3 → 12 ≤ c.words.toNat → (c.b 0 = 0 ∧ p.sale = none ∨ 1 ≤ c.b 0 ∧ c.b 0 ≤ 2 ∧ p.unpaid.length < c.b 0) →
          s.refusesCard t .dispense off .notFound)
      ∧ (∀ x, c.form < 3 → 12 ≤ c.words.toNat → c.b 0 = 0 → p.sale = some x →
          s.endsCard t .dispense off .ok ∧ (∀ a, (a < off + 4 ∨ off + 64 ≤ a) → Memory.read t.xm a = Memory.read s.xm a)
            ∧ t.showsReport off (full := full)
                { tag := x.tag, origin := x.origin, hose := x.hose, grade := x.grade, kind := x.kind,
                  mode := (match x.lock with
                    | none => 255
                    | some l => l.mode.code),
                  stop := (match x.stop with
                    | none => 0
                    | some r => r.code),
                  recovered := false, flags := x.flags, p := (x.lock.map Lock.p).getD 0, d := (x.lock.map Lock.d).getD 0,
                  e := (x.lock.map Lock.e).getD 0, amount := x.amount, v := x.v, product := x.n, started := x.started, ended := none })
      ∧ ∀ e, c.form < 3 → 12 ≤ c.words.toNat → 1 ≤ c.b 0 → c.b 0 ≤ 2 → p.unpaid[c.b 0 - 1]? = some e →
          s.endsCard t .dispense off .ok ∧ (∀ a, (a < off + 4 ∨ off + 64 ≤ a) → Memory.read t.xm a = Memory.read s.xm a)
            ∧ t.showsReport off (full := full)
                { tag := e.tag, origin := e.origin, hose := e.hose, grade := e.grade, kind := e.kind, mode := e.mode.code,
                  stop := e.stop.code, recovered := e.recovered, flags := e.flags, p := e.p, d := e.d, e := e.e, amount := e.amount,
                  v := e.v, product := e.v * e.e, started := e.started, ended := some e.ended }

/-- CLOSE POSITION and OPEN POSITION (R74, R110): an IDLE position closes for HOST (in CLOSING none is IDLE: R48, R160,
`State.positionsFit`); a position closed for HOST or DISPLAY has a segment
test begun in its EIGHTS phase, posted to all eight fields, and stays CLOSED. -/
def Obligations.ClosingAndOpeningAPosition : Prop :=
  (∀ (s : State) (off : Nat) (c : Card) (side : Side), s.holds .closePosition off c → c.to = sideCode side → s.calm →
    s.readLink off = .atEnd → (s.ssu.site = .closing → (s.pos side).st ≠ .idle) →
    ∃ t, exec .closePosition s = .next t ∧ t.pos (other side) = s.pos (other side)
      ∧ s.changesOnly t [.memory, .parity, .lanes, .notices, .positions, .displays]
      ∧ ((s.pos side).st = .idle → s.endsCard t .dispense off .ok ∧ t.pos side = (s.pos side).closedFor .host
          ∧ s.reports t (.position side .closed) 1)
      ∧ ((s.pos side).st ≠ .idle → s.endsCard t .dispense off .busy ∧ t.pos side = s.pos side))
  ∧ ∀ (s : State) (off : Nat) (c : Card) (side : Side), s.holds .openPosition off c → c.to = sideCode side → s.calm →
    s.readLink off = .atEnd →
    ∃ t, exec .openPosition s = .next t ∧ s.changesOnly t [.memory, .parity, .lanes, .notices, .prices, .displays]
      ∧ (s.ssu.site ≠ .opened → s.endsCard t .dispense off .closed)
      ∧ (s.ssu.site = .opened → ((s.pos side).st ≠ .closed .host ∧ (s.pos side).st ≠ .closed .display
            ∨ (s.board side).segment = true) → s.endsCard t .dispense off .busy)
      ∧ (s.ssu.site = .opened → ((s.pos side).st = .closed .host ∨ (s.pos side).st = .closed .display) →
          (s.board side).segment = false → s.endsCard t .dispense off .ok ∧ (t.board side).test = some (.segment .eights true false)
            ∧ ∀ f, ((t.board side).field f).wanted = eights f ∧ ((t.board side).field f).st ≠ .current)

/-- Accepted CONFIGURE POSITION, SET PRICING and SET DISPLAY POLICY (R41, R75, R113): the settings are replaced and a CONFIG store step
begins, on which the card finishes. A card of any kind whose target, form or body is out of range (`Card.misfits`) is refused BAD TARGET,
BAD FORM or BAD VALUE and changes nothing but itself and its lane, READ SALE, SEND, ARM RECEIVE and DISARM RECEIVE among them (R72, R137,
R139, R141); the order of these refusals, and of BAD VALUE before BUSY where the rule gives none, is the model's choice (log 48). In range,
CONFIGURE POSITION, SET PRICING, SET DISPLAY POLICY, SET WATCH, SET RELAY FLOOR, LOAD PRICE, READ TOTALS and SET SCHEDULE are refused BUSY in
WAKING at STORE CHECK and in FAULTED for STORE (R41, R75, R86, R113, R126, R132, R171, R187), CONFIGURE POSITION also while its position is
neither CLOSED nor IDLE, SET SCHEDULE also in POWER DOWN. -/
def Obligations.SettingsCardsReplaceTheSettings : Prop :=
  (∀ (s : State) (off : Nat) (c : Card) (side : Side) (g : PositionConfig), s.holds .configurePosition off c → c.to = sideCode side →
    4 ≤ c.words.toNat → c.w 0 = g.saleLimit → c.h 4 = g.firstFlow → c.h 6 = g.noFlow → c.h 8 = g.motorSettle → c.h 10 = g.settleWindow →
    c.b 12 = g.form.code → 1000 ≤ g.saleLimit → g.saleLimit ≤ 99999990 → 5 ≤ g.firstFlow → g.firstFlow ≤ 120 → 5 ≤ g.noFlow →
    g.noFlow ≤ 300 → g.motorSettle ≤ 5000 → 100 ≤ g.settleWindow → g.settleWindow ≤ 2000 → s.storeClosed = false →
    (s.pos side).st.atRest = true →
    ∃ t, exec .configurePosition s = .next t ∧ t.pos side = { s.pos side with config := g } ∧ s.startsStep t [.config] .site off
      ∧ (s.calm → s.storeFree → t.pos (other side) = s.pos (other side) ∧ s.changesOnly t [.positions, .lanes, .store, .displays]))
  ∧ (∀ (s : State) (off : Nat) (c : Card) (m : RoundMode) (f : Form), s.holds .setPricing off c → 1 ≤ c.words.toNat → c.b 0 = m.code →
    c.b 1 = f.code → s.storeClosed = false →
    ∃ t, exec .setPricing s = .next t ∧ t.pru.siteMode = m ∧ t.pru.totalsForm = f ∧ s.startsStep t [.config] .site off
      ∧ (s.calm → s.storeFree → t.pru = { s.pru with siteMode := m, totalsForm := f }
          ∧ s.changesOnly t [.prices, .lanes, .store, .displays]))
  ∧ (∀ (s : State) (off : Nat) (c : Card) (a : PanelAction), s.holds .setDisplayPolicy off c → 1 ≤ c.words.toNat →
    (c.b 0 = 1 ∨ c.b 0 = 3 ∨ c.b 0 = 7 ∨ c.b 0 = 15) → c.b 1 = a.code → s.storeClosed = false →
    ∃ t, exec .setDisplayPolicy s = .next t ∧ t.dlc.policy = { retryLimit := c.b 0, action := a } ∧ s.startsStep t [.config] .site off
      ∧ (s.calm → s.storeFree → s.changesOnly t [.lanes, .store, .displays]))
  ∧ (∀ (s : State) (off : Nat) (c : Card) (k : Kind) (o : CardOutcome), s.holds k off c → c.misfits k = some o →
    ∃ t, exec k.command s = .next t ∧ s.refusesCard t k.lane off o)
  ∧ (∀ (s : State) (off : Nat) (c : Card) (k : Kind), s.holds k off c → c.misfits k = none → s.storeClosed = true →
    k ∈ [Kind.configurePosition, .setPricing, .setDisplayPolicy, .setWatch, .setRelayFloor, .loadPrice, .readTotals, .setSchedule] →
    ∃ t, exec k.command s = .next t ∧ s.refusesCard t k.lane off .busy)
  ∧ (∀ (s : State) (off : Nat) (c : Card) (side : Side), s.holds .configurePosition off c → c.misfits .configurePosition = none →
    c.to = sideCode side → (s.pos side).st.atRest = false →
    ∃ t, exec .configurePosition s = .next t ∧ s.refusesCard t .site off .busy)
  ∧ ∀ (s : State) (off : Nat) (c : Card), s.holds .setSchedule off c → c.misfits .setSchedule = none → s.ssu.site = .powerDown →
    ∃ t, exec .setSchedule s = .next t ∧ s.refusesCard t .site off .busy

/-- CLEAR SITE FLAGS, READ TOTALS and READ METERS (R21, R42, R187): the flags as they stand go into the result word and are cleared; the
hose's live totals and the live generation go into the result words in the form asked for; a meter's live counts, count rate, fault state,
phase-error count, claim owner and role into the result words. The 0 in the other bits of CLEAR SITE FLAGS' result word is the model's
reading (log 37); the 0 in the role byte of a meter without an owner (log 57) and the coding of a negative since-report count modulo
65,536 (log 58) are the model's choices. -/
def Obligations.ReadingCards : Prop :=
  (∀ (s : State) (off : Nat) (c : Card), s.holds .clearSiteFlags off c → 1 ≤ c.words.toNat → s.calm → s.readLink off = .atEnd →
    s.memoryOk →
    ∃ t, exec .clearSiteFlags s = .next t ∧ s.endsCard t .site off .ok
      ∧ t.pru = { s.pru with accrued := { inexact := false, reverse := false, ceiling := false, discountClamped := false } }
      ∧ (∀ b, b < 8 → (Memory.read t.xm (off + 16)).getLsbD b = (decide (b = 0) && s.pru.accrued.inexact
          || decide (b = 1) && s.pru.accrued.reverse || decide (b = 2) && s.pru.accrued.ceiling
          || decide (b = 3) && s.pru.accrued.discountClamped))
      ∧ (∀ i, 1 ≤ i → i < 4 → Memory.read t.xm (off + 16 + i) = 0)
      ∧ (∀ a, (a < off + 4 ∨ off + 20 ≤ a) → Memory.read t.xm a = Memory.read s.xm a)
      ∧ s.changesOnly t [.memory, .parity, .lanes, .notices, .prices, .displays])
  ∧ (∀ (s : State) (off : Nat) (c : Card) (side : Side) (h : HoseNo) (g : Nat), s.holds .readTotals off c →
    c.to = 4 * sideCode side + h.val → 6 ≤ c.words.toNat → c.form < 3 → s.storeClosed = false → s.rsc.generation = some g → s.calm →
    s.readLink off = .atEnd → s.memoryOk →
    let full := c.form = 2 ∨ (c.form = 0 ∧ s.pru.totalsForm = .full)
    let x := (s.rsc.totals.get side)[h]
    ∃ t, exec .readTotals s = .next t ∧ s.endsCard t .site off .ok
      ∧ (∀ i, i < 8 → Memory.read t.xm (off + 16 + i) = BitVec.ofNat 8 ((if full then x.volume else x.volume / 1000) / 256 ^ i))
      ∧ (∀ i, i < 8 → Memory.read t.xm (off + 24 + i) = BitVec.ofNat 8 ((if full then x.amount else x.amount / 100) / 256 ^ i))
      ∧ (∀ i, i < 4 → Memory.read t.xm (off + 32 + i) = BitVec.ofNat 8 (x.sales / 256 ^ i))
      ∧ (∀ i, i < 4 → Memory.read t.xm (off + 36 + i) = BitVec.ofNat 8 (g / 256 ^ i))
      ∧ (∀ a, (a < off + 4 ∨ off + 40 ≤ a) → Memory.read t.xm a = Memory.read s.xm a)
      ∧ s.changesOnly t [.memory, .parity, .lanes, .notices, .displays])
  ∧ ∀ (s : State) (off : Nat) (c : Card) (m : MeterNo), s.holds .readMeters off c → c.to = m.val + 1 → 5 ≤ c.words.toNat →
    ∃ t, exec .readMeters s = .next t ∧ s.endsCard t .site off .ok
      ∧ (s.calm → s.memoryOk → s.readLink off = .atEnd →
          let x := s.meter m
          t.shows (off + 16) 6 x.lifetime.toNat ∧ t.shows (off + 22) 2 (x.sinceReport % 65536).toNat
          ∧ t.shows (off + 24) 4 x.unclaimed.toNat ∧ t.shows (off + 28) 2 x.rate ∧ t.shows (off + 30) 1 (if x.faulted then 1 else 0)
          ∧ t.shows (off + 31) 1 x.phaseErrors
          ∧ t.shows (off + 32) 1 (match x.owner with
              | none => 0
              | some (.a, _) => 1
              | some (.b, _) => 2)
          ∧ t.shows (off + 33) 1 (match x.owner with
              | none => 0
              | some (_, .primary) => 1
              | some (_, .secondary) => 2
              | some (_, .satellite) => 3)
          ∧ (∀ a, (a < off + 4 ∨ off + 34 ≤ a) → Memory.read t.xm a = Memory.read s.xm a)
          ∧ s.changesOnly t [.memory, .parity, .lanes, .notices, .displays])

/-! ## Prices (04) -/

/-- LOAD PRICE (R79, R83, R84, R86, R87): the price and code are pending while a sale is locked on the grade; with none they are applied
in the same event and a PRICES store step begins. The card waits. Once its price is applied and its step complete, it finishes in the
event in which no panel of the grade is UPDATING any more, OK or, with a panel in FAULT, BLOCKED, its result word giving the panel
states. An apply makes the panels UPDATING; during a segment test a panel with a member in FAULT turns FAULT in the same event where one of
its fields turns WRITING in it (log 40). -/
def Obligations.LoadPriceAppliesOrWaits : Prop :=
  (∀ (s : State) (off : Nat) (c : Card) (g : Fin 8) (p : Nat) (k : RoundCode), s.holds .loadPrice off c → c.to = g.val →
    3 ≤ c.words.toNat → c.w 0 = p → 1 ≤ p → p ≤ 99999 → c.b 4 = k.code → s.storeClosed = false → s.calm → s.storeFree →
    s.lanes.site.stopRequested = false →
    ∃ t, exec .loadPrice s = .next t ∧ t.lanes.site.st = .waiting
      ∧ t.lanes.site.held = some { offset := off, card := c, phase := .waiting } ∧ (∀ x, x ≠ g → (t.grade x).price = (s.grade x).price)
      ∧ (s.lockedOn g = true → (t.grade g).pending = some (p, k) ∧ (t.grade g).price = (s.grade g).price
          ∧ (t.grade g).code = (s.grade g).code ∧ s.changesOnly t [.lanes, .prices, .displays])
      ∧ (s.lockedOn g = false → (t.grade g).price = some p ∧ (t.grade g).code = k ∧ (t.grade g).pending = none
          ∧ s.stepBegun t [.prices] [.loadPrice]
          ∧ (let faulted := fun side => (s.board side).segment = true ∧ ∃ h, (s.route side h).fitted = true ∧ (s.route side h).grade = g
                ∧ ((s.board side).field (.grade h)).st = .fault
            (∀ side, ((s.grade g).panels.get side).state ≠ .unused →
                ((t.grade g).panels.get side).state = .updating ∨ ((t.grade g).panels.get side).state = .fault ∧ faulted side)
              ∧ ((∀ side, ¬ faulted side) → s.changesOnly t [.lanes, .prices, .store, .displays]))))
  ∧ ∀ (s : State) (side : Side) (h : HoseNo), s.mainSupply = true → s.calm → s.ssu.site ≠ .powerDown → s.memoryOk →
    (s.board side).segment = false →
    ∀ l, s.pru.loading = some l → l.applied = true → l.stored = true →
    ∀ off c, s.lanes.site.held = some { offset := off, card := c, phase := .waiting } → c.kind = 0x28 → s.readLink off = .atEnd →
    (s.route side h).fitted = true → (s.route side h).grade = l.grade → ((s.grade l.grade).panels.get (other side)).state ≠ .updating →
    ∀ a, (s.board side).attempt = some a → a.field = .grade h →
    let r := (s.board side).field (.grade h)
    let settled := fun k => k ≠ h → (s.route side k).fitted = true → (s.route side k).grade = l.grade →
      ((s.board side).field (.grade k)).st = .current
    let ends := fun (t : State) (mine : PanelState) =>
      let panel := fun x => if x = side then mine else ((s.grade l.grade).panels.get x).state
      t.pru.loading = none ∧ (∀ x, ((t.grade l.grade).panels.get x).state = panel x)
        ∧ t.cardEnded .site off (if panel .a = .fault ∨ panel .b = .fault then .blocked else .ok)
        ∧ Memory.read t.xm (off + 24) = BitVec.ofNat 8 (panel .a).code ∧ Memory.read t.xm (off + 25) = BitVec.ofNat 8 (panel .b).code
    (∃ t, exec (.litFrame side { number := a.number, wellFormed := true, field := a.field, content := a.sent }) s = .next t
      ∧ (r.st ≠ .current → r.repost = false → r.wanted = a.sent → (∀ k, settled k) → ends t .current)
      ∧ ((∃ k, ¬ settled k) → (∀ k, ((s.board side).field (.grade k)).st ≠ .fault) → t.pru.loading = some l ∧ t.lanes = s.lanes))
    ∧ ∃ t, exec (.answerTimeout side) s = .next t ∧ (r.st ≠ .fault → r.retries = 0 → ends t .fault)
      ∧ (0 < r.retries → t.pru.loading = some l ∧ t.lanes = s.lanes)

/-! ## Displays (05) -/

/-- The end of an attempt on a display link (R96, R97, R103, R104): verified by the LIT frame that answers it, failed by any other frame
of its write number or by the timeout; a field without retries left enters FAULT, a legal one setting the side fault; a frame for no
attempt in flight changes nothing. It takes the running test on: the start check through its three phases to its end, which starts the
pump (R55, R108); a segment test through its two to its end, which puts the owners' contents back, sends the postings held back, to a grade
field that has just entered FAULT too, and answers OPEN POSITION (R74, R110, R111), and does so in stage 2 of a wake too where the other board
has no result yet (R165). A grade field that enters FAULT during a segment test ends a LOAD PRICE that waits for its panel, BLOCKED, though the test's end in the
same event makes the panel UPDATING again by the posting held back (R79, R87, R110; log 4). That every report of the side fault raises
DISPLAY FAULT is the model's reading (log 34). -/
def Obligations.AttemptsEndVerifiedOrFailed : Prop :=
  (∀ (s : State) (side : Side) (f : LitFrame), s.mainSupply = true → s.calm →
    (∀ a, (s.board side).attempt = some a → f.number ≠ a.number) → exec (.litFrame side f) s = .next s)
  ∧ (∀ (s : State) (side : Side), s.mainSupply = true → s.calm → (s.board side).segment = false →
    ∀ a, (s.board side).attempt = some a →
    let r := (s.board side).field a.field
    let d := fieldDetail side a.field
    let alone := s.quiet ∧ (s.board side).test = none
    (∃ t, exec (.litFrame side { number := a.number, wellFormed := true, field := a.field, content := a.sent }) s = .next t
      ∧ ((t.board side).field a.field).shown = some a.sent ∧ ((t.board side).field a.field).retries = s.dlc.policy.retryLimit
      ∧ ((t.board side).field a.field).repost = false ∧ (r.retries < s.dlc.policy.retryLimit → s.reports t .retry d)
      ∧ (alone → s.dlc.policy.retryLimit ≤ r.retries → t.ntc = s.ntc)
      ∧ (∀ h, a.field = .grade h →
          (((t.board side).field a.field).st = .current ↔ r.repost = false ∧ r.wanted = a.sent)
            ∧ ((t.board side).field a.field).wanted = r.wanted)
      ∧ (alone → s.changesOnly t [.notices, .prices, .displays]))
    ∧ ∀ e : Instr, (e = .answerTimeout side ∨ ∃ f : LitFrame, e = .litFrame side f ∧ f.number = a.number
          ∧ (f.wellFormed = false ∨ f.field ≠ a.field ∨ f.content ≠ a.sent)) →
        ∃ t, exec e s = .next t ∧ ((t.board side).field a.field).shown = none
          ∧ (0 < r.retries → ((t.board side).field a.field).retries = r.retries - 1 ∧ ((t.board side).field a.field).st ≠ .current
              ∧ ((t.board side).field a.field).st ≠ .fault
              ∧ ((s.board side).test = none → s.changesOnly t [.prices, .displays]))
          ∧ (r.retries = 0 → ((t.board side).field a.field).st = .fault)
          ∧ (r.retries = 0 → r.st ≠ .fault → isLegal a.field = true → (t.board side).sideFault = true ∧ s.reports t .legalFieldFault d
              ∧ t.notified (.position side .displayFault)
              ∧ ((s.pos side).st = .idle ∨ (s.pos side).st = .calling ∨ (s.pos side).st = .authorized →
                  t.pos side = (s.pos side).closedFor .display)
              ∧ (∀ x, (s.pos side).st.isStarting = true → (s.pos side).sale = some x → s.claimsReturned t x
                  ∧ (t.board side).test = none ∧ t.notified (.position side .closed)
                  ∧ t.pos side = { ({ s.pos side with sale := none, motorTimer := none }).closedFor .display with
                      startResult := .display })
              ∧ (∀ x, (s.pos side).st.isDispensing = true → (s.pos side).sale = some x → t.pos side = (s.pos side).endingWith x .display)
              ∧ ((s.pos side).st = .closed .host → t.pos side = (s.pos side).enter (.closed .display))
              ∧ ((s.pos side).st.isClosed = true → (s.pos side).st ≠ .closed .host → t.pos side = s.pos side)
              ∧ ((s.pos side).st = .ending → t.pos side = s.pos side))
          ∧ (r.retries = 0 → r.st ≠ .fault → isLegal a.field = false → (t.board side).sideFault = (s.board side).sideFault
              ∧ s.reports t (if a.field = .status then .statusFieldFault else .gradeFieldFault) d ∧ (alone → t.psc = s.psc))
          ∧ (s.quiet → s.changesOnly t [.meters, .positions, .notices, .prices, .displays]))
  ∧ (∀ (s : State) (side : Side), s.mainSupply = true → s.calm → ∀ a, (s.board side).attempt = some a →
    (let r := (s.board side).field a.field; r.repost = false ∧ r.wanted = a.sent) →
    (∀ ph, (s.board side).test = some (.startCheck ph) → (s.pos side).st = .starting .check) →
    let current := fun f => f = a.field ∨ ((s.board side).field f).st = .current
    let done := ∀ f ∈ allFields, current f ∨ isLegal f = false ∧ ((s.board side).field f).st = .fault
    let posted := fun (t : State) (f : FieldId) (c : Content) => ((t.board side).field f).wanted = c
      ∧ ((t.board side).field f).retries = s.dlc.policy.retryLimit ∧ ((t.board side).field f).st ≠ .current
    let p := s.pos side
    ∃ t, exec (.litFrame side { number := a.number, wellFormed := true, field := a.field, content := a.sent }) s = .next t
      ∧ ((s.board side).test = some (.startCheck .eights) → (∀ f ∈ legalFields, current f) →
          (t.board side).test = some (.startCheck .blank) ∧ posted t .amount (blank .amount) ∧ posted t .volume (blank .volume))
      ∧ ((s.board side).test = some (.startCheck .blank) → current .amount → current .volume →
          (t.board side).test = some (.startCheck .zeros) ∧ posted t .amount (longValue 0) ∧ posted t .volume (longValue 0))
      ∧ ((s.board side).test = some (.startCheck .zeros) → current .amount → current .volume → (t.board side).test = none
          ∧ ∀ x l, p.sale = some x → x.lock = some l →
              t.pos side = if p.config.motorSettle = 0 then p.settled x l
                else { p.enter (.starting .motor) with motorTimer := some p.config.motorSettle })
      ∧ (∀ ph, (s.board side).test = some (.startCheck ph) → (∃ f ∈ [FieldId.amount, .volume], ¬ current f) →
          (t.board side).test = (s.board side).test ∧ t.psc = s.psc)
      ∧ (∀ ph o g, (s.board side).test = some (.segment ph o g) → ¬ done → (t.board side).test = (s.board side).test
          ∧ (t.board side).sideFault = (s.board side).sideFault)
      ∧ (∀ o g, (s.board side).test = some (.segment .eights o g) → done → (t.board side).test = some (.segment .blank o g)
          ∧ ∀ f ∈ allFields, (current f → posted t f (blank f)) ∧ (¬ current f → ((t.board side).field f).wanted =
              ((s.board side).field f).wanted))
      ∧ ∀ o g, (s.board side).test = some (.segment .blank o g) → done → p.st ≠ .starting .gate →
          (g = false ∨ s.ssu.site ≠ .waking ∨ s.ssu.wake.stage ≠ 2 ∨ s.ssu.results.get (other side) = none) →
          (t.board side).test = none ∧ (t.board side).sideFault = false
            ∧ t.contentsSent side ∧ (∀ h, ((t.board side).field (.grade h)).wanted = s.gradeContent side h)
            ∧ (o = false → t.pos side = p)
            ∧ (o = true → p.st.isClosed = true → s.reports t (.position side .opened) 0
                ∧ t.pos side = if s.ssu.site = .opened then (p.enter .idle).clearFlags
                    else if s.ssu.site = .closing ∨ s.ssu.site = .night then p.enter (.closed .night) else p.enter (.closed .wake)))
  ∧ ∀ (s : State) (side : Side) (ph : TestPhase) (o g : Bool), s.mainSupply = true → s.calm → ∀ a, (s.board side).attempt = some a →
    (s.board side).test = some (.segment ph o g) → ((s.board side).field a.field).retries = 0 →
    ((s.board side).field a.field).st ≠ .fault →
    (g = false ∨ s.ssu.site ≠ .waking ∨ s.ssu.wake.stage ≠ 2 ∨ s.ssu.results.get (other side) = none) →
    (s.pos side).st.isClosed = true →
    let posted := fun t : State => (t.board side).test = none ∧ ((s.board side).field a.field).heldPost = true ∧ ∃ h, a.field = .grade h
    ∃ t, exec (.answerTimeout side) s = .next t ∧ (¬ posted t → ((t.board side).field a.field).st = .fault)
      ∧ (posted t → ((t.board side).field a.field).st ≠ .fault ∧ ((t.board side).field a.field).st ≠ .current)
      ∧ (isLegal a.field = true → (t.board side).test = none ∧ (t.board side).sideFault = true
          ∧ s.reports t .legalFieldFault (fieldDetail side a.field) ∧ t.notified (.position side .displayFault)
          ∧ (o = true → t.pos side = (s.pos side).enter (.closed .display))
          ∧ (∀ h, ((t.board side).field (.grade h)).wanted = s.gradeContent side h))
      ∧ (isLegal a.field = false → (t.board side).sideFault = (if (t.board side).test = none then false else (s.board side).sideFault)
          ∧ (ph = .eights → (t.board side).test = some (.segment
              (if ∀ f ∈ allFields, f = a.field ∨ ((s.board side).field f).st = .current
                ∨ isLegal f = false ∧ ((s.board side).field f).st = .fault then .blank else .eights) o g)))
      ∧ ∀ (h : HoseNo) (l : LoadPrice) (off : Nat) (c : Card), a.field = .grade h → s.ssu.site ≠ .powerDown → s.memoryOk →
          s.pru.loading = some l → l.applied = true → l.stored = true →
          s.lanes.site.held = some { offset := off, card := c, phase := .waiting } → c.kind = 0x28 → s.readLink off = .atEnd →
          (s.route side h).fitted = true → (s.route side h).grade = l.grade →
          ((s.grade l.grade).panels.get (other side)).state ≠ .updating →
          let panel := fun x => if x = side then PanelState.fault else ((s.grade l.grade).panels.get x).state
          t.pru.loading = none ∧ t.cardEnded .site off .blocked
            ∧ Memory.read t.xm (off + 24) = BitVec.ofNat 8 (panel .a).code
            ∧ Memory.read t.xm (off + 25) = BitVec.ofNat 8 (panel .b).code
            ∧ (ph = .blank → (∀ f ∈ allFields, f = a.field ∨ ((s.board side).field f).st = .current
                ∨ isLegal f = false ∧ ((s.board side).field f).st = .fault) →
              (∀ k, (s.route side k).fitted = true → (s.route side k).grade = l.grade →
                ((s.board side).field (.grade k)).heldPost = true) →
              (t.board side).test = none ∧ ((t.grade l.grade).panels.get side).state = .updating)

/-- A refresh instant (R101, R102): refresh due is set on every CURRENT or FAULT field and on no other, and at night a service pass
begins. While an attempt is in flight no other begins. On a free link the next attempt begins in the same event (R96, R98): that of the
lowest-numbered PENDING field, which turns WRITING; with none PENDING, the refresh attempt of the lowest-numbered field with refresh due,
its state unchanged and its refresh due cleared; with neither the link rests; the attempt sends the field's wanted content under the next
write number. Where, during a segment test, a grade field is served next, it turns WRITING, and the report sets its panel again from its
members (R79, R80, R98): FAULT, blocked at the entry under BLOCK, with a member in FAULT, which an apply during a segment test has left
UPDATING (log 40), and UPDATING otherwise. -/
def Obligations.RefreshInstantMarksFields : Prop :=
  (∀ (s : State) (side : Side), s.mainSupply = true → s.calm → s.ssu.site ≠ .powerDown → (s.board side).attempt.isSome = true →
    ∃ t, exec (.refreshInstant side) s = .next t
      ∧ (∀ f, ((t.board side).field f).refreshDue =
          (((s.board side).field f).refreshDue || ((s.board side).field f).st == .current || ((s.board side).field f).st == .fault))
      ∧ (t.board side).pass = (s.ssu.site == .night) ∧ (t.board side).attempt = (s.board side).attempt
      ∧ (∀ f, ((t.board side).field f).shown = ((s.board side).field f).shown ∧ ((t.board side).field f).retries = ((s.board side).field f).retries)
      ∧ s.changesOnly t [.displays])
  ∧ (∀ (s : State) (side : Side), s.mainSupply = true → s.calm → s.ssu.site ≠ .powerDown → s.contentsSent side →
    (s.board side).attempt = none →
    let b := s.board side
    let due := fun f => (b.field f).refreshDue || (b.field f).st == .current || (b.field f).st == .fault
    let marked := fun f => { b.field f with refreshDue := due f }
    let first := fun (p : FieldId → Bool) (f : FieldId) => ∃ before after, allFields = before ++ f :: after ∧ p f = true
      ∧ ∀ x ∈ before, p x = false
    let pending := fun f => (b.field f).st == .pending
    ∃ t, exec (.refreshInstant side) s = .next t ∧ s.changesOnly t [.displays] ∧ (t.board side).test = b.test
      ∧ (t.board side).sideFault = b.sideFault
      ∧ (∀ f, first pending f → (t.board side).attempt = some { field := f, number := b.writeNumber, sent := (b.field f).wanted }
          ∧ (t.board side).writeNumber = b.writeNumber + 1 ∧ (t.board side).pass = (s.ssu.site == .night)
          ∧ ∀ x, (t.board side).field x = if x = f then { marked x with st := .writing } else marked x)
      ∧ ((∀ f, pending f = false) → ∀ f, first due f →
          (t.board side).attempt = some { field := f, number := b.writeNumber, sent := (b.field f).wanted }
            ∧ (t.board side).writeNumber = b.writeNumber + 1 ∧ (t.board side).pass = (s.ssu.site == .night)
            ∧ ∀ x, (t.board side).field x = if x = f then { b.field x with refreshDue := false } else marked x)
      ∧ ((∀ f, pending f = false) → (∀ f, due f = false) → (t.board side).attempt = none
          ∧ (t.board side).writeNumber = b.writeNumber ∧ (t.board side).pass = false ∧ ∀ x, (t.board side).field x = b.field x))
  ∧ ∀ (s : State) (side : Side) (h : HoseNo), s.mainSupply = true → s.idle → s.ssu.site ≠ .powerDown → (s.board side).segment = true →
    (s.board side).attempt = none → (∀ f ∈ legalFields, ((s.board side).field f).st ≠ .pending) →
    (∀ k, k < h → ((s.board side).field (.grade k)).st ≠ .pending) → ((s.board side).field (.grade h)).st = .pending →
    (s.route side h).fitted = true →
    let g := (s.route side h).grade
    let p := (s.grade g).panels.get side
    let faulted := ∃ k, (s.route side k).fitted = true ∧ (s.route side k).grade = g ∧ ((s.board side).field (.grade k)).st = .fault
    ∃ t, exec (.refreshInstant side) s = .next t ∧ ((t.board side).field (.grade h)).st = .writing
      ∧ (t.board side).attempt = some { field := .grade h, number := (s.board side).writeNumber, sent := ((s.board side).field (.grade h)).wanted }
      ∧ (faulted → (t.grade g).panels.get side = { p with
          state := .fault, blocked := p.blocked || (p.state != .fault && s.dlc.policy.action == .block), posted := false })
      ∧ (¬ faulted → (t.grade g).panels.get side = { p with state := .updating })
      ∧ s.changesOnly t [.prices, .displays]

/-! ## Inputs (06) -/

/-- Recognised changes of the seal, of a door, of the emergency stop to released, of a tamper loop to normal (R117, R120, R122, R123,
R149): the level is taken and its notice raised, except at a first recognition of the inactive level, of the loop's normal level;
nothing else changes. The assertion of the emergency stop reaches both positions (R62, R120): a start falls back with EMERGENCY, a
dispensing sale ends with EMERGENCY, every other position stands, one with a frozen sale in POWER DOWN too (R181). That in a CLOSING site
the fall-back closes the position, CLOSED raised before START FAILED, is the model's choice (log 47). -/
def Obligations.InputChangesActAndAreReported : Prop :=
  (∀ s : State, s.mainSupply = true → s.calm →
    (∀ v, s.iwu.calSeal ≠ some v →
      ∃ t, exec (.sealChange v) s = .next t ∧ t.iwu = { s.iwu with calSeal := some v }
        ∧ (v = true ∨ s.iwu.calSeal ≠ none → s.reports t .seal 270) ∧ (v = false → s.iwu.calSeal = none → t.ntc = s.ntc)
        ∧ s.changesOnly t [.inputs, .notices, .displays])
    ∧ (∀ v, s.iwu.cabinet ≠ some v →
      ∃ t, exec (.doorChange .cabinet v) s = .next t ∧ t.iwu = { s.iwu with cabinet := some v }
        ∧ (v = true ∨ s.iwu.cabinet ≠ none → s.reports t .door 268) ∧ (v = false → s.iwu.cabinet = none → t.ntc = s.ntc)
        ∧ s.changesOnly t [.inputs, .notices, .displays])
    ∧ (∀ v, s.iwu.hydraulic ≠ some v →
      ∃ t, exec (.doorChange .hydraulic v) s = .next t ∧ t.iwu = { s.iwu with hydraulic := some v }
        ∧ (v = true ∨ s.iwu.hydraulic ≠ none → s.reports t .door 269) ∧ (v = false → s.iwu.hydraulic = none → t.ntc = s.ntc)
        ∧ s.changesOnly t [.inputs, .notices, .displays])
    ∧ (s.iwu.emergency ≠ some false →
      ∃ t, exec .emergencyStopRelease s = .next t ∧ t.iwu = { s.iwu with emergency := some false }
        ∧ (s.iwu.emergency ≠ none → s.reports t .emergencyStop 271) ∧ (s.iwu.emergency = none → t.ntc = s.ntc)
        ∧ s.changesOnly t [.inputs, .notices, .displays])
    ∧ (s.iwu.enclosure ≠ some true →
      ∃ t, exec (.loopReturned .enclosure) s = .next t ∧ t.iwu = { s.iwu with enclosure := some true }
        ∧ (s.iwu.enclosure ≠ none → s.reports t .loopReturned 0) ∧ (s.iwu.enclosure = none → t.ntc = s.ntc)
        ∧ s.changesOnly t [.inputs, .notices, .displays])
    ∧ (s.iwu.cable ≠ some true →
      ∃ t, exec (.loopReturned .cable) s = .next t ∧ t.iwu = { s.iwu with cable := some true }
        ∧ (s.iwu.cable ≠ none → s.reports t .loopReturned 1) ∧ (s.iwu.cable = none → t.ntc = s.ntc)
        ∧ s.changesOnly t [.inputs, .notices, .displays]))
  ∧ ∀ s : State, s.mainSupply = true → s.calm → s.iwu.emergency ≠ some true →
    ∃ t, exec .emergencyStopAssertion s = .next t ∧ t.iwu = { s.iwu with emergency := some true }
      ∧ s.reports t .emergencyStop 271
      ∧ (∀ side, ((s.pos side).st.atRest = true ∨ (s.pos side).st = .calling ∨ (s.pos side).st = .authorized
          ∨ (s.pos side).st = .ending) → t.pos side = s.pos side)
      ∧ (∀ side x a, (s.pos side).st.isStarting = true → (s.pos side).sale = some x → x.held.or (s.pos side).auth = some a →
          s.fallsBack t side (s.pos side) a .emergency 0)
      ∧ (∀ side x, (s.pos side).st.isDispensing = true → (s.pos side).sale = some x → s.ssu.site ≠ .powerDown →
          t.pos side = (s.pos side).endingWith x .emergency)
      ∧ (∀ side, (s.pos side).st.isDispensing = true → s.ssu.site = .powerDown → t.pos side = s.pos side)
      ∧ (s.noPending → s.changesOnly t ([.inputs, .meters, .positions, .notices, .displays] ++ s.nightEntry))

/-- The general input watch (R124 to R126): a change of an unmasked input latches the pattern and raises WATCH EVENT in EVENT mode; in
MATCH mode an armed watch that matches after a change latches, raises WATCH MATCH and disarms, and a watch that does not match arms;
SET WATCH replaces the settings, arms, and judges MATCH at once. -/
def Obligations.GeneralInputWatch : Prop :=
  (∀ (s : State) (which levels : BitVec 8), s.mainSupply = true → s.calm →
    (∃ i : Fin 8, which.getLsbD i.val = true ∧ s.iwu.general[i] ≠ some (levels.getLsbD i.val)) →
    let changed := fun i : Fin 8 => which.getLsbD i.val = true ∧ s.iwu.general[i] = some (!levels.getLsbD i.val)
    let level := fun i : Fin 8 => if which.getLsbD i.val then some (levels.getLsbD i.val) else s.iwu.general[i]
    let matched := s.iwu.watch.mask ≠ 0xFF
      ∧ ∀ i : Fin 8, s.iwu.watch.mask.getLsbD i.val = true ∨ level i = some (s.iwu.watch.compare.getLsbD i.val)
    ∃ t, exec (.generalInputChange which levels) s = .next t ∧ (∀ i : Fin 8, t.iwu.general[i] = level i)
      ∧ t.iwu.watch = s.iwu.watch ∧ s.changesOnly t [.inputs, .notices, .displays]
      ∧ (let latches := fun c : Cause => s.reports t c t.iwu.latched.toNat ∧ ∀ i : Fin 8, t.iwu.latched.getLsbD i.val =
            (level i == some true && !s.iwu.watch.mask.getLsbD i.val)
        let quiet := t.iwu.latched = s.iwu.latched ∧ t.ntc = s.ntc
        (s.iwu.watch.mode = .event → t.iwu.armed = s.iwu.armed
            ∧ ((∃ i, changed i ∧ s.iwu.watch.mask.getLsbD i.val = false) → latches .watchEvent)
            ∧ ((∀ i, changed i → s.iwu.watch.mask.getLsbD i.val = true) → quiet))
          ∧ (s.iwu.watch.mode = .matching →
            ((∃ i, changed i) → matched → s.iwu.armed = true → latches .watchMatch ∧ t.iwu.armed = false)
            ∧ ((∃ i, changed i) → matched → s.iwu.armed = false → quiet ∧ t.iwu.armed = false)
            ∧ ((∃ i, changed i) → ¬ matched → quiet ∧ t.iwu.armed = true)
            ∧ ((∀ i, ¬ changed i) → quiet ∧ t.iwu.armed = s.iwu.armed))))
  ∧ ∀ (s : State) (off : Nat) (c : Card) (m : WatchMode), s.holds .setWatch off c → 1 ≤ c.words.toNat → 1 ≤ c.b 0 → c.b 0 ≤ 20 →
    c.b 1 = m.code → s.storeClosed = false →
    let matched := c.byte 2 ≠ 0xFF
      ∧ ∀ i : Fin 8, (c.byte 2).getLsbD i.val = true ∨ s.iwu.general[i] = some ((c.byte 3).getLsbD i.val)
    ∃ t, exec .setWatch s = .next t ∧ t.iwu.watch = { interval := c.b 0, mode := m, mask := c.byte 2, compare := c.byte 3 }
      ∧ t.iwu.general = s.iwu.general ∧ s.startsStep t [.config] .site off
      ∧ ((m = .event ∨ ¬ matched) → t.iwu.armed = true ∧ t.iwu.latched = s.iwu.latched)
      ∧ (m = .matching → matched → t.iwu.armed = false ∧ s.reports t .watchMatch t.iwu.latched.toNat)
      ∧ (s.calm → s.storeFree → s.changesOnly t [.inputs, .notices, .lanes, .store, .displays])

/-! ## The reader (07) -/

/-- A tamper departure (R148): TAMPER is raised; outside QUARANTINE the domain enters it, everything owed to and from the reader goes: a
Send finishes CUT, a READER ON BLOCKED, the armed receives WITHDRAWN (R136, R143, R144); each position loses an authorization or a
start of origin READER, one that waits at the price gate too, its claims returned; nothing else of a position changes. The field for a
frame left on the line is the model's (log 26). -/
def Obligations.LoopDepartureQuarantines : Prop :=
  ∀ (s : State) (l : Loop), s.mainSupply = true → s.calm →
    (match l with
      | .enclosure => s.iwu.enclosure
      | .cable => s.iwu.cable) ≠ some false →
    s.riu.resuming = false →
    ∃ t, exec (.loopDeparted l) s = .next t
      ∧ t.iwu = (match l with
        | .enclosure => { s.iwu with enclosure := some false }
        | .cable => { s.iwu with cable := some false })
      ∧ s.reports t .loopDeparted (match l with
        | .enclosure => 0
        | .cable => 1)
      ∧ (s.riu.domain = .quarantine → s.changesOnly t [.inputs, .notices, .displays])
      ∧ (s.riu.domain ≠ .quarantine →
          t.riu = { s.riu with domain := .quarantine, settleTimer := none, armed := [], send := none, badRun := 0, answers := [],
                               receiver := .outside, orphan := false }
          ∧ s.armedWithdrawn t ∧ s.sendCut t ∧ s.waiterEnds t .readerOn .blocked
          ∧ (s.noPending → s.changesOnly t ([.memory, .parity, .lanes, .notices, .meters, .positions, .displays, .inputs, .reader]
              ++ s.nightEntry))
          ∧ ∀ side, let one := decide ((s.lifted side).length = 1)
            let left := fun p : Position => if s.ssu.site = .closing then (p.withdrawn one).closedFor .night else p.withdrawn one
            let told := t.notified (.position side .quarantine)
              ∧ (s.ssu.site ≠ .closing → s.reports t (.position side .quarantine) 0)
            (∀ a, (s.pos side).st = .authorized → (s.pos side).auth = some a → a.origin = .reader → t.pos side = left (s.pos side) ∧ told)
            ∧ (∀ x, (s.pos side).st.isStarting = true → (s.pos side).sale = some x → x.origin = .reader →
              t.pos side = left { s.pos side with sale := none, motorTimer := none } ∧ told
                ∧ ∀ c ∈ x.claims, (t.meter c.meter).owner = none)
            ∧ ((∀ a, (s.pos side).st = .authorized → (s.pos side).auth = some a → a.origin ≠ .reader) →
              (∀ x, (s.pos side).st.isStarting = true → (s.pos side).sale = some x → x.origin ≠ .reader) → t.pos side = s.pos side))

/-- The reader's supply and link: READER ON, the settle timer, READER OFF and RELEASE QUARANTINE (R130, R144, R147, R149); OPEN LINK and
CLOSE LINK (R145, R146), the refusals in their order, the gate opened from GATED with the answer queue empty and the bad-frame run 0, the
link closed from OPEN to GATED. What closes the link or turns the supply off finishes every armed receive WITHDRAWN first (R136). A frame
left on the line is held in a field of the model's (log 26). -/
def Obligations.ReaderSupplyAndLink : Prop :=
  (∀ (s : State) (off : Nat) (c : Card), s.holds .readerOn off c → s.calm → s.readLink off = .atEnd →
    ∃ t, exec .readerOn s = .next t
      ∧ (s.storeClosed = true → s.endsCard t .reader off .busy)
      ∧ (s.storeClosed = false → s.riu.domain = .quarantine → s.endsCard t .reader off .blocked)
      ∧ (s.storeClosed = false → s.riu.domain ≠ .quarantine → (s.ssu.site = .night ∨ s.ssu.site = .powerDown) →
          s.endsCard t .reader off .closed)
      ∧ (s.storeClosed = false → s.ssu.site ≠ .night → s.ssu.site ≠ .powerDown →
          ((s.riu.domain = .gated ∨ s.riu.domain = .opened) → s.endsCard t .reader off .ok ∧ t.riu = s.riu)
          ∧ ((s.riu.domain = .off ∨ s.riu.domain = .powering) → s.lanes.reader.stopRequested = false →
              t.lanes.reader = { s.lanes.reader with st := .waiting, held := some { offset := off, card := c, phase := .waiting } }
                ∧ (s.riu.domain = .off → t.riu = { s.riu with domain := .powering, settleTimer := some 500 })
                ∧ (s.riu.domain = .powering → t.riu = s.riu) ∧ s.changesOnly t [.lanes, .reader, .displays])))
  ∧ (∀ s : State, s.mainSupply = true → s.calm → s.riu.domain = .powering → s.riu.settleTimer.isSome = true → s.riu.resuming = false →
    ∃ t, exec .settleTimerExpiry s = .next t ∧ t.riu = { s.riu with domain := .gated, settleTimer := none }
      ∧ (∀ off c, s.lanes.reader.held = some { offset := off, card := c, phase := .waiting } → c.kind = 0x40 →
          s.endsCard t .reader off .ok)
      ∧ s.changesOnly t [.memory, .parity, .lanes, .notices, .reader, .displays])
  ∧ (∀ (s : State) (off : Nat) (c : Card), s.holds .readerOff off c → s.calm → (s.riu.domain ≠ .off → s.riu.resuming = false) →
    ∃ t, exec .readerOff s = .next t ∧ (s.riu.domain = .quarantine → s.endsCard t .reader off .blocked ∧ t.riu = s.riu)
      ∧ (s.riu.domain = .off → s.endsCard t .reader off .ok ∧ t.riu = s.riu)
      ∧ (s.riu.domain = .powering → s.endsCard t .reader off .ok ∧ t.riu = { s.riu with domain := .off, settleTimer := none })
      ∧ (s.riu.domain = .gated → s.readerCardsApart → s.endsCard t .reader off .ok ∧ s.armedWithdrawn t
          ∧ t.riu = { s.riu with domain := .off, settleTimer := none, armed := [] })
      ∧ (s.riu.domain = .opened → s.readerCardsApart → s.endsCard t .reader off .ok ∧ s.armedWithdrawn t
          ∧ t.riu = { s.riu with domain := .off, settleTimer := none, armed := [], send := none, answers := [], receiver := .outside,
                                 orphan := false })
      ∧ (s.readLink off = .atEnd → s.changesOnly t [.memory, .parity, .lanes, .notices, .reader, .displays]))
  ∧ (∀ (s : State) (off : Nat) (c : Card), s.holds .releaseQuarantine off c → s.calm →
    let normal := s.iwu.enclosure = some true ∧ s.iwu.cable = some true
    ∃ t, exec .releaseQuarantine s = .next t ∧ (s.riu.domain ≠ .quarantine → s.endsCard t .reader off .busy ∧ t.riu = s.riu)
      ∧ (s.riu.domain = .quarantine → ¬ normal → s.endsCard t .reader off .blocked ∧ t.riu = s.riu)
      ∧ (s.riu.domain = .quarantine → normal → s.endsCard t .reader off .ok
          ∧ t.riu = { s.riu with domain := .off, settleTimer := none })
      ∧ (s.readLink off = .atEnd → s.changesOnly t [.memory, .parity, .lanes, .notices, .reader, .displays]))
  ∧ (∀ (s : State) (off : Nat) (c : Card), s.holds .openLink off c → s.calm → s.readLink off = .atEnd →
    let normal := s.iwu.enclosure = some true ∧ s.iwu.cable = some true
    ∃ t, exec .openLink s = .next t ∧ s.changesOnly t [.memory, .parity, .lanes, .notices, .reader, .displays]
      ∧ (let refusal : Option CardOutcome :=
          if s.storeClosed then some .busy else if s.riu.domain = .quarantine then some .blocked
          else if s.ssu.site = .night ∨ s.ssu.site = .powerDown then some .closed
          else if s.riu.domain = .off ∨ s.riu.domain = .powering then some .busy else if ¬ normal then some .blocked else none
        (∀ o, refusal = some o → s.endsCard t .reader off o ∧ t.riu = s.riu)
          ∧ (refusal = none → s.endsCard t .reader off .ok
            ∧ (s.riu.domain = .opened → t.riu = s.riu)
            ∧ (s.riu.domain = .gated → t.riu =
                { s.riu with domain := .opened, settleTimer := none, badRun := 0, receiver := .outside, answers := [] }))))
  ∧ ∀ (s : State) (off : Nat) (c : Card), s.holds .closeLink off c → s.calm →
    ∃ t, exec .closeLink s = .next t
      ∧ ((s.riu.domain = .off ∨ s.riu.domain = .powering ∨ s.riu.domain = .quarantine) →
          s.endsCard t .reader off .busy ∧ t.riu = s.riu)
      ∧ (s.riu.domain = .gated → s.endsCard t .reader off .ok ∧ t.riu = s.riu)
      ∧ (s.riu.domain = .opened → t.riu = { s.riu with
            domain := .gated, settleTimer := none, answers := [], receiver := .outside, orphan := false, send := none, armed := [] }
          ∧ s.armedWithdrawn t ∧ (s.readerCardsApart → s.endsCard t .reader off .ok))

/-- ARM RECEIVE, DISARM RECEIVE and SET RELAY FLOOR (R132, R136, R137, R139, R202): the refusals of ARM RECEIVE in their order; an armed
card joins the end of the list, CHAIN END alone is raised for its link END, and no byte of memory changes; a disarmed one leaves the list
WITHDRAWN, with NOTE CARD FINISHED where it asks for it; the floor moves with the domain OFF and the list empty. That with stop requested
ABORTED is raised in place of CHAIN END is the model's reading (log 53). -/
def Obligations.ArmedReceiveCards : Prop :=
  (∀ (s : State) (off : Nat) (c : Card), s.holds .armReceive off c → s.calm → s.readLink off = .atEnd → c.to ≤ 127 →
    1 ≤ c.words.toNat →
    let refusal : Option CardOutcome :=
      if s.storeClosed then some .busy else if s.riu.domain = .quarantine then some .blocked
      else if c.to * 256 < s.riu.floor then some .badWindow
      else if s.riu.domain = .off ∨ s.riu.domain = .powering then some .linkClosed
      else if 8 ≤ s.riu.armed.length then some .listFull
      else if ∃ e ∈ s.riu.armed, e.buffer = c.to then some .inUse else none
    ∃ t, exec .armReceive s = .next t ∧ (∀ o, refusal = some o → s.endsCard t .reader off o ∧ t.riu = s.riu)
      ∧ (refusal = none →
          t.riu = { s.riu with armed := s.riu.armed ++ [{ card := off, buffer := c.to, note := c.flags.getLsbD 0, toEnd := true }] }
            ∧ t.lanes.reader.st = .idle ∧ t.lanes.reader.held = none
            ∧ t.lanes.reader.lastFinished = s.lanes.reader.lastFinished ∧ s.reportsAlone t (.lane .reader (if s.lanes.reader.stopRequested then .aborted else .chainEnd)) off
            ∧ s.changesOnly t [.lanes, .notices, .reader, .displays]))
  ∧ (∀ (s : State) (off : Nat) (c : Card), s.holds .disarmReceive off c → s.calm → s.readLink off = .atEnd → c.to ≤ 127 →
    ∃ t, exec .disarmReceive s = .next t ∧ s.changesOnly t [.memory, .parity, .lanes, .notices, .reader, .displays]
      ∧ ((∀ e ∈ s.riu.armed, e.buffer ≠ c.to) → s.endsCard t .reader off .notFound ∧ t.riu = s.riu)
      ∧ ∀ before e after, s.riu.armed = before ++ e :: after → e.buffer = c.to → (∀ x ∈ before ++ after, x.buffer ≠ c.to) →
          (e.card + 8 ≤ off ∨ off + 8 ≤ e.card) →
          t.riu = { s.riu with armed := before ++ after } ∧ s.endsCard t .reader off .ok
            ∧ (e.note = true → s.reports t (.lane .reader .noteCardFinished) e.card)
            ∧ (s.memoryOk → t.half (e.card + 6) = 18 ∧ t.half (e.card + 4) = if e.toEnd then 3 else 2))
  ∧ ∀ (s : State) (off : Nat) (c : Card), s.holds .setRelayFloor off c → 1 ≤ c.words.toNat → 0x4000 ≤ c.h 0 → c.h 0 ≤ 0x7C00 →
    c.h 0 % 0x400 = 0 → s.storeClosed = false →
    ∃ t, exec .setRelayFloor s = .next t
      ∧ ((s.riu.domain ≠ .off ∨ s.riu.armed ≠ []) → s.endsCard t .site off .busy ∧ (s.calm → t.riu = s.riu))
      ∧ (s.riu.domain = .off → s.riu.armed = [] → t.riu.floor = c.h 0 ∧ s.startsStep t [.config] .site off
          ∧ (s.calm → s.storeFree → t.riu = { s.riu with floor := c.h 0 } ∧ s.changesOnly t [.lanes, .reader, .store, .displays]))

/-- A good inbound frame (R131, R134, R135, R138, R140, R202): with a receive armed its payload is written from the buffer's first byte, the
oldest receive's card finishes OK with kind and length, no other byte of it written, with NOTE CARD FINISHED where its NOTE flag is set and
no notice otherwise, and ACCEPT is owed; with none armed HOLD is owed and NO BUFFER raised; with four answers owed it is dropped. -/
def Obligations.GoodFramesAreRelayed : Prop :=
  (∀ s : State, s.mainSupply = true → s.calm → s.riu.domain = .opened → s.riu.receiver = .outside →
    ∃ t, exec .inboundFrameStart s = .next t ∧ t.riu = { s.riu with receiver := .inside } ∧ s.changesOnly t [.reader, .displays])
  ∧ ∀ (s : State) (kind : Byte) (payload : List Byte), s.mainSupply = true → s.calm → s.riu.domain = .opened → s.riu.receiver = .inside →
    payload.length ≤ 250 → (kind = 1 ∨ kind = 2) →
    ∃ t, exec (.inboundFrame (.complete kind payload (frameCheck kind payload))) s = .next t
      ∧ (4 ≤ s.riu.answers.length → t.riu = { s.riu with receiver := .outside } ∧ s.changesOnly t [.reader, .displays])
      ∧ (s.riu.answers.length < 4 → s.riu.armed = [] →
          t.riu = { s.riu with receiver := .outside, badRun := 0, answers := s.riu.answers ++ [.hold] }
            ∧ s.reports t .noBuffer (kind.toNat * 256 + payload.length) ∧ s.changesOnly t [.notices, .reader, .displays])
      ∧ ∀ e rest, s.riu.armed = e :: rest → s.riu.answers.length < 4 → e.card + 24 ≤ e.buffer * 256 → s.memoryOk →
          t.riu = { s.riu with receiver := .outside, badRun := 0, answers := s.riu.answers ++ [.accept], armed := rest }
            ∧ (∀ i, i < payload.length → some (Memory.read t.xm (e.buffer * 256 + i)) = payload[i]?)
            ∧ Memory.read t.xm (e.card + 16) = kind ∧ Memory.read t.xm (e.card + 17) = BitVec.ofNat 8 payload.length
            ∧ t.half (e.card + 6) = 0 ∧ t.half (e.card + 4) = (if e.toEnd then 3 else 2)
            ∧ (∀ a, (a < e.card + 4 ∨ e.card + 8 ≤ a ∧ a < e.card + 16 ∨ e.card + 18 ≤ a) →
                (a < e.buffer * 256 ∨ e.buffer * 256 + payload.length ≤ a) → Memory.read t.xm a = Memory.read s.xm a)
            ∧ (e.note = true → s.reportsAlone t (.lane .reader .noteCardFinished) e.card) ∧ (e.note = false → t.ntc = s.ntc)
            ∧ t.lanes.reader.lastFinished = e.card ∧ s.changesOnly t [.memory, .parity, .lanes, .notices, .reader, .displays]

/-- A bad inbound frame, the silence after it, and the answers (R134, R135, R140): the run grows and REJECT is owed; the sixteenth closes
the link with LINK ERRORS, the Send finishing CUT and the armed receives WITHDRAWN (R136, R143); a frame judged before its last byte
leaves the receiver discarding until the line has been silent; the oldest owed answer is sent when the part sends no frame of its own.
That a frame ended by silence leaves nothing to discard is the model's reading (log 27); so is the field for a frame left on the line (log
26). -/
def Obligations.BadFramesAreCounted : Prop :=
  (∀ (s : State) (e : Instr) (next : Receiver), s.mainSupply = true → s.calm → s.riu.domain = .opened → s.riu.receiver = .inside →
    ((e = .inboundFrameTimeout ∧ next = .outside)
      ∨ (∃ n : Byte, 250 < n.toNat ∧ e = .inboundFrame (.badLength n) ∧ next = .discarding)
      ∨ (∃ last : Bool, e = .inboundFrame (.badStop last) ∧ next = if last then .outside else .discarding)
      ∨ ∃ kind payload check, payload.length ≤ 250 ∧ e = .inboundFrame (.complete kind payload check)
          ∧ (check ≠ frameCheck kind payload ∨ (kind ≠ 1 ∧ kind ≠ 2)) ∧ next = .outside) →
    ∃ t, exec e s = .next t
      ∧ (4 ≤ s.riu.answers.length → t.riu = { s.riu with receiver := next } ∧ s.changesOnly t [.reader, .displays])
      ∧ (s.riu.answers.length < 4 → s.riu.badRun < 15 →
          t.riu = { s.riu with receiver := next, badRun := s.riu.badRun + 1, answers := s.riu.answers ++ [.reject] }
            ∧ s.changesOnly t [.reader, .displays])
      ∧ (s.riu.answers.length < 4 → 15 ≤ s.riu.badRun →
          t.riu = { s.riu with domain := .gated, settleTimer := none, receiver := .outside, badRun := 0, answers := [], armed := [],
                               send := none, orphan := false }
            ∧ s.reports t .linkErrors 16 ∧ s.armedWithdrawn t ∧ s.sendCut t
            ∧ s.changesOnly t [.memory, .parity, .lanes, .notices, .reader, .displays]))
  ∧ (∀ s : State, s.mainSupply = true → s.calm → s.riu.receiver = .discarding →
    ∃ t, exec .lineSilence s = .next t ∧ t.riu = { s.riu with receiver := .outside } ∧ s.changesOnly t [.reader, .displays])
  ∧ ∀ s : State, s.mainSupply = true → s.calm → s.riu.domain = .opened → ∀ (a : AnswerByte) (rest : List AnswerByte),
    s.riu.answers = a :: rest → s.riu.orphan = false → (∀ x, s.riu.send = some x → x.phase ≠ .sending) →
    ∃ t, exec .answerByteSent s = .next t ∧ t.riu = { s.riu with answers := rest } ∧ s.changesOnly t [.reader, .displays]

/-- SEND (R141): its refusals in their order, the last of them PARITY for a buffer that fails it, each raising REFUSED; and the accepted
Send: the frame of the buffer's bytes with its check, no attempt used, the first attempt begun, the card waiting. -/
def Obligations.SendBeginsItsFirstAttempt : Prop :=
  ∀ (s : State) (off : Nat) (c : Card), s.holds .send off c → s.calm → s.readLink off = .atEnd → c.to ≤ 127 → 2 ≤ c.words.toNat →
    (c.b 0 = 1 ∨ c.b 0 = 2) → 1 ≤ c.b 1 → c.b 1 ≤ 250 →
    let refusal : Option CardOutcome :=
      if s.storeClosed then some .busy else if s.riu.domain = .quarantine then some .blocked
      else if c.to * 256 < s.riu.floor then some .badWindow else if s.riu.domain ≠ .opened then some .linkClosed
      else if ∃ e ∈ s.riu.armed, e.buffer = c.to then some .inUse else none
    let good := ∀ a ∈ s.upset, a < c.to * 256 ∨ c.to * 256 + c.b 1 ≤ a
    let payload := (List.range (c.b 1)).map fun i => Memory.read s.xm (c.to * 256 + i)
    ∃ t, exec .send s = .next t ∧ (∀ o, refusal = some o → s.endsCard t .reader off o ∧ t.riu = s.riu ∧ s.reports t (.lane .reader .refused) off)
      ∧ (refusal = none → ¬ good → s.endsCard t .reader off .parity ∧ t.riu = s.riu ∧ s.reports t (.lane .reader .refused) off)
      ∧ (refusal = none → good → s.lanes.reader.stopRequested = false →
          let x : Send :=
            { card := off, buffer := c.to, attempts := 0, holds := 0, last := none, phase := .sending,
              frame := [0x5A, c.byte 0, BitVec.ofNat 8 (c.b 1)] ++ payload
                ++ [(frameCheck (c.byte 0) payload).setWidth 8, (frameCheck (c.byte 0) payload >>> 8).setWidth 8] }
          t.riu = { s.riu with send := some x }
            ∧ t.lanes.reader = { s.lanes.reader with st := .waiting, held := some { offset := off, card := c, phase := .waiting } }
            ∧ s.changesOnly t [.lanes, .reader, .displays])

/-- The attempts of a Send (R142): an answer wait after the frame; ACCEPT finishes it OK; REJECT and silence use an attempt, the third
finishing it NO ANSWER; HOLD asks for a resend 50 ms later, the forty-first finishing it NO ANSWER; the card's result word gives the
attempts used, the resends and the last answer. The end of a frame left on the line is held in a field of the model's (log 26). -/
def Obligations.SendAttempts : Prop :=
  ∀ (s : State) (x : Send) (off : Nat) (c : Card), s.mainSupply = true → s.calm → s.riu.domain = .opened → s.riu.send = some x →
    s.lanes.reader.held = some { offset := off, card := c, phase := .waiting } → c.kind = 0x44 → s.readLink off = .atEnd → s.memoryOk →
    let goesOn := fun (t : State) (y : Send) => t.riu = { s.riu with send := some y } ∧ s.changesOnly t [.reader, .displays]
    let finishes := fun (t : State) (y : Send) (o : CardOutcome) =>
      t.riu = { s.riu with send := none } ∧ t.cardEnded .reader off o
        ∧ Memory.read t.xm (off + 20) = BitVec.ofNat 8 y.attempts ∧ Memory.read t.xm (off + 21) = BitVec.ofNat 8 y.holds
        ∧ Memory.read t.xm (off + 22) = (match y.last with
          | none => 0
          | some .accept => 1
          | some .hold => 2
          | some .reject => 3)
        ∧ s.changesOnly t [.memory, .parity, .lanes, .notices, .reader, .displays]
    (s.riu.orphan = false → x.phase = .sending →
      ∃ t, exec .sendFrameEnd s = .next t ∧ goesOn t { x with phase := .awaiting })
    ∧ (s.riu.receiver = .outside → x.phase = .awaiting → ∃ t, exec (.readerAnswer .accept) s = .next t
        ∧ finishes t { x with attempts := x.attempts + 1, last := some .accept } .ok)
    ∧ (s.riu.receiver = .outside → x.phase = .awaiting → ∃ t, exec (.readerAnswer .reject) s = .next t
        ∧ (x.attempts < 2 → goesOn t { x with attempts := x.attempts + 1, last := some .reject, phase := .sending })
        ∧ (2 ≤ x.attempts → finishes t { x with attempts := x.attempts + 1, last := some .reject } .noAnswer))
    ∧ (s.riu.receiver = .outside → x.phase = .awaiting → ∃ t, exec (.readerAnswer .hold) s = .next t
        ∧ (x.holds < 40 → goesOn t { x with holds := x.holds + 1, last := some .hold, phase := .holding })
        ∧ (40 ≤ x.holds → finishes t { x with last := some .hold } .noAnswer))
    ∧ (x.phase = .awaiting → ∃ t, exec .sendAnswerExpiry s = .next t
        ∧ (x.attempts < 2 → goesOn t { x with attempts := x.attempts + 1, phase := .sending })
        ∧ (2 ≤ x.attempts → finishes t { x with attempts := x.attempts + 1 } .noAnswer))
    ∧ (x.phase = .holding → ∃ t, exec .holdDelayExpiry s = .next t ∧ goesOn t { x with phase := .sending })

/-! ## Site (08) -/

/-- The clock and its cards (R156, R158 to R162, R171, R172): the clock counts, with main supply off too; a disabled or suspended schedule
asks for nothing; a closing time closes an open site, the night entry begun at once when both positions are CLOSED; an opening time
withdraws a closing and wakes a site in NIGHT; in WAKING they set and clear closing held over; in FAULTED and POWER DOWN neither time has
an effect, nor a closing time in NIGHT, nor an opening time in OPEN; SET CLOCK sets the clock and clears CLOCK
LOST; SET SCHEDULE replaces the schedule and begins a CONFIG step. -/
def Obligations.ClockCountsAndJudgesTheSchedule : Prop :=
  (∀ s : State, s.calm →
    let c : Clock := if s.ssu.clock.second = 86399 then { s.ssu.clock with day := (s.ssu.clock.day + 1) % 65536, second := 0 }
      else { s.ssu.clock with second := s.ssu.clock.second + 1 }
    ∃ t, exec .clockCount s = .next t ∧ t.ssu.clock = c
      ∧ (s.mainSupply = false → t = { s with ssu := { s.ssu with clock := c } })
      ∧ (s.mainSupply = true → (s.ssu.schedule = none ∨ s.ssu.clock.lost = true) →
          t.ssu = { s.ssu with clock := c } ∧ s.changesOnly t [.site, .displays])
      ∧ ∀ x, s.mainSupply = true → s.ssu.schedule = some x → s.ssu.clock.lost = false →
        (c.second ≠ x.closing → c.second ≠ x.opening → t.ssu = { s.ssu with clock := c } ∧ s.changesOnly t [.site, .displays])
        ∧ (c.second = x.closing → s.ssu.site = .waking → t.ssu = { s.ssu with clock := c, heldOver := true })
        ∧ (c.second = x.closing → s.ssu.site = .closing →
            t.ssu = { s.ssu with clock := c, closingOrigin := some .schedule })
        ∧ (c.second = x.closing → (s.ssu.site = .night ∨ s.ssu.site = .powerDown ∨ ∃ r, s.ssu.site = .faulted r) →
            t.ssu = { s.ssu with clock := c } ∧ s.changesOnly t [.site, .displays])
        ∧ (c.second = x.opening → x.opening ≠ x.closing →
            (s.ssu.site = .opened ∨ s.ssu.site = .powerDown ∨ ∃ r, s.ssu.site = .faulted r) →
            t.ssu = { s.ssu with clock := c } ∧ s.changesOnly t [.site, .displays])
        ∧ (c.second = x.closing → s.ssu.site = .opened → s.reports t .closing 0
            ∧ (s.rsc.generation.isSome = true → t.ssu.site = .closing ∧ t.ssu.closingOrigin = some .schedule)
            ∧ (∀ side, ((s.pos side).st = .idle ∨ (s.pos side).st = .calling ∨ (s.pos side).st = .authorized) →
                t.pos side = (s.pos side).closedFor .night)
            ∧ ((∀ side, ¬ (s.pos side).st.isDispensing ∧ ¬ (s.pos side).st.isStarting ∧ (s.pos side).st ≠ .ending) →
                s.rsc.generation.isSome = true → s.nightBegins t s.riu.domain ∧ s.waiterEnds t .readerOn .closed)
            ∧ ((∃ side, (s.pos side).st.isDispensing = true) →
                t.ssu = { s.ssu with site := .closing, clock := c, closingOrigin := some .schedule, closingPhase := some .positions }))
        ∧ (c.second = x.opening → x.opening ≠ x.closing → s.ssu.site = .waking → t.ssu = { s.ssu with clock := c, heldOver := false })
        ∧ (c.second = x.opening → x.opening ≠ x.closing → s.ssu.site = .closing →
            s.closingWithdrawn t 0 ∧ s.siteCardEnds t .nightNow .withdrawn ∧ t.riu = s.riu
              ∧ s.changesOnly t [.memory, .parity, .lanes, .notices, .positions, .site, .store, .displays])
        ∧ (c.second = x.opening → x.opening ≠ x.closing → s.ssu.site = .night → s.reports t .waking 1
            ∧ t.ssu.site = .waking ∧ t.ssu.wake = { origin := .schedule, stage := 1, outcomes := Vector.replicate 6 none }
            ∧ t.ssu.stageTimer = some 5000 ∧ t.rsc.check = .requested
            ∧ ∀ side, (s.pos side).st = .closed .night → t.pos side = (s.pos side).enter (.closed .wake)))
  ∧ (∀ (s : State) (off : Nat) (c : Card), s.holds .setClock off c → 2 ≤ c.words.toNat → c.w 0 ≤ 65535 → c.w 1 ≤ 86399 → s.calm →
    s.readLink off = .atEnd →
    ∃ t, exec .setClock s = .next t ∧ s.changesOnly t [.memory, .parity, .lanes, .notices, .site, .displays]
      ∧ (s.ssu.site = .powerDown → s.endsCard t .site off .busy ∧ t.ssu = s.ssu)
      ∧ (s.ssu.site ≠ .powerDown → s.endsCard t .site off .ok
          ∧ t.ssu = { s.ssu with clock := { day := c.w 0, second := c.w 1, lost := false } }))
  ∧ ∀ (s : State) (off : Nat) (c : Card) (x : Option Schedule), s.holds .setSchedule off c → 3 ≤ c.words.toNat →
    (x = none ∧ c.b 0 = 0 ∨ c.b 0 = 1 ∧ x = some { closing := c.w 1, opening := c.w 2 } ∧ c.w 1 ≤ 86399 ∧ c.w 2 ≤ 86399
      ∧ c.w 1 ≠ c.w 2) →
    s.storeClosed = false → s.ssu.site ≠ .powerDown →
    ∃ t, exec .setSchedule s = .next t ∧ t.ssu.schedule = x ∧ s.startsStep t [.config] .site off
      ∧ (s.calm → s.storeFree → t.ssu = { s.ssu with schedule := x } ∧ s.changesOnly t [.lanes, .site, .store, .displays])

/-- NIGHT NOW and WAKE NOW by site state (R160 to R163, R173, R174): a closing of origin CARD begins, the reader taken down at once when
both positions are CLOSED, its armed receives WITHDRAWN, a Send CUT, a READER ON CLOSED (R136, R143, R144); in CLOSING the card only
waits; a wake of origin CARD begins from NIGHT and FAULTED; WAKE NOW withdraws a closing; the other states answer OK or BUSY at once. The
result word of a WAKE NOW that finishes OK at once is the model's reading (log 37). -/
def Obligations.NightAndWakeCards : Prop :=
  (∀ (s : State) (off : Nat) (c : Card), s.holds .nightNow off c → s.calm → s.readLink off = .atEnd →
    s.lanes.site.stopRequested = false →
    let waits := fun t : State =>
      t.lanes.site = { s.lanes.site with st := .waiting, held := some { offset := off, card := c, phase := .waiting } }
    ∃ t, exec .nightNow s = .next t
      ∧ (s.ssu.site = .opened → s.storeFree → waits t ∧ s.reports t .closing 1 ∧ t.ssu.site = .closing
          ∧ t.ssu.closingOrigin = some .card
          ∧ (∀ side, ((s.pos side).st = .idle ∨ (s.pos side).st = .calling ∨ (s.pos side).st = .authorized) →
              t.pos side = (s.pos side).closedFor .night)
          ∧ ((∃ side, (s.pos side).st.isDispensing = true) → t.ssu.closingPhase = some .positions ∧ t.riu = s.riu)
          ∧ ((∀ side, ¬ (s.pos side).st.isDispensing ∧ ¬ (s.pos side).st.isStarting ∧ (s.pos side).st ≠ .ending) →
              s.nightBegins t s.riu.domain ∧ s.waiterEnds t .readerOn .closed))
      ∧ (s.ssu.site = .closing → waits t ∧ t.ssu = s.ssu ∧ s.changesOnly t [.lanes, .displays])
      ∧ (s.ssu.site = .night → s.endsCard t .site off .ok ∧ t.ssu = s.ssu)
      ∧ ((s.ssu.site = .waking ∨ s.ssu.site = .powerDown ∨ ∃ r, s.ssu.site = .faulted r) → s.endsCard t .site off .busy ∧ t.ssu = s.ssu))
  ∧ ∀ (s : State) (off : Nat) (c : Card), s.holds .wakeNow off c → 1 ≤ c.words.toNat → s.calm → s.readLink off = .atEnd →
    s.lanes.site.stopRequested = false →
    ∃ t, exec .wakeNow s = .next t
      ∧ ((s.ssu.site = .waking ∨ s.ssu.site = .powerDown) → s.endsCard t .site off .busy ∧ t.ssu = s.ssu)
      ∧ (s.ssu.site = .opened → s.endsCard t .site off .ok ∧ t.ssu = s.ssu
          ∧ (s.memoryOk → 0x800 ≤ off → Memory.read t.xm (off + 16) = Memory.read s.xm 0x0C))
      ∧ (s.ssu.site = .closing → s.endsCard t .site off .ok ∧ s.closingWithdrawn t 1 ∧ t.riu = s.riu)
      ∧ ((s.ssu.site = .night ∨ ∃ r, s.ssu.site = .faulted r) → s.reports t .waking 2 ∧ t.rsc.check = .requested
          ∧ t.lanes.site = { s.lanes.site with st := .waiting, held := some { offset := off, card := c, phase := .waiting } }
          ∧ t.ssu = { s.ssu with site := .waking, heldOver := false, closingOrigin := none, closingPhase := none,
                                 wake := { origin := .card, stage := 1, outcomes := Vector.replicate 6 none },
                                 stageTimer := some 5000 }
          ∧ ∀ side, (s.pos side).st = .closed .night ∨ (s.pos side).st = .closed .power →
              t.pos side = (s.pos side).enter (.closed .wake))

/-- The stages of a wake (R152, R163 to R169), throughout which both positions are CLOSED without a sale (`State.allClosed`): the timeout
of STORE CHECK faults the site; DISPLAY TEST keeps the first board's result and goes on, the other board's test running or not, and ends at
its second result or its timeout, a board without a result then failed; PRICE PANELS goes on to METER SETTLE at its timeout; READER RESUME answers NOT NEEDED, RESUMED or NOT RESUMED, at once, at the settle timer's expiry,
at its timeout, or when READER OFF or a tamper departure ends it; each ends the wake with stage 6. The restart count 0 after a failed
check is the model's reading (log 32). The order of causes of one event is its choice (log 47): those that stage 6 raises, STAGE before
FAULTED at the timeout of stage 1, and STAGE before FAULTED where stage 2 ends with code 3. -/
def Obligations.WakeStageTimers : Prop :=
  (∀ s : State, s.mainSupply = true → s.ssu.site = .waking → s.allClosed → s.ssu.stageTimer.isSome = true → s.rsc.queue = [] →
    s.calm ∨ s.ssu.wake.stage = 3 →
    ∃ t, exec .stageTimerExpiry s = .next t
      ∧ (s.ssu.wake.stage = 1 → s.reports t .stage 259 ∧ t.notified .faulted ∧ t.notified .storeFailed ∧ t.ssu.site = .faulted .store
          ∧ t.ssu.wake.outcomes[0] = some 3 ∧ t.rsc.generation = none ∧ t.rsc.restart = 0 ∧ t.rsc.check = .none
          ∧ s.siteCardEnds t .wakeNow .blocked ∧ (s.memoryOk → s.cardsEnd → t.half 0x0C = 4)
          ∧ t.rsc.totals = { a := Vector.replicate 4 .zero, b := Vector.replicate 4 .zero } ∧ t.miu.routes = defaultRoutes
          ∧ ∀ g, (t.grade g).price = none ∧ (t.grade g).code = .site)
      ∧ (s.ssu.wake.stage = 2 → (∃ side, s.ssu.results.get side = none) →
          (∀ side, (s.ssu.results.get side = none → ∃ ph o, (s.board side).test = some (.segment ph o true))
            ∧ (s.ssu.results.get side ≠ none → (s.board side).segment = false)) →
          s.displayTested t (s.ssu.results.a == some true) (s.ssu.results.b == some true)
            ∧ ∀ side, s.ssu.results.get side = none → (t.board side).sideFault = true ∧ (t.board side).test = none
              ∧ t.pos side = (s.pos side).enter (.closed .display))
      ∧ (s.ssu.wake.stage = 3 → s.reports t .stage 770
          ∧ t.ssu = { s.ssu with stageTimer := some 2000, wake := { s.ssu.wake with
                stage := 4, outcomes := s.ssu.wake.outcomes.set 2 (some 2) } })
      ∧ (s.ssu.wake.stage = 5 → s.reports t .stage 1282 ∧ t.ssu.wake.outcomes[4] = some 2 ∧ s.wakeEnds t s.riu.domain))
  ∧ (∀ (s : State) (side : Side) (ph : TestPhase) (o : Bool), s.mainSupply = true → s.calm → s.ssu.site = .waking → s.allClosed →
    s.ssu.wake.stage = 2 → (s.board side).test = some (.segment ph o true) →
    ((s.board (other side)).segment = true → s.ssu.results.get (other side) = none) → ∀ a, (s.board side).attempt = some a →
    let r := (s.board side).field a.field
    let ends := fun (t : State) (passed : Bool) =>
      (t.board side).test = none ∧ (t.board side).sideFault = !passed
        ∧ (passed = false → t.pos side = (s.pos side).enter (.closed .display)) ∧ (passed = true → o = false → t.pos side = s.pos side)
        ∧ (s.ssu.results.get (other side) = none → t.ssu = { s.ssu with results := s.ssu.results.set side (some passed) })
        ∧ ∀ p, s.ssu.results.get (other side) = some p →
            s.displayTested t (if side = .a then passed else p) (if side = .a then p else passed)
    (∃ t, exec (.litFrame side { number := a.number, wellFormed := true, field := a.field, content := a.sent }) s = .next t
      ∧ (ph = .blank → r.repost = false → r.wanted = a.sent → (∀ f ∈ allFields, f = a.field ∨ ((s.board side).field f).st = .current
          ∨ isLegal f = false ∧ ((s.board side).field f).st = .fault) → ends t true))
    ∧ ∃ t, exec (.answerTimeout side) s = .next t
      ∧ (isLegal a.field = true → r.st ≠ .fault → r.retries = 0 → ends t false))
  ∧ (∀ s : State, s.mainSupply = true → s.calm → s.ssu.site = .waking → s.allClosed → s.ssu.wake.stage = 4 → s.ssu.stageTimer.isSome = true →
    let normal := s.iwu.enclosure = some true ∧ s.iwu.cable = some true
    let resumed := fun (t : State) (code : Nat) => t.ssu.wake.outcomes[4] = some code ∧ s.wakeEnds t s.riu.domain
    let opens := { s.riu with
      domain := .opened, settleTimer := none, badRun := 0, receiver := .outside, answers := [], resuming := false }
    ∃ t, exec .meterSettleExpiry s = .next t ∧ s.reports t .stage 1024 ∧ t.ssu.wake.outcomes[3] = some 0
      ∧ (s.rsc.reader = false → resumed t 0)
      ∧ (s.rsc.reader = true → s.riu.domain = .quarantine ∨ ¬ normal → resumed t 2)
      ∧ (s.rsc.reader = true → normal → (s.riu.domain = .off ∨ s.riu.domain = .powering) →
          t.ssu.site = .waking ∧ t.ssu.wake.stage = 5 ∧ t.ssu.stageTimer = some 5000
            ∧ t.riu = if s.riu.domain = .off then { s.riu with domain := .powering, settleTimer := some 500, resuming := true }
                else { s.riu with resuming := true })
      ∧ (s.rsc.reader = true → normal → s.riu.domain = .gated → t.ssu.wake.outcomes[4] = some 1 ∧ s.wakeEnds t .opened
          ∧ (s.ssu.closingDue = false → t.riu = opens))
      ∧ (s.rsc.reader = true → normal → s.riu.domain = .opened → resumed t 1))
  ∧ ∀ s : State, s.mainSupply = true → s.calm → s.ssu.site = .waking → s.allClosed → s.ssu.wake.stage = 5 → s.riu.domain = .powering →
    s.riu.resuming = true →
    (s.riu.settleTimer.isSome = true → ∃ t, exec .settleTimerExpiry s = .next t ∧ t.ssu.wake.outcomes[4] = some 1
      ∧ s.reports t .stage 1281 ∧ s.wakeEnds t .opened ∧ s.waiterEnds t .readerOn .ok
      ∧ (s.ssu.closingDue = false → t.riu = { s.riu with
          domain := .opened, settleTimer := none, badRun := 0, receiver := .outside, answers := [], resuming := false }))
    ∧ (∀ off c, s.holds .readerOff off c → ∃ t, exec .readerOff s = .next t ∧ t.ssu.wake.outcomes[4] = some 2 ∧ s.wakeEnds t .off
        ∧ s.reports t .stage 1282 ∧ t.riu.domain = .off)
    ∧ ∀ l : Loop, (match l with
        | .enclosure => s.iwu.enclosure
        | .cable => s.iwu.cable) ≠ some false →
      ∃ t, exec (.loopDeparted l) s = .next t ∧ t.ssu.wake.outcomes[4] = some 2 ∧ s.wakeEnds t .quarantine
        ∧ s.reports t .stage 1282 ∧ t.riu.domain = .quarantine ∧ s.waiterEnds t .readerOn .blocked

/-! ## Supplies and the store (09) -/

/-- The supply warning (R16, R105, R106, R109, R112, R151, R180, R181): POWER DOWN; outputs drop and timers stop; a position without a sale
in progress closes for POWER, a frozen sale keeps its state and its sale; the claims of a start that is discarded are returned with their
counts to unclaimed flow, and no other meter changes; the reader is taken down unless in QUARANTINE; the links stop, and the boards are left
wanting the contents of the positions as they then stand; the step queue is emptied, the step in progress goes on; the freeze window begins.
No byte of memory is written. That a step in progress goes on without its requesters is the model's reading (log 29), and so is that these
contents are sent at the warning (log 65); that the panels stay as they were when the warning removes a segment test is its choice
(log 49). -/
def Obligations.SupplyWarningFreezesThePart : Prop :=
  ∀ s : State, s.mainSupply = true → s.rsc.supplyWarn ≠ some true → s.ssu.site ≠ .powerDown →
    ∃ t, exec .supplyWarning s = .next t ∧ s.reports t .supplyWarning 0
      ∧ t.ssu = { s.ssu with site := .powerDown, closingOrigin := none, closingPhase := none, stageTimer := none }
      ∧ (∀ side, (t.pos side).fast = false ∧ (t.pos side).slow = false ∧ (t.pos side).pump = false ∧ (t.pos side).flowTimer = none
          ∧ (t.pos side).settleTimer = none ∧ (t.pos side).motorTimer = none ∧ (t.pos side).authTimer = none
          ∧ (t.pos side).unpaid = (s.pos side).unpaid ∧ (t.pos side).config = (s.pos side).config)
      ∧ (∀ side, (s.pos side).st.isDispensing = true ∨ (s.pos side).st = .ending →
          (t.pos side).st = (s.pos side).st ∧ (t.pos side).sale = (s.pos side).sale)
      ∧ (∀ side, (s.pos side).st.isDispensing = false → (s.pos side).st ≠ .ending → (t.pos side).st = .closed .power
          ∧ ((s.pos side).st.isClosed = false → (t.pos side).auth = none ∧ t.notified (.position side .closed))
          ∧ ((s.pos side).st.isStarting = true → (t.pos side).sale = none))
      ∧ (∀ side x, (s.pos side).st.isStarting = true → (s.pos side).sale = some x → ∀ c ∈ x.claims, (t.meter c.meter).owner = none
          ∧ (s.claimsAgree → (x.claims.map Claim.meter).Nodup → t.meter c.meter = { s.meter c.meter with
              owner := none, phaseErrors := 0, unclaimed := (s.meter c.meter).unclaimed + BitVec.ofInt 32 c.n }))
      ∧ (∀ m, (∀ side x, (s.pos side).st.isStarting = true → (s.pos side).sale = some x → ∀ c ∈ x.claims, c.meter ≠ m) →
          t.meter m = s.meter m)
      ∧ t.miu = { s.miu with meters := t.miu.meters } ∧ (∀ side, t.contentsSent side)
      ∧ (∀ side, (t.pos side).st = .closed .power → ∀ f ∈ legalFields, ((t.board side).field f).wanted = dashes f)
      ∧ t.riu.domain = (if s.riu.domain = .quarantine then .quarantine else .off) ∧ t.riu.armed = [] ∧ t.riu.send = none
      ∧ t.riu.answers = [] ∧ t.riu.badRun = 0 ∧ t.riu.settleTimer = none ∧ t.riu.receiver = .outside
      ∧ (s.ssu.site ≠ .night → t.rsc.reader = (s.riu.domain == .opened)) ∧ (s.ssu.site = .night → t.rsc.reader = s.rsc.reader)
      ∧ (∀ side, (t.board side).attempt = none ∧ (t.board side).test = none) ∧ t.rsc.queue = [] ∧ t.rsc.freeze = .window
      ∧ t.rsc.active.map (fun a => (a.step.records, a.generation, a.contents))
          = s.rsc.active.map (fun a => (a.step.records, a.generation, a.contents))
      ∧ t.rsc.store = s.rsc.store ∧ t.rsc.totals = s.rsc.totals
      ∧ s.changesOnly t [.lanes, .notices, .meters, .positions, .displays, .reader, .site, .store]

/-- The freeze and the release (R178, R182, R183): at the window's end each frozen sale ends with POWER and RECOVERED, its claims are
released with their counts staying in the sale, its position closes for POWER, its totals grow, and the freeze steps of A and B are asked
for, A's beginning; a release in POWER DOWN starts the second of a cold start, and a second assertion ends it, the freeze going on (R181). -/
def Obligations.FreezeEndsTheFrozenSales : Prop :=
  (∀ s : State, s.mainSupply = true → s.calm → s.ssu.site = .powerDown → s.rsc.freeze = .window → s.rsc.active = none →
    s.rsc.check = .none → s.rsc.generation.isSome = true →
    ∃ t, exec .freezeWindowExpiry s = .next t ∧ t.rsc.freeze = .steps
      ∧ s.stepBegun t [.totals, .meters, .unpaidA, .reader] [.freeze .a]
      ∧ t.rsc.queue = [{ records := [.totals, .meters, .unpaidB], requesters := [.freeze .b] }]
      ∧ (t.rsc.frozen = ([Side.a, .b].filter fun side => (s.pos side).sale.isSome).length)
      ∧ (∀ side, (s.pos side).sale = none → t.pos side = s.pos side ∧ t.rsc.totals.get side = s.rsc.totals.get side)
      ∧ (∀ side x l, (s.pos side).sale = some x → x.lock = some l →
          let e : EndedSale :=
            { tag := x.tag, origin := x.origin, hose := x.hose, grade := x.grade, kind := x.kind, p := l.p, d := l.d, e := l.e,
              mode := l.mode, v := x.v, amount := x.amount, flags := x.flags, stop := .power, started := x.started,
              ended := s.stamp, recovered := true }
          t.pos side = { s.pos side with
              st := .closed .power, fast := false, slow := false, pump := false, auth := none, authTimer := none, sale := none,
              unpaid := (s.pos side).unpaid ++ [e], lastShown := { v := x.v, amount := x.amount, e := l.e } }
          ∧ (let k := (s.rsc.totals.get side)[x.hose]
            (t.rsc.totals.get side)[x.hose] =
              { volume := (k.volume + x.v) % 10 ^ 15, amount := (k.amount + x.amount) % 10 ^ 13, sales := (k.sales + 1) % 10 ^ 8 })
          ∧ (∀ k, k ≠ x.hose → (t.rsc.totals.get side)[k] = (s.rsc.totals.get side)[k])
          ∧ ∀ c ∈ x.claims, t.meter c.meter = { s.meter c.meter with owner := none, phaseErrors := 0 })
      ∧ (∀ m, (∀ side x, (s.pos side).sale = some x → ∀ c ∈ x.claims, c.meter ≠ m) → t.meter m = s.meter m)
      ∧ s.changesOnly t [.notices, .meters, .positions, .store, .displays])
  ∧ (∀ s : State, s.mainSupply = true → s.calm → s.rsc.supplyWarn ≠ some false →
    ∃ t, exec .supplyWarnRelease s = .next t
      ∧ t.rsc = { s.rsc with supplyWarn := some false, coldWait := s.rsc.supplyWarn.isSome && s.ssu.site == .powerDown }
      ∧ s.changesOnly t [.store, .displays])
  ∧ ∀ s : State, s.mainSupply = true → s.calm → s.ssu.site = .powerDown → s.rsc.supplyWarn ≠ some true →
    ∃ t, exec .supplyWarning s = .next t ∧ t.rsc = { s.rsc with supplyWarn := some true, coldWait := false }
      ∧ s.changesOnly t [.store, .displays]

/-- Power (R93, R95, R98, R112, R157, R179, R183 to R185, R194): a power-on clears memory, gives every block its power-on values, keeps clock
and store with the battery intact, loses both with CLOCK LOST and store lost otherwise, and enters WAKING of origin COLD START; each board's
first attempt, of AMOUNT, begins at once; no mirror has been updated but the site mirror, once by each of its four owners, of which the
IWU's and the RIU's updates are the model's reading (log 55); a cold start is a power-on; a supply fall stops the part and leaves
every record, contents and seal, that no step in progress writes; the battery's loss spoils the HEADER and the clock, its return clears
nothing. The battery's loss with main supply off and the level kept over a fall and a power-on (log 16), HRESET_N over a power-on (log 31)
and the cut records (log 11) are the model's choices. -/
def Obligations.PowerCommands : Prop :=
  (∀ (s : State) (c : Instr), ((c = .powerOn ∧ s.mainSupply = false) ∨ (c = .coldStart ∧ s.mainSupply = true
        ∧ s.ssu.site = .powerDown ∧ s.rsc.freeze = .done ∧ s.rsc.coldWait = true ∧ s.rsc.supplyWarn = some false)) →
    ∃ t, exec c s = .next t ∧ t.mainSupply = true ∧ t.xm = [] ∧ t.upset = [] ∧ t.pending = s.pending ∧ t.hostReset = s.hostReset
      ∧ t.lanes = { dispense := .default, site := .default, reader := .default } ∧ t.psc = { a := .default, b := .default }
      ∧ t.miu = { meters := Vector.replicate 8 .default, routes := defaultRoutes, enables := .default, counting := false }
      ∧ t.pru = .default ∧ t.iwu = .default ∧ t.riu = .default
      ∧ t.ssu.wake = { origin := .coldStart, stage := 1, outcomes := Vector.replicate 6 none }
      ∧ t.ssu = {
          site := .waking, closingOrigin := none, closingPhase := none, heldOver := false, wake := t.ssu.wake, stageTimer := some 5000,
          results := { a := none, b := none }, clock := t.ssu.clock, schedule := none }
      ∧ t.rsc.check = .requested ∧ t.rsc.generation = none ∧ t.rsc.queue = [] ∧ t.rsc.active = none
      ∧ t.rsc.restart = 0 ∧ t.rsc.reader = false ∧ t.rsc.batteryLow = s.rsc.batteryLow
      ∧ t.rsc.totals = { a := Vector.replicate 4 .zero, b := Vector.replicate 4 .zero } ∧ t.rsc.freeze = .none ∧ t.rsc.frozen = 0
      ∧ t.rsc.lastCheck = .none ∧ t.rsc.supplyWarn = none ∧ t.rsc.coldWait = false
      ∧ t.dlc.policy = { retryLimit := 3, action := .block }
      ∧ (∀ side, let b := t.board side
          b.sideFault = false ∧ b.test = none ∧ b.pass = false ∧ b.refreshPeriod = 1000 ∧ b.writeNumber = 1
            ∧ b.attempt = some { field := .amount, number := 0, sent := dashes .amount } ∧ (b.field .amount).st = .writing
            ∧ (∀ f, (b.field f).shown = none ∧ (b.field f).retries = 3 ∧ (b.field f).repost = false ∧ (b.field f).refreshDue = false
                ∧ (b.field f).heldPost = false ∧ (f ≠ .amount → (b.field f).st = .pending))
            ∧ (∀ f ∈ legalFields, (b.field f).wanted = dashes f) ∧ (b.field .status).wanted = .lamps false false true false
            ∧ ∀ h, (b.field (.grade h)).wanted = blank (.grade h))
      ∧ t.mirrors.genPositionA = 0 ∧ t.mirrors.genPositionB = 0 ∧ t.mirrors.genPrice = 0 ∧ t.mirrors.genTotals = 0
      ∧ t.mirrors.genMeter = 0 ∧ t.mirrors.genSite = 8 ∧ t.mirrored .iwu ∧ t.mirrored .riu ∧ t.mirrored .ssu
      ∧ t.notified .waking ∧ t.ntc.presented = none ∧ t.ntc.enable = 0x1FFF
      ∧ (∀ i : Fin 13, t.ntc.sources[i].overrun = false ∧ (t.ntc.sources[i].pending = true → i = Cause.waking.source))
      ∧ t.ntc.sources[Cause.waking.source].first = 0
      ∧ (s.rsc.batteryCut = false → t.ssu.clock = s.ssu.clock ∧ t.rsc.store = s.rsc.store ∧ t.rsc.lost = false)
      ∧ (s.rsc.batteryCut = true → t.ssu.clock = { day := 0, second := 0, lost := true } ∧ t.rsc.lost = true ∧ t.notified .clockLost))
  ∧ (∀ s : State, s.mainSupply = true →
    ∃ t, exec .supplyFall s = .next t ∧ t.mainSupply = false ∧ t.rsc.active = none
      ∧ (s.rsc.active = none → t.rsc.store = s.rsc.store)
      ∧ (∀ a r, s.rsc.active = some a → r ∉ a.step.records →
          t.rsc.store.seals[r.number] = s.rsc.store.seals[r.number] ∧ t.rsc.store.contents.agrees s.rsc.store.contents r)
      ∧ t.rsc = { s.rsc with store := t.rsc.store, active := none, batteryCut := s.rsc.batteryLow }
      ∧ s.changesOnly t [.lines, .store, .free])
  ∧ (∀ s : State, s.mainSupply = true → s.calm → s.rsc.batteryLow = false →
    ∃ t, exec .batteryLoss s = .next t ∧ s.reports t .batteryLost 0 ∧ s.reports t .clockLost 0 ∧ t.rsc.lost = true
      ∧ t.ssu = { s.ssu with clock := { day := 0, second := 0, lost := true } } ∧ (t.rsc.store.seals[0]).check = none
      ∧ t.rsc.store.contents = s.rsc.store.contents ∧ (∀ i : Fin 8, i ≠ 0 → t.rsc.store.seals[i] = s.rsc.store.seals[i])
      ∧ s.changesOnly t [.notices, .site, .store, .displays])
  ∧ (∀ s : State, s.mainSupply = false →
    ∃ t, exec .batteryLoss s = .next t ∧ t = { s with rsc := { s.rsc with batteryLow := true, batteryCut := true } })
  ∧ ∀ s : State, ∃ t, exec .batteryReturn s = .next t ∧ t = { s with rsc := { s.rsc with batteryLow := false } }

/-- The store check (R131, R136, R164, R176, R184, R185): it begins when no step runs or waits; a record is sound with its check word matching, and
with the generation of a sound HEADER; all records sound at a cold start, it restores every live value, adds one to the restart count and
begins the HEADER step; at another wake it reports RESTORED at once and stage 2 begins; a record that a waiting step is to write keeps its
live values; with an unsound record or store lost it faults the site, the live generation absent and every block's retained values those
of power-on: the default configuration, absent prices, zero totals and counts, empty unpaid lists, READER no (R184); a relay floor that the
check moves, restored or 7000h, finishes the armed receives WITHDRAWN, and no other check touches the reader (R131, R136). In WAKING both
positions are CLOSED without a sale (`State.allClosed`). The restart count 0 after a failed check is the model's reading (log 32), and so
is record 0 for a lost store (log 17). -/
def Obligations.StoreCheckRestoresOrFaults : Prop :=
  (∀ s : State, s.mainSupply = true → s.calm → s.rsc.check = .requested → s.rsc.active = none →
    ∃ t, exec .storeCheckBegin s = .next t ∧ t.rsc = { s.rsc with check := .running } ∧ s.changesOnly t [.store, .displays])
  ∧ ∀ s : State, s.mainSupply = true → s.calm → s.rsc.check = .running → s.rsc.active = none → s.ssu.site = .waking →
    s.allClosed → s.ssu.wake.stage = 1 →
    let k := s.rsc.store.contents
    let x := s.rsc.store.seal
    let whole := fun r => (x r).check = some (k.checkWord r (x r).generation)
    let passes := fun r => whole .header ∧ whole r ∧ (x r).generation = (x .header).generation
    let sound := s.rsc.lost = false ∧ ∀ r, passes r
    let restores := fun r => ∀ n ∈ s.rsc.queue, r ∉ n.records
    let restored := fun t : State =>
      (restores .config → t.miu.routes = k.config.routes ∧ t.miu.enables = k.config.enables
        ∧ (∀ m, (t.meter m).config = k.config.meters[m]) ∧ (∀ side, (t.pos side).config = k.config.positions.get side)
        ∧ t.pru.siteMode = k.config.siteMode ∧ t.pru.totalsForm = k.config.totalsForm ∧ t.dlc.policy = k.config.policy
        ∧ t.iwu.watch = k.config.watch ∧ t.ssu.schedule = k.config.schedule ∧ t.riu.floor = k.config.floor)
      ∧ (restores .prices → ∀ g, ((t.grade g).price, (t.grade g).code) = k.prices[g])
      ∧ (restores .totals → t.rsc.totals = k.totals) ∧ (restores .unpaidA → (t.pos .a).unpaid = k.unpaid.a)
      ∧ (restores .unpaidB → (t.pos .b).unpaid = k.unpaid.b) ∧ (restores .reader → t.rsc.reader = k.reader)
      ∧ t.miu.counting = true
    let moves := fun (t : State) (floor : Nat) =>
      t.riu = { s.riu with floor := floor, armed := if floor = s.riu.floor then s.riu.armed else [] }
      ∧ (floor ≠ s.riu.floor → s.rsc.queue = [] → s.cardsEnd →
          (∀ h, s.lanes.site.held = some h → ∀ e ∈ s.riu.armed, e.card + 8 ≤ h.offset ∨ h.offset + 64 ≤ e.card) → s.armedWithdrawn t)
    ∃ t, exec .storeCheckEnd s = .next t
      ∧ (sound → restores .config → moves t k.config.floor) ∧ (sound → ¬ restores .config → t.riu = s.riu) ∧ (¬ sound → moves t 0x7000)
      ∧ (∀ p ∈ [MirrorPart.positionA, .positionB, .price, .totals, .meterState, .meterCounts], t.mirrored p)
      ∧ (sound → restored t)
      ∧ (sound → s.ssu.wake.origin = .coldStart → restores .meters →
          ∀ m, (t.meter m).lifetime = (k.meters[m]).lifetime ∧ (t.meter m).unclaimed = (k.meters[m]).unclaimed)
      ∧ (sound → s.ssu.wake.origin ≠ .coldStart ∨ ¬ restores .meters → ∀ m, (t.meter m).lifetime = (s.meter m).lifetime)
      ∧ (sound → ∀ r, r ≠ .header → r ≠ .meters → ¬ restores r → t.liveContents.agrees s.liveContents r)
      ∧ (sound → s.ssu.wake.origin = .coldStart → s.rsc.queue = [] → t.rsc.generation = some (x .header).generation
          ∧ t.rsc.restart = (k.restart + 1) % 65536 ∧ t.rsc.check = .headerStep ∧ t.ssu.wake.stage = 1
          ∧ ∃ a, t.rsc.active = some a ∧ a.step = { records := [.header], requesters := [.header] } ∧ a.contents = t.liveContents)
      ∧ (sound → s.ssu.wake.origin ≠ .coldStart → s.rsc.queue = [] → t.rsc.generation = some (x .header).generation
          ∧ t.rsc.restart = k.restart ∧ t.rsc.check = .none ∧ t.rsc.lastCheck = .restored ∧ t.ssu.wake.stage = 2
          ∧ t.ssu.wake.outcomes[0] = some 1 ∧ s.reports t .stage 257 ∧ ∀ side, (t.board side).test.isSome = true)
      ∧ (¬ sound → t.ssu.site = .faulted .store
          ∧ t.rsc.reader = false ∧ t.liveConfig = (Contents.default 0).config ∧ t.miu.routes = defaultRoutes
          ∧ t.ssu.schedule = none ∧ t.riu.floor = 0x7000
          ∧ (∀ side, (t.pos side).unpaid = []) ∧ (∀ g, (t.grade g).price = none ∧ (t.grade g).code = .site)
          ∧ t.rsc.totals = { a := Vector.replicate 4 .zero, b := Vector.replicate 4 .zero } ∧ t.miu.counting = true
          ∧ (∀ m, (t.meter m).lifetime = 0) ∧ (∀ m, (t.meter m).unclaimed = 0)
          ∧ t.ssu.wake.outcomes[0] = some 2 ∧ t.notified .storeFailed
          ∧ (s.rsc.queue = [] → t.rsc.generation = none ∧ t.rsc.restart = 0 ∧ t.rsc.check = .none
            ∧ ∃ i, t.rsc.lastCheck = .failed i ∧ ((s.rsc.lost = true ∧ i = 0) ∨ (s.rsc.lost = false ∧ ∃ r : RecordId, r.number.val = i
              ∧ ¬ passes r ∧ ∀ q : RecordId, q.number < r.number → passes q))))

/-- The completion of a store step (R87, R161, R164, R178, R182, R184, R188): every record of the step is written with its generation and
its check word, and no other; its requesters are answered: cards finish OK, LOAD PRICE goes on or finishes, the night entry takes its next
phase or reaches NIGHT, the check reports RESTORED, the rebuild STORE REBUILT, the second freeze step FROZEN; the next step of the queue
begins, and with the live generation absent it is complete at once, but for a rebuild. REBUILD STORE (R122, R188) is taken only in
FAULTED(STORE) with the seal open, empties totals and unpaid lists, and begins a step of all eight records under a new generation, with the
restart count one more than the HEADER's, 1 where the HEADER cannot be read. A reader taken down at the entry to NIGHT is the model's reading (log 42). -/
def Obligations.StoreStepsAndRebuild : Prop :=
  (∀ s : State, s.mainSupply = true → s.calm → ∀ a, s.rsc.active = some a → (s.rsc.lost = false ∨ a.step.records = allRecords) →
    let who := a.step.requesters
    let free := s.rsc.queue = [] ∧ s.rsc.check ≠ .running ∧ s.rsc.generation.isSome = true ∧ s.ssu.site ≠ .powerDown
    let alone := s.rsc.queue = [] ∨ s.rsc.generation.isSome = true
    ∃ t, exec .storeStepCompletion s = .next t ∧ t.rsc.lost = false
      ∧ (∀ r, if r ∈ a.step.records then
            t.rsc.store.seal r = { generation := a.generation, check := some (a.contents.checkWord r a.generation) }
              ∧ t.rsc.store.contents.agrees a.contents r
          else t.rsc.store.seal r = s.rsc.store.seal r ∧ t.rsc.store.contents.agrees s.rsc.store.contents r)
      ∧ (who = [] → alone → s.changesOnly t [.store, .displays])
      ∧ (who = [] → s.rsc.generation = none → s.rsc.check ≠ .running → ∀ n q, s.rsc.queue = n :: q →
          (n.records = allRecords → (∃ g, t.rsc.generation = some g) ∧ t.rsc.queue = q ∧ ∃ b, t.rsc.active = some b ∧ b.step = n)
          ∧ (n.records ≠ allRecords → n.requesters = [.freeze .a] →
              q = [{ records := [.totals, .meters, .unpaidB], requesters := [.freeze .b] }] →
              t.rsc.freeze = .done ∧ s.reports t .frozen s.rsc.frozen ∧ t.rsc.queue = [] ∧ t.rsc.active = none))
      ∧ ((∀ q ∈ who, ∃ side, q = .freeze side) → s.rsc.queue = [] → t.rsc.active = none)
      ∧ ((∀ q ∈ who, ∃ side, q = .freeze side) → s.rsc.generation.isSome = true → s.rsc.check ≠ .running →
          ∀ n q, s.rsc.queue = n :: q → n.records ≠ allRecords → .rebuild ∉ n.requesters →
          s.stepBegun t n.records n.requesters ∧ t.rsc.queue = q)
      ∧ (alone → ∀ l off c, (s.lane l).held = some { offset := off, card := c, phase := .onStore } →
          (who = [.card l off] → s.endsCard t l off .ok)
          ∧ ∀ k off' d, (s.lane k).held = some { offset := off', card := d, phase := .onStore } → who = [.card l off, .card k off'] →
              (off + 64 ≤ off' ∨ off' + 64 ≤ off) → s.memoryOk → s.readLink off = .atEnd → s.readLink off' = .atEnd →
              t.cardEnded l off .ok ∧ t.cardEnded k off' .ok)
      ∧ (who = [.loadPrice] → alone → s.ssu.site ≠ .powerDown → ∀ l, s.pru.loading = some l → l.applied = true →
          (s.updating l.grade = true → t.pru = { s.pru with loading := some { l with stored := true } } ∧ t.lanes = s.lanes)
          ∧ (s.updating l.grade = false → t.pru = { s.pru with loading := none }
              ∧ s.siteCardEnds t .loadPrice (if s.faulted l.grade then .blocked else .ok)))
      ∧ (who = [.nightReader] → free → s.ssu.site = .closing → s.ssu.closingPhase = some .readerDown →
          t.ssu = { s.ssu with closingPhase := some .meters } ∧ s.stepBegun t [.meters] [.nightMeters]
          ∧ s.changesOnly t [.site, .store, .displays])
      ∧ (who = [.nightMeters] → alone → s.ssu.site = .closing → s.ssu.closingPhase = some .meters →
          t.ssu = { s.ssu with site := .night, closingPhase := none } ∧ s.reports t .night 0
          ∧ s.siteCardEnds t .nightNow .ok ∧ t.riu.domain = (if s.riu.domain = .quarantine then .quarantine else .off)
          ∧ s.waiterEnds t .readerOn .closed)
      ∧ (who = [.header] → alone → t.rsc.lastCheck = .restored ∧ t.rsc.check = .none
          ∧ (s.memoryOk → t.half 0x08 = BitVec.ofNat 16 (s.rsc.generation.getD 0) ∧ t.half 0x0A = BitVec.ofNat 16 s.rsc.restart)
          ∧ (s.ssu.site = .waking → s.ssu.wake.stage = 1 → s.reports t .stage 257 ∧ t.ssu.wake.outcomes[0] = some 1
              ∧ t.ssu.wake.stage = 2 ∧ t.ssu.stageTimer = some 30000
              ∧ ∀ side, ∃ ph o, (t.board side).test = some (.segment ph o true)))
      ∧ (alone → ∀ off c, s.lanes.site.held = some { offset := off, card := c, phase := .onStore } → who = [.rebuild, .card .site off] →
          s.reports t .storeRebuilt (s.rsc.generation.getD 0) ∧ t.rsc.lastCheck = .none
            ∧ (s.memoryOk → 0x800 ≤ off → s.readLink off = .atEnd → t.cardEnded .site off .ok
                ∧ t.half 0x08 = BitVec.ofNat 16 (s.rsc.generation.getD 0) ∧ t.half 0x0A = BitVec.ofNat 16 s.rsc.restart))
      ∧ (who = [.freeze .a] → alone → t.rsc.freeze = s.rsc.freeze)
      ∧ (who = [.freeze .b] → t.rsc.freeze = .done ∧ s.reports t .frozen s.rsc.frozen))
  ∧ ∀ (s : State) (off : Nat) (c : Card), s.holds .rebuildStore off c → s.calm →
    ∃ t, exec .rebuildStore s = .next t
      ∧ (s.ssu.site ≠ .faulted .store → s.endsCard t .site off .busy ∧ t.psc = s.psc ∧ t.rsc = s.rsc)
      ∧ (s.ssu.site = .faulted .store → s.iwu.calSeal ≠ some true → s.endsCard t .site off .isSealed ∧ t.psc = s.psc ∧ t.rsc = s.rsc)
      ∧ (s.ssu.site = .faulted .store → s.iwu.calSeal = some true → s.rsc.active = none → s.rsc.check = .none →
          (∀ side, t.pos side = { s.pos side with unpaid := [] })
            ∧ t.rsc.totals = { a := Vector.replicate 4 .zero, b := Vector.replicate 4 .zero }
            ∧ (let g := if s.rsc.store.intact .header then
                (if (s.rsc.store.seal .header).generation = 65535 then 1 else (s.rsc.store.seal .header).generation + 1) else 1
              t.rsc.generation = some g ∧ ∃ a, t.rsc.active = some a ∧ a.generation = g
                ∧ a.step = { records := allRecords, requesters := [.rebuild, .card .site off] }
                ∧ a.contents = Contents.default t.rsc.restart)
            ∧ t.rsc.restart = (if s.rsc.store.intact .header then (s.rsc.store.contents.restart + 1) % 65536 else 1)
            ∧ t.lanes.site.held = s.lanes.site.held.map (fun h => { h with phase := .onStore })
            ∧ s.changesOnly t [.positions, .lanes, .store, .displays])

/-! ## The host port (10, 11) -/

/-- HRESET_N (R78, R89, R153, R191, R194, R204, R207 to R210): at its assertion every lane is idled with its current card kept, the cards held
and armed are let go unwritten, the Notice Controller returns to its reset state and NOTICE_N is released; prices, pending ones too, totals
and store stay, the waiting steps and the one in progress losing the cards they were to answer alone; no mirror but the site mirror (log 67)
is updated. With main supply off the pin's level alone changes (log 31), and asserted again it changes nothing. Its release lets the port
take accesses again. -/
def Obligations.HostResetAndRelease : Prop :=
  (∀ s : State, s.mainSupply = true → s.calm → s.hostReset = false →
    ∃ t, exec .hostReset s = .next t ∧ t.hostReset = true ∧ t.mainSupply = true
      ∧ (∀ l, t.lane l = { s.lane l with st := .idle, halt := .none, goIgnored := false, stopRequested := false, held := none })
      ∧ t.ntc = { sources := Vector.replicate 13 { causes := 0, first := 0, pending := false, overrun := false },
                  presented := none, enable := 0x1FFF }
      ∧ t.riu.armed = [] ∧ t.riu.send = none ∧ t.riu.domain = s.riu.domain ∧ t.riu.settleTimer = s.riu.settleTimer
      ∧ t.riu.badRun = s.riu.badRun ∧ t.riu.answers = s.riu.answers ∧ t.riu.receiver = s.riu.receiver ∧ t.riu.floor = s.riu.floor
      ∧ t.riu.resuming = s.riu.resuming ∧ t.noticeLine = false ∧ t.pru = { s.pru with loading := none }
      ∧ t.rsc = { s.rsc with
          queue := s.rsc.queue.map StoreStep.withoutHost,
          active := s.rsc.active.map fun a => { a with step := a.step.withoutHost } }
      ∧ (s.mirrors.touched = [] → s.mirrors.wholes = [] →
          t.mirrors.genPositionA = s.mirrors.genPositionA ∧ t.mirrors.genPositionB = s.mirrors.genPositionB
            ∧ t.mirrors.genPrice = s.mirrors.genPrice ∧ t.mirrors.genTotals = s.mirrors.genTotals
            ∧ t.mirrors.genMeter = s.mirrors.genMeter
            ∧ ∀ p ∈ [MirrorPart.positionA, .positionB, .price, .totals, .meterState, .meterCounts],
                t.mirrors.fields p = s.mirrors.fields p)
      ∧ s.changesOnly t [.lines, .lanes, .notices, .prices, .displays, .reader, .store])
  ∧ (∀ s : State, s.mainSupply = false → ∃ t, exec .hostReset s = .next t ∧ t = { s with hostReset := true })
  ∧ (∀ s : State, s.hostReset = true → exec .hostReset s = .next s)
  ∧ ∀ s : State, ∃ t, exec .hostResetRelease s = .next t ∧ t = { s with hostReset := false }

/-- A start of a lane (R197, R198): the offset has its low bits cleared; a bad address, a parity failure and a card not FRESH halt the
lane; an unknown kind, another lane's kind and a body of more than 12 words are refused; any other card is taken. A lane at work ignores
the start and says so. The chain of a lane (R200, R203): a finished card is written with its outcome and raises NOTE CARD FINISHED when it
asks for it; its link END ends the chain, a link that fails parity halts the lane PARITY, any other names the card that the lane takes
next; with stop requested the lane enters IDLE with ABORTED. An abort (R88, R143, R144, R162, R173, R174, R197, R201): nothing on an IDLE or
HALTED lane; stop requested while a card is held WALKING; a waiting card finishes ABORTED, the lane IDLE, with its operation undone: a Send
is ended, a powering reader returns to OFF, a price not yet applied is withdrawn, a closing of origin CARD too; a wake goes on. The marks of
bytes that fail parity are the model's choice (log 24); so is IDLE for a stop requested with a link that fails parity (log 52). -/
def Obligations.GoStartsAndAborts : Prop :=
  (∀ (s : State) (l : LaneId) (value : BitVec 15), s.mainSupply = true → s.hostReset = false → s.calm →
    let off := value.toNat - value.toNat % 4
    let kind := Kind.ofByte (Memory.read s.xm off)
    let body := 4 * min 12 (s.half (off + 10)).toNat
    let starts := (s.lane l).st = .idle ∨ (s.lane l).st = .halted
    ∃ t, exec (.goStart l value) s = .next t
      ∧ (((s.lane l).st = .walking ∨ (s.lane l).st = .waiting) → t.lane l = { s.lane l with goIgnored := true }
          ∧ s.reports t (.lane l .goIgnored) value.toNat ∧ s.changesOnly t [.lanes, .notices, .displays])
      ∧ (starts → ∀ r, s.haltsAt off = some r → s.takesNext t l off ∧ s.reports t (.lane l .halted) off
          ∧ s.changesOnly t [.lanes, .notices, .displays])
      ∧ (starts → (off < 0x800 ∨ s.riu.floor < off + (16 + body)) → s.haltsAt off = some .badCardAddress)
      ∧ (starts → 0x800 ≤ off → off + (16 + body) ≤ s.riu.floor →
          ((∃ a ∈ s.upset, off ≤ a ∧ a < off + (16 + body)) → s.haltsAt off = some .parity)
          ∧ ((∀ a ∈ s.upset, a < off ∨ off + (16 + body) ≤ a) → (s.half (off + 4) ≠ 0 → s.haltsAt off = some .staleCard)
            ∧ (s.half (off + 4) = 0 → s.haltsAt off = none)))
      ∧ (starts → s.haltsAt off = none → s.memoryOk →
          (s.readLink off = .atEnd → (s.lane l).stopRequested = false →
            (kind = none → t.cardEnded l off .unknownKind ∧ s.reports t (.lane l .refused) off)
            ∧ (∀ k, kind = some k → k.lane ≠ l → t.cardEnded l off .wrongLane ∧ s.reports t (.lane l .refused) off)
            ∧ (∀ k, kind = some k → k.lane = l → 12 < (s.half (off + 10)).toNat →
                t.cardEnded l off .badValue ∧ s.reports t (.lane l .refused) off))
          ∧ (∀ n, s.readLink off = .next n → (s.lane l).stopRequested = false → (n + 64 ≤ off ∨ off + 64 ≤ n) → kind = none →
              t.half (off + 6) = BitVec.ofNat 16 CardOutcome.unknownKind.code ∧ t.half (off + 4) = CardState.finishedLink.code
                ∧ s.takesNext t l n)
          ∧ ∀ k, kind = some k → k.lane = l → (s.half (off + 10)).toNat ≤ 12 → t.half (off + 4) = 1
            ∧ t.lane l = { s.lane l with st := .walking, current := off, halt := .none, goIgnored := false,
                                         held := some { offset := off, card := s.cardAt off, phase := .undecided } }
            ∧ (∀ a, a ≠ off + 4 → a ≠ off + 5 → Memory.read t.xm a = Memory.read s.xm a)
            ∧ s.changesOnly t [.memory, .parity, .lanes, .displays]))
  ∧ (∀ (s : State) (l : LaneId), s.memoryOk → ∀ h, (s.lane l).held = some h → ∀ (results : List (Nat × Byte)) (o : CardOutcome),
    (∀ p ∈ results, p.1 < 48) →
    let t := s.finishCard l results o
    let off := h.offset
    let written := fun st : CardState => t.half (off + 6) = BitVec.ofNat 16 o.code ∧ t.half (off + 4) = st.code
    (h.card.flags.getLsbD 0 = true → t.notified (.lane l .noteCardFinished))
    ∧ ((s.lane l).stopRequested = true → (t.lane l).st = .idle ∧ (t.lane l).held = none ∧ (t.lane l).stopRequested = false
        ∧ (t.lane l).lastFinished = off ∧ t.notified (.lane l .aborted)
        ∧ written (match s.readLink off with
          | .next _ => .finishedLink
          | _ => .finishedEnd))
    ∧ ((s.lane l).stopRequested = false →
        (s.readLink off = .atEnd → written .finishedEnd ∧ (t.lane l).st = .idle ∧ (t.lane l).held = none
          ∧ (t.lane l).lastFinished = off ∧ t.notified (.lane l .chainEnd))
        ∧ (s.readLink off = .parity → written .finishedEnd ∧ (t.lane l).st = .halted ∧ (t.lane l).halt = .parity
          ∧ (t.lane l).held = none ∧ (t.lane l).current = off ∧ (t.lane l).lastFinished = off ∧ t.notified (.lane l .halted))
        ∧ ∀ n, s.readLink off = .next n → (n + 64 ≤ off ∨ off + 64 ≤ n) → (s.haltsAt n ≠ none ∨ s.refusesAt l n = none) →
          written .finishedLink ∧ s.takesNext t l n ∧ (t.lane l).lastFinished = off))
  ∧ ∀ (s : State) (l : LaneId) (value : BitVec 15), s.mainSupply = true → s.hostReset = false →
    ∃ t, exec (.goAbort l value) s = .next t
      ∧ (s.calm → ((s.lane l).st = .idle ∨ (s.lane l).st = .halted) → s.changesOnly t [.displays])
      ∧ (s.calm → (s.lane l).st = .walking → (s.lane l).held.isSome = true →
          t.lane l = { s.lane l with stopRequested := true } ∧ s.changesOnly t [.lanes, .displays])
      ∧ (s.calm → (s.lane l).st = .walking → (s.lane l).held = none →
          t.lane l = { s.lane l with st := .idle, stopRequested := false } ∧ s.reports t (.lane l .aborted) 0)
      ∧ ∀ off c, (s.lane l).held = some { offset := off, card := c, phase := .waiting } → (s.lane l).st = .waiting →
          ∀ k, Kind.ofByte c.kind = some k →
          (s.calm → s.memoryOk → s.readLink off = .atEnd → t.cardEnded l off .aborted)
          ∧ (s.calm → k = .send → t.riu.send = none ∧ t.riu.domain = s.riu.domain ∧ t.riu.answers = s.riu.answers)
          ∧ (s.calm → k = .readerOn → t.riu.domain = (if s.riu.domain = .powering then .off else s.riu.domain))
          ∧ (∀ p, k = .loadPrice → s.pru.loading = some p → t.pru.loading = none ∧ (s.calm → p.applied = true →
              t.pru.grades = s.pru.grades ∧ t.rsc.active.map ActiveStep.generation = s.rsc.active.map ActiveStep.generation))
          ∧ (∀ p, k = .loadPrice → s.pru.loading = some p → p.applied = false → s.lockedOn p.grade = true →
              (t.grade p.grade).pending = none ∧ (t.grade p.grade).price = (s.grade p.grade).price)
          ∧ (s.calm → k = .nightNow → s.ssu.site = .closing → s.ssu.closingOrigin = some .card → s.closingWithdrawn t 2)
          ∧ (s.calm → k = .nightNow → (s.ssu.site ≠ .closing ∨ s.ssu.closingOrigin ≠ some .card) →
              t.ssu = s.ssu ∧ s.changesOnly t [.memory, .parity, .lanes, .notices, .displays])
          ∧ (s.calm → k = .wakeNow → t.ssu = s.ssu ∧ s.changesOnly t [.memory, .parity, .lanes, .notices, .displays])

/-- The notice registers and the accesses of exchange memory (R190 to R192, R206 to R210): a read presents the lowest eligible source,
writes its slot and empties its accumulator; DONE ends the presentation; writes of OVERRUN and ENABLE; host writes stored at and above
0800h and refused below; a parity failure reported; a cause raised for the presented source sets its overrun bit; NOTICE_N is asserted
exactly while a source is presented or eligible; a register that no offset names reads 0; other register writes, and every access under
HRESET_N, without effect. A byte of the card pool or the relay region that fails parity stays marked until it is written, which is the
model's choice (log 24). -/
def Obligations.HostAccesses : Prop :=
  (∀ (s : State) (i : Fin 13), s.mainSupply = true → s.hostReset = false → s.calm → s.ntc.presented = none →
    s.ntc.sources[i].pending = true → s.ntc.enable.getLsbD i.val = true →
    (∀ j : Fin 13, j < i → s.ntc.sources[j].pending = false ∨ s.ntc.enable.getLsbD j.val = false) → s.memoryOk →
    let slot := 0x40 + 8 * i.val
    ∃ t, exec .noticeRead s = .next t ∧ t.ntc.presented = some i ∧ t.ntc.enable = s.ntc.enable
      ∧ t.registerAt 0x06 = BitVec.ofNat 16 (i.val + 1) ∧ t.noticeLine = true
      ∧ t.ntc.sources[i] = { causes := 0, first := 0, pending := false, overrun := s.ntc.sources[i].overrun }
      ∧ (∀ j : Fin 13, j ≠ i → t.ntc.sources[j] = s.ntc.sources[j])
      ∧ t.half slot = s.ntc.sources[i].causes ∧ t.half (slot + 2) = s.ntc.sources[i].first
      ∧ t.half (slot + 4) = BitVec.ofNat 16 (i.val + 1) ∧ t.half (slot + 6) = 0
      ∧ (∀ a, (a < slot ∨ slot + 8 ≤ a) → Memory.read t.xm a = Memory.read s.xm a)
      ∧ s.changesOnly t [.memory, .parity, .notices, .displays])
  ∧ (∀ s : State, s.mainSupply = true → s.hostReset = false → s.calm →
    (s.ntc.presented.isSome = true ∨ ∀ i : Fin 13, s.ntc.sources[i].pending = false ∨ s.ntc.enable.getLsbD i.val = false) →
    ∃ t, exec .noticeRead s = .next t ∧ t.noticeLine = s.ntc.presented.isSome ∧ s.changesOnly t [.displays])
  ∧ (∀ (s : State) (v : Half), s.mainSupply = true → s.hostReset = false → s.calm →
    (∃ t, exec (.noticeDone v) s = .next t ∧ t.ntc = { s.ntc with presented := none } ∧ t.lineDriven
        ∧ s.changesOnly t [.notices, .displays])
    ∧ (∃ t, exec (.overrunWrite v) s = .next t ∧ t.ntc.presented = s.ntc.presented ∧ t.ntc.enable = s.ntc.enable
        ∧ (∀ i : Fin 13, t.ntc.sources[i] =
            { s.ntc.sources[i] with overrun := s.ntc.sources[i].overrun && !v.getLsbD i.val })
        ∧ t.noticeLine = s.noticeLine ∧ s.changesOnly t [.notices, .displays])
    ∧ ∃ t, exec (.enableWrite v) s = .next t ∧ t.ntc = { s.ntc with enable := v.setWidth 13 }
        ∧ t.registerAt 0x0A = v &&& 0x1FFF ∧ t.lineDriven
        ∧ s.changesOnly t [.notices, .displays])
  ∧ (∀ (s : State) (offset : BitVec 15) (v : Half), s.mainSupply = true → s.hostReset = false → s.calm → s.memoryOk →
    let a := offset.toNat - offset.toNat % 2
    (∃ t, exec (.hostWrite offset v) s = .next t
      ∧ (a < 0x800 → s.reportsAlone t .writeRefused a ∧ t.lineDriven ∧ s.changesOnly t [.notices, .displays])
      ∧ (0x800 ≤ a → t.half a = v ∧ (∀ b, b ≠ a → b ≠ a + 1 → Memory.read t.xm b = Memory.read s.xm b)
          ∧ (∀ b, b ∈ t.upset ↔ b ∈ s.upset ∧ b ≠ a ∧ b ≠ a + 1) ∧ s.changesOnly t [.memory, .parity, .displays]))
    ∧ ∃ t, exec (.hostParity offset) s = .next t ∧ s.reportsAlone t .hostParity a ∧ t.lineDriven
        ∧ (∀ b, b ∈ t.upset ↔ b ∈ s.upset ∨ 0x800 ≤ offset.toNat ∧ b = offset.toNat) ∧ s.changesOnly t [.parity, .notices, .displays])
  ∧ (∀ (s : State) (offset : Byte) (v : Half), (∃ t, exec (.registerWriteOther offset v) s = .next t ∧ t = s)
    ∧ (0x0C ≤ offset.toNat → s.registerAt offset.toNat = 0))
  ∧ ∀ (s : State) (c : Instr), s.hostReset = true →
      ((∃ l v, c = .goStart l v) ∨ (∃ l v, c = .goAbort l v) ∨ c = .noticeRead ∨ (∃ v, c = .noticeDone v) ∨ (∃ v, c = .overrunWrite v)
        ∨ (∃ v, c = .enableWrite v) ∨ (∃ o v, c = .hostWrite o v) ∨ ∃ o, c = .hostParity o) → exec c s = .next s
end

