-- ==== Sys2Proof/Laws/State.lean ====
section
/-! SUPPORT. The small lemmas of State: one per field per update, and the views after each update. -/
namespace Sys2Proof.Machine

/-! ## Sides -/

@[simp] theorem Sides.get_set_same {α : Type} (x : Sides α) (side : Side) (v : α) : (x.set side v).get side = v := by
  cases side <;> rfl

@[simp] theorem Sides.get_set_other {α : Type} (x : Sides α) (side : Side) (v : α) :
    (x.set side v).get (other side) = x.get (other side) := by cases side <;> rfl

theorem Sides.get_set {α : Type} (x : Sides α) (side q : Side) (v : α) :
    (x.set side v).get q = if q = side then v else x.get q := by cases side <;> cases q <;> rfl

@[simp] theorem Sides.get_a {α : Type} (x : Sides α) : x.get .a = x.a := rfl
@[simp] theorem Sides.get_b {α : Type} (x : Sides α) : x.get .b = x.b := rfl
@[simp] theorem Sides.get_map {α β : Type} (f : α → β) (x : Sides α) (side : Side) : (x.map f).get side = f (x.get side) := by
  cases side <;> rfl

@[simp] theorem other_other (side : Side) : other (other side) = side := by cases side <;> rfl
theorem other_ne (side : Side) : other side ≠ side := by cases side <;> decide
theorem eq_or_other (side q : Side) : q = side ∨ q = other side := by cases side <;> cases q <;> decide
/-! ## modPos -/
@[simp] theorem State.modPos_pending (s : State) (side : Side) (f : Position → Position) : (s.modPos side f).pending = s.pending := rfl
@[simp] theorem State.modPos_mainSupply (s : State) (side : Side) (f : Position → Position) : (s.modPos side f).mainSupply = s.mainSupply := rfl
@[simp] theorem State.modPos_hostReset (s : State) (side : Side) (f : Position → Position) : (s.modPos side f).hostReset = s.hostReset := rfl
@[simp] theorem State.modPos_xm (s : State) (side : Side) (f : Position → Position) : (s.modPos side f).xm = s.xm := rfl
@[simp] theorem State.modPos_upset (s : State) (side : Side) (f : Position → Position) : (s.modPos side f).upset = s.upset := rfl
@[simp] theorem State.modPos_mirrors (s : State) (side : Side) (f : Position → Position) : (s.modPos side f).mirrors = s.mirrors := rfl
@[simp] theorem State.modPos_lanes (s : State) (side : Side) (f : Position → Position) : (s.modPos side f).lanes = s.lanes := rfl
@[simp] theorem State.modPos_ntc (s : State) (side : Side) (f : Position → Position) : (s.modPos side f).ntc = s.ntc := rfl
@[simp] theorem State.modPos_miu (s : State) (side : Side) (f : Position → Position) : (s.modPos side f).miu = s.miu := rfl
@[simp] theorem State.modPos_psc (s : State) (side : Side) (f : Position → Position) : (s.modPos side f).psc = s.psc.set side (f (s.psc.get side)) := rfl
@[simp] theorem State.modPos_pru (s : State) (side : Side) (f : Position → Position) : (s.modPos side f).pru = s.pru := rfl
@[simp] theorem State.modPos_dlc (s : State) (side : Side) (f : Position → Position) : (s.modPos side f).dlc = s.dlc := rfl
@[simp] theorem State.modPos_iwu (s : State) (side : Side) (f : Position → Position) : (s.modPos side f).iwu = s.iwu := rfl
@[simp] theorem State.modPos_riu (s : State) (side : Side) (f : Position → Position) : (s.modPos side f).riu = s.riu := rfl
@[simp] theorem State.modPos_ssu (s : State) (side : Side) (f : Position → Position) : (s.modPos side f).ssu = s.ssu := rfl
@[simp] theorem State.modPos_rsc (s : State) (side : Side) (f : Position → Position) : (s.modPos side f).rsc = s.rsc := rfl
@[simp] theorem State.modPos_free (s : State) (side : Side) (f : Position → Position) : (s.modPos side f).free = s.free := rfl

/-! ## modMeter -/
@[simp] theorem State.modMeter_pending (s : State) (m : MeterNo) (f : Meter → Meter) : (s.modMeter m f).pending = s.pending := rfl
@[simp] theorem State.modMeter_mainSupply (s : State) (m : MeterNo) (f : Meter → Meter) : (s.modMeter m f).mainSupply = s.mainSupply := rfl
@[simp] theorem State.modMeter_hostReset (s : State) (m : MeterNo) (f : Meter → Meter) : (s.modMeter m f).hostReset = s.hostReset := rfl
@[simp] theorem State.modMeter_xm (s : State) (m : MeterNo) (f : Meter → Meter) : (s.modMeter m f).xm = s.xm := rfl
@[simp] theorem State.modMeter_upset (s : State) (m : MeterNo) (f : Meter → Meter) : (s.modMeter m f).upset = s.upset := rfl
@[simp] theorem State.modMeter_mirrors (s : State) (m : MeterNo) (f : Meter → Meter) : (s.modMeter m f).mirrors = s.mirrors := rfl
@[simp] theorem State.modMeter_lanes (s : State) (m : MeterNo) (f : Meter → Meter) : (s.modMeter m f).lanes = s.lanes := rfl
@[simp] theorem State.modMeter_ntc (s : State) (m : MeterNo) (f : Meter → Meter) : (s.modMeter m f).ntc = s.ntc := rfl
@[simp] theorem State.modMeter_miu (s : State) (m : MeterNo) (f : Meter → Meter) : (s.modMeter m f).miu = { s.miu with meters := s.miu.meters.set m (f s.miu.meters[m]) } := rfl
@[simp] theorem State.modMeter_psc (s : State) (m : MeterNo) (f : Meter → Meter) : (s.modMeter m f).psc = s.psc := rfl
@[simp] theorem State.modMeter_pru (s : State) (m : MeterNo) (f : Meter → Meter) : (s.modMeter m f).pru = s.pru := rfl
@[simp] theorem State.modMeter_dlc (s : State) (m : MeterNo) (f : Meter → Meter) : (s.modMeter m f).dlc = s.dlc := rfl
@[simp] theorem State.modMeter_iwu (s : State) (m : MeterNo) (f : Meter → Meter) : (s.modMeter m f).iwu = s.iwu := rfl
@[simp] theorem State.modMeter_riu (s : State) (m : MeterNo) (f : Meter → Meter) : (s.modMeter m f).riu = s.riu := rfl
@[simp] theorem State.modMeter_ssu (s : State) (m : MeterNo) (f : Meter → Meter) : (s.modMeter m f).ssu = s.ssu := rfl
@[simp] theorem State.modMeter_rsc (s : State) (m : MeterNo) (f : Meter → Meter) : (s.modMeter m f).rsc = s.rsc := rfl
@[simp] theorem State.modMeter_free (s : State) (m : MeterNo) (f : Meter → Meter) : (s.modMeter m f).free = s.free := rfl

/-! ## modGrade -/
@[simp] theorem State.modGrade_pending (s : State) (g : Fin 8) (f : Grade → Grade) : (s.modGrade g f).pending = s.pending := rfl
@[simp] theorem State.modGrade_mainSupply (s : State) (g : Fin 8) (f : Grade → Grade) : (s.modGrade g f).mainSupply = s.mainSupply := rfl
@[simp] theorem State.modGrade_hostReset (s : State) (g : Fin 8) (f : Grade → Grade) : (s.modGrade g f).hostReset = s.hostReset := rfl
@[simp] theorem State.modGrade_xm (s : State) (g : Fin 8) (f : Grade → Grade) : (s.modGrade g f).xm = s.xm := rfl
@[simp] theorem State.modGrade_upset (s : State) (g : Fin 8) (f : Grade → Grade) : (s.modGrade g f).upset = s.upset := rfl
@[simp] theorem State.modGrade_mirrors (s : State) (g : Fin 8) (f : Grade → Grade) : (s.modGrade g f).mirrors = s.mirrors := rfl
@[simp] theorem State.modGrade_lanes (s : State) (g : Fin 8) (f : Grade → Grade) : (s.modGrade g f).lanes = s.lanes := rfl
@[simp] theorem State.modGrade_ntc (s : State) (g : Fin 8) (f : Grade → Grade) : (s.modGrade g f).ntc = s.ntc := rfl
@[simp] theorem State.modGrade_miu (s : State) (g : Fin 8) (f : Grade → Grade) : (s.modGrade g f).miu = s.miu := rfl
@[simp] theorem State.modGrade_psc (s : State) (g : Fin 8) (f : Grade → Grade) : (s.modGrade g f).psc = s.psc := rfl
@[simp] theorem State.modGrade_pru (s : State) (g : Fin 8) (f : Grade → Grade) : (s.modGrade g f).pru = { s.pru with grades := s.pru.grades.set g (f s.pru.grades[g]) } := rfl
@[simp] theorem State.modGrade_dlc (s : State) (g : Fin 8) (f : Grade → Grade) : (s.modGrade g f).dlc = s.dlc := rfl
@[simp] theorem State.modGrade_iwu (s : State) (g : Fin 8) (f : Grade → Grade) : (s.modGrade g f).iwu = s.iwu := rfl
@[simp] theorem State.modGrade_riu (s : State) (g : Fin 8) (f : Grade → Grade) : (s.modGrade g f).riu = s.riu := rfl
@[simp] theorem State.modGrade_ssu (s : State) (g : Fin 8) (f : Grade → Grade) : (s.modGrade g f).ssu = s.ssu := rfl
@[simp] theorem State.modGrade_rsc (s : State) (g : Fin 8) (f : Grade → Grade) : (s.modGrade g f).rsc = s.rsc := rfl
@[simp] theorem State.modGrade_free (s : State) (g : Fin 8) (f : Grade → Grade) : (s.modGrade g f).free = s.free := rfl

/-! ## modPanel -/
@[simp] theorem State.modPanel_pending (s : State) (g : Fin 8) (side : Side) (f : Panel → Panel) : (s.modPanel g side f).pending = s.pending := rfl
@[simp] theorem State.modPanel_mainSupply (s : State) (g : Fin 8) (side : Side) (f : Panel → Panel) : (s.modPanel g side f).mainSupply = s.mainSupply := rfl
@[simp] theorem State.modPanel_hostReset (s : State) (g : Fin 8) (side : Side) (f : Panel → Panel) : (s.modPanel g side f).hostReset = s.hostReset := rfl
@[simp] theorem State.modPanel_xm (s : State) (g : Fin 8) (side : Side) (f : Panel → Panel) : (s.modPanel g side f).xm = s.xm := rfl
@[simp] theorem State.modPanel_upset (s : State) (g : Fin 8) (side : Side) (f : Panel → Panel) : (s.modPanel g side f).upset = s.upset := rfl
@[simp] theorem State.modPanel_mirrors (s : State) (g : Fin 8) (side : Side) (f : Panel → Panel) : (s.modPanel g side f).mirrors = s.mirrors := rfl
@[simp] theorem State.modPanel_lanes (s : State) (g : Fin 8) (side : Side) (f : Panel → Panel) : (s.modPanel g side f).lanes = s.lanes := rfl
@[simp] theorem State.modPanel_ntc (s : State) (g : Fin 8) (side : Side) (f : Panel → Panel) : (s.modPanel g side f).ntc = s.ntc := rfl
@[simp] theorem State.modPanel_miu (s : State) (g : Fin 8) (side : Side) (f : Panel → Panel) : (s.modPanel g side f).miu = s.miu := rfl
@[simp] theorem State.modPanel_psc (s : State) (g : Fin 8) (side : Side) (f : Panel → Panel) : (s.modPanel g side f).psc = s.psc := rfl
@[simp] theorem State.modPanel_dlc (s : State) (g : Fin 8) (side : Side) (f : Panel → Panel) : (s.modPanel g side f).dlc = s.dlc := rfl
@[simp] theorem State.modPanel_iwu (s : State) (g : Fin 8) (side : Side) (f : Panel → Panel) : (s.modPanel g side f).iwu = s.iwu := rfl
@[simp] theorem State.modPanel_riu (s : State) (g : Fin 8) (side : Side) (f : Panel → Panel) : (s.modPanel g side f).riu = s.riu := rfl
@[simp] theorem State.modPanel_ssu (s : State) (g : Fin 8) (side : Side) (f : Panel → Panel) : (s.modPanel g side f).ssu = s.ssu := rfl
@[simp] theorem State.modPanel_rsc (s : State) (g : Fin 8) (side : Side) (f : Panel → Panel) : (s.modPanel g side f).rsc = s.rsc := rfl
@[simp] theorem State.modPanel_free (s : State) (g : Fin 8) (side : Side) (f : Panel → Panel) : (s.modPanel g side f).free = s.free := rfl

/-! ## modBoard -/
@[simp] theorem State.modBoard_pending (s : State) (side : Side) (f : Board → Board) : (s.modBoard side f).pending = s.pending := rfl
@[simp] theorem State.modBoard_mainSupply (s : State) (side : Side) (f : Board → Board) : (s.modBoard side f).mainSupply = s.mainSupply := rfl
@[simp] theorem State.modBoard_hostReset (s : State) (side : Side) (f : Board → Board) : (s.modBoard side f).hostReset = s.hostReset := rfl
@[simp] theorem State.modBoard_xm (s : State) (side : Side) (f : Board → Board) : (s.modBoard side f).xm = s.xm := rfl
@[simp] theorem State.modBoard_upset (s : State) (side : Side) (f : Board → Board) : (s.modBoard side f).upset = s.upset := rfl
@[simp] theorem State.modBoard_mirrors (s : State) (side : Side) (f : Board → Board) : (s.modBoard side f).mirrors = s.mirrors := rfl
@[simp] theorem State.modBoard_lanes (s : State) (side : Side) (f : Board → Board) : (s.modBoard side f).lanes = s.lanes := rfl
@[simp] theorem State.modBoard_ntc (s : State) (side : Side) (f : Board → Board) : (s.modBoard side f).ntc = s.ntc := rfl
@[simp] theorem State.modBoard_miu (s : State) (side : Side) (f : Board → Board) : (s.modBoard side f).miu = s.miu := rfl
@[simp] theorem State.modBoard_psc (s : State) (side : Side) (f : Board → Board) : (s.modBoard side f).psc = s.psc := rfl
@[simp] theorem State.modBoard_pru (s : State) (side : Side) (f : Board → Board) : (s.modBoard side f).pru = s.pru := rfl
@[simp] theorem State.modBoard_dlc (s : State) (side : Side) (f : Board → Board) : (s.modBoard side f).dlc = { s.dlc with boards := s.dlc.boards.set side (f (s.dlc.boards.get side)) } := rfl
@[simp] theorem State.modBoard_iwu (s : State) (side : Side) (f : Board → Board) : (s.modBoard side f).iwu = s.iwu := rfl
@[simp] theorem State.modBoard_riu (s : State) (side : Side) (f : Board → Board) : (s.modBoard side f).riu = s.riu := rfl
@[simp] theorem State.modBoard_ssu (s : State) (side : Side) (f : Board → Board) : (s.modBoard side f).ssu = s.ssu := rfl
@[simp] theorem State.modBoard_rsc (s : State) (side : Side) (f : Board → Board) : (s.modBoard side f).rsc = s.rsc := rfl
@[simp] theorem State.modBoard_free (s : State) (side : Side) (f : Board → Board) : (s.modBoard side f).free = s.free := rfl

/-! ## modLane -/
@[simp] theorem State.modLane_pending (s : State) (l : LaneId) (f : Lane → Lane) : (s.modLane l f).pending = s.pending := by cases l <;> rfl
@[simp] theorem State.modLane_mainSupply (s : State) (l : LaneId) (f : Lane → Lane) : (s.modLane l f).mainSupply = s.mainSupply := by cases l <;> rfl
@[simp] theorem State.modLane_hostReset (s : State) (l : LaneId) (f : Lane → Lane) : (s.modLane l f).hostReset = s.hostReset := by cases l <;> rfl
@[simp] theorem State.modLane_xm (s : State) (l : LaneId) (f : Lane → Lane) : (s.modLane l f).xm = s.xm := by cases l <;> rfl
@[simp] theorem State.modLane_upset (s : State) (l : LaneId) (f : Lane → Lane) : (s.modLane l f).upset = s.upset := by cases l <;> rfl
@[simp] theorem State.modLane_mirrors (s : State) (l : LaneId) (f : Lane → Lane) : (s.modLane l f).mirrors = s.mirrors := by cases l <;> rfl
@[simp] theorem State.modLane_ntc (s : State) (l : LaneId) (f : Lane → Lane) : (s.modLane l f).ntc = s.ntc := by cases l <;> rfl
@[simp] theorem State.modLane_miu (s : State) (l : LaneId) (f : Lane → Lane) : (s.modLane l f).miu = s.miu := by cases l <;> rfl
@[simp] theorem State.modLane_psc (s : State) (l : LaneId) (f : Lane → Lane) : (s.modLane l f).psc = s.psc := by cases l <;> rfl
@[simp] theorem State.modLane_pru (s : State) (l : LaneId) (f : Lane → Lane) : (s.modLane l f).pru = s.pru := by cases l <;> rfl
@[simp] theorem State.modLane_dlc (s : State) (l : LaneId) (f : Lane → Lane) : (s.modLane l f).dlc = s.dlc := by cases l <;> rfl
@[simp] theorem State.modLane_iwu (s : State) (l : LaneId) (f : Lane → Lane) : (s.modLane l f).iwu = s.iwu := by cases l <;> rfl
@[simp] theorem State.modLane_riu (s : State) (l : LaneId) (f : Lane → Lane) : (s.modLane l f).riu = s.riu := by cases l <;> rfl
@[simp] theorem State.modLane_ssu (s : State) (l : LaneId) (f : Lane → Lane) : (s.modLane l f).ssu = s.ssu := by cases l <;> rfl
@[simp] theorem State.modLane_rsc (s : State) (l : LaneId) (f : Lane → Lane) : (s.modLane l f).rsc = s.rsc := by cases l <;> rfl
@[simp] theorem State.modLane_free (s : State) (l : LaneId) (f : Lane → Lane) : (s.modLane l f).free = s.free := by cases l <;> rfl

/-! ## modMiu -/
@[simp] theorem State.modMiu_pending (s : State) (f : Miu → Miu) : (s.modMiu f).pending = s.pending := rfl
@[simp] theorem State.modMiu_mainSupply (s : State) (f : Miu → Miu) : (s.modMiu f).mainSupply = s.mainSupply := rfl
@[simp] theorem State.modMiu_hostReset (s : State) (f : Miu → Miu) : (s.modMiu f).hostReset = s.hostReset := rfl
@[simp] theorem State.modMiu_xm (s : State) (f : Miu → Miu) : (s.modMiu f).xm = s.xm := rfl
@[simp] theorem State.modMiu_upset (s : State) (f : Miu → Miu) : (s.modMiu f).upset = s.upset := rfl
@[simp] theorem State.modMiu_mirrors (s : State) (f : Miu → Miu) : (s.modMiu f).mirrors = s.mirrors := rfl
@[simp] theorem State.modMiu_lanes (s : State) (f : Miu → Miu) : (s.modMiu f).lanes = s.lanes := rfl
@[simp] theorem State.modMiu_ntc (s : State) (f : Miu → Miu) : (s.modMiu f).ntc = s.ntc := rfl
@[simp] theorem State.modMiu_miu (s : State) (f : Miu → Miu) : (s.modMiu f).miu = f s.miu := rfl
@[simp] theorem State.modMiu_psc (s : State) (f : Miu → Miu) : (s.modMiu f).psc = s.psc := rfl
@[simp] theorem State.modMiu_pru (s : State) (f : Miu → Miu) : (s.modMiu f).pru = s.pru := rfl
@[simp] theorem State.modMiu_dlc (s : State) (f : Miu → Miu) : (s.modMiu f).dlc = s.dlc := rfl
@[simp] theorem State.modMiu_iwu (s : State) (f : Miu → Miu) : (s.modMiu f).iwu = s.iwu := rfl
@[simp] theorem State.modMiu_riu (s : State) (f : Miu → Miu) : (s.modMiu f).riu = s.riu := rfl
@[simp] theorem State.modMiu_ssu (s : State) (f : Miu → Miu) : (s.modMiu f).ssu = s.ssu := rfl
@[simp] theorem State.modMiu_rsc (s : State) (f : Miu → Miu) : (s.modMiu f).rsc = s.rsc := rfl
@[simp] theorem State.modMiu_free (s : State) (f : Miu → Miu) : (s.modMiu f).free = s.free := rfl

/-! ## modPru -/
@[simp] theorem State.modPru_pending (s : State) (f : Pru → Pru) : (s.modPru f).pending = s.pending := rfl
@[simp] theorem State.modPru_mainSupply (s : State) (f : Pru → Pru) : (s.modPru f).mainSupply = s.mainSupply := rfl
@[simp] theorem State.modPru_hostReset (s : State) (f : Pru → Pru) : (s.modPru f).hostReset = s.hostReset := rfl
@[simp] theorem State.modPru_xm (s : State) (f : Pru → Pru) : (s.modPru f).xm = s.xm := rfl
@[simp] theorem State.modPru_upset (s : State) (f : Pru → Pru) : (s.modPru f).upset = s.upset := rfl
@[simp] theorem State.modPru_mirrors (s : State) (f : Pru → Pru) : (s.modPru f).mirrors = s.mirrors := rfl
@[simp] theorem State.modPru_lanes (s : State) (f : Pru → Pru) : (s.modPru f).lanes = s.lanes := rfl
@[simp] theorem State.modPru_ntc (s : State) (f : Pru → Pru) : (s.modPru f).ntc = s.ntc := rfl
@[simp] theorem State.modPru_miu (s : State) (f : Pru → Pru) : (s.modPru f).miu = s.miu := rfl
@[simp] theorem State.modPru_psc (s : State) (f : Pru → Pru) : (s.modPru f).psc = s.psc := rfl
@[simp] theorem State.modPru_pru (s : State) (f : Pru → Pru) : (s.modPru f).pru = f s.pru := rfl
@[simp] theorem State.modPru_dlc (s : State) (f : Pru → Pru) : (s.modPru f).dlc = s.dlc := rfl
@[simp] theorem State.modPru_iwu (s : State) (f : Pru → Pru) : (s.modPru f).iwu = s.iwu := rfl
@[simp] theorem State.modPru_riu (s : State) (f : Pru → Pru) : (s.modPru f).riu = s.riu := rfl
@[simp] theorem State.modPru_ssu (s : State) (f : Pru → Pru) : (s.modPru f).ssu = s.ssu := rfl
@[simp] theorem State.modPru_rsc (s : State) (f : Pru → Pru) : (s.modPru f).rsc = s.rsc := rfl
@[simp] theorem State.modPru_free (s : State) (f : Pru → Pru) : (s.modPru f).free = s.free := rfl

/-! ## modDlc -/
@[simp] theorem State.modDlc_pending (s : State) (f : Dlc → Dlc) : (s.modDlc f).pending = s.pending := rfl
@[simp] theorem State.modDlc_mainSupply (s : State) (f : Dlc → Dlc) : (s.modDlc f).mainSupply = s.mainSupply := rfl
@[simp] theorem State.modDlc_hostReset (s : State) (f : Dlc → Dlc) : (s.modDlc f).hostReset = s.hostReset := rfl
@[simp] theorem State.modDlc_xm (s : State) (f : Dlc → Dlc) : (s.modDlc f).xm = s.xm := rfl
@[simp] theorem State.modDlc_upset (s : State) (f : Dlc → Dlc) : (s.modDlc f).upset = s.upset := rfl
@[simp] theorem State.modDlc_mirrors (s : State) (f : Dlc → Dlc) : (s.modDlc f).mirrors = s.mirrors := rfl
@[simp] theorem State.modDlc_lanes (s : State) (f : Dlc → Dlc) : (s.modDlc f).lanes = s.lanes := rfl
@[simp] theorem State.modDlc_ntc (s : State) (f : Dlc → Dlc) : (s.modDlc f).ntc = s.ntc := rfl
@[simp] theorem State.modDlc_miu (s : State) (f : Dlc → Dlc) : (s.modDlc f).miu = s.miu := rfl
@[simp] theorem State.modDlc_psc (s : State) (f : Dlc → Dlc) : (s.modDlc f).psc = s.psc := rfl
@[simp] theorem State.modDlc_pru (s : State) (f : Dlc → Dlc) : (s.modDlc f).pru = s.pru := rfl
@[simp] theorem State.modDlc_dlc (s : State) (f : Dlc → Dlc) : (s.modDlc f).dlc = f s.dlc := rfl
@[simp] theorem State.modDlc_iwu (s : State) (f : Dlc → Dlc) : (s.modDlc f).iwu = s.iwu := rfl
@[simp] theorem State.modDlc_riu (s : State) (f : Dlc → Dlc) : (s.modDlc f).riu = s.riu := rfl
@[simp] theorem State.modDlc_ssu (s : State) (f : Dlc → Dlc) : (s.modDlc f).ssu = s.ssu := rfl
@[simp] theorem State.modDlc_rsc (s : State) (f : Dlc → Dlc) : (s.modDlc f).rsc = s.rsc := rfl
@[simp] theorem State.modDlc_free (s : State) (f : Dlc → Dlc) : (s.modDlc f).free = s.free := rfl

/-! ## modNtc -/
@[simp] theorem State.modNtc_pending (s : State) (f : Ntc → Ntc) : (s.modNtc f).pending = s.pending := rfl
@[simp] theorem State.modNtc_mainSupply (s : State) (f : Ntc → Ntc) : (s.modNtc f).mainSupply = s.mainSupply := rfl
@[simp] theorem State.modNtc_hostReset (s : State) (f : Ntc → Ntc) : (s.modNtc f).hostReset = s.hostReset := rfl
@[simp] theorem State.modNtc_xm (s : State) (f : Ntc → Ntc) : (s.modNtc f).xm = s.xm := rfl
@[simp] theorem State.modNtc_upset (s : State) (f : Ntc → Ntc) : (s.modNtc f).upset = s.upset := rfl
@[simp] theorem State.modNtc_mirrors (s : State) (f : Ntc → Ntc) : (s.modNtc f).mirrors = s.mirrors := rfl
@[simp] theorem State.modNtc_lanes (s : State) (f : Ntc → Ntc) : (s.modNtc f).lanes = s.lanes := rfl
@[simp] theorem State.modNtc_ntc (s : State) (f : Ntc → Ntc) : (s.modNtc f).ntc = f s.ntc := rfl
@[simp] theorem State.modNtc_miu (s : State) (f : Ntc → Ntc) : (s.modNtc f).miu = s.miu := rfl
@[simp] theorem State.modNtc_psc (s : State) (f : Ntc → Ntc) : (s.modNtc f).psc = s.psc := rfl
@[simp] theorem State.modNtc_pru (s : State) (f : Ntc → Ntc) : (s.modNtc f).pru = s.pru := rfl
@[simp] theorem State.modNtc_dlc (s : State) (f : Ntc → Ntc) : (s.modNtc f).dlc = s.dlc := rfl
@[simp] theorem State.modNtc_iwu (s : State) (f : Ntc → Ntc) : (s.modNtc f).iwu = s.iwu := rfl
@[simp] theorem State.modNtc_riu (s : State) (f : Ntc → Ntc) : (s.modNtc f).riu = s.riu := rfl
@[simp] theorem State.modNtc_ssu (s : State) (f : Ntc → Ntc) : (s.modNtc f).ssu = s.ssu := rfl
@[simp] theorem State.modNtc_rsc (s : State) (f : Ntc → Ntc) : (s.modNtc f).rsc = s.rsc := rfl
@[simp] theorem State.modNtc_free (s : State) (f : Ntc → Ntc) : (s.modNtc f).free = s.free := rfl

/-! ## modRiu -/
@[simp] theorem State.modRiu_pending (s : State) (f : Riu → Riu) : (s.modRiu f).pending = s.pending := rfl
@[simp] theorem State.modRiu_mainSupply (s : State) (f : Riu → Riu) : (s.modRiu f).mainSupply = s.mainSupply := rfl
@[simp] theorem State.modRiu_hostReset (s : State) (f : Riu → Riu) : (s.modRiu f).hostReset = s.hostReset := rfl
@[simp] theorem State.modRiu_xm (s : State) (f : Riu → Riu) : (s.modRiu f).xm = s.xm := rfl
@[simp] theorem State.modRiu_upset (s : State) (f : Riu → Riu) : (s.modRiu f).upset = s.upset := rfl
@[simp] theorem State.modRiu_mirrors (s : State) (f : Riu → Riu) : (s.modRiu f).mirrors = s.mirrors := rfl
@[simp] theorem State.modRiu_lanes (s : State) (f : Riu → Riu) : (s.modRiu f).lanes = s.lanes := rfl
@[simp] theorem State.modRiu_ntc (s : State) (f : Riu → Riu) : (s.modRiu f).ntc = s.ntc := rfl
@[simp] theorem State.modRiu_miu (s : State) (f : Riu → Riu) : (s.modRiu f).miu = s.miu := rfl
@[simp] theorem State.modRiu_psc (s : State) (f : Riu → Riu) : (s.modRiu f).psc = s.psc := rfl
@[simp] theorem State.modRiu_pru (s : State) (f : Riu → Riu) : (s.modRiu f).pru = s.pru := rfl
@[simp] theorem State.modRiu_dlc (s : State) (f : Riu → Riu) : (s.modRiu f).dlc = s.dlc := rfl
@[simp] theorem State.modRiu_iwu (s : State) (f : Riu → Riu) : (s.modRiu f).iwu = s.iwu := rfl
@[simp] theorem State.modRiu_riu (s : State) (f : Riu → Riu) : (s.modRiu f).riu = f s.riu := rfl
@[simp] theorem State.modRiu_ssu (s : State) (f : Riu → Riu) : (s.modRiu f).ssu = s.ssu := rfl
@[simp] theorem State.modRiu_rsc (s : State) (f : Riu → Riu) : (s.modRiu f).rsc = s.rsc := rfl
@[simp] theorem State.modRiu_free (s : State) (f : Riu → Riu) : (s.modRiu f).free = s.free := rfl

/-! ## modSsu -/
@[simp] theorem State.modSsu_pending (s : State) (f : Ssu → Ssu) : (s.modSsu f).pending = s.pending := rfl
@[simp] theorem State.modSsu_mainSupply (s : State) (f : Ssu → Ssu) : (s.modSsu f).mainSupply = s.mainSupply := rfl
@[simp] theorem State.modSsu_hostReset (s : State) (f : Ssu → Ssu) : (s.modSsu f).hostReset = s.hostReset := rfl
@[simp] theorem State.modSsu_xm (s : State) (f : Ssu → Ssu) : (s.modSsu f).xm = s.xm := rfl
@[simp] theorem State.modSsu_upset (s : State) (f : Ssu → Ssu) : (s.modSsu f).upset = s.upset := rfl
@[simp] theorem State.modSsu_mirrors (s : State) (f : Ssu → Ssu) : (s.modSsu f).mirrors = s.mirrors := rfl
@[simp] theorem State.modSsu_lanes (s : State) (f : Ssu → Ssu) : (s.modSsu f).lanes = s.lanes := rfl
@[simp] theorem State.modSsu_ntc (s : State) (f : Ssu → Ssu) : (s.modSsu f).ntc = s.ntc := rfl
@[simp] theorem State.modSsu_miu (s : State) (f : Ssu → Ssu) : (s.modSsu f).miu = s.miu := rfl
@[simp] theorem State.modSsu_psc (s : State) (f : Ssu → Ssu) : (s.modSsu f).psc = s.psc := rfl
@[simp] theorem State.modSsu_pru (s : State) (f : Ssu → Ssu) : (s.modSsu f).pru = s.pru := rfl
@[simp] theorem State.modSsu_dlc (s : State) (f : Ssu → Ssu) : (s.modSsu f).dlc = s.dlc := rfl
@[simp] theorem State.modSsu_iwu (s : State) (f : Ssu → Ssu) : (s.modSsu f).iwu = s.iwu := rfl
@[simp] theorem State.modSsu_riu (s : State) (f : Ssu → Ssu) : (s.modSsu f).riu = s.riu := rfl
@[simp] theorem State.modSsu_ssu (s : State) (f : Ssu → Ssu) : (s.modSsu f).ssu = f s.ssu := rfl
@[simp] theorem State.modSsu_rsc (s : State) (f : Ssu → Ssu) : (s.modSsu f).rsc = s.rsc := rfl
@[simp] theorem State.modSsu_free (s : State) (f : Ssu → Ssu) : (s.modSsu f).free = s.free := rfl

/-! ## modRsc -/
@[simp] theorem State.modRsc_pending (s : State) (f : Rsc → Rsc) : (s.modRsc f).pending = s.pending := rfl
@[simp] theorem State.modRsc_mainSupply (s : State) (f : Rsc → Rsc) : (s.modRsc f).mainSupply = s.mainSupply := rfl
@[simp] theorem State.modRsc_hostReset (s : State) (f : Rsc → Rsc) : (s.modRsc f).hostReset = s.hostReset := rfl
@[simp] theorem State.modRsc_xm (s : State) (f : Rsc → Rsc) : (s.modRsc f).xm = s.xm := rfl
@[simp] theorem State.modRsc_upset (s : State) (f : Rsc → Rsc) : (s.modRsc f).upset = s.upset := rfl
@[simp] theorem State.modRsc_mirrors (s : State) (f : Rsc → Rsc) : (s.modRsc f).mirrors = s.mirrors := rfl
@[simp] theorem State.modRsc_lanes (s : State) (f : Rsc → Rsc) : (s.modRsc f).lanes = s.lanes := rfl
@[simp] theorem State.modRsc_ntc (s : State) (f : Rsc → Rsc) : (s.modRsc f).ntc = s.ntc := rfl
@[simp] theorem State.modRsc_miu (s : State) (f : Rsc → Rsc) : (s.modRsc f).miu = s.miu := rfl
@[simp] theorem State.modRsc_psc (s : State) (f : Rsc → Rsc) : (s.modRsc f).psc = s.psc := rfl
@[simp] theorem State.modRsc_pru (s : State) (f : Rsc → Rsc) : (s.modRsc f).pru = s.pru := rfl
@[simp] theorem State.modRsc_dlc (s : State) (f : Rsc → Rsc) : (s.modRsc f).dlc = s.dlc := rfl
@[simp] theorem State.modRsc_iwu (s : State) (f : Rsc → Rsc) : (s.modRsc f).iwu = s.iwu := rfl
@[simp] theorem State.modRsc_riu (s : State) (f : Rsc → Rsc) : (s.modRsc f).riu = s.riu := rfl
@[simp] theorem State.modRsc_ssu (s : State) (f : Rsc → Rsc) : (s.modRsc f).ssu = s.ssu := rfl
@[simp] theorem State.modRsc_rsc (s : State) (f : Rsc → Rsc) : (s.modRsc f).rsc = f s.rsc := rfl
@[simp] theorem State.modRsc_free (s : State) (f : Rsc → Rsc) : (s.modRsc f).free = s.free := rfl

/-! ## modIwu -/
@[simp] theorem State.modIwu_pending (s : State) (f : Iwu → Iwu) : (s.modIwu f).pending = s.pending := rfl
@[simp] theorem State.modIwu_mainSupply (s : State) (f : Iwu → Iwu) : (s.modIwu f).mainSupply = s.mainSupply := rfl
@[simp] theorem State.modIwu_hostReset (s : State) (f : Iwu → Iwu) : (s.modIwu f).hostReset = s.hostReset := rfl
@[simp] theorem State.modIwu_xm (s : State) (f : Iwu → Iwu) : (s.modIwu f).xm = s.xm := rfl
@[simp] theorem State.modIwu_upset (s : State) (f : Iwu → Iwu) : (s.modIwu f).upset = s.upset := rfl
@[simp] theorem State.modIwu_mirrors (s : State) (f : Iwu → Iwu) : (s.modIwu f).mirrors = s.mirrors := rfl
@[simp] theorem State.modIwu_lanes (s : State) (f : Iwu → Iwu) : (s.modIwu f).lanes = s.lanes := rfl
@[simp] theorem State.modIwu_ntc (s : State) (f : Iwu → Iwu) : (s.modIwu f).ntc = s.ntc := rfl
@[simp] theorem State.modIwu_miu (s : State) (f : Iwu → Iwu) : (s.modIwu f).miu = s.miu := rfl
@[simp] theorem State.modIwu_psc (s : State) (f : Iwu → Iwu) : (s.modIwu f).psc = s.psc := rfl
@[simp] theorem State.modIwu_pru (s : State) (f : Iwu → Iwu) : (s.modIwu f).pru = s.pru := rfl
@[simp] theorem State.modIwu_dlc (s : State) (f : Iwu → Iwu) : (s.modIwu f).dlc = s.dlc := rfl
@[simp] theorem State.modIwu_iwu (s : State) (f : Iwu → Iwu) : (s.modIwu f).iwu = f s.iwu := rfl
@[simp] theorem State.modIwu_riu (s : State) (f : Iwu → Iwu) : (s.modIwu f).riu = s.riu := rfl
@[simp] theorem State.modIwu_ssu (s : State) (f : Iwu → Iwu) : (s.modIwu f).ssu = s.ssu := rfl
@[simp] theorem State.modIwu_rsc (s : State) (f : Iwu → Iwu) : (s.modIwu f).rsc = s.rsc := rfl
@[simp] theorem State.modIwu_free (s : State) (f : Iwu → Iwu) : (s.modIwu f).free = s.free := rfl

/-! ## tickFree -/
@[simp] theorem State.tickFree_pending (s : State) : (s.tickFree).pending = s.pending := rfl
@[simp] theorem State.tickFree_mainSupply (s : State) : (s.tickFree).mainSupply = s.mainSupply := rfl
@[simp] theorem State.tickFree_hostReset (s : State) : (s.tickFree).hostReset = s.hostReset := rfl
@[simp] theorem State.tickFree_xm (s : State) : (s.tickFree).xm = s.xm := rfl
@[simp] theorem State.tickFree_upset (s : State) : (s.tickFree).upset = s.upset := rfl
@[simp] theorem State.tickFree_mirrors (s : State) : (s.tickFree).mirrors = s.mirrors := rfl
@[simp] theorem State.tickFree_lanes (s : State) : (s.tickFree).lanes = s.lanes := rfl
@[simp] theorem State.tickFree_ntc (s : State) : (s.tickFree).ntc = s.ntc := rfl
@[simp] theorem State.tickFree_miu (s : State) : (s.tickFree).miu = s.miu := rfl
@[simp] theorem State.tickFree_psc (s : State) : (s.tickFree).psc = s.psc := rfl
@[simp] theorem State.tickFree_pru (s : State) : (s.tickFree).pru = s.pru := rfl
@[simp] theorem State.tickFree_dlc (s : State) : (s.tickFree).dlc = s.dlc := rfl
@[simp] theorem State.tickFree_iwu (s : State) : (s.tickFree).iwu = s.iwu := rfl
@[simp] theorem State.tickFree_riu (s : State) : (s.tickFree).riu = s.riu := rfl
@[simp] theorem State.tickFree_ssu (s : State) : (s.tickFree).ssu = s.ssu := rfl
@[simp] theorem State.tickFree_rsc (s : State) : (s.tickFree).rsc = s.rsc := rfl
@[simp] theorem State.tickFree_free (s : State) : (s.tickFree).free = s.free + 1 := rfl

/-! ## touch -/
@[simp] theorem State.touch_pending (s : State) (p : MirrorPart) (e : Nat) : (s.touch p e).pending = s.pending := rfl
@[simp] theorem State.touch_mainSupply (s : State) (p : MirrorPart) (e : Nat) : (s.touch p e).mainSupply = s.mainSupply := rfl
@[simp] theorem State.touch_hostReset (s : State) (p : MirrorPart) (e : Nat) : (s.touch p e).hostReset = s.hostReset := rfl
@[simp] theorem State.touch_xm (s : State) (p : MirrorPart) (e : Nat) : (s.touch p e).xm = s.xm := rfl
@[simp] theorem State.touch_upset (s : State) (p : MirrorPart) (e : Nat) : (s.touch p e).upset = s.upset := rfl
@[simp] theorem State.touch_mirrors (s : State) (p : MirrorPart) (e : Nat) : (s.touch p e).mirrors = { s.mirrors with touched := (p, e) :: s.mirrors.touched } := rfl
@[simp] theorem State.touch_lanes (s : State) (p : MirrorPart) (e : Nat) : (s.touch p e).lanes = s.lanes := rfl
@[simp] theorem State.touch_ntc (s : State) (p : MirrorPart) (e : Nat) : (s.touch p e).ntc = s.ntc := rfl
@[simp] theorem State.touch_miu (s : State) (p : MirrorPart) (e : Nat) : (s.touch p e).miu = s.miu := rfl
@[simp] theorem State.touch_psc (s : State) (p : MirrorPart) (e : Nat) : (s.touch p e).psc = s.psc := rfl
@[simp] theorem State.touch_pru (s : State) (p : MirrorPart) (e : Nat) : (s.touch p e).pru = s.pru := rfl
@[simp] theorem State.touch_dlc (s : State) (p : MirrorPart) (e : Nat) : (s.touch p e).dlc = s.dlc := rfl
@[simp] theorem State.touch_iwu (s : State) (p : MirrorPart) (e : Nat) : (s.touch p e).iwu = s.iwu := rfl
@[simp] theorem State.touch_riu (s : State) (p : MirrorPart) (e : Nat) : (s.touch p e).riu = s.riu := rfl
@[simp] theorem State.touch_ssu (s : State) (p : MirrorPart) (e : Nat) : (s.touch p e).ssu = s.ssu := rfl
@[simp] theorem State.touch_rsc (s : State) (p : MirrorPart) (e : Nat) : (s.touch p e).rsc = s.rsc := rfl
@[simp] theorem State.touch_free (s : State) (p : MirrorPart) (e : Nat) : (s.touch p e).free = s.free := rfl

/-! ## writeWhole -/
@[simp] theorem State.writeWhole_pending (s : State) (p : MirrorPart) : (s.writeWhole p).pending = s.pending := rfl
@[simp] theorem State.writeWhole_mainSupply (s : State) (p : MirrorPart) : (s.writeWhole p).mainSupply = s.mainSupply := rfl
@[simp] theorem State.writeWhole_hostReset (s : State) (p : MirrorPart) : (s.writeWhole p).hostReset = s.hostReset := rfl
@[simp] theorem State.writeWhole_xm (s : State) (p : MirrorPart) : (s.writeWhole p).xm = s.xm := rfl
@[simp] theorem State.writeWhole_upset (s : State) (p : MirrorPart) : (s.writeWhole p).upset = s.upset := rfl
@[simp] theorem State.writeWhole_mirrors (s : State) (p : MirrorPart) : (s.writeWhole p).mirrors = { s.mirrors with wholes := p :: s.mirrors.wholes } := rfl
@[simp] theorem State.writeWhole_lanes (s : State) (p : MirrorPart) : (s.writeWhole p).lanes = s.lanes := rfl
@[simp] theorem State.writeWhole_ntc (s : State) (p : MirrorPart) : (s.writeWhole p).ntc = s.ntc := rfl
@[simp] theorem State.writeWhole_miu (s : State) (p : MirrorPart) : (s.writeWhole p).miu = s.miu := rfl
@[simp] theorem State.writeWhole_psc (s : State) (p : MirrorPart) : (s.writeWhole p).psc = s.psc := rfl
@[simp] theorem State.writeWhole_pru (s : State) (p : MirrorPart) : (s.writeWhole p).pru = s.pru := rfl
@[simp] theorem State.writeWhole_dlc (s : State) (p : MirrorPart) : (s.writeWhole p).dlc = s.dlc := rfl
@[simp] theorem State.writeWhole_iwu (s : State) (p : MirrorPart) : (s.writeWhole p).iwu = s.iwu := rfl
@[simp] theorem State.writeWhole_riu (s : State) (p : MirrorPart) : (s.writeWhole p).riu = s.riu := rfl
@[simp] theorem State.writeWhole_ssu (s : State) (p : MirrorPart) : (s.writeWhole p).ssu = s.ssu := rfl
@[simp] theorem State.writeWhole_rsc (s : State) (p : MirrorPart) : (s.writeWhole p).rsc = s.rsc := rfl
@[simp] theorem State.writeWhole_free (s : State) (p : MirrorPart) : (s.writeWhole p).free = s.free := rfl

/-! ## raise -/
@[simp] theorem State.raise_pending (s : State) (c : Cause) (d : Nat) : (s.raise c d).pending = s.pending := rfl
@[simp] theorem State.raise_mainSupply (s : State) (c : Cause) (d : Nat) : (s.raise c d).mainSupply = s.mainSupply := rfl
@[simp] theorem State.raise_hostReset (s : State) (c : Cause) (d : Nat) : (s.raise c d).hostReset = s.hostReset := rfl
@[simp] theorem State.raise_xm (s : State) (c : Cause) (d : Nat) : (s.raise c d).xm = s.xm := rfl
@[simp] theorem State.raise_upset (s : State) (c : Cause) (d : Nat) : (s.raise c d).upset = s.upset := rfl
@[simp] theorem State.raise_mirrors (s : State) (c : Cause) (d : Nat) : (s.raise c d).mirrors = s.mirrors := rfl
@[simp] theorem State.raise_lanes (s : State) (c : Cause) (d : Nat) : (s.raise c d).lanes = s.lanes := rfl
@[simp] theorem State.raise_miu (s : State) (c : Cause) (d : Nat) : (s.raise c d).miu = s.miu := rfl
@[simp] theorem State.raise_psc (s : State) (c : Cause) (d : Nat) : (s.raise c d).psc = s.psc := rfl
@[simp] theorem State.raise_pru (s : State) (c : Cause) (d : Nat) : (s.raise c d).pru = s.pru := rfl
@[simp] theorem State.raise_dlc (s : State) (c : Cause) (d : Nat) : (s.raise c d).dlc = s.dlc := rfl
@[simp] theorem State.raise_iwu (s : State) (c : Cause) (d : Nat) : (s.raise c d).iwu = s.iwu := rfl
@[simp] theorem State.raise_riu (s : State) (c : Cause) (d : Nat) : (s.raise c d).riu = s.riu := rfl
@[simp] theorem State.raise_ssu (s : State) (c : Cause) (d : Nat) : (s.raise c d).ssu = s.ssu := rfl
@[simp] theorem State.raise_rsc (s : State) (c : Cause) (d : Nat) : (s.raise c d).rsc = s.rsc := rfl
@[simp] theorem State.raise_free (s : State) (c : Cause) (d : Nat) : (s.raise c d).free = s.free := rfl

/-! ## writeByte -/
@[simp] theorem State.writeByte_pending (s : State) (a : Nat) (v : Byte) : (s.writeByte a v).pending = s.pending := rfl
@[simp] theorem State.writeByte_mainSupply (s : State) (a : Nat) (v : Byte) : (s.writeByte a v).mainSupply = s.mainSupply := rfl
@[simp] theorem State.writeByte_hostReset (s : State) (a : Nat) (v : Byte) : (s.writeByte a v).hostReset = s.hostReset := rfl
@[simp] theorem State.writeByte_xm (s : State) (a : Nat) (v : Byte) : (s.writeByte a v).xm = Memory.write s.xm a v := rfl
@[simp] theorem State.writeByte_upset (s : State) (a : Nat) (v : Byte) : (s.writeByte a v).upset = s.upset.filter (· ≠ a) := rfl
@[simp] theorem State.writeByte_mirrors (s : State) (a : Nat) (v : Byte) : (s.writeByte a v).mirrors = s.mirrors := rfl
@[simp] theorem State.writeByte_lanes (s : State) (a : Nat) (v : Byte) : (s.writeByte a v).lanes = s.lanes := rfl
@[simp] theorem State.writeByte_ntc (s : State) (a : Nat) (v : Byte) : (s.writeByte a v).ntc = s.ntc := rfl
@[simp] theorem State.writeByte_miu (s : State) (a : Nat) (v : Byte) : (s.writeByte a v).miu = s.miu := rfl
@[simp] theorem State.writeByte_psc (s : State) (a : Nat) (v : Byte) : (s.writeByte a v).psc = s.psc := rfl
@[simp] theorem State.writeByte_pru (s : State) (a : Nat) (v : Byte) : (s.writeByte a v).pru = s.pru := rfl
@[simp] theorem State.writeByte_dlc (s : State) (a : Nat) (v : Byte) : (s.writeByte a v).dlc = s.dlc := rfl
@[simp] theorem State.writeByte_iwu (s : State) (a : Nat) (v : Byte) : (s.writeByte a v).iwu = s.iwu := rfl
@[simp] theorem State.writeByte_riu (s : State) (a : Nat) (v : Byte) : (s.writeByte a v).riu = s.riu := rfl
@[simp] theorem State.writeByte_ssu (s : State) (a : Nat) (v : Byte) : (s.writeByte a v).ssu = s.ssu := rfl
@[simp] theorem State.writeByte_rsc (s : State) (a : Nat) (v : Byte) : (s.writeByte a v).rsc = s.rsc := rfl
@[simp] theorem State.writeByte_free (s : State) (a : Nat) (v : Byte) : (s.writeByte a v).free = s.free := rfl

/-! ## Longer stores -/

@[simp] theorem State.writeHalf_pending (s : State) (a : Nat) (v : Half) : (s.writeHalf a v).pending = s.pending := rfl
@[simp] theorem State.writeHalf_mainSupply (s : State) (a : Nat) (v : Half) : (s.writeHalf a v).mainSupply = s.mainSupply := rfl
@[simp] theorem State.writeHalf_hostReset (s : State) (a : Nat) (v : Half) : (s.writeHalf a v).hostReset = s.hostReset := rfl
@[simp] theorem State.writeHalf_mirrors (s : State) (a : Nat) (v : Half) : (s.writeHalf a v).mirrors = s.mirrors := rfl
@[simp] theorem State.writeHalf_lanes (s : State) (a : Nat) (v : Half) : (s.writeHalf a v).lanes = s.lanes := rfl
@[simp] theorem State.writeHalf_ntc (s : State) (a : Nat) (v : Half) : (s.writeHalf a v).ntc = s.ntc := rfl
@[simp] theorem State.writeHalf_miu (s : State) (a : Nat) (v : Half) : (s.writeHalf a v).miu = s.miu := rfl
@[simp] theorem State.writeHalf_psc (s : State) (a : Nat) (v : Half) : (s.writeHalf a v).psc = s.psc := rfl
@[simp] theorem State.writeHalf_pru (s : State) (a : Nat) (v : Half) : (s.writeHalf a v).pru = s.pru := rfl
@[simp] theorem State.writeHalf_dlc (s : State) (a : Nat) (v : Half) : (s.writeHalf a v).dlc = s.dlc := rfl
@[simp] theorem State.writeHalf_iwu (s : State) (a : Nat) (v : Half) : (s.writeHalf a v).iwu = s.iwu := rfl
@[simp] theorem State.writeHalf_riu (s : State) (a : Nat) (v : Half) : (s.writeHalf a v).riu = s.riu := rfl
@[simp] theorem State.writeHalf_ssu (s : State) (a : Nat) (v : Half) : (s.writeHalf a v).ssu = s.ssu := rfl
@[simp] theorem State.writeHalf_rsc (s : State) (a : Nat) (v : Half) : (s.writeHalf a v).rsc = s.rsc := rfl
@[simp] theorem State.writeHalf_free (s : State) (a : Nat) (v : Half) : (s.writeHalf a v).free = s.free := rfl
@[simp] theorem State.writeBytes_pending (s : State) (a : Nat) (l : List Byte) : (s.writeBytes a l).pending = s.pending := by
  induction l generalizing s a with
  | nil => rfl
  | cons v l ih => exact (ih _ _).trans rfl
@[simp] theorem State.writeBytes_mainSupply (s : State) (a : Nat) (l : List Byte) : (s.writeBytes a l).mainSupply = s.mainSupply := by
  induction l generalizing s a with
  | nil => rfl
  | cons v l ih => exact (ih _ _).trans rfl
@[simp] theorem State.writeBytes_hostReset (s : State) (a : Nat) (l : List Byte) : (s.writeBytes a l).hostReset = s.hostReset := by
  induction l generalizing s a with
  | nil => rfl
  | cons v l ih => exact (ih _ _).trans rfl
@[simp] theorem State.writeBytes_mirrors (s : State) (a : Nat) (l : List Byte) : (s.writeBytes a l).mirrors = s.mirrors := by
  induction l generalizing s a with
  | nil => rfl
  | cons v l ih => exact (ih _ _).trans rfl
@[simp] theorem State.writeBytes_lanes (s : State) (a : Nat) (l : List Byte) : (s.writeBytes a l).lanes = s.lanes := by
  induction l generalizing s a with
  | nil => rfl
  | cons v l ih => exact (ih _ _).trans rfl
@[simp] theorem State.writeBytes_ntc (s : State) (a : Nat) (l : List Byte) : (s.writeBytes a l).ntc = s.ntc := by
  induction l generalizing s a with
  | nil => rfl
  | cons v l ih => exact (ih _ _).trans rfl
@[simp] theorem State.writeBytes_miu (s : State) (a : Nat) (l : List Byte) : (s.writeBytes a l).miu = s.miu := by
  induction l generalizing s a with
  | nil => rfl
  | cons v l ih => exact (ih _ _).trans rfl
@[simp] theorem State.writeBytes_psc (s : State) (a : Nat) (l : List Byte) : (s.writeBytes a l).psc = s.psc := by
  induction l generalizing s a with
  | nil => rfl
  | cons v l ih => exact (ih _ _).trans rfl
@[simp] theorem State.writeBytes_pru (s : State) (a : Nat) (l : List Byte) : (s.writeBytes a l).pru = s.pru := by
  induction l generalizing s a with
  | nil => rfl
  | cons v l ih => exact (ih _ _).trans rfl
@[simp] theorem State.writeBytes_dlc (s : State) (a : Nat) (l : List Byte) : (s.writeBytes a l).dlc = s.dlc := by
  induction l generalizing s a with
  | nil => rfl
  | cons v l ih => exact (ih _ _).trans rfl
@[simp] theorem State.writeBytes_iwu (s : State) (a : Nat) (l : List Byte) : (s.writeBytes a l).iwu = s.iwu := by
  induction l generalizing s a with
  | nil => rfl
  | cons v l ih => exact (ih _ _).trans rfl
@[simp] theorem State.writeBytes_riu (s : State) (a : Nat) (l : List Byte) : (s.writeBytes a l).riu = s.riu := by
  induction l generalizing s a with
  | nil => rfl
  | cons v l ih => exact (ih _ _).trans rfl
@[simp] theorem State.writeBytes_ssu (s : State) (a : Nat) (l : List Byte) : (s.writeBytes a l).ssu = s.ssu := by
  induction l generalizing s a with
  | nil => rfl
  | cons v l ih => exact (ih _ _).trans rfl
@[simp] theorem State.writeBytes_rsc (s : State) (a : Nat) (l : List Byte) : (s.writeBytes a l).rsc = s.rsc := by
  induction l generalizing s a with
  | nil => rfl
  | cons v l ih => exact (ih _ _).trans rfl
@[simp] theorem State.writeBytes_free (s : State) (a : Nat) (l : List Byte) : (s.writeBytes a l).free = s.free := by
  induction l generalizing s a with
  | nil => rfl
  | cons v l ih => exact (ih _ _).trans rfl
@[simp] theorem State.writeAt_pending (s : State) (a : Nat) (l : List (Nat × Byte)) : (s.writeAt a l).pending = s.pending := by
  induction l generalizing s with
  | nil => rfl
  | cons v l ih => exact (ih _).trans rfl
@[simp] theorem State.writeAt_mainSupply (s : State) (a : Nat) (l : List (Nat × Byte)) : (s.writeAt a l).mainSupply = s.mainSupply := by
  induction l generalizing s with
  | nil => rfl
  | cons v l ih => exact (ih _).trans rfl
@[simp] theorem State.writeAt_hostReset (s : State) (a : Nat) (l : List (Nat × Byte)) : (s.writeAt a l).hostReset = s.hostReset := by
  induction l generalizing s with
  | nil => rfl
  | cons v l ih => exact (ih _).trans rfl
@[simp] theorem State.writeAt_mirrors (s : State) (a : Nat) (l : List (Nat × Byte)) : (s.writeAt a l).mirrors = s.mirrors := by
  induction l generalizing s with
  | nil => rfl
  | cons v l ih => exact (ih _).trans rfl
@[simp] theorem State.writeAt_lanes (s : State) (a : Nat) (l : List (Nat × Byte)) : (s.writeAt a l).lanes = s.lanes := by
  induction l generalizing s with
  | nil => rfl
  | cons v l ih => exact (ih _).trans rfl
@[simp] theorem State.writeAt_ntc (s : State) (a : Nat) (l : List (Nat × Byte)) : (s.writeAt a l).ntc = s.ntc := by
  induction l generalizing s with
  | nil => rfl
  | cons v l ih => exact (ih _).trans rfl
@[simp] theorem State.writeAt_miu (s : State) (a : Nat) (l : List (Nat × Byte)) : (s.writeAt a l).miu = s.miu := by
  induction l generalizing s with
  | nil => rfl
  | cons v l ih => exact (ih _).trans rfl
@[simp] theorem State.writeAt_psc (s : State) (a : Nat) (l : List (Nat × Byte)) : (s.writeAt a l).psc = s.psc := by
  induction l generalizing s with
  | nil => rfl
  | cons v l ih => exact (ih _).trans rfl
@[simp] theorem State.writeAt_pru (s : State) (a : Nat) (l : List (Nat × Byte)) : (s.writeAt a l).pru = s.pru := by
  induction l generalizing s with
  | nil => rfl
  | cons v l ih => exact (ih _).trans rfl
@[simp] theorem State.writeAt_dlc (s : State) (a : Nat) (l : List (Nat × Byte)) : (s.writeAt a l).dlc = s.dlc := by
  induction l generalizing s with
  | nil => rfl
  | cons v l ih => exact (ih _).trans rfl
@[simp] theorem State.writeAt_iwu (s : State) (a : Nat) (l : List (Nat × Byte)) : (s.writeAt a l).iwu = s.iwu := by
  induction l generalizing s with
  | nil => rfl
  | cons v l ih => exact (ih _).trans rfl
@[simp] theorem State.writeAt_riu (s : State) (a : Nat) (l : List (Nat × Byte)) : (s.writeAt a l).riu = s.riu := by
  induction l generalizing s with
  | nil => rfl
  | cons v l ih => exact (ih _).trans rfl
@[simp] theorem State.writeAt_ssu (s : State) (a : Nat) (l : List (Nat × Byte)) : (s.writeAt a l).ssu = s.ssu := by
  induction l generalizing s with
  | nil => rfl
  | cons v l ih => exact (ih _).trans rfl
@[simp] theorem State.writeAt_rsc (s : State) (a : Nat) (l : List (Nat × Byte)) : (s.writeAt a l).rsc = s.rsc := by
  induction l generalizing s with
  | nil => rfl
  | cons v l ih => exact (ih _).trans rfl
@[simp] theorem State.writeAt_free (s : State) (a : Nat) (l : List (Nat × Byte)) : (s.writeAt a l).free = s.free := by
  induction l generalizing s with
  | nil => rfl
  | cons v l ih => exact (ih _).trans rfl
/-! ## The views after the updates -/

@[simp] theorem State.modPos_meter (s : State) (side : Side) (f : Position → Position) (x : MeterNo) : (s.modPos side f).meter x = s.meter x := rfl
@[simp] theorem State.modPos_route (s : State) (side : Side) (f : Position → Position) (x : Side) (h : HoseNo) : (s.modPos side f).route x h = s.route x h := rfl
@[simp] theorem State.modPos_grade (s : State) (side : Side) (f : Position → Position) (x : Fin 8) : (s.modPos side f).grade x = s.grade x := rfl
@[simp] theorem State.modPos_board (s : State) (side : Side) (f : Position → Position) (x : Side) : (s.modPos side f).board x = s.board x := rfl
@[simp] theorem State.modPos_lane (s : State) (side : Side) (f : Position → Position) (x : LaneId) : (s.modPos side f).lane x = s.lane x := rfl
@[simp] theorem State.modPos_powerDown (s : State) (side : Side) (f : Position → Position) : (s.modPos side f).powerDown = s.powerDown := rfl
@[simp] theorem State.modPos_storeClosed (s : State) (side : Side) (f : Position → Position) : (s.modPos side f).storeClosed = s.storeClosed := rfl
@[simp] theorem State.modPos_stamp (s : State) (side : Side) (f : Position → Position) : (s.modPos side f).stamp = s.stamp := rfl
@[simp] theorem State.modPos_half (s : State) (side : Side) (f : Position → Position) (x : Nat) : (s.modPos side f).half x = s.half x := rfl
@[simp] theorem State.modPos_parityGood (s : State) (side : Side) (f : Position → Position) (x y : Nat) : (s.modPos side f).parityGood x y = s.parityGood x y := rfl
@[simp] theorem State.modMeter_pos (s : State) (m : MeterNo) (f : Meter → Meter) (x : Side) : (s.modMeter m f).pos x = s.pos x := rfl
@[simp] theorem State.modMeter_grade (s : State) (m : MeterNo) (f : Meter → Meter) (x : Fin 8) : (s.modMeter m f).grade x = s.grade x := rfl
@[simp] theorem State.modMeter_board (s : State) (m : MeterNo) (f : Meter → Meter) (x : Side) : (s.modMeter m f).board x = s.board x := rfl
@[simp] theorem State.modMeter_lane (s : State) (m : MeterNo) (f : Meter → Meter) (x : LaneId) : (s.modMeter m f).lane x = s.lane x := rfl
@[simp] theorem State.modMeter_powerDown (s : State) (m : MeterNo) (f : Meter → Meter) : (s.modMeter m f).powerDown = s.powerDown := rfl
@[simp] theorem State.modMeter_storeClosed (s : State) (m : MeterNo) (f : Meter → Meter) : (s.modMeter m f).storeClosed = s.storeClosed := rfl
@[simp] theorem State.modMeter_stamp (s : State) (m : MeterNo) (f : Meter → Meter) : (s.modMeter m f).stamp = s.stamp := rfl
@[simp] theorem State.modMeter_half (s : State) (m : MeterNo) (f : Meter → Meter) (x : Nat) : (s.modMeter m f).half x = s.half x := rfl
@[simp] theorem State.modMeter_parityGood (s : State) (m : MeterNo) (f : Meter → Meter) (x y : Nat) : (s.modMeter m f).parityGood x y = s.parityGood x y := rfl
@[simp] theorem State.modGrade_pos (s : State) (g : Fin 8) (f : Grade → Grade) (x : Side) : (s.modGrade g f).pos x = s.pos x := rfl
@[simp] theorem State.modGrade_meter (s : State) (g : Fin 8) (f : Grade → Grade) (x : MeterNo) : (s.modGrade g f).meter x = s.meter x := rfl
@[simp] theorem State.modGrade_route (s : State) (g : Fin 8) (f : Grade → Grade) (x : Side) (h : HoseNo) : (s.modGrade g f).route x h = s.route x h := rfl
@[simp] theorem State.modGrade_board (s : State) (g : Fin 8) (f : Grade → Grade) (x : Side) : (s.modGrade g f).board x = s.board x := rfl
@[simp] theorem State.modGrade_lane (s : State) (g : Fin 8) (f : Grade → Grade) (x : LaneId) : (s.modGrade g f).lane x = s.lane x := rfl
@[simp] theorem State.modGrade_powerDown (s : State) (g : Fin 8) (f : Grade → Grade) : (s.modGrade g f).powerDown = s.powerDown := rfl
@[simp] theorem State.modGrade_storeClosed (s : State) (g : Fin 8) (f : Grade → Grade) : (s.modGrade g f).storeClosed = s.storeClosed := rfl
@[simp] theorem State.modGrade_stamp (s : State) (g : Fin 8) (f : Grade → Grade) : (s.modGrade g f).stamp = s.stamp := rfl
@[simp] theorem State.modGrade_half (s : State) (g : Fin 8) (f : Grade → Grade) (x : Nat) : (s.modGrade g f).half x = s.half x := rfl
@[simp] theorem State.modGrade_parityGood (s : State) (g : Fin 8) (f : Grade → Grade) (x y : Nat) : (s.modGrade g f).parityGood x y = s.parityGood x y := rfl
@[simp] theorem State.modPanel_pos (s : State) (g : Fin 8) (side : Side) (f : Panel → Panel) (x : Side) : (s.modPanel g side f).pos x = s.pos x := rfl
@[simp] theorem State.modPanel_meter (s : State) (g : Fin 8) (side : Side) (f : Panel → Panel) (x : MeterNo) : (s.modPanel g side f).meter x = s.meter x := rfl
@[simp] theorem State.modPanel_route (s : State) (g : Fin 8) (side : Side) (f : Panel → Panel) (x : Side) (h : HoseNo) : (s.modPanel g side f).route x h = s.route x h := rfl
@[simp] theorem State.modPanel_board (s : State) (g : Fin 8) (side : Side) (f : Panel → Panel) (x : Side) : (s.modPanel g side f).board x = s.board x := rfl
@[simp] theorem State.modPanel_lane (s : State) (g : Fin 8) (side : Side) (f : Panel → Panel) (x : LaneId) : (s.modPanel g side f).lane x = s.lane x := rfl
@[simp] theorem State.modPanel_powerDown (s : State) (g : Fin 8) (side : Side) (f : Panel → Panel) : (s.modPanel g side f).powerDown = s.powerDown := rfl
@[simp] theorem State.modPanel_storeClosed (s : State) (g : Fin 8) (side : Side) (f : Panel → Panel) : (s.modPanel g side f).storeClosed = s.storeClosed := rfl
@[simp] theorem State.modPanel_stamp (s : State) (g : Fin 8) (side : Side) (f : Panel → Panel) : (s.modPanel g side f).stamp = s.stamp := rfl
@[simp] theorem State.modPanel_half (s : State) (g : Fin 8) (side : Side) (f : Panel → Panel) (x : Nat) : (s.modPanel g side f).half x = s.half x := rfl
@[simp] theorem State.modPanel_parityGood (s : State) (g : Fin 8) (side : Side) (f : Panel → Panel) (x y : Nat) : (s.modPanel g side f).parityGood x y = s.parityGood x y := rfl
@[simp] theorem State.modBoard_pos (s : State) (side : Side) (f : Board → Board) (x : Side) : (s.modBoard side f).pos x = s.pos x := rfl
@[simp] theorem State.modBoard_meter (s : State) (side : Side) (f : Board → Board) (x : MeterNo) : (s.modBoard side f).meter x = s.meter x := rfl
@[simp] theorem State.modBoard_route (s : State) (side : Side) (f : Board → Board) (x : Side) (h : HoseNo) : (s.modBoard side f).route x h = s.route x h := rfl
@[simp] theorem State.modBoard_grade (s : State) (side : Side) (f : Board → Board) (x : Fin 8) : (s.modBoard side f).grade x = s.grade x := rfl
@[simp] theorem State.modBoard_lane (s : State) (side : Side) (f : Board → Board) (x : LaneId) : (s.modBoard side f).lane x = s.lane x := rfl
@[simp] theorem State.modBoard_powerDown (s : State) (side : Side) (f : Board → Board) : (s.modBoard side f).powerDown = s.powerDown := rfl
@[simp] theorem State.modBoard_storeClosed (s : State) (side : Side) (f : Board → Board) : (s.modBoard side f).storeClosed = s.storeClosed := rfl
@[simp] theorem State.modBoard_stamp (s : State) (side : Side) (f : Board → Board) : (s.modBoard side f).stamp = s.stamp := rfl
@[simp] theorem State.modBoard_half (s : State) (side : Side) (f : Board → Board) (x : Nat) : (s.modBoard side f).half x = s.half x := rfl
@[simp] theorem State.modBoard_parityGood (s : State) (side : Side) (f : Board → Board) (x y : Nat) : (s.modBoard side f).parityGood x y = s.parityGood x y := rfl
@[simp] theorem State.modLane_pos (s : State) (l : LaneId) (f : Lane → Lane) (x : Side) : (s.modLane l f).pos x = s.pos x := by cases l <;> rfl
@[simp] theorem State.modLane_meter (s : State) (l : LaneId) (f : Lane → Lane) (x : MeterNo) : (s.modLane l f).meter x = s.meter x := by cases l <;> rfl
@[simp] theorem State.modLane_route (s : State) (l : LaneId) (f : Lane → Lane) (x : Side) (h : HoseNo) : (s.modLane l f).route x h = s.route x h := by cases l <;> rfl
@[simp] theorem State.modLane_grade (s : State) (l : LaneId) (f : Lane → Lane) (x : Fin 8) : (s.modLane l f).grade x = s.grade x := by cases l <;> rfl
@[simp] theorem State.modLane_board (s : State) (l : LaneId) (f : Lane → Lane) (x : Side) : (s.modLane l f).board x = s.board x := by cases l <;> rfl
@[simp] theorem State.modLane_powerDown (s : State) (l : LaneId) (f : Lane → Lane) : (s.modLane l f).powerDown = s.powerDown := by cases l <;> rfl
@[simp] theorem State.modLane_storeClosed (s : State) (l : LaneId) (f : Lane → Lane) : (s.modLane l f).storeClosed = s.storeClosed := by cases l <;> rfl
@[simp] theorem State.modLane_stamp (s : State) (l : LaneId) (f : Lane → Lane) : (s.modLane l f).stamp = s.stamp := by cases l <;> rfl
@[simp] theorem State.modLane_half (s : State) (l : LaneId) (f : Lane → Lane) (x : Nat) : (s.modLane l f).half x = s.half x := by cases l <;> rfl
@[simp] theorem State.modLane_parityGood (s : State) (l : LaneId) (f : Lane → Lane) (x y : Nat) : (s.modLane l f).parityGood x y = s.parityGood x y := by cases l <;> rfl
@[simp] theorem State.modMiu_pos (s : State) (f : Miu → Miu) (x : Side) : (s.modMiu f).pos x = s.pos x := rfl
@[simp] theorem State.modMiu_grade (s : State) (f : Miu → Miu) (x : Fin 8) : (s.modMiu f).grade x = s.grade x := rfl
@[simp] theorem State.modMiu_board (s : State) (f : Miu → Miu) (x : Side) : (s.modMiu f).board x = s.board x := rfl
@[simp] theorem State.modMiu_lane (s : State) (f : Miu → Miu) (x : LaneId) : (s.modMiu f).lane x = s.lane x := rfl
@[simp] theorem State.modMiu_powerDown (s : State) (f : Miu → Miu) : (s.modMiu f).powerDown = s.powerDown := rfl
@[simp] theorem State.modMiu_storeClosed (s : State) (f : Miu → Miu) : (s.modMiu f).storeClosed = s.storeClosed := rfl
@[simp] theorem State.modMiu_stamp (s : State) (f : Miu → Miu) : (s.modMiu f).stamp = s.stamp := rfl
@[simp] theorem State.modMiu_half (s : State) (f : Miu → Miu) (x : Nat) : (s.modMiu f).half x = s.half x := rfl
@[simp] theorem State.modMiu_parityGood (s : State) (f : Miu → Miu) (x y : Nat) : (s.modMiu f).parityGood x y = s.parityGood x y := rfl
@[simp] theorem State.modPru_pos (s : State) (f : Pru → Pru) (x : Side) : (s.modPru f).pos x = s.pos x := rfl
@[simp] theorem State.modPru_meter (s : State) (f : Pru → Pru) (x : MeterNo) : (s.modPru f).meter x = s.meter x := rfl
@[simp] theorem State.modPru_route (s : State) (f : Pru → Pru) (x : Side) (h : HoseNo) : (s.modPru f).route x h = s.route x h := rfl
@[simp] theorem State.modPru_board (s : State) (f : Pru → Pru) (x : Side) : (s.modPru f).board x = s.board x := rfl
@[simp] theorem State.modPru_lane (s : State) (f : Pru → Pru) (x : LaneId) : (s.modPru f).lane x = s.lane x := rfl
@[simp] theorem State.modPru_powerDown (s : State) (f : Pru → Pru) : (s.modPru f).powerDown = s.powerDown := rfl
@[simp] theorem State.modPru_storeClosed (s : State) (f : Pru → Pru) : (s.modPru f).storeClosed = s.storeClosed := rfl
@[simp] theorem State.modPru_stamp (s : State) (f : Pru → Pru) : (s.modPru f).stamp = s.stamp := rfl
@[simp] theorem State.modPru_half (s : State) (f : Pru → Pru) (x : Nat) : (s.modPru f).half x = s.half x := rfl
@[simp] theorem State.modPru_parityGood (s : State) (f : Pru → Pru) (x y : Nat) : (s.modPru f).parityGood x y = s.parityGood x y := rfl
@[simp] theorem State.modDlc_pos (s : State) (f : Dlc → Dlc) (x : Side) : (s.modDlc f).pos x = s.pos x := rfl
@[simp] theorem State.modDlc_meter (s : State) (f : Dlc → Dlc) (x : MeterNo) : (s.modDlc f).meter x = s.meter x := rfl
@[simp] theorem State.modDlc_route (s : State) (f : Dlc → Dlc) (x : Side) (h : HoseNo) : (s.modDlc f).route x h = s.route x h := rfl
@[simp] theorem State.modDlc_grade (s : State) (f : Dlc → Dlc) (x : Fin 8) : (s.modDlc f).grade x = s.grade x := rfl
@[simp] theorem State.modDlc_lane (s : State) (f : Dlc → Dlc) (x : LaneId) : (s.modDlc f).lane x = s.lane x := rfl
@[simp] theorem State.modDlc_powerDown (s : State) (f : Dlc → Dlc) : (s.modDlc f).powerDown = s.powerDown := rfl
@[simp] theorem State.modDlc_storeClosed (s : State) (f : Dlc → Dlc) : (s.modDlc f).storeClosed = s.storeClosed := rfl
@[simp] theorem State.modDlc_stamp (s : State) (f : Dlc → Dlc) : (s.modDlc f).stamp = s.stamp := rfl
@[simp] theorem State.modDlc_half (s : State) (f : Dlc → Dlc) (x : Nat) : (s.modDlc f).half x = s.half x := rfl
@[simp] theorem State.modDlc_parityGood (s : State) (f : Dlc → Dlc) (x y : Nat) : (s.modDlc f).parityGood x y = s.parityGood x y := rfl
@[simp] theorem State.modNtc_pos (s : State) (f : Ntc → Ntc) (x : Side) : (s.modNtc f).pos x = s.pos x := rfl
@[simp] theorem State.modNtc_meter (s : State) (f : Ntc → Ntc) (x : MeterNo) : (s.modNtc f).meter x = s.meter x := rfl
@[simp] theorem State.modNtc_route (s : State) (f : Ntc → Ntc) (x : Side) (h : HoseNo) : (s.modNtc f).route x h = s.route x h := rfl
@[simp] theorem State.modNtc_grade (s : State) (f : Ntc → Ntc) (x : Fin 8) : (s.modNtc f).grade x = s.grade x := rfl
@[simp] theorem State.modNtc_board (s : State) (f : Ntc → Ntc) (x : Side) : (s.modNtc f).board x = s.board x := rfl
@[simp] theorem State.modNtc_lane (s : State) (f : Ntc → Ntc) (x : LaneId) : (s.modNtc f).lane x = s.lane x := rfl
@[simp] theorem State.modNtc_powerDown (s : State) (f : Ntc → Ntc) : (s.modNtc f).powerDown = s.powerDown := rfl
@[simp] theorem State.modNtc_storeClosed (s : State) (f : Ntc → Ntc) : (s.modNtc f).storeClosed = s.storeClosed := rfl
@[simp] theorem State.modNtc_stamp (s : State) (f : Ntc → Ntc) : (s.modNtc f).stamp = s.stamp := rfl
@[simp] theorem State.modNtc_half (s : State) (f : Ntc → Ntc) (x : Nat) : (s.modNtc f).half x = s.half x := rfl
@[simp] theorem State.modNtc_parityGood (s : State) (f : Ntc → Ntc) (x y : Nat) : (s.modNtc f).parityGood x y = s.parityGood x y := rfl
@[simp] theorem State.modRiu_pos (s : State) (f : Riu → Riu) (x : Side) : (s.modRiu f).pos x = s.pos x := rfl
@[simp] theorem State.modRiu_meter (s : State) (f : Riu → Riu) (x : MeterNo) : (s.modRiu f).meter x = s.meter x := rfl
@[simp] theorem State.modRiu_route (s : State) (f : Riu → Riu) (x : Side) (h : HoseNo) : (s.modRiu f).route x h = s.route x h := rfl
@[simp] theorem State.modRiu_grade (s : State) (f : Riu → Riu) (x : Fin 8) : (s.modRiu f).grade x = s.grade x := rfl
@[simp] theorem State.modRiu_board (s : State) (f : Riu → Riu) (x : Side) : (s.modRiu f).board x = s.board x := rfl
@[simp] theorem State.modRiu_lane (s : State) (f : Riu → Riu) (x : LaneId) : (s.modRiu f).lane x = s.lane x := rfl
@[simp] theorem State.modRiu_powerDown (s : State) (f : Riu → Riu) : (s.modRiu f).powerDown = s.powerDown := rfl
@[simp] theorem State.modRiu_storeClosed (s : State) (f : Riu → Riu) : (s.modRiu f).storeClosed = s.storeClosed := rfl
@[simp] theorem State.modRiu_stamp (s : State) (f : Riu → Riu) : (s.modRiu f).stamp = s.stamp := rfl
@[simp] theorem State.modRiu_half (s : State) (f : Riu → Riu) (x : Nat) : (s.modRiu f).half x = s.half x := rfl
@[simp] theorem State.modRiu_parityGood (s : State) (f : Riu → Riu) (x y : Nat) : (s.modRiu f).parityGood x y = s.parityGood x y := rfl
@[simp] theorem State.modSsu_pos (s : State) (f : Ssu → Ssu) (x : Side) : (s.modSsu f).pos x = s.pos x := rfl
@[simp] theorem State.modSsu_meter (s : State) (f : Ssu → Ssu) (x : MeterNo) : (s.modSsu f).meter x = s.meter x := rfl
@[simp] theorem State.modSsu_route (s : State) (f : Ssu → Ssu) (x : Side) (h : HoseNo) : (s.modSsu f).route x h = s.route x h := rfl
@[simp] theorem State.modSsu_grade (s : State) (f : Ssu → Ssu) (x : Fin 8) : (s.modSsu f).grade x = s.grade x := rfl
@[simp] theorem State.modSsu_board (s : State) (f : Ssu → Ssu) (x : Side) : (s.modSsu f).board x = s.board x := rfl
@[simp] theorem State.modSsu_lane (s : State) (f : Ssu → Ssu) (x : LaneId) : (s.modSsu f).lane x = s.lane x := rfl
@[simp] theorem State.modSsu_half (s : State) (f : Ssu → Ssu) (x : Nat) : (s.modSsu f).half x = s.half x := rfl
@[simp] theorem State.modSsu_parityGood (s : State) (f : Ssu → Ssu) (x y : Nat) : (s.modSsu f).parityGood x y = s.parityGood x y := rfl
@[simp] theorem State.modRsc_pos (s : State) (f : Rsc → Rsc) (x : Side) : (s.modRsc f).pos x = s.pos x := rfl
@[simp] theorem State.modRsc_meter (s : State) (f : Rsc → Rsc) (x : MeterNo) : (s.modRsc f).meter x = s.meter x := rfl
@[simp] theorem State.modRsc_route (s : State) (f : Rsc → Rsc) (x : Side) (h : HoseNo) : (s.modRsc f).route x h = s.route x h := rfl
@[simp] theorem State.modRsc_grade (s : State) (f : Rsc → Rsc) (x : Fin 8) : (s.modRsc f).grade x = s.grade x := rfl
@[simp] theorem State.modRsc_board (s : State) (f : Rsc → Rsc) (x : Side) : (s.modRsc f).board x = s.board x := rfl
@[simp] theorem State.modRsc_lane (s : State) (f : Rsc → Rsc) (x : LaneId) : (s.modRsc f).lane x = s.lane x := rfl
@[simp] theorem State.modRsc_powerDown (s : State) (f : Rsc → Rsc) : (s.modRsc f).powerDown = s.powerDown := rfl
@[simp] theorem State.modRsc_storeClosed (s : State) (f : Rsc → Rsc) : (s.modRsc f).storeClosed = s.storeClosed := rfl
@[simp] theorem State.modRsc_stamp (s : State) (f : Rsc → Rsc) : (s.modRsc f).stamp = s.stamp := rfl
@[simp] theorem State.modRsc_half (s : State) (f : Rsc → Rsc) (x : Nat) : (s.modRsc f).half x = s.half x := rfl
@[simp] theorem State.modRsc_parityGood (s : State) (f : Rsc → Rsc) (x y : Nat) : (s.modRsc f).parityGood x y = s.parityGood x y := rfl
@[simp] theorem State.modIwu_pos (s : State) (f : Iwu → Iwu) (x : Side) : (s.modIwu f).pos x = s.pos x := rfl
@[simp] theorem State.modIwu_meter (s : State) (f : Iwu → Iwu) (x : MeterNo) : (s.modIwu f).meter x = s.meter x := rfl
@[simp] theorem State.modIwu_route (s : State) (f : Iwu → Iwu) (x : Side) (h : HoseNo) : (s.modIwu f).route x h = s.route x h := rfl
@[simp] theorem State.modIwu_grade (s : State) (f : Iwu → Iwu) (x : Fin 8) : (s.modIwu f).grade x = s.grade x := rfl
@[simp] theorem State.modIwu_board (s : State) (f : Iwu → Iwu) (x : Side) : (s.modIwu f).board x = s.board x := rfl
@[simp] theorem State.modIwu_lane (s : State) (f : Iwu → Iwu) (x : LaneId) : (s.modIwu f).lane x = s.lane x := rfl
@[simp] theorem State.modIwu_powerDown (s : State) (f : Iwu → Iwu) : (s.modIwu f).powerDown = s.powerDown := rfl
@[simp] theorem State.modIwu_storeClosed (s : State) (f : Iwu → Iwu) : (s.modIwu f).storeClosed = s.storeClosed := rfl
@[simp] theorem State.modIwu_stamp (s : State) (f : Iwu → Iwu) : (s.modIwu f).stamp = s.stamp := rfl
@[simp] theorem State.modIwu_half (s : State) (f : Iwu → Iwu) (x : Nat) : (s.modIwu f).half x = s.half x := rfl
@[simp] theorem State.modIwu_parityGood (s : State) (f : Iwu → Iwu) (x y : Nat) : (s.modIwu f).parityGood x y = s.parityGood x y := rfl
@[simp] theorem State.tickFree_pos (s : State) (x : Side) : (s.tickFree).pos x = s.pos x := rfl
@[simp] theorem State.tickFree_meter (s : State) (x : MeterNo) : (s.tickFree).meter x = s.meter x := rfl
@[simp] theorem State.tickFree_route (s : State) (x : Side) (h : HoseNo) : (s.tickFree).route x h = s.route x h := rfl
@[simp] theorem State.tickFree_grade (s : State) (x : Fin 8) : (s.tickFree).grade x = s.grade x := rfl
@[simp] theorem State.tickFree_board (s : State) (x : Side) : (s.tickFree).board x = s.board x := rfl
@[simp] theorem State.tickFree_lane (s : State) (x : LaneId) : (s.tickFree).lane x = s.lane x := rfl
@[simp] theorem State.tickFree_powerDown (s : State) : (s.tickFree).powerDown = s.powerDown := rfl
@[simp] theorem State.tickFree_storeClosed (s : State) : (s.tickFree).storeClosed = s.storeClosed := rfl
@[simp] theorem State.tickFree_stamp (s : State) : (s.tickFree).stamp = s.stamp := rfl
@[simp] theorem State.tickFree_half (s : State) (x : Nat) : (s.tickFree).half x = s.half x := rfl
@[simp] theorem State.tickFree_parityGood (s : State) (x y : Nat) : (s.tickFree).parityGood x y = s.parityGood x y := rfl
@[simp] theorem State.touch_pos (s : State) (p : MirrorPart) (e : Nat) (x : Side) : (s.touch p e).pos x = s.pos x := rfl
@[simp] theorem State.touch_meter (s : State) (p : MirrorPart) (e : Nat) (x : MeterNo) : (s.touch p e).meter x = s.meter x := rfl
@[simp] theorem State.touch_route (s : State) (p : MirrorPart) (e : Nat) (x : Side) (h : HoseNo) : (s.touch p e).route x h = s.route x h := rfl
@[simp] theorem State.touch_grade (s : State) (p : MirrorPart) (e : Nat) (x : Fin 8) : (s.touch p e).grade x = s.grade x := rfl
@[simp] theorem State.touch_board (s : State) (p : MirrorPart) (e : Nat) (x : Side) : (s.touch p e).board x = s.board x := rfl
@[simp] theorem State.touch_lane (s : State) (p : MirrorPart) (e : Nat) (x : LaneId) : (s.touch p e).lane x = s.lane x := rfl
@[simp] theorem State.touch_powerDown (s : State) (p : MirrorPart) (e : Nat) : (s.touch p e).powerDown = s.powerDown := rfl
@[simp] theorem State.touch_storeClosed (s : State) (p : MirrorPart) (e : Nat) : (s.touch p e).storeClosed = s.storeClosed := rfl
@[simp] theorem State.touch_stamp (s : State) (p : MirrorPart) (e : Nat) : (s.touch p e).stamp = s.stamp := rfl
@[simp] theorem State.touch_half (s : State) (p : MirrorPart) (e : Nat) (x : Nat) : (s.touch p e).half x = s.half x := rfl
@[simp] theorem State.touch_parityGood (s : State) (p : MirrorPart) (e : Nat) (x y : Nat) : (s.touch p e).parityGood x y = s.parityGood x y := rfl
@[simp] theorem State.writeWhole_pos (s : State) (p : MirrorPart) (x : Side) : (s.writeWhole p).pos x = s.pos x := rfl
@[simp] theorem State.writeWhole_meter (s : State) (p : MirrorPart) (x : MeterNo) : (s.writeWhole p).meter x = s.meter x := rfl
@[simp] theorem State.writeWhole_route (s : State) (p : MirrorPart) (x : Side) (h : HoseNo) : (s.writeWhole p).route x h = s.route x h := rfl
@[simp] theorem State.writeWhole_grade (s : State) (p : MirrorPart) (x : Fin 8) : (s.writeWhole p).grade x = s.grade x := rfl
@[simp] theorem State.writeWhole_board (s : State) (p : MirrorPart) (x : Side) : (s.writeWhole p).board x = s.board x := rfl
@[simp] theorem State.writeWhole_lane (s : State) (p : MirrorPart) (x : LaneId) : (s.writeWhole p).lane x = s.lane x := rfl
@[simp] theorem State.writeWhole_powerDown (s : State) (p : MirrorPart) : (s.writeWhole p).powerDown = s.powerDown := rfl
@[simp] theorem State.writeWhole_storeClosed (s : State) (p : MirrorPart) : (s.writeWhole p).storeClosed = s.storeClosed := rfl
@[simp] theorem State.writeWhole_stamp (s : State) (p : MirrorPart) : (s.writeWhole p).stamp = s.stamp := rfl
@[simp] theorem State.writeWhole_half (s : State) (p : MirrorPart) (x : Nat) : (s.writeWhole p).half x = s.half x := rfl
@[simp] theorem State.writeWhole_parityGood (s : State) (p : MirrorPart) (x y : Nat) : (s.writeWhole p).parityGood x y = s.parityGood x y := rfl
@[simp] theorem State.raise_pos (s : State) (c : Cause) (d : Nat) (x : Side) : (s.raise c d).pos x = s.pos x := rfl
@[simp] theorem State.raise_meter (s : State) (c : Cause) (d : Nat) (x : MeterNo) : (s.raise c d).meter x = s.meter x := rfl
@[simp] theorem State.raise_route (s : State) (c : Cause) (d : Nat) (x : Side) (h : HoseNo) : (s.raise c d).route x h = s.route x h := rfl
@[simp] theorem State.raise_grade (s : State) (c : Cause) (d : Nat) (x : Fin 8) : (s.raise c d).grade x = s.grade x := rfl
@[simp] theorem State.raise_board (s : State) (c : Cause) (d : Nat) (x : Side) : (s.raise c d).board x = s.board x := rfl
@[simp] theorem State.raise_lane (s : State) (c : Cause) (d : Nat) (x : LaneId) : (s.raise c d).lane x = s.lane x := rfl
@[simp] theorem State.raise_powerDown (s : State) (c : Cause) (d : Nat) : (s.raise c d).powerDown = s.powerDown := rfl
@[simp] theorem State.raise_storeClosed (s : State) (c : Cause) (d : Nat) : (s.raise c d).storeClosed = s.storeClosed := rfl
@[simp] theorem State.raise_stamp (s : State) (c : Cause) (d : Nat) : (s.raise c d).stamp = s.stamp := rfl
@[simp] theorem State.raise_half (s : State) (c : Cause) (d : Nat) (x : Nat) : (s.raise c d).half x = s.half x := rfl
@[simp] theorem State.raise_parityGood (s : State) (c : Cause) (d : Nat) (x y : Nat) : (s.raise c d).parityGood x y = s.parityGood x y := rfl
@[simp] theorem State.writeByte_pos (s : State) (a : Nat) (v : Byte) (x : Side) : (s.writeByte a v).pos x = s.pos x := rfl
@[simp] theorem State.writeByte_meter (s : State) (a : Nat) (v : Byte) (x : MeterNo) : (s.writeByte a v).meter x = s.meter x := rfl
@[simp] theorem State.writeByte_route (s : State) (a : Nat) (v : Byte) (x : Side) (h : HoseNo) : (s.writeByte a v).route x h = s.route x h := rfl
@[simp] theorem State.writeByte_grade (s : State) (a : Nat) (v : Byte) (x : Fin 8) : (s.writeByte a v).grade x = s.grade x := rfl
@[simp] theorem State.writeByte_board (s : State) (a : Nat) (v : Byte) (x : Side) : (s.writeByte a v).board x = s.board x := rfl
@[simp] theorem State.writeByte_lane (s : State) (a : Nat) (v : Byte) (x : LaneId) : (s.writeByte a v).lane x = s.lane x := rfl
@[simp] theorem State.writeByte_powerDown (s : State) (a : Nat) (v : Byte) : (s.writeByte a v).powerDown = s.powerDown := rfl
@[simp] theorem State.writeByte_storeClosed (s : State) (a : Nat) (v : Byte) : (s.writeByte a v).storeClosed = s.storeClosed := rfl
@[simp] theorem State.writeByte_stamp (s : State) (a : Nat) (v : Byte) : (s.writeByte a v).stamp = s.stamp := rfl

/-! ## The view that an update changes -/

@[simp] theorem State.modPos_pos (s : State) (side : Side) (f : Position → Position) : (s.modPos side f).pos side = f (s.pos side) := by
  cases side <;> rfl
@[simp] theorem State.modPos_pos_other (s : State) (side : Side) (f : Position → Position) :
    (s.modPos side f).pos (other side) = s.pos (other side) := by cases side <;> rfl
theorem State.modPos_pos_eq (s : State) (side x : Side) (f : Position → Position) :
    (s.modPos side f).pos x = if x = side then f (s.pos side) else s.pos x := by cases side <;> cases x <;> rfl
@[simp] theorem State.modBoard_board (s : State) (side : Side) (f : Board → Board) :
    (s.modBoard side f).board side = f (s.board side) := by cases side <;> rfl
@[simp] theorem State.modBoard_board_other (s : State) (side : Side) (f : Board → Board) :
    (s.modBoard side f).board (other side) = s.board (other side) := by cases side <;> rfl
theorem State.modBoard_board_eq (s : State) (side x : Side) (f : Board → Board) :
    (s.modBoard side f).board x = if x = side then f (s.board side) else s.board x := by cases side <;> cases x <;> rfl
@[simp] theorem State.modLane_lane (s : State) (l : LaneId) (f : Lane → Lane) : (s.modLane l f).lane l = f (s.lane l) := by
  cases l <;> rfl
theorem State.modLane_lane_eq (s : State) (l x : LaneId) (f : Lane → Lane) :
    (s.modLane l f).lane x = if x = l then f (s.lane l) else s.lane x := by cases l <;> cases x <;> rfl
@[simp] theorem State.modMeter_meter (s : State) (m : MeterNo) (f : Meter → Meter) : (s.modMeter m f).meter m = f (s.meter m) := by
  simp [State.modMeter, State.meter]
theorem State.modMeter_meter_eq (s : State) (m x : MeterNo) (f : Meter → Meter) :
    (s.modMeter m f).meter x = if x = m then f (s.meter m) else s.meter x := by
  by_cases h : x = m
  · subst h; simp
  · have h' : m.val ≠ x.val := fun e => h (Fin.ext e.symm)
    simp [State.modMeter, State.meter, h, h']
@[simp] theorem State.modMeter_route (s : State) (m : MeterNo) (f : Meter → Meter) (x : Side) (h : HoseNo) :
    (s.modMeter m f).route x h = s.route x h := rfl
@[simp] theorem State.modGrade_grade (s : State) (g : Fin 8) (f : Grade → Grade) : (s.modGrade g f).grade g = f (s.grade g) := by
  simp [State.modGrade, State.grade]
theorem State.modGrade_grade_eq (s : State) (g x : Fin 8) (f : Grade → Grade) :
    (s.modGrade g f).grade x = if x = g then f (s.grade g) else s.grade x := by
  by_cases h : x = g
  · subst h; simp
  · have h' : g.val ≠ x.val := fun e => h (Fin.ext e.symm)
    simp [State.modGrade, State.grade, h, h']

end Sys2Proof.Machine
end

