-- ==== Sys2Proof/Laws/Memory.lean ====
section
/-! SUPPORT. Exchange memory: reads after writes, the canonical form, parity marks (R190, R192). -/
namespace Sys2Proof.Machine

/-! ## One byte -/

/-- Every listed address lies above `a`. -/
def Memory.above (a : Nat) (m : Memory) : Prop := ∀ c ∈ m, a < c.1

theorem Memory.wf_cons {a : Nat} {v : Byte} {m : Memory} :
    Memory.wf ((a, v) :: m) = true ↔ v ≠ resetByte a ∧ Memory.above a m ∧ Memory.wf m = true := by
  induction m generalizing a v with
  | nil => simp [Memory.wf, Memory.above]
  | cons c m ih =>
    obtain ⟨b, w⟩ := c
    have hb := @ih b w
    simp only [Memory.wf, Bool.and_eq_true, decide_eq_true_eq, bne_iff_ne, ne_eq, Memory.above] at hb ⊢
    constructor
    · rintro ⟨⟨h1, h2⟩, h3⟩
      refine ⟨h1, fun c hc => ?_, h3⟩
      rcases List.mem_cons.1 hc with rfl | hc
      · exact h2
      · exact Nat.lt_trans h2 ((hb.1 h3).2.1 c hc)
    · rintro ⟨h1, h2, h3⟩
      exact ⟨⟨h1, h2 _ List.mem_cons_self⟩, h3⟩

theorem Memory.read_of_above {a b : Nat} {m : Memory} (h : Memory.above b m) (hab : a ≤ b) : Memory.read m a = resetByte a := by
  induction m with
  | nil => rfl
  | cons c m ih =>
    have hc := h c List.mem_cons_self
    rw [Memory.read, if_neg (by omega), ih fun d hd => h d (List.mem_cons_of_mem _ hd)]

theorem Memory.above_write {a b : Nat} {m : Memory} {v : Byte} (h : Memory.above b m) (hab : b < a) :
    Memory.above b (Memory.write m a v) := by
  induction m with
  | nil => unfold Memory.write; split <;> simp [Memory.above, hab]
  | cons c m ih =>
    obtain ⟨d, w⟩ := c
    have hd := h (d, w) List.mem_cons_self
    have hm : Memory.above b m := fun x hx => h x (List.mem_cons_of_mem _ hx)
    simp only [Memory.write]
    split
    · split
      · exact h
      · intro x hx
        rcases List.mem_cons.1 hx with rfl | hx
        · exact hab
        · exact h x hx
    · split
      · split
        · exact hm
        · intro x hx
          rcases List.mem_cons.1 hx with rfl | hx
          · exact hab
          · exact hm x hx
      · intro x hx
        rcases List.mem_cons.1 hx with rfl | hx
        · exact hd
        · exact ih hm x hx

/-- A write keeps the canonical form. -/
theorem Memory.wf_write {m : Memory} (h : Memory.wf m = true) (a : Nat) (v : Byte) : Memory.wf (Memory.write m a v) = true := by
  induction m with
  | nil =>
    unfold Memory.write
    split
    · rfl
    · simpa [Memory.wf] using ‹¬ v = resetByte a›
  | cons c m ih =>
    obtain ⟨b, w⟩ := c
    have hc := Memory.wf_cons.1 h
    simp only [Memory.write]
    split
    · split
      · exact h
      · refine Memory.wf_cons.2 ⟨by assumption, ?_, h⟩
        intro x hx
        rcases List.mem_cons.1 hx with rfl | hx
        · assumption
        · exact Nat.lt_trans (by assumption) (hc.2.1 x hx)
    · split
      · split
        · exact hc.2.2
        · rename_i hab hv
          subst hab
          exact Memory.wf_cons.2 ⟨hv, hc.2.1, hc.2.2⟩
      · refine Memory.wf_cons.2 ⟨hc.1, Memory.above_write hc.2.1 (by omega), ih hc.2.2⟩

/-- A read after a write to the same address gives the value written. -/
theorem Memory.read_write_same {m : Memory} (h : Memory.wf m = true) (a : Nat) (v : Byte) :
    Memory.read (Memory.write m a v) a = v := by
  induction m with
  | nil => unfold Memory.write; split <;> simp_all [Memory.read]
  | cons c m ih =>
    obtain ⟨b, w⟩ := c
    have hc := Memory.wf_cons.1 h
    simp only [Memory.write]
    split
    · split
      · rename_i hab hv
        rw [Memory.read, if_neg (by omega), Memory.read_of_above hc.2.1 (by omega), hv]
      · simp [Memory.read]
    · split
      · split
        · rename_i hab hv
          rw [hv, Memory.read_of_above hc.2.1 (by omega)]
        · simp [Memory.read]
      · rw [Memory.read, if_neg (fun e => by omega), ih hc.2.2]

/-- A write leaves every other address as it was. -/
theorem Memory.read_write_other (m : Memory) {a x : Nat} (v : Byte) (h : x ≠ a) :
    Memory.read (Memory.write m a v) x = Memory.read m x := by
  induction m with
  | nil => unfold Memory.write; split <;> simp [Memory.read, Ne.symm h]
  | cons c m ih =>
    obtain ⟨b, w⟩ := c
    simp only [Memory.write]
    split
    · split
      · rfl
      · simp [Memory.read, Ne.symm h]
    · split
      · rename_i hab
        subst hab
        split <;> simp [Memory.read, Ne.symm h]
      · simp [Memory.read, ih]

/-! ## Rising lists -/

theorem rising_cons {a : Nat} {l : List Nat} : rising (a :: l) = true ↔ (∀ b ∈ l, a < b) ∧ rising l = true := by
  induction l generalizing a with
  | nil => simp [rising]
  | cons b l ih =>
    have hb := @ih b
    simp only [rising, Bool.and_eq_true, decide_eq_true_eq, List.mem_cons, forall_eq_or_imp] at hb ⊢
    constructor
    · rintro ⟨h1, h2⟩
      exact ⟨⟨h1, fun c hc => Nat.lt_trans h1 ((hb.1 h2).1 c hc)⟩, h2⟩
    · rintro ⟨⟨h1, -⟩, h2⟩
      exact ⟨h1, h2⟩

theorem rising_filter {l : List Nat} (h : rising l = true) (p : Nat → Bool) : rising (l.filter p) = true := by
  induction l with
  | nil => rfl
  | cons a l ih =>
    obtain ⟨h1, h2⟩ := rising_cons.1 h
    rw [List.filter_cons]
    split
    · exact rising_cons.2 ⟨fun b hb => h1 b (List.mem_of_mem_filter hb), ih h2⟩
    · exact ih h2

theorem mem_insertRising {a b : Nat} {l : List Nat} : b ∈ insertRising a l ↔ b = a ∨ b ∈ l := by
  induction l with
  | nil => simp [insertRising]
  | cons c l ih =>
    simp only [insertRising]
    split
    · simp
    · split
      · simp_all
      · simp only [List.mem_cons, ih]; tauto

theorem rising_insertRising (a : Nat) {l : List Nat} (h : rising l = true) : rising (insertRising a l) = true := by
  induction l with
  | nil => rfl
  | cons b l ih =>
    obtain ⟨h1, h2⟩ := rising_cons.1 h
    simp only [insertRising]
    split
    · rename_i hab
      refine rising_cons.2 ⟨fun c hc => ?_, h⟩
      rcases List.mem_cons.1 hc with rfl | hc
      · exact hab
      · exact Nat.lt_trans hab (h1 c hc)
    · split
      · exact h
      · refine rising_cons.2 ⟨fun c hc => ?_, ih h2⟩
        rcases mem_insertRising.1 hc with rfl | hc
        · omega
        · exact h1 c hc

/-! ## The stores of State -/

theorem State.memoryOk_writeByte {s : State} (h : s.memoryOk) (a : Nat) (v : Byte) : (s.writeByte a v).memoryOk :=
  ⟨Memory.wf_write h.1 a v, rising_filter h.2 _⟩

theorem State.memoryOk_writeHalf {s : State} (h : s.memoryOk) (a : Nat) (v : Half) : (s.writeHalf a v).memoryOk :=
  State.memoryOk_writeByte (State.memoryOk_writeByte h _ _) _ _

theorem State.memoryOk_writeBytes {s : State} (h : s.memoryOk) (a : Nat) (l : List Byte) : (s.writeBytes a l).memoryOk := by
  induction l generalizing s a with
  | nil => exact h
  | cons v l ih => exact ih (State.memoryOk_writeByte h _ _) _

theorem State.memoryOk_writeAt {s : State} (h : s.memoryOk) (a : Nat) (l : List (Nat × Byte)) : (s.writeAt a l).memoryOk := by
  induction l generalizing s with
  | nil => exact h
  | cons v l ih => exact ih (State.memoryOk_writeByte h _ _)

/-- Outside a store's two bytes nothing changes. -/
theorem State.read_writeHalf_other (s : State) {a x : Nat} (v : Half) (h0 : x ≠ a) (h1 : x ≠ a + 1) :
    Memory.read (s.writeHalf a v).xm x = Memory.read s.xm x := by
  simp [State.writeHalf, Memory.read_write_other _ _ h0, Memory.read_write_other _ _ h1]

theorem State.half_writeHalf_same {s : State} (h : Memory.wf s.xm = true) (a : Nat) (v : Half) : (s.writeHalf a v).half a = v := by
  have hw := Memory.wf_write h a (v.setWidth 8)
  simp only [State.half, State.writeHalf, State.writeByte_xm]
  rw [Memory.read_write_same hw, Memory.read_write_other _ _ (by omega), Memory.read_write_same h]
  ext i hi
  simp only [BitVec.getElem_append, BitVec.getElem_setWidth, BitVec.getLsbD_ushiftRight]
  split
  · rfl
  · rw [show 8 + (i - 8) = i by omega]; rfl

theorem State.half_writeHalf_other (s : State) {a x : Nat} (v : Half) (h : x + 1 < a ∨ a + 1 < x) :
    (s.writeHalf a v).half x = s.half x := by
  simp only [State.half]
  rw [State.read_writeHalf_other _ _ (by omega) (by omega), State.read_writeHalf_other _ _ (by omega) (by omega)]

/-- A byte that a store of bytes does not reach. -/
theorem State.read_writeBytes_other (s : State) {a x : Nat} (l : List Byte) (h : x < a ∨ a + l.length ≤ x) :
    Memory.read (s.writeBytes a l).xm x = Memory.read s.xm x := by
  induction l generalizing s a with
  | nil => rfl
  | cons v l ih =>
    simp only [List.length_cons] at h
    rw [State.writeBytes, ih _ (by omega), State.writeByte_xm, Memory.read_write_other _ _ (by omega)]

/-- The bytes that a store of bytes has left. -/
theorem State.bytes_writeBytes_same {s : State} (h : Memory.wf s.xm = true) (a : Nat) (l : List Byte) :
    (s.writeBytes a l).bytes a l.length = l := by
  induction l generalizing s a with
  | nil => rfl
  | cons v l ih =>
    have hw : Memory.wf (s.writeByte a v).xm = true := Memory.wf_write h a v
    simp only [State.writeBytes, List.length_cons, State.bytes, ih hw]
    rw [State.read_writeBytes_other _ _ (by omega), State.writeByte_xm, Memory.read_write_same h]

/-- A byte at none of the given distances. -/
theorem State.read_writeAt_other (s : State) {a x : Nat} (l : List (Nat × Byte)) (h : ∀ p ∈ l, x ≠ a + p.1) :
    Memory.read (s.writeAt a l).xm x = Memory.read s.xm x := by
  induction l generalizing s with
  | nil => rfl
  | cons p l ih =>
    obtain ⟨i, v⟩ := p
    rw [State.writeAt, ih _ fun q hq => h q (List.mem_cons_of_mem _ hq), State.writeByte_xm,
      Memory.read_write_other _ _ (h _ List.mem_cons_self)]

/-! ## Mirrors as the host reads them -/

/-- A bit of a mirror whose parts have no written entry. -/
theorem mirrorBitAt_unwritten {parts : List MirrorEntries} (h : ∀ p ∈ parts, ∀ e ∈ p, e = none) (n bit : Nat) :
    mirrorBitAt n parts bit = false := by
  unfold mirrorBitAt
  cases Config.mirrorEntry n bit with
  | none => rfl
  | some x =>
    have key : (parts.getD x.1 []).getD x.2 none = none := by
      rw [List.getD_eq_getElem?_getD, List.getD_eq_getElem?_getD]
      cases hp : parts[x.1]? with
      | none => rfl
      | some p =>
        cases he : p[x.2]? with
        | none => simp [he]
        | some e => simpa [he] using h p (List.mem_of_getElem? hp) e (List.mem_of_getElem? he)
    show (match (parts.getD x.1 []).getD x.2 none with
      | none => false
      | some numbers => Config.mirrorBit n bit numbers) = false
    rw [key]

/-- A byte of a mirror past its generation, none of its entries written (R22, R76, R92, R205). -/
theorem mirrorByteAt_unwritten {parts : List MirrorEntries} (h : ∀ p ∈ parts, ∀ e ∈ p, e = none) (n : Nat) (g : Half) {i : Nat}
    (hi : 2 ≤ i) : mirrorByteAt n g parts i = 0 := by
  unfold mirrorByteAt
  rw [if_neg (by omega)]
  simp [mirrorBitAt_unwritten h]

theorem State.memoryOk_reset : State.reset.memoryOk := ⟨rfl, rfl⟩

end Sys2Proof.Machine
end

