-- ==== Sys2Proof/Laws/Frame.lean ====
section
/-! SUPPORT. What each shared operation can touch: `Acts s t parts` says that from `s` to `t` nothing changes but the parts named, that
exchange memory keeps its canonical form, that no mirror moves and that notices are only added. One lemma per operation,
from the state before a chain of operations, so that a chain is read off from its links. -/
namespace Sys2Proof.Machine

/-! ## The relation -/

/-- A part is the same in two states, as data. -/
def Part.kept (s t : State) : Part → Prop
  | .queue => t.pending = s.pending
  | .lines => t.mainSupply = s.mainSupply ∧ t.hostReset = s.hostReset
  | .memory => t.xm = s.xm
  | .parity => t.upset = s.upset
  | .lanes => t.lanes = s.lanes
  | .notices => t.ntc = s.ntc
  | .meters => t.miu = s.miu
  | .positions => t.psc = s.psc
  | .prices => t.pru = s.pru
  | .displays => t.dlc = s.dlc
  | .inputs => t.iwu = s.iwu
  | .reader => t.riu = s.riu
  | .site => t.ssu = s.ssu
  | .store => t.rsc = s.rsc
  | .free => t.free = s.free

/-- The mirrors but for the parts that the present event has marked for writing (R194). -/
def Mirrors.settled (m : Mirrors) : Mirrors := { m with touched := [], wholes := [] }

/-- Notices are only added: nothing pending, gathered or overrun goes (R207). -/
structure Ntc.Grows (m n : Ntc) : Prop where
  presented : n.presented = m.presented
  enable : n.enable = m.enable
  pending (i : Fin 13) : m.sources[i].pending = true → n.sources[i].pending = true
  causes (i : Fin 13) (b : Nat) : m.sources[i].causes.getLsbD b = true → n.sources[i].causes.getLsbD b = true
  overrun (i : Fin 13) : m.sources[i].overrun = true → n.sources[i].overrun = true
  first (i : Fin 13) : m.sources[i].causes ≠ 0 → n.sources[i].first = m.sources[i].first ∧ n.sources[i].causes ≠ 0

/-- Between two states nothing changes but the parts named, memory keeps its form, the mirrors stand, notices are only added. -/
structure Acts (s t : State) (ps : List Part) : Prop where
  frame : ∀ p, p ∉ ps → p.kept s t
  memory : s.memoryOk → t.memoryOk
  mirrors : t.mirrors.settled = s.mirrors.settled
  notices : s.ntc.Grows t.ntc

theorem Part.kept_same {s t : State} {p : Part} (h : p.kept s t) : p.same s t := by
  cases p <;> first | exact h | exact fun _ => by rw [Part.kept.eq_def] at h; simp only at h; rw [h]

/-- What a chain of operations leaves alone, as statements say it. -/
theorem Acts.changesOnly {s t : State} {ps : List Part} (h : Acts s t ps) : s.changesOnly t ps :=
  fun p hp => Part.kept_same (h.frame p hp)

theorem Ntc.Grows.refl (n : Ntc) : n.Grows n := ⟨rfl, rfl, fun _ => id, fun _ _ => id, fun _ => id, fun _ h => ⟨rfl, h⟩⟩

theorem Ntc.Grows.trans {a b c : Ntc} (h : a.Grows b) (k : b.Grows c) : a.Grows c :=
  ⟨k.presented.trans h.presented, k.enable.trans h.enable, fun i x => k.pending i (h.pending i x),
    fun i n x => k.causes i n (h.causes i n x), fun i x => k.overrun i (h.overrun i x),
    fun i x => ⟨(k.first i (h.first i x).2).1.trans (h.first i x).1, (k.first i (h.first i x).2).2⟩⟩

theorem Part.kept_trans {s t u : State} {p : Part} (h : p.kept s t) (k : p.kept t u) : p.kept s u := by
  cases p <;> first | exact k.trans h | exact ⟨k.1.trans h.1, k.2.trans h.2⟩

variable {s0 s t u : State} {P Q : List Part}

@[simp ↓] theorem Acts.refl (s : State) (P : List Part) : Acts s s P :=
  ⟨fun p _ => by cases p <;> simp [Part.kept], id, rfl, .refl _⟩

theorem Acts.trans (h : Acts s t P) (k : Acts t u P) : Acts s u P :=
  ⟨fun p hp => Part.kept_trans (h.frame p hp) (k.frame p hp), fun m => k.memory (h.memory m),
    k.mirrors.trans h.mirrors, h.notices.trans k.notices⟩

theorem Acts.mono (h : Acts s t P) (hp : P ⊆ Q) : Acts s t Q := ⟨fun p hn => h.frame p fun hm => hn (hp hm), h.memory, h.mirrors, h.notices⟩

/-- A condition chooses between two states. -/
@[simp ↓] theorem Acts.ite {c : Prop} [Decidable c] (h : c → Acts s0 s P) (k : ¬ c → Acts s0 t P) :
    Acts s0 (if c then s else t) P := by split <;> simp_all

/-- A chain over a list. -/
@[simp ↓] theorem Acts.foldl {α : Type} {f : State → α → State} (hf : ∀ s x, Acts s0 s P → Acts s0 (f s x) P) (h : Acts s0 s P)
    (l : List α) : Acts s0 (l.foldl f s) P := by
  induction l generalizing s with
  | nil => exact h
  | cons a l ih => exact ih (hf _ _ h)

/-- A change of one part that is no memory and no notice. -/
theorem Acts.quiet (h : Acts s0 s P) (hk : ∀ p, p ∉ P → p.kept s t) (hx : t.xm = s.xm ∧ t.upset = s.upset ∧ t.ntc = s.ntc)
    (hm : t.mirrors.settled = s.mirrors.settled) : Acts s0 t P :=
  ⟨fun p hp => Part.kept_trans (h.frame p hp) (hk p hp),
    fun m => ⟨hx.1 ▸ (h.memory m).1, hx.2.1 ▸ (h.memory m).2⟩, hm.trans h.mirrors, hx.2.2 ▸ h.notices⟩

/-! ## Updates of one record -/

theorem Acts.setMiu (h : Acts s0 s P) (x : Miu) (hp : Part.meters ∈ P) : Acts s0 { s with miu := x } P := by
  refine h.quiet (fun q hq => ?_) ⟨rfl, rfl, rfl⟩ rfl
  cases q <;> first | rfl | exact ⟨rfl, rfl⟩ | exact absurd hp hq

theorem Acts.setPsc (h : Acts s0 s P) (x : Sides Position) (hp : Part.positions ∈ P) : Acts s0 { s with psc := x } P := by
  refine h.quiet (fun q hq => ?_) ⟨rfl, rfl, rfl⟩ rfl
  cases q <;> first | rfl | exact ⟨rfl, rfl⟩ | exact absurd hp hq

theorem Acts.setPru (h : Acts s0 s P) (x : Pru) (hp : Part.prices ∈ P) : Acts s0 { s with pru := x } P := by
  refine h.quiet (fun q hq => ?_) ⟨rfl, rfl, rfl⟩ rfl
  cases q <;> first | rfl | exact ⟨rfl, rfl⟩ | exact absurd hp hq

theorem Acts.setDlc (h : Acts s0 s P) (x : Dlc) (hp : Part.displays ∈ P) : Acts s0 { s with dlc := x } P := by
  refine h.quiet (fun q hq => ?_) ⟨rfl, rfl, rfl⟩ rfl
  cases q <;> first | rfl | exact ⟨rfl, rfl⟩ | exact absurd hp hq

theorem Acts.setIwu (h : Acts s0 s P) (x : Iwu) (hp : Part.inputs ∈ P) : Acts s0 { s with iwu := x } P := by
  refine h.quiet (fun q hq => ?_) ⟨rfl, rfl, rfl⟩ rfl
  cases q <;> first | rfl | exact ⟨rfl, rfl⟩ | exact absurd hp hq

theorem Acts.setRiu (h : Acts s0 s P) (x : Riu) (hp : Part.reader ∈ P) : Acts s0 { s with riu := x } P := by
  refine h.quiet (fun q hq => ?_) ⟨rfl, rfl, rfl⟩ rfl
  cases q <;> first | rfl | exact ⟨rfl, rfl⟩ | exact absurd hp hq

theorem Acts.setSsu (h : Acts s0 s P) (x : Ssu) (hp : Part.site ∈ P) : Acts s0 { s with ssu := x } P := by
  refine h.quiet (fun q hq => ?_) ⟨rfl, rfl, rfl⟩ rfl
  cases q <;> first | rfl | exact ⟨rfl, rfl⟩ | exact absurd hp hq

theorem Acts.setRsc (h : Acts s0 s P) (x : Rsc) (hp : Part.store ∈ P) : Acts s0 { s with rsc := x } P := by
  refine h.quiet (fun q hq => ?_) ⟨rfl, rfl, rfl⟩ rfl
  cases q <;> first | rfl | exact ⟨rfl, rfl⟩ | exact absurd hp hq

theorem Acts.setLanes (h : Acts s0 s P) (x : Lanes) (hp : Part.lanes ∈ P) : Acts s0 { s with lanes := x } P := by
  refine h.quiet (fun q hq => ?_) ⟨rfl, rfl, rfl⟩ rfl
  cases q <;> first | rfl | exact ⟨rfl, rfl⟩ | exact absurd hp hq

theorem Acts.setFree (h : Acts s0 s P) (x : Nat) (hp : Part.free ∈ P) : Acts s0 { s with free := x } P := by
  refine h.quiet (fun q hq => ?_) ⟨rfl, rfl, rfl⟩ rfl
  cases q <;> first | rfl | exact ⟨rfl, rfl⟩ | exact absurd hp hq

@[simp ↓] theorem Acts.modPos (h : Acts s0 s P) (side : Side) (f : Position → Position) (hp : Part.positions ∈ P) : Acts s0 (s.modPos side f) P := h.setPsc _ hp
@[simp ↓] theorem Acts.modMeter (h : Acts s0 s P) (m : MeterNo) (f : Meter → Meter) (hp : Part.meters ∈ P) : Acts s0 (s.modMeter m f) P := h.setMiu _ hp
@[simp ↓] theorem Acts.modGrade (h : Acts s0 s P) (g : Fin 8) (f : Grade → Grade) (hp : Part.prices ∈ P) : Acts s0 (s.modGrade g f) P := h.setPru _ hp
@[simp ↓] theorem Acts.modPanel (h : Acts s0 s P) (g : Fin 8) (side : Side) (f : Panel → Panel) (hp : Part.prices ∈ P) : Acts s0 (s.modPanel g side f) P := h.setPru _ hp
@[simp ↓] theorem Acts.modBoard (h : Acts s0 s P) (side : Side) (f : Board → Board) (hp : Part.displays ∈ P) : Acts s0 (s.modBoard side f) P := h.setDlc _ hp
@[simp ↓] theorem Acts.modLane (h : Acts s0 s P) (l : LaneId) (f : Lane → Lane) (hp : Part.lanes ∈ P) : Acts s0 (s.modLane l f) P := by cases l <;> exact h.setLanes _ hp
@[simp ↓] theorem Acts.modMiu (h : Acts s0 s P) (f : Miu → Miu) (hp : Part.meters ∈ P) : Acts s0 (s.modMiu f) P := h.setMiu _ hp
@[simp ↓] theorem Acts.modPru (h : Acts s0 s P) (f : Pru → Pru) (hp : Part.prices ∈ P) : Acts s0 (s.modPru f) P := h.setPru _ hp
@[simp ↓] theorem Acts.modDlc (h : Acts s0 s P) (f : Dlc → Dlc) (hp : Part.displays ∈ P) : Acts s0 (s.modDlc f) P := h.setDlc _ hp
@[simp ↓] theorem Acts.modRiu (h : Acts s0 s P) (f : Riu → Riu) (hp : Part.reader ∈ P) : Acts s0 (s.modRiu f) P := h.setRiu _ hp
@[simp ↓] theorem Acts.modSsu (h : Acts s0 s P) (f : Ssu → Ssu) (hp : Part.site ∈ P) : Acts s0 (s.modSsu f) P := h.setSsu _ hp
@[simp ↓] theorem Acts.modRsc (h : Acts s0 s P) (f : Rsc → Rsc) (hp : Part.store ∈ P) : Acts s0 (s.modRsc f) P := h.setRsc _ hp
@[simp ↓] theorem Acts.modIwu (h : Acts s0 s P) (f : Iwu → Iwu) (hp : Part.inputs ∈ P) : Acts s0 (s.modIwu f) P := h.setIwu _ hp
@[simp ↓] theorem Acts.tickFree (h : Acts s0 s P) (hp : Part.free ∈ P) : Acts s0 (s.tickFree) P := h.setFree _ hp

@[simp ↓] theorem Acts.touch (h : Acts s0 s P) (p : MirrorPart) (e : Nat) : Acts s0 (s.touch p e) P :=
  h.quiet (fun q _ => by cases q <;> simp [Part.kept]) ⟨rfl, rfl, rfl⟩ rfl
@[simp ↓] theorem Acts.writeWhole (h : Acts s0 s P) (p : MirrorPart) : Acts s0 (s.writeWhole p) P :=
  h.quiet (fun q _ => by cases q <;> simp [Part.kept]) ⟨rfl, rfl, rfl⟩ rfl

/-! ## Notices and memory -/

theorem Ntc.raise_source (s : State) (c : Cause) (d : Nat) (i : Fin 13) :
    (s.raise c d).ntc.sources[i] =
      if i = c.source then s.ntc.sources[i].gather c.bit (BitVec.ofNat 16 d) (s.ntc.presented == some c.source) else s.ntc.sources[i] := by
  by_cases e : c.source = i
  · subst e; simp [State.raise]
  · have e' : c.source.val ≠ i.val := fun x => e (Fin.ext x)
    simp [State.raise, e', Ne.symm e]

theorem SourceRec.or_ne {x : Half} (y : Half) (h : x ≠ 0) : x ||| y ≠ 0 := by
  intro h'
  apply h
  ext i hi
  have := congrArg (fun z : Half => z.getLsbD i) h'
  simp only [BitVec.getLsbD_or] at this
  simp_all

theorem Ntc.grows_raise (s : State) (c : Cause) (d : Nat) : s.ntc.Grows (s.raise c d).ntc := by
  refine ⟨rfl, rfl, fun i h => ?_, fun i n h => ?_, fun i h => ?_, fun i h => ?_⟩ <;> rw [Ntc.raise_source] <;> split
  · rfl
  · exact h
  · simp only [SourceRec.gather, BitVec.getLsbD_or, h, Bool.true_or]
  · exact h
  · simp only [SourceRec.gather, h, Bool.true_or]
  · exact h
  · exact ⟨by simp only [SourceRec.gather, if_neg h], SourceRec.or_ne _ h⟩
  · exact ⟨rfl, h⟩

@[simp ↓] theorem Acts.raise (h : Acts s0 s P) (c : Cause) (d : Nat) (hp : Part.notices ∈ P) : Acts s0 (s.raise c d) P := by
  refine ⟨fun q hq => Part.kept_trans (h.frame q hq) ?_, h.memory, h.mirrors, h.notices.trans (Ntc.grows_raise s c d)⟩
  cases q <;> first | rfl | exact ⟨rfl, rfl⟩ | exact absurd hp hq

/-- What a store to exchange memory leaves alone. -/
theorem Acts.stored (h : Acts s0 s P) (hp : [Part.memory, .parity] ⊆ P) (hk : ∀ p, p ∉ [Part.memory, .parity] → p.kept s t)
    (hm : s.memoryOk → t.memoryOk) (hg : t.mirrors = s.mirrors) (hn : t.ntc = s.ntc) : Acts s0 t P :=
  ⟨fun q hq => Part.kept_trans (h.frame q hq) (hk q fun hx => hq (hp hx)), fun m => hm (h.memory m),
    by rw [hg]; exact h.mirrors, by rw [hn]; exact h.notices⟩

@[simp ↓] theorem Acts.writeByte (h : Acts s0 s P) (a : Nat) (v : Byte) (hp : [Part.memory, .parity] ⊆ P) :
    Acts s0 (s.writeByte a v) P :=
  h.stored hp (fun q hq => by cases q <;> simp_all [Part.kept]) (fun m => State.memoryOk_writeByte m a v) rfl rfl
@[simp ↓] theorem Acts.writeHalf (h : Acts s0 s P) (a : Nat) (v : Half) (hp : [Part.memory, .parity] ⊆ P) :
    Acts s0 (s.writeHalf a v) P :=
  h.stored hp (fun q hq => by cases q <;> simp_all [Part.kept]) (fun m => State.memoryOk_writeHalf m a v) rfl rfl
@[simp ↓] theorem Acts.writeBytes (h : Acts s0 s P) (a : Nat) (l : List Byte) (hp : [Part.memory, .parity] ⊆ P) :
    Acts s0 (s.writeBytes a l) P :=
  h.stored hp (fun q hq => by cases q <;> simp_all [Part.kept]) (fun m => State.memoryOk_writeBytes m a l) (by simp) (by simp)
@[simp ↓] theorem Acts.writeAt (h : Acts s0 s P) (a : Nat) (l : List (Nat × Byte)) (hp : [Part.memory, .parity] ⊆ P) :
    Acts s0 (s.writeAt a l) P :=
  h.stored hp (fun q hq => by cases q <;> simp_all [Part.kept]) (fun m => State.memoryOk_writeAt m a l) (by simp) (by simp)

/-! ## Memory -/

/-! ## Ops -/

@[simp ↓] theorem Acts.raisePos (ha : Acts s0 s P) (side : Side) (c : PosCause) (detail : Nat) (hp : Part.notices ∈ P) :
    Acts s0 (s.raisePos side c detail) P := by
  simp (maxDischargeDepth := 12) [State.raisePos, ha, hp]

@[simp ↓] theorem Acts.raiseLane (ha : Acts s0 s P) (l : LaneId) (c : LaneCause) (detail : Nat) (hp : Part.notices ∈ P) :
    Acts s0 (s.raiseLane l c detail) P := by
  simp (maxDischargeDepth := 12) [State.raiseLane, ha, hp]

/-! ## Walker -/

@[simp ↓] theorem Acts.haltLane (ha : Acts s0 s P) (l : LaneId) (reason : HaltReason) (off : Nat) (hp : [Part.lanes, .notices] ⊆ P) :
    Acts s0 (s.haltLane l reason off) P := by
  simp only [List.cons_subset] at hp
  simp (maxDischargeDepth := 12) [State.haltLane, ha, hp]

@[simp ↓] theorem Acts.markFinished (ha : Acts s0 s P) (l : LaneId) (off : Nat) (note : Bool) (o : CardOutcome) (st : CardState) (hp : [Part.memory, .parity, .lanes, .notices] ⊆ P) :
    Acts s0 (s.markFinished l off note o st) P := by
  simp only [List.cons_subset] at hp
  simp (maxDischargeDepth := 12) [State.markFinished, ha, hp]

@[simp ↓] theorem Acts.closeCard (ha : Acts s0 s P) (l : LaneId) (off : Nat) (note : Bool) (results : List (Nat × Byte)) (o : CardOutcome) (hp : [Part.memory, .parity, .lanes, .notices] ⊆ P) :
    Acts s0 (s.closeCard l off note results o) P := by
  simp only [List.cons_subset] at hp
  simp (maxDischargeDepth := 12) [State.closeCard, ha, hp]

@[simp ↓] theorem Acts.moveOn (ha : Acts s0 s P) (l : LaneId) (off : Nat) (link : LinkRead) (hp : [Part.lanes, .notices] ⊆ P) :
    Acts s0 (s.moveOn l off link).1 P := by
  simp only [List.cons_subset] at hp
  unfold State.moveOn; (repeat' split) <;> simp (maxDischargeDepth := 12) [ha, hp]

@[simp ↓] theorem Acts.walk (h : Acts s0 s P) (n : Nat) (l : LaneId) (hp : [Part.memory, .parity, .lanes, .notices] ⊆ P) :
    Acts s0 (State.walk n s l) P := by
  simp only [List.cons_subset] at hp
  induction n generalizing s with
  | zero => exact h
  | succ n ih => unfold State.walk; dsimp only; (repeat' split) <;> simp (maxDischargeDepth := 12) [h, hp, ih]

@[simp ↓] theorem Acts.follow {r : State × Bool} (h : Acts s0 r.1 P) (l : LaneId)
    (hp : [Part.memory, .parity, .lanes, .notices] ⊆ P) : Acts s0 (State.follow r l) P := by
  unfold State.follow; split <;> simp (maxDischargeDepth := 12) [h, hp]

@[simp ↓] theorem Acts.finishCard (ha : Acts s0 s P) (l : LaneId) (results : List (Nat × Byte)) (o : CardOutcome) (hp : [Part.memory, .parity, .lanes, .notices] ⊆ P) :
    Acts s0 (s.finishCard l results o) P := by
  simp only [List.cons_subset] at hp
  unfold State.finishCard; split <;> simp (maxDischargeDepth := 12) [ha, hp]

@[simp ↓] theorem Acts.refuseCard (ha : Acts s0 s P) (l : LaneId) (o : CardOutcome) (hp : [Part.memory, .parity, .lanes, .notices] ⊆ P) :
    Acts s0 (s.refuseCard l o) P := by
  simp only [List.cons_subset] at hp
  unfold State.refuseCard; split <;> simp (maxDischargeDepth := 12) [ha, hp]

@[simp ↓] theorem Acts.abortCard (ha : Acts s0 s P) (l : LaneId) (hp : [Part.memory, .parity, .lanes, .notices] ⊆ P) :
    Acts s0 (s.abortCard l) P := by
  simp only [List.cons_subset] at hp
  unfold State.abortCard; split <;> simp (maxDischargeDepth := 12) [ha, hp]

@[simp ↓] theorem Acts.waitCard (h : Acts s0 s P) (l : LaneId) (undo : State → State)
    (hu : ∀ t, Acts s0 t P → Acts s0 (undo t) P) (hp : [Part.memory, .parity, .lanes, .notices] ⊆ P) :
    Acts s0 (s.waitCard l undo) P := by
  simp only [List.cons_subset] at hp
  unfold State.waitCard; split
  · exact hu _ (by simp (maxDischargeDepth := 12) [h, hp])
  · simp (maxDischargeDepth := 12) [h, hp]

@[simp ↓] theorem Acts.storeCard (ha : Acts s0 s P) (l : LaneId) (hp : Part.lanes ∈ P) :
    Acts s0 (s.storeCard l) P := by
  simp (maxDischargeDepth := 12) [State.storeCard, ha, hp]

@[simp ↓] theorem Acts.dropCard (ha : Acts s0 s P) (l : LaneId) (hp : Part.lanes ∈ P) :
    Acts s0 (s.dropCard l) P := by
  simp (maxDischargeDepth := 12) [State.dropCard, ha, hp]

@[simp ↓] theorem Acts.endWaiting (ha : Acts s0 s P) (k : Kind) (results : List (Nat × Byte)) (o : CardOutcome) (hp : [Part.memory, .parity, .lanes, .notices] ⊆ P) :
    Acts s0 (s.endWaiting k results o) P := by
  simp only [List.cons_subset] at hp
  simp (maxDischargeDepth := 12) [State.endWaiting, ha, hp]

@[simp ↓] theorem Acts.endStored (ha : Acts s0 s P) (l : LaneId) (off : Nat) (hp : [Part.memory, .parity, .lanes, .notices] ⊆ P) :
    Acts s0 (s.endStored l off) P := by
  simp only [List.cons_subset] at hp
  unfold State.endStored; split <;> simp (maxDischargeDepth := 12) [ha, hp]

@[simp ↓] theorem Acts.withCard (h : Acts s0 s P) (k : Kind) (f : Nat → Card → State → State)
    (hf : ∀ off c t, Acts s0 t P → Acts s0 (f off c t) P) : Acts s0 (s.withCard k f) P := by
  unfold State.withCard; (repeat' split) <;> simp_all

@[simp ↓] theorem Acts.armCard (ha : Acts s0 s P) (off : Nat) (card : Card) (buffer : Nat) (hp : [Part.memory, .parity, .lanes, .notices, .reader] ⊆ P) :
    Acts s0 (s.armCard off card buffer) P := by
  simp only [List.cons_subset] at hp
  simp (maxDischargeDepth := 12) [State.armCard, ha, hp]

@[simp ↓] theorem Acts.finishArmed (ha : Acts s0 s P) (e : Armed) (results : List (Nat × Byte)) (o : CardOutcome) (hp : [Part.memory, .parity, .lanes, .notices] ⊆ P) :
    Acts s0 (s.finishArmed e results o) P := by
  simp only [List.cons_subset] at hp
  simp (maxDischargeDepth := 12) [State.finishArmed, ha, hp]

/-! ## Store -/

@[simp ↓] theorem Acts.requestStep (ha : Acts s0 s P) (records : List RecordId) (who : List Requester) (hp : Part.store ∈ P) :
    Acts s0 (s.requestStep records who) P := by
  simp (maxDischargeDepth := 12) [State.requestStep, ha, hp]

@[simp ↓] theorem Acts.dismiss (ha : Acts s0 s P) (gone : Requester → Bool) (hp : Part.store ∈ P) :
    Acts s0 (s.dismiss gone) P := by
  simp (maxDischargeDepth := 12) [State.dismiss, ha, hp]

@[simp ↓] theorem Acts.beginStep (ha : Acts s0 s P) (hp : Part.store ∈ P) :
    Acts s0 (s.beginStep).1 P := by
  unfold State.beginStep; (repeat' split) <;> simp (maxDischargeDepth := 12) [ha, hp]

@[simp ↓] theorem Acts.endStep (ha : Acts s0 s P) (hp : Part.store ∈ P) :
    Acts s0 (s.endStep).1 P := by
  unfold State.endStep; split <;> simp (maxDischargeDepth := 12) [ha, hp]

/-! ## Display -/

@[simp ↓] theorem Acts.updateField (ha : Acts s0 s P) (side : Side) (f : FieldId) (c : Content) (hp : Part.displays ∈ P) :
    Acts s0 (s.updateField side f c) P := by
  simp (maxDischargeDepth := 12) [State.updateField, ha, hp]

@[simp ↓] theorem Acts.postField (ha : Acts s0 s P) (side : Side) (f : FieldId) (c : Content) (hp : Part.displays ∈ P) :
    Acts s0 (s.postField side f c) P := by
  simp (maxDischargeDepth := 12) [State.postField, ha, hp]

@[simp ↓] theorem Acts.postGrade (ha : Acts s0 s P) (side : Side) (h : HoseNo) (hp : Part.displays ∈ P) :
    Acts s0 (s.postGrade side h) P := by
  simp (maxDischargeDepth := 12) [State.postGrade, ha, hp]

@[simp ↓] theorem Acts.updateGrade (ha : Acts s0 s P) (side : Side) (h : HoseNo) (hp : Part.displays ∈ P) :
    Acts s0 (s.updateGrade side h) P := by
  simp (maxDischargeDepth := 12) [State.updateGrade, ha, hp]

@[simp ↓] theorem Acts.sendLegal (ha : Acts s0 s P) (side : Side) (hp : Part.displays ∈ P) :
    Acts s0 (s.sendLegal side) P := by
  unfold State.sendLegal; (repeat' split) <;> simp_all (maxDischargeDepth := 12)

@[simp ↓] theorem Acts.sendContents (ha : Acts s0 s P) (side : Side) (hp : Part.displays ∈ P) :
    Acts s0 (s.sendContents side) P := by
  unfold State.sendContents; (repeat' split) <;> simp_all (maxDischargeDepth := 12)

@[simp ↓] theorem Acts.postAll (ha : Acts s0 s P) (side : Side) (fs : List FieldId) (c : FieldId → Content) (hp : Part.displays ∈ P) :
    Acts s0 (s.postAll side fs c) P := by
  unfold State.postAll; simp_all (maxDischargeDepth := 12)

@[simp ↓] theorem Acts.postSegment (ha : Acts s0 s P) (side : Side) (c : FieldId → Content) (hp : Part.displays ∈ P) :
    Acts s0 (s.postSegment side c) P := by
  unfold State.postSegment; simp_all (maxDischargeDepth := 12)

@[simp ↓] theorem Acts.beginStartCheck (ha : Acts s0 s P) (side : Side) (e : Nat) (hp : Part.displays ∈ P) :
    Acts s0 (s.beginStartCheck side e) P := by
  simp (maxDischargeDepth := 12) [State.beginStartCheck, ha, hp]

@[simp ↓] theorem Acts.requestSegment (ha : Acts s0 s P) (side : Side) (openPosition : Bool) (stage : Bool) (hp : Part.displays ∈ P) :
    Acts s0 (s.requestSegment side openPosition stage) P := by
  unfold State.requestSegment; split <;> simp (maxDischargeDepth := 12) [ha, hp]

@[simp ↓] theorem Acts.dropTest (ha : Acts s0 s P) (side : Side) (hp : Part.displays ∈ P) :
    Acts s0 (s.dropTest side) P := by
  simp (maxDischargeDepth := 12) [State.dropTest, ha, hp]

@[simp ↓] theorem Acts.serve (ha : Acts s0 s P) (side : Side) (hp : Part.displays ∈ P) :
    Acts s0 (s.serve side) P := by
  unfold State.serve; (repeat' split) <;> simp (maxDischargeDepth := 12) [ha, hp]

@[simp ↓] theorem Acts.refreshBoard (ha : Acts s0 s P) (side : Side) (hp : Part.displays ∈ P) :
    Acts s0 (s.refreshBoard side) P := by
  simp (maxDischargeDepth := 12) [State.refreshBoard, ha, hp]

@[simp ↓] theorem Acts.setPace (ha : Acts s0 s P) (side : Side) (hp : Part.displays ∈ P) :
    Acts s0 (s.setPace side) P := by
  simp (maxDischargeDepth := 12) [State.setPace, ha, hp]

/-! ## Price -/

@[simp ↓] theorem Acts.refreshPanel (ha : Acts s0 s P) (side : Side) (g : Fin 8) (hp : Part.prices ∈ P) :
    Acts s0 (s.refreshPanel side g) P := by
  simp (maxDischargeDepth := 12) [State.refreshPanel, ha, hp]

@[simp ↓] theorem Acts.refreshSide (ha : Acts s0 s P) (side : Side) (hp : Part.prices ∈ P) :
    Acts s0 (s.refreshSide side) P := by
  unfold State.refreshSide; simp_all (maxDischargeDepth := 12)

@[simp ↓] theorem Acts.reportFields (ha : Acts s0 s P) (side : Side) (before : Fields) (hp : Part.prices ∈ P) :
    Acts s0 (s.reportFields side before) P := by
  unfold State.reportFields
  refine Acts.foldl (fun s g hs => ?_) ha _
  split <;> simp [hs, hp]

@[simp ↓] theorem Acts.finishLoad (ha : Acts s0 s P) (hp : [Part.memory, .parity, .lanes, .notices, .prices] ⊆ P) :
    Acts s0 (s.finishLoad) P := by
  simp only [List.cons_subset] at hp
  unfold State.finishLoad; split <;> simp (maxDischargeDepth := 12) [ha, hp]

theorem Acts.reporting (ha : Acts s0 s P) (side : Side) (f : State → State) (hf : ∀ {s}, Acts s0 s P → Acts s0 (f s) P)
    (hp : [Part.memory, .parity, .lanes, .notices, .prices] ⊆ P) : Acts s0 (s.reporting side f) P :=
  ((hf ha).reportFields side _ (hp (by decide))).finishLoad hp

@[simp ↓] theorem Acts.restoreGrade (ha : Acts s0 s P) (side : Side) (h : HoseNo)
    (hp : [Part.memory, .parity, .lanes, .notices, .prices, .displays] ⊆ P) : Acts s0 (s.restoreGrade side h) P :=
  ha.reporting side _ (fun h => h.updateGrade side _ (hp (by decide))) (fun _ h => hp (by revert h; simp only [List.mem_cons]; tauto))

@[simp ↓] theorem Acts.sendHeld (ha : Acts s0 s P) (side : Side) (h : HoseNo)
    (hp : [Part.memory, .parity, .lanes, .notices, .prices, .displays] ⊆ P) : Acts s0 (s.sendHeld side h) P := by
  have hd : Part.displays ∈ P := hp (by decide)
  unfold State.sendHeld
  split
  · exact ha.reporting side _ (fun h => (h.modBoard side _ hd).postGrade side _ hd)
      (fun _ h => hp (by revert h; simp only [List.mem_cons]; tauto))
  · exact ha

@[simp ↓] theorem Acts.restoreGrades (ha : Acts s0 s P) (side : Side)
    (hp : [Part.memory, .parity, .lanes, .notices, .prices, .displays] ⊆ P) : Acts s0 (s.restoreGrades side) P :=
  Acts.foldl (fun _ h hs => hs.sendHeld side h hp) (Acts.foldl (fun _ h hs => hs.restoreGrade side h hp) ha _) _

@[simp ↓] theorem Acts.serveLink (ha : Acts s0 s P) (side : Side) (hp : [Part.prices, .displays] ⊆ P) :
    Acts s0 (s.serveLink side) P := by
  simp only [List.cons_subset] at hp
  simp (maxDischargeDepth := 12) [State.serveLink, ha, hp]

@[simp ↓] theorem Acts.refreshPanels (ha : Acts s0 s P) (hp : Part.prices ∈ P) :
    Acts s0 (s.refreshPanels) P := by
  simp (maxDischargeDepth := 12) [State.refreshPanels, ha, hp]

@[simp ↓] theorem Acts.postPanels (ha : Acts s0 s P) (g : Fin 8) (hp : [Part.prices, .displays] ⊆ P) :
    Acts s0 (s.postPanels g) P := by
  simp only [List.cons_subset] at hp
  unfold State.postPanels; simp_all (maxDischargeDepth := 12)

@[simp ↓] theorem Acts.applyPrice (ha : Acts s0 s P) (g : Fin 8) (price : Nat) (code : RoundCode) (hp : [Part.prices, .displays, .store] ⊆ P) :
    Acts s0 (s.applyPrice g price code) P := by
  simp only [List.cons_subset] at hp
  simp (maxDischargeDepth := 12) [State.applyPrice, ha, hp]

@[simp ↓] theorem Acts.applyPrices (ha : Acts s0 s P) (hp : [Part.prices, .displays, .store] ⊆ P) :
    Acts s0 (s.applyPrices) P := by
  simp only [List.cons_subset] at hp
  unfold State.applyPrices
  refine Acts.foldl (fun s g hs => ?_) ha _
  (repeat' split) <;> simp [hs, hp]

@[simp ↓] theorem Acts.undoLoad (ha : Acts s0 s P) (hp : [Part.prices, .store] ⊆ P) :
    Acts s0 (s.undoLoad) P := by
  simp only [List.cons_subset] at hp
  unfold State.undoLoad; split <;> simp (maxDischargeDepth := 12) [ha, hp]

@[simp ↓] theorem Acts.changeMember (ha : Acts s0 s P) (side : Side) (h : HoseNo) (old : HoseRoute) (hp : Part.displays ∈ P) :
    Acts s0 (s.changeMember side h old) P := by
  unfold State.changeMember; dsimp only; (repeat' split) <;> simp (maxDischargeDepth := 12) [ha, hp]

@[simp ↓] theorem Acts.membershipChange (ha : Acts s0 s P) (side : Side) (h : HoseNo) (old : HoseRoute) (hp : [Part.prices, .displays] ⊆ P) :
    Acts s0 (s.membershipChange side h old) P := by
  simp only [List.cons_subset] at hp
  simp (maxDischargeDepth := 12) [State.membershipChange, ha, hp]

/-! ## Position -/

@[simp ↓] theorem Acts.setFlag (ha : Acts s0 s P) (side : Side) (c : PosCause) (h : HoseNo) (hp : [Part.notices, .positions] ⊆ P) :
    Acts s0 (s.setFlag side c h) P := by
  simp only [List.cons_subset] at hp
  simp (maxDischargeDepth := 12) [State.setFlag, ha, hp]

@[simp ↓] theorem Acts.closePos (ha : Acts s0 s P) (side : Side) (r : CloseReason) (hp : [Part.notices, .positions] ⊆ P) :
    Acts s0 (s.closePos side r) P := by
  simp only [List.cons_subset] at hp
  simp (maxDischargeDepth := 12) [State.closePos, ha, hp]

@[simp ↓] theorem Acts.setReason (ha : Acts s0 s P) (side : Side) (r : CloseReason) (hp : Part.positions ∈ P) :
    Acts s0 (s.setReason side r) P := by
  simp (maxDischargeDepth := 12) [State.setReason, ha, hp]

@[simp ↓] theorem Acts.closeIfClosing (ha : Acts s0 s P) (side : Side) (hp : [Part.notices, .positions] ⊆ P) :
    Acts s0 (s.closeIfClosing side) P := by
  simp only [List.cons_subset] at hp
  simp (maxDischargeDepth := 12) [State.closeIfClosing, ha, hp]

@[simp ↓] theorem Acts.enterIdle (ha : Acts s0 s P) (side : Side) (hp : Part.positions ∈ P) :
    Acts s0 (s.enterIdle side) P := by
  simp (maxDischargeDepth := 12) [State.enterIdle, ha, hp]

@[simp ↓] theorem Acts.arriveOpen (ha : Acts s0 s P) (side : Side) (hp : [Part.notices, .positions] ⊆ P) :
    Acts s0 (s.arriveOpen side) P := by
  simp only [List.cons_subset] at hp
  simp (maxDischargeDepth := 12) [State.arriveOpen, ha, hp]

@[simp ↓] theorem Acts.arriveAuthorized (ha : Acts s0 s P) (side : Side) (a : Authorization) (hp : [Part.notices, .positions] ⊆ P) :
    Acts s0 (s.arriveAuthorized side a) P := by
  simp only [List.cons_subset] at hp
  simp (maxDischargeDepth := 12) [State.arriveAuthorized, ha, hp]

@[simp ↓] theorem Acts.modSale (ha : Acts s0 s P) (side : Side) (f : Sale → Sale) (hp : [Part.positions, .prices] ⊆ P) :
    Acts s0 (s.modSale side f) P := by
  simp only [List.cons_subset] at hp
  unfold State.modSale; split <;> simp (maxDischargeDepth := 12) [ha, hp]

@[simp ↓] theorem Acts.grant (ha : Acts s0 s P) (side : Side) (m : MeterNo) (role : Role) (hp : [Part.meters, .positions, .prices] ⊆ P) :
    Acts s0 (s.grant side m role) P := by
  simp only [List.cons_subset] at hp
  simp (maxDischargeDepth := 12) [State.grant, ha, hp]

@[simp ↓] theorem Acts.requestSatellite (ha : Acts s0 s P) (side : Side) (hp : [Part.notices, .meters, .positions, .prices] ⊆ P) :
    Acts s0 (s.requestSatellite side) P := by
  simp only [List.cons_subset] at hp
  unfold State.requestSatellite; dsimp only; (repeat' split) <;> simp (maxDischargeDepth := 12) [ha, hp]

@[simp ↓] theorem Acts.releaseClaims (ha : Acts s0 s P) (side : Side) (returning : Bool) (hp : [Part.meters, .positions] ⊆ P) :
    Acts s0 (s.releaseClaims side returning) P := by
  simp only [List.cons_subset] at hp
  unfold State.releaseClaims; (repeat' split) <;> simp_all (maxDischargeDepth := 12)

@[simp ↓] theorem Acts.withdrawCheck (ha : Acts s0 s P) (side : Side) (hp : Part.displays ∈ P) :
    Acts s0 (s.withdrawCheck side) P := by
  unfold State.withdrawCheck; split <;> simp (maxDischargeDepth := 12) [ha, hp]

@[simp ↓] theorem Acts.abandonStart (ha : Acts s0 s P) (side : Side) (hp : [Part.meters, .positions, .displays] ⊆ P) :
    Acts s0 (s.abandonStart side) P := by
  simp only [List.cons_subset] at hp
  simp (maxDischargeDepth := 12) [State.abandonStart, ha, hp]

@[simp ↓] theorem Acts.fallBack (ha : Acts s0 s P) (side : Side) (result : StartResult) (detail : Nat) (hp : [Part.notices, .meters, .positions, .displays] ⊆ P) :
    Acts s0 (s.fallBack side result detail) P := by
  simp only [List.cons_subset] at hp
  unfold State.fallBack; dsimp only; split <;> simp (maxDischargeDepth := 12) [ha, hp]

@[simp ↓] theorem Acts.start (ha : Acts s0 s P) (side : Side) (h : HoseNo) (a : Authorization) (hp : [Part.notices, .meters, .positions, .prices, .displays] ⊆ P) :
    Acts s0 (s.start side h a) P := by
  simp only [List.cons_subset] at hp
  unfold State.start; dsimp only; (repeat' split) <;> simp_all (maxDischargeDepth := 12)

@[simp ↓] theorem Acts.lockSale (ha : Acts s0 s P) (side : Side) (price : Nat) (hp : [Part.positions, .prices, .displays] ⊆ P) :
    Acts s0 (s.lockSale side price) P := by
  simp only [List.cons_subset] at hp
  unfold State.lockSale; dsimp only; split <;> simp (maxDischargeDepth := 12) [ha, hp]

@[simp ↓] theorem Acts.gate (ha : Acts s0 s P) (side : Side) (hp : [Part.notices, .meters, .positions, .prices, .displays] ⊆ P) :
    Acts s0 (s.gate side) P := by
  simp only [List.cons_subset] at hp
  unfold State.gate; dsimp only; (repeat' split) <;> simp (maxDischargeDepth := 12) [ha, hp]

@[simp ↓] theorem Acts.endSale (ha : Acts s0 s P) (side : Side) (r : StopReason) (hp : [Part.positions, .prices] ⊆ P) :
    Acts s0 (s.endSale side r) P := by
  simp only [List.cons_subset] at hp
  simp (maxDischargeDepth := 12) [State.endSale, ha, hp]

@[simp ↓] theorem Acts.openValves (ha : Acts s0 s P) (side : Side) (hp : [Part.positions, .prices] ⊆ P) :
    Acts s0 (s.openValves side) P := by
  simp only [List.cons_subset] at hp
  unfold State.openValves; (repeat' split) <;> simp (maxDischargeDepth := 12) [ha, hp]

@[simp ↓] theorem Acts.checkComplete (ha : Acts s0 s P) (side : Side) (hp : [Part.positions, .prices] ⊆ P) :
    Acts s0 (s.checkComplete side) P := by
  simp only [List.cons_subset] at hp
  simp (maxDischargeDepth := 12) [State.checkComplete, ha, hp]

@[simp ↓] theorem Acts.trigger (ha : Acts s0 s P) (side : Side) (h : HoseNo) (lift : Bool) (hp : [Part.notices, .meters, .positions, .prices, .displays] ⊆ P) :
    Acts s0 (s.trigger side h lift) P := by
  simp only [List.cons_subset] at hp
  unfold State.trigger; split <;> simp (maxDischargeDepth := 12) [ha, hp]

@[simp ↓] theorem Acts.lift (ha : Acts s0 s P) (side : Side) (h : HoseNo) (hp : [Part.notices, .meters, .positions, .prices, .displays] ⊆ P) :
    Acts s0 (s.lift side h) P := by
  simp only [List.cons_subset] at hp
  unfold State.lift; split <;> simp (maxDischargeDepth := 12) [ha, hp]

@[simp ↓] theorem Acts.hang (ha : Acts s0 s P) (side : Side) (h : HoseNo) (hp : [Part.notices, .meters, .positions, .prices, .displays] ⊆ P) :
    Acts s0 (s.hang side h) P := by
  simp only [List.cons_subset] at hp
  unfold State.hang; dsimp only; split <;> simp (maxDischargeDepth := 12) [ha, hp]

@[simp ↓] theorem Acts.checkBlend (ha : Acts s0 s P) (side : Side) (hp : [Part.positions, .prices] ⊆ P) :
    Acts s0 (s.checkBlend side).1 P := by
  simp only [List.cons_subset] at hp
  unfold State.checkBlend; split <;> simp (maxDischargeDepth := 12) [ha, hp]

@[simp ↓] theorem Acts.pickStop (ha : Acts s0 s P) (l : List StopReason) (hp : Part.free ∈ P) : Acts s0 (s.pickStop l).1 P := by
  unfold State.pickStop; split <;> simp [ha, hp]
@[simp ↓] theorem Acts.dispensed (ha : Acts s0 s P) (side : Side) (m : MeterNo) (forward : Bool) (hp : [Part.positions, .prices, .free] ⊆ P) :
    Acts s0 (s.dispensed side m forward) P := by
  simp only [List.cons_subset] at hp
  unfold State.dispensed; dsimp only; (repeat' split) <;> simp (maxDischargeDepth := 12) [ha, hp]

@[simp ↓] theorem Acts.deliver (ha : Acts s0 s P) (side : Side) (m : MeterNo) (forward : Bool) (hp : [Part.notices, .meters, .positions, .prices, .displays, .free] ⊆ P) :
    Acts s0 (s.deliver side m forward) P := by
  simp only [List.cons_subset] at hp
  simp (maxDischargeDepth := 12) [State.deliver, ha, hp]

@[simp ↓] theorem Acts.meterFaultReport (ha : Acts s0 s P) (side : Side) (m : MeterNo) (hp : [Part.notices, .meters, .positions, .prices, .displays] ⊆ P) :
    Acts s0 (s.meterFaultReport side m) P := by
  simp only [List.cons_subset] at hp
  simp (maxDischargeDepth := 12) [State.meterFaultReport, ha, hp]

@[simp ↓] theorem Acts.emergencyAt (ha : Acts s0 s P) (side : Side) (hp : [Part.notices, .meters, .positions, .prices, .displays] ⊆ P) :
    Acts s0 (s.emergencyAt side) P := by
  simp only [List.cons_subset] at hp
  simp (maxDischargeDepth := 12) [State.emergencyAt, ha, hp]

@[simp ↓] theorem Acts.startCheckFailed (ha : Acts s0 s P) (side : Side) (hp : [Part.notices, .meters, .positions, .displays] ⊆ P) :
    Acts s0 (s.startCheckFailed side) P := by
  simp only [List.cons_subset] at hp
  simp (maxDischargeDepth := 12) [State.startCheckFailed, ha, hp]

@[simp ↓] theorem Acts.sideFault (ha : Acts s0 s P) (side : Side) (hp : [Part.notices, .meters, .positions, .prices, .displays] ⊆ P) :
    Acts s0 (s.sideFault side) P := by
  simp only [List.cons_subset] at hp
  unfold State.sideFault; dsimp only; split <;> simp (maxDischargeDepth := 12) [ha, hp]

@[simp ↓] theorem Acts.addTotals (ha : Acts s0 s P) (side : Side) (e : EndedSale) (hp : Part.store ∈ P) :
    Acts s0 (s.addTotals side e) P := by
  simp (maxDischargeDepth := 12) [State.addTotals, ha, hp]

@[simp ↓] theorem Acts.finishSale (ha : Acts s0 s P) (side : Side) (e : EndedSale) (hp : [Part.meters, .positions, .store] ⊆ P) :
    Acts s0 (s.finishSale side e) P := by
  simp only [List.cons_subset] at hp
  simp (maxDischargeDepth := 12) [State.finishSale, ha, hp]

@[simp ↓] theorem Acts.completeEnding (ha : Acts s0 s P) (side : Side) (hp : [Part.notices, .meters, .positions, .prices, .displays, .store] ⊆ P) :
    Acts s0 (s.completeEnding side) P := by
  simp only [List.cons_subset] at hp
  unfold State.completeEnding; dsimp only; (repeat' split) <;> simp (maxDischargeDepth := 12) [ha, hp]

@[simp ↓] theorem Acts.freezePosition (ha : Acts s0 s P) (side : Side) (hp : [Part.notices, .meters, .positions, .store] ⊆ P) :
    Acts s0 (s.freezePosition side).1 P := by
  simp only [List.cons_subset] at hp
  unfold State.freezePosition; split <;> simp (maxDischargeDepth := 12) [ha, hp]

@[simp ↓] theorem Acts.quarantineAt (ha : Acts s0 s P) (side : Side) (hp : [Part.notices, .meters, .positions, .displays] ⊆ P) :
    Acts s0 (s.quarantineAt side) P := by
  simp only [List.cons_subset] at hp
  simp (maxDischargeDepth := 12) [State.quarantineAt, ha, hp]

@[simp ↓] theorem Acts.powerDownAt (ha : Acts s0 s P) (side : Side) (hp : [Part.notices, .meters, .positions, .displays] ⊆ P) :
    Acts s0 (s.powerDownAt side) P := by
  simp only [List.cons_subset] at hp
  simp (maxDischargeDepth := 12) [State.powerDownAt, ha, hp]

@[simp ↓] theorem Acts.closingAt (ha : Acts s0 s P) (side : Side) (hp : [Part.notices, .positions] ⊆ P) :
    Acts s0 (s.closingAt side) P := by
  simp only [List.cons_subset] at hp
  unfold State.closingAt; split <;> simp (maxDischargeDepth := 12) [ha, hp]

@[simp ↓] theorem Acts.release (ha : Acts s0 s P) (side : Side) (r : CloseReason) (hp : Part.positions ∈ P) :
    Acts s0 (s.release side r).1 P := by
  unfold State.release; (repeat' split) <;> simp (maxDischargeDepth := 12) [ha, hp]

@[simp ↓] theorem Acts.wakingAt (ha : Acts s0 s P) (side : Side) (hp : Part.positions ∈ P) :
    Acts s0 (s.wakingAt side) P := by
  unfold State.wakingAt; split <;> simp (maxDischargeDepth := 12) [ha, hp]

end Sys2Proof.Machine
end

