-- ==== Sys2Proof/Laws/FrameSite.lean ====
section
/-! SUPPORT. What the operations of the reader, the site, the links and the end of an event can touch. -/
namespace Sys2Proof.Machine

variable {s0 s t u : State} {P Q : List Part}

/-! ## Reader -/

@[simp ↓] theorem Acts.finishSend (ha : Acts s0 s P) (x : Send) (o : CardOutcome) (hp : [Part.memory, .parity, .lanes, .notices, .reader] ⊆ P) :
    Acts s0 (s.finishSend x o) P := by
  simp only [List.cons_subset] at hp
  simp (maxDischargeDepth := 12) [State.finishSend, ha, hp]

@[simp ↓] theorem Acts.cutSend (ha : Acts s0 s P) (hp : [Part.memory, .parity, .lanes, .notices, .reader] ⊆ P) :
    Acts s0 (s.cutSend) P := by
  simp only [List.cons_subset] at hp
  unfold State.cutSend; split <;> simp (maxDischargeDepth := 12) [ha, hp]

@[simp ↓] theorem Acts.withdrawArmed (ha : Acts s0 s P) (hp : [Part.memory, .parity, .lanes, .notices, .reader] ⊆ P) :
    Acts s0 (s.withdrawArmed) P := by
  simp only [List.cons_subset] at hp
  unfold State.withdrawArmed; simp_all (maxDischargeDepth := 12)

@[simp ↓] theorem Acts.shutGate (ha : Acts s0 s P) (hp : Part.reader ∈ P) :
    Acts s0 (s.shutGate) P := by
  simp (maxDischargeDepth := 12) [State.shutGate, ha, hp]

@[simp ↓] theorem Acts.setDomain (ha : Acts s0 s P) (d : Domain) (hp : Part.reader ∈ P) :
    Acts s0 (s.setDomain d) P := by
  simp (maxDischargeDepth := 12) [State.setDomain, ha, hp]

@[simp ↓] theorem Acts.closeReaderLink (ha : Acts s0 s P) (hp : [Part.memory, .parity, .lanes, .notices, .reader] ⊆ P) :
    Acts s0 (s.closeReaderLink) P := by
  simp only [List.cons_subset] at hp
  simp (maxDischargeDepth := 12) [State.closeReaderLink, ha, hp]

@[simp ↓] theorem Acts.openReaderLink (ha : Acts s0 s P) (hp : Part.reader ∈ P) :
    Acts s0 (s.openReaderLink) P := by
  simp (maxDischargeDepth := 12) [State.openReaderLink, ha, hp]

@[simp ↓] theorem Acts.readerToOff (ha : Acts s0 s P) (hp : [Part.memory, .parity, .lanes, .notices, .reader] ⊆ P) :
    Acts s0 (s.readerToOff) P := by
  simp only [List.cons_subset] at hp
  unfold State.readerToOff; split <;> simp (maxDischargeDepth := 12) [ha, hp]

@[simp ↓] theorem Acts.readerDown (ha : Acts s0 s P) (hp : [Part.memory, .parity, .lanes, .notices, .reader, .store] ⊆ P) :
    Acts s0 (s.readerDown) P := by
  simp only [List.cons_subset] at hp
  simp (maxDischargeDepth := 12) [State.readerDown, ha, hp]

@[simp ↓] theorem Acts.riuPowerDown (ha : Acts s0 s P) (hp : [Part.reader, .store] ⊆ P) :
    Acts s0 (s.riuPowerDown) P := by
  simp only [List.cons_subset] at hp
  simp (maxDischargeDepth := 12) [State.riuPowerDown, ha, hp]

@[simp ↓] theorem Acts.enterQuarantine (ha : Acts s0 s P) (hp : [Part.memory, .parity, .lanes, .notices, .reader] ⊆ P) :
    Acts s0 (s.enterQuarantine) P := by
  simp only [List.cons_subset] at hp
  simp (maxDischargeDepth := 12) [State.enterQuarantine, ha, hp]

@[simp ↓] theorem Acts.undoReaderOn (ha : Acts s0 s P) (hp : Part.reader ∈ P) :
    Acts s0 (s.undoReaderOn) P := by
  simp (maxDischargeDepth := 12) [State.undoReaderOn, ha, hp]

@[simp ↓] theorem Acts.undoSend (ha : Acts s0 s P) (hp : Part.reader ∈ P) :
    Acts s0 (s.undoSend) P := by
  unfold State.undoSend; split <;> simp (maxDischargeDepth := 12) [ha, hp]

@[simp ↓] theorem Acts.beginResume (ha : Acts s0 s P) (hp : Part.reader ∈ P) :
    Acts s0 (s.beginResume).1 P := by
  unfold State.beginResume; (repeat' split) <;> simp (maxDischargeDepth := 12) [ha, hp]

/-! ## Site -/

@[simp ↓] theorem Acts.setSite (ha : Acts s0 s P) (st : SiteState) (hp : [Part.displays, .site] ⊆ P) :
    Acts s0 (s.setSite st) P := by
  simp only [List.cons_subset] at hp
  simp (maxDischargeDepth := 12) [State.setSite, ha, hp]

@[simp ↓] theorem Acts.writeWakeResult (ha : Acts s0 s P) (n : Nat) (hp : [Part.memory, .parity] ⊆ P) :
    Acts s0 (s.writeWakeResult n) P := by
  simp only [List.cons_subset] at hp
  simp (maxDischargeDepth := 12) [State.writeWakeResult, ha, hp]

@[simp ↓] theorem Acts.examinePositions (ha : Acts s0 s P) (hp : [Part.memory, .parity, .lanes, .notices, .reader, .site, .store] ⊆ P) :
    Acts s0 (s.examinePositions) P := by
  simp only [List.cons_subset] at hp
  simp (maxDischargeDepth := 12) [State.examinePositions, ha, hp]

@[simp ↓] theorem Acts.enterClosing (ha : Acts s0 s P) (origin : ClosingOrigin) (hp : [Part.memory, .parity, .lanes, .notices, .positions, .displays, .reader, .site, .store] ⊆ P) :
    Acts s0 (s.enterClosing origin) P := by
  simp only [List.cons_subset] at hp
  simp (maxDischargeDepth := 12) [State.enterClosing, ha, hp]

@[simp ↓] theorem Acts.nightReaderDone (ha : Acts s0 s P) (hp : [Part.site, .store] ⊆ P) :
    Acts s0 (s.nightReaderDone) P := by
  simp only [List.cons_subset] at hp
  simp (maxDischargeDepth := 12) [State.nightReaderDone, ha, hp]

@[simp ↓] theorem Acts.enterNight (ha : Acts s0 s P) (hp : [Part.memory, .parity, .lanes, .notices, .displays, .reader, .site] ⊆ P) :
    Acts s0 (s.enterNight) P := by
  simp only [List.cons_subset] at hp
  simp (maxDischargeDepth := 12) [State.enterNight, ha, hp]

@[simp ↓] theorem Acts.withdrawClosing (ha : Acts s0 s P) (detail : Nat) (hp : [Part.memory, .parity, .lanes, .notices, .positions, .displays, .site, .store] ⊆ P) :
    Acts s0 (s.withdrawClosing detail) P := by
  simp only [List.cons_subset] at hp
  simp (maxDischargeDepth := 12) [State.withdrawClosing, ha, hp]

@[simp ↓] theorem Acts.undoNight (ha : Acts s0 s P) (hp : [Part.memory, .parity, .lanes, .notices, .positions, .displays, .site, .store] ⊆ P) :
    Acts s0 (s.undoNight) P := by
  simp only [List.cons_subset] at hp
  simp (maxDischargeDepth := 12) [State.undoNight, ha, hp]

@[simp ↓] theorem Acts.endStage (ha : Acts s0 s P) (stage : Fin 6) (code : Nat) (hp : [Part.notices, .site] ⊆ P) :
    Acts s0 (s.endStage stage code) P := by
  simp only [List.cons_subset] at hp
  simp (maxDischargeDepth := 12) [State.endStage, ha, hp]

@[simp ↓] theorem Acts.beginStage (ha : Acts s0 s P) (stage : Nat) (timeout : Option Nat) (hp : Part.site ∈ P) :
    Acts s0 (s.beginStage stage timeout) P := by
  simp (maxDischargeDepth := 12) [State.beginStage, ha, hp]

@[simp ↓] theorem Acts.endFaulted (ha : Acts s0 s P) (reason : FaultedReason) (result : Nat) (hp : [Part.memory, .parity, .lanes, .notices, .displays, .site] ⊆ P) :
    Acts s0 (s.endFaulted reason result) P := by
  simp only [List.cons_subset] at hp
  simp (maxDischargeDepth := 12) [State.endFaulted, ha, hp]

@[simp ↓] theorem Acts.positionsReady (ha : Acts s0 s P) (hp : [Part.memory, .parity, .lanes, .notices, .positions, .displays, .reader, .site, .store] ⊆ P) :
    Acts s0 (s.positionsReady) P := by
  simp only [List.cons_subset] at hp
  simp (maxDischargeDepth := 12) [State.positionsReady, ha, hp]

@[simp ↓] theorem Acts.resumeEnds (ha : Acts s0 s P) (code : Nat) (hp : [Part.memory, .parity, .lanes, .notices, .positions, .displays, .reader, .site, .store] ⊆ P) :
    Acts s0 (s.resumeEnds code) P := by
  simp only [List.cons_subset] at hp
  simp (maxDischargeDepth := 12) [State.resumeEnds, ha, hp]

@[simp ↓] theorem Acts.reportResume (ha : Acts s0 s P) (code : Nat) (hp : [Part.memory, .parity, .lanes, .notices, .positions, .displays, .reader, .site, .store] ⊆ P) :
    Acts s0 (s.reportResume code) P := by
  simp only [List.cons_subset] at hp
  simp (maxDischargeDepth := 12) [State.reportResume, ha, hp]

@[simp ↓] theorem Acts.beginReaderResume (ha : Acts s0 s P) (hp : [Part.memory, .parity, .lanes, .notices, .positions, .displays, .reader, .site, .store] ⊆ P) :
    Acts s0 (s.beginReaderResume) P := by
  simp only [List.cons_subset] at hp
  unfold State.beginReaderResume; dsimp only; split <;> simp (maxDischargeDepth := 12) [ha, hp]

@[simp ↓] theorem Acts.beginMeterSettle (ha : Acts s0 s P) (hp : Part.site ∈ P) :
    Acts s0 (s.beginMeterSettle) P := by
  simp (maxDischargeDepth := 12) [State.beginMeterSettle, ha, hp]

@[simp ↓] theorem Acts.examinePanels (ha : Acts s0 s P) (hp : [Part.notices, .site] ⊆ P) :
    Acts s0 (s.examinePanels) P := by
  simp only [List.cons_subset] at hp
  simp (maxDischargeDepth := 12) [State.examinePanels, ha, hp]

@[simp ↓] theorem Acts.beginPricePanels (ha : Acts s0 s P) (hp : [Part.prices, .displays, .site] ⊆ P) :
    Acts s0 (s.beginPricePanels) P := by
  simp only [List.cons_subset] at hp
  unfold State.beginPricePanels; simp_all (maxDischargeDepth := 12)

@[simp ↓] theorem Acts.examineResults (ha : Acts s0 s P) (hp : [Part.memory, .parity, .lanes, .notices, .prices, .displays, .site] ⊆ P) :
    Acts s0 (s.examineResults) P := by
  simp only [List.cons_subset] at hp
  unfold State.examineResults; split <;> simp (maxDischargeDepth := 12) [ha, hp]

@[simp ↓] theorem Acts.displayResult (ha : Acts s0 s P) (side : Side) (passed : Bool) (hp : [Part.memory, .parity, .lanes, .notices, .positions, .prices, .displays, .site] ⊆ P) :
    Acts s0 (s.displayResult side passed) P := by
  simp only [List.cons_subset] at hp
  simp (maxDischargeDepth := 12) [State.displayResult, ha, hp]

@[simp ↓] theorem Acts.openResult (ha : Acts s0 s P) (side : Side) (passed : Bool) (hp : [Part.notices, .positions] ⊆ P) :
    Acts s0 (s.openResult side passed) P := by
  simp only [List.cons_subset] at hp
  unfold State.openResult; (repeat' split) <;> simp (maxDischargeDepth := 12) [ha, hp]

@[simp ↓] theorem Acts.releasePosts (ha : Acts s0 s P) (side : Side) (hp : Part.prices ∈ P) :
    Acts s0 (s.releasePosts side) P := by
  unfold State.releasePosts; simp_all (maxDischargeDepth := 12)

@[simp ↓] theorem Acts.segmentEnds (ha : Acts s0 s P) (side : Side) (passed : Bool) (hp : [Part.memory, .parity, .lanes, .notices, .meters, .positions, .prices, .displays, .site] ⊆ P) :
    Acts s0 (s.segmentEnds side passed) P := by
  simp only [List.cons_subset] at hp
  unfold State.segmentEnds; split <;> simp (maxDischargeDepth := 12) [ha, hp]

@[simp ↓] theorem Acts.beginDisplayTest (ha : Acts s0 s P) (hp : [Part.prices, .displays, .site] ⊆ P) :
    Acts s0 (s.beginDisplayTest) P := by
  simp only [List.cons_subset] at hp
  simp (maxDischargeDepth := 12) [State.beginDisplayTest, ha, hp]

@[simp ↓] theorem Acts.displayTimeoutAt (ha : Acts s0 s P) (side : Side) (hp : [Part.memory, .parity, .lanes, .notices, .meters, .positions, .prices, .displays, .site] ⊆ P) :
    Acts s0 (s.displayTimeoutAt side) P := by
  simp only [List.cons_subset] at hp
  simp (maxDischargeDepth := 12) [State.displayTimeoutAt, ha, hp]

@[simp ↓] theorem Acts.displayTimeout (ha : Acts s0 s P) (hp : [Part.memory, .parity, .lanes, .notices, .meters, .positions, .prices, .displays, .site] ⊆ P) :
    Acts s0 (s.displayTimeout) P := by
  simp only [List.cons_subset] at hp
  unfold State.displayTimeout; simp_all (maxDischargeDepth := 12)

@[simp ↓] theorem Acts.beginStoreCheck (ha : Acts s0 s P) (hp : [Part.site, .store] ⊆ P) :
    Acts s0 (s.beginStoreCheck) P := by
  simp only [List.cons_subset] at hp
  simp (maxDischargeDepth := 12) [State.beginStoreCheck, ha, hp]

@[simp ↓] theorem Acts.enterWaking (ha : Acts s0 s P) (origin : WakeOrigin) (hp : [Part.notices, .positions, .displays, .site, .store] ⊆ P) :
    Acts s0 (s.enterWaking origin) P := by
  simp only [List.cons_subset] at hp
  simp (maxDischargeDepth := 12) [State.enterWaking, ha, hp]

@[simp ↓] theorem Acts.checkFloor (ha : Acts s0 s P) (floor : Nat) (hp : [Part.memory, .parity, .lanes, .notices, .reader] ⊆ P) :
    Acts s0 (s.checkFloor floor) P := by
  simp only [List.cons_subset] at hp
  simp (maxDischargeDepth := 12) [State.checkFloor, ha, hp]

@[simp ↓] theorem Acts.allMembership (ha : Acts s0 s P) (old : Sides (Vector HoseRoute 4)) (hp : [Part.prices, .displays] ⊆ P) :
    Acts s0 (s.allMembership old) P := by
  simp only [List.cons_subset] at hp
  unfold State.allMembership; simp_all (maxDischargeDepth := 12)

@[simp ↓] theorem Acts.takeConfig (ha : Acts s0 s P) (c : ConfigRecord) (hp : [Part.memory, .parity, .lanes, .notices, .meters, .positions, .prices, .displays, .inputs, .reader, .site] ⊆ P) :
    Acts s0 (s.takeConfig c) P := by
  simp only [List.cons_subset] at hp
  simp (maxDischargeDepth := 12) [State.takeConfig, ha, hp]

@[simp ↓] theorem Acts.takePrices (ha : Acts s0 s P) (p : Vector (Option Nat × RoundCode) 8) (hp : Part.prices ∈ P) :
    Acts s0 (s.takePrices p) P := by
  simp (maxDischargeDepth := 12) [State.takePrices, ha, hp]

@[simp ↓] theorem Acts.takeMeters (ha : Acts s0 s P) (m : Vector MeterCounts 8) (hp : Part.meters ∈ P) :
    Acts s0 (s.takeMeters m) P := by
  simp (maxDischargeDepth := 12) [State.takeMeters, ha, hp]

@[simp ↓] theorem Acts.takeUnpaid (ha : Acts s0 s P) (side : Side) (l : List EndedSale) (hp : Part.positions ∈ P) :
    Acts s0 (s.takeUnpaid side l) P := by
  simp (maxDischargeDepth := 12) [State.takeUnpaid, ha, hp]

@[simp ↓] theorem Acts.writeCheckMirrors (ha : Acts s0 s P) :
    Acts s0 (s.writeCheckMirrors) P := by
  unfold State.writeCheckMirrors; simp_all (maxDischargeDepth := 12)

@[simp ↓] theorem Acts.takeContents (ha : Acts s0 s P) (c : Contents) (keep : List RecordId) (hp : [Part.memory, .parity, .lanes, .notices, .meters, .positions, .prices, .displays, .inputs, .reader, .site, .store] ⊆ P) :
    Acts s0 (s.takeContents c keep) P := by
  simp only [List.cons_subset] at hp
  unfold State.takeContents; (repeat' split) <;> simp (maxDischargeDepth := 12) [ha, hp]

@[simp ↓] theorem Acts.reportRestored (ha : Acts s0 s P) (hp : [Part.notices, .prices, .displays, .site, .store] ⊆ P) :
    Acts s0 (s.reportRestored) P := by
  simp only [List.cons_subset] at hp
  unfold State.reportRestored; dsimp only; split <;> simp (maxDischargeDepth := 12) [ha, hp]

@[simp ↓] theorem Acts.checkPassed (ha : Acts s0 s P) (hp : [Part.memory, .parity, .lanes, .notices, .meters, .positions, .prices, .displays, .inputs, .reader, .site, .store] ⊆ P) :
    Acts s0 (s.checkPassed) P := by
  simp only [List.cons_subset] at hp
  simp (maxDischargeDepth := 12) [State.checkPassed, ha, hp]

@[simp ↓] theorem Acts.checkFails (ha : Acts s0 s P) (record : Nat) (hp : [Part.memory, .parity, .lanes, .notices, .meters, .positions, .prices, .displays, .inputs, .reader, .site, .store] ⊆ P) :
    Acts s0 (s.checkFails record) P := by
  simp only [List.cons_subset] at hp
  simp (maxDischargeDepth := 12) [State.checkFails, ha, hp]

@[simp ↓] theorem Acts.stageOneFails (ha : Acts s0 s P) (code : Nat) (hp : [Part.memory, .parity, .lanes, .notices, .displays, .site] ⊆ P) :
    Acts s0 (s.stageOneFails code) P := by
  simp only [List.cons_subset] at hp
  simp (maxDischargeDepth := 12) [State.stageOneFails, ha, hp]

@[simp ↓] theorem Acts.storeCheckTimeout (ha : Acts s0 s P) (hp : [Part.memory, .parity, .lanes, .notices, .meters, .positions, .prices, .displays, .inputs, .reader, .site, .store, .free] ⊆ P) :
    Acts s0 (s.storeCheckTimeout) P := by
  simp only [List.cons_subset] at hp
  simp (maxDischargeDepth := 12) [State.storeCheckTimeout, ha, hp]

@[simp ↓] theorem Acts.storeCheckEnds (ha : Acts s0 s P) (hp : [Part.memory, .parity, .lanes, .notices, .meters, .positions, .prices, .displays, .inputs, .reader, .site, .store] ⊆ P) :
    Acts s0 (s.storeCheckEnds) P := by
  simp only [List.cons_subset] at hp
  unfold State.storeCheckEnds; split <;> simp (maxDischargeDepth := 12) [ha, hp]

/-! ## Link -/

@[simp ↓] theorem Acts.fieldFault (ha : Acts s0 s P) (side : Side) (f : FieldId) (hp : [Part.memory, .parity, .lanes, .notices, .meters, .positions, .prices, .displays, .site] ⊆ P) :
    Acts s0 (s.fieldFault side f) P := by
  simp only [List.cons_subset] at hp
  unfold State.fieldFault; split <;> simp (maxDischargeDepth := 12) [ha, hp]

@[simp ↓] theorem Acts.advanceTest (ha : Acts s0 s P) (side : Side) (hp : [Part.memory, .parity, .lanes, .notices, .meters, .positions, .prices, .displays, .site] ⊆ P) :
    Acts s0 (s.advanceTest side) P := by
  simp only [List.cons_subset] at hp
  unfold State.advanceTest; dsimp only; split <;> simp (maxDischargeDepth := 12) [ha, hp]

@[simp ↓] theorem Acts.attemptEnds (ha : Acts s0 s P) (side : Side) (verified : Bool) (hp : [Part.memory, .parity, .lanes, .notices, .meters, .positions, .prices, .displays, .site] ⊆ P) :
    Acts s0 (s.attemptEnds side verified) P := by
  simp only [List.cons_subset] at hp
  unfold State.attemptEnds; split <;> simp (maxDischargeDepth := 12) [ha, hp]

@[simp ↓] theorem Acts.takeLit (ha : Acts s0 s P) (side : Side) (f : LitFrame) (hp : [Part.memory, .parity, .lanes, .notices, .meters, .positions, .prices, .displays, .site] ⊆ P) :
    Acts s0 (s.takeLit side f) P := by
  simp only [List.cons_subset] at hp
  unfold State.takeLit; split <;> simp (maxDischargeDepth := 12) [ha, hp]

/-! ## React -/

@[simp ↓] theorem Acts.writeIdentity (ha : Acts s0 s P) (hp : [Part.memory, .parity] ⊆ P) :
    Acts s0 (s.writeIdentity) P := by
  simp only [List.cons_subset] at hp
  simp (maxDischargeDepth := 12) [State.writeIdentity, ha, hp]

@[simp ↓] theorem Acts.rebuildDone (ha : Acts s0 s P) (hp : [Part.memory, .parity, .notices, .store] ⊆ P) :
    Acts s0 (s.rebuildDone) P := by
  simp only [List.cons_subset] at hp
  simp (maxDischargeDepth := 12) [State.rebuildDone, ha, hp]

@[simp ↓] theorem Acts.answer (ha : Acts s0 s P) (q : Requester)
    (hp : [Part.memory, .parity, .lanes, .notices, .prices, .displays, .reader, .site, .store] ⊆ P) : Acts s0 (s.answer q) P := by
  simp only [List.cons_subset] at hp
  unfold State.answer; split <;> simp (maxDischargeDepth := 12) [ha, hp]

@[simp ↓] theorem Acts.answerAll (ha : Acts s0 s P) (qs : List Requester)
    (hp : [Part.memory, .parity, .lanes, .notices, .prices, .displays, .reader, .site, .store] ⊆ P) : Acts s0 (s.answerAll qs) P :=
  Acts.foldl (fun _ q h => h.answer q hp) ha qs

@[simp ↓] theorem Acts.runStore (ha : Acts s0 s P) (n : Nat)
    (hp : [Part.memory, .parity, .lanes, .notices, .prices, .displays, .reader, .site, .store] ⊆ P) :
    Acts s0 (State.runStore n s) P := by
  induction n generalizing s with
  | zero => exact ha
  | succ n ih =>
    unfold State.runStore
    split
    · exact ih ((ha.beginStep (hp (by decide))).answerAll _ hp)
    · exact ha

@[simp ↓] theorem Acts.completeStep (ha : Acts s0 s P) (hp : [Part.memory, .parity, .lanes, .notices, .prices, .displays, .reader, .site, .store] ⊆ P) :
    Acts s0 (s.completeStep) P := by
  simp only [List.cons_subset] at hp
  simp (maxDischargeDepth := 12) [State.completeStep, ha, hp]

@[simp ↓] theorem Acts.sendAll (ha : Acts s0 s P) (hp : Part.displays ∈ P) :
    Acts s0 (s.sendAll) P := by
  simp (maxDischargeDepth := 12) [State.sendAll, ha, hp]

@[simp ↓] theorem Acts.examine (ha : Acts s0 s P) (hp : [Part.memory, .parity, .lanes, .notices, .meters, .positions, .prices, .displays, .reader, .site, .store] ⊆ P) :
    Acts s0 (s.examine) P := by
  simp only [List.cons_subset] at hp
  unfold State.examine; dsimp only; simp_all (maxDischargeDepth := 12)

@[simp ↓] theorem Acts.serveLinks (ha : Acts s0 s P) (hp : [Part.prices, .displays] ⊆ P) :
    Acts s0 (s.serveLinks) P := (ha.serveLink .a hp).serveLink .b hp

@[simp ↓] theorem Acts.settle (ha : Acts s0 s P) (n : Nat) (hp : [Part.memory, .parity, .lanes, .notices, .meters, .positions, .prices, .displays, .reader, .site, .store] ⊆ P) :
    Acts s0 (State.settle n s) P := by
  have hq : [Part.prices, .displays] ⊆ P := fun _ h => hp (by revert h; simp only [List.mem_cons]; tauto)
  induction n generalizing s with
  | zero => exact ha
  | succ n ih =>
    unfold State.settle
    dsimp only
    split
    · exact (ha.examine hp).serveLinks hq
    · exact ih ((ha.examine hp).serveLinks hq)

@[simp ↓] theorem Acts.react (ha : Acts s0 s P) (hp : [Part.memory, .parity, .lanes, .notices, .meters, .positions, .prices, .displays, .reader, .site, .store] ⊆ P) :
    Acts s0 (s.react) P := ha.settle _ hp

end Sys2Proof.Machine
end

