-- ==== Sys2Proof/Laws/FrameCommands.lean ====
section
/-! SUPPORT. What the commands' own operations can touch. -/
namespace Sys2Proof.Machine

variable {s0 s t u : State} {P Q : List Part}

/-! ## MeterCommands -/

@[simp ↓] theorem Acts.unclaimedCount (ha : Acts s0 s P) (m : MeterNo) (forward : Bool) (hp : [Part.notices, .meters] ⊆ P) :
    Acts s0 (s.unclaimedCount m forward) P := by
  simp only [List.cons_subset] at hp
  simp (maxDischargeDepth := 12) [State.unclaimedCount, ha, hp]

@[simp ↓] theorem Acts.countMeter (ha : Acts s0 s P) (m : MeterNo) (forward : Bool) (hp : [Part.notices, .meters, .positions, .prices, .displays, .free] ⊆ P) :
    Acts s0 (s.countMeter m forward) P := by
  simp only [List.cons_subset] at hp
  unfold State.countMeter; dsimp only; (repeat' split) <;> simp (maxDischargeDepth := 12) [ha, hp]

@[simp ↓] theorem Acts.phaseError (ha : Acts s0 s P) (m : MeterNo) (hp : [Part.notices, .meters, .positions, .prices, .displays] ⊆ P) :
    Acts s0 (s.phaseError m) P := by
  simp only [List.cons_subset] at hp
  unfold State.phaseError; dsimp only; (repeat' split) <;> simp (maxDischargeDepth := 12) [ha, hp]

@[simp ↓] theorem Acts.recognition (ha : Acts s0 s P) (m : MeterNo) (a : Option Bool) (b : Option Bool) (hp : [Part.notices, .meters, .positions, .prices, .displays, .free] ⊆ P) :
    Acts s0 (s.recognition m a b) P := by
  simp only [List.cons_subset] at hp
  unfold State.recognition; dsimp only; (repeat' split) <;> simp (maxDischargeDepth := 12) [ha, hp]

@[simp ↓] theorem Acts.endSecond (ha : Acts s0 s P) (hp : Part.meters ∈ P) :
    Acts s0 (s.endSecond) P := by
  simp (maxDischargeDepth := 12) [State.endSecond, ha, hp]

@[simp ↓] theorem Acts.finishOnConfig (ha : Acts s0 s P) (l : LaneId) (off : Nat) (hp : [Part.lanes, .store] ⊆ P) :
    Acts s0 (s.finishOnConfig l off) P := by
  simp only [List.cons_subset] at hp
  simp (maxDischargeDepth := 12) [State.finishOnConfig, ha, hp]

@[simp ↓] theorem Acts.decideConfigureMeter (ha : Acts s0 s P) (off : Nat) (c : Card) (hp : [Part.memory, .parity, .lanes, .notices, .meters, .store] ⊆ P) :
    Acts s0 (Sys2Proof.Machine.decideConfigureMeter off c s) P := by
  simp only [List.cons_subset] at hp
  unfold Sys2Proof.Machine.decideConfigureMeter; (repeat' split) <;> simp (maxDischargeDepth := 12) [ha, hp]

@[simp ↓] theorem Acts.decideConfigureHose (ha : Acts s0 s P) (off : Nat) (c : Card) (hp : [Part.memory, .parity, .lanes, .notices, .meters, .prices, .displays, .store] ⊆ P) :
    Acts s0 (Sys2Proof.Machine.decideConfigureHose off c s) P := by
  simp only [List.cons_subset] at hp
  unfold Sys2Proof.Machine.decideConfigureHose; (repeat' split) <;> simp (maxDischargeDepth := 12) [ha, hp]

@[simp ↓] theorem Acts.decideSetRouting (ha : Acts s0 s P) (off : Nat) (c : Card) (hp : [Part.memory, .parity, .lanes, .notices, .meters, .store] ⊆ P) :
    Acts s0 (Sys2Proof.Machine.decideSetRouting off c s) P := by
  simp only [List.cons_subset] at hp
  simp (maxDischargeDepth := 12) [Sys2Proof.Machine.decideSetRouting, ha, hp]

@[simp ↓] theorem Acts.decideClearMeterFault (ha : Acts s0 s P) (x0 : Nat) (c : Card) (hp : [Part.memory, .parity, .lanes, .notices, .meters] ⊆ P) :
    Acts s0 (Sys2Proof.Machine.decideClearMeterFault x0 c s) P := by
  simp only [List.cons_subset] at hp
  unfold Sys2Proof.Machine.decideClearMeterFault; split <;> simp (maxDischargeDepth := 12) [ha, hp]

@[simp ↓] theorem Acts.decideReadMeters (ha : Acts s0 s P) (x0 : Nat) (c : Card) (hp : [Part.memory, .parity, .lanes, .notices] ⊆ P) :
    Acts s0 (Sys2Proof.Machine.decideReadMeters x0 c s) P := by
  simp only [List.cons_subset] at hp
  unfold Sys2Proof.Machine.decideReadMeters; split <;> simp (maxDischargeDepth := 12) [ha, hp]

/-! ## PositionCommands -/

@[simp ↓] theorem Acts.setNozzle (ha : Acts s0 s P) (side : Side) (h : HoseNo) (v : Bool) (hp : Part.inputs ∈ P) :
    Acts s0 (s.setNozzle side h v) P := by
  simp (maxDischargeDepth := 12) [State.setNozzle, ha, hp]

@[simp ↓] theorem Acts.setSatellite (ha : Acts s0 s P) (side : Side) (v : Bool) (hp : Part.inputs ∈ P) :
    Acts s0 (s.setSatellite side v) P := by
  simp (maxDischargeDepth := 12) [State.setSatellite, ha, hp]

@[simp ↓] theorem Acts.authorize (ha : Acts s0 s P) (side : Side) (a : Authorization) (hp : [Part.notices, .meters, .positions, .prices, .displays] ⊆ P) :
    Acts s0 (s.authorize side a) P := by
  simp only [List.cons_subset] at hp
  unfold State.authorize; dsimp only; split <;> simp (maxDischargeDepth := 12) [ha, hp]

@[simp ↓] theorem Acts.decideAuthorize (ha : Acts s0 s P) (x0 : Nat) (c : Card) (hp : [Part.memory, .parity, .lanes, .notices, .meters, .positions, .prices, .displays] ⊆ P) :
    Acts s0 (Sys2Proof.Machine.decideAuthorize x0 c s) P := by
  simp only [List.cons_subset] at hp
  unfold Sys2Proof.Machine.decideAuthorize; (repeat' split) <;> simp (maxDischargeDepth := 12) [ha, hp]

@[simp ↓] theorem Acts.decideCancel (ha : Acts s0 s P) (x0 : Nat) (c : Card) (hp : [Part.memory, .parity, .lanes, .notices, .meters, .positions, .prices, .displays] ⊆ P) :
    Acts s0 (Sys2Proof.Machine.decideCancel x0 c s) P := by
  simp only [List.cons_subset] at hp
  unfold Sys2Proof.Machine.decideCancel; split <;> simp (maxDischargeDepth := 12) [ha, hp]

@[simp ↓] theorem Acts.pause (ha : Acts s0 s P) (side : Side) (hp : Part.positions ∈ P) :
    Acts s0 (s.pause side) P := by
  simp (maxDischargeDepth := 12) [State.pause, ha, hp]

@[simp ↓] theorem Acts.decideStop (ha : Acts s0 s P) (x0 : Nat) (c : Card) (hp : [Part.memory, .parity, .lanes, .notices, .positions] ⊆ P) :
    Acts s0 (Sys2Proof.Machine.decideStop x0 c s) P := by
  simp only [List.cons_subset] at hp
  unfold Sys2Proof.Machine.decideStop; (repeat' split) <;> simp (maxDischargeDepth := 12) [ha, hp]

@[simp ↓] theorem Acts.resumeSale (ha : Acts s0 s P) (side : Side) (hp : [Part.positions, .prices] ⊆ P) :
    Acts s0 (s.resumeSale side) P := by
  simp only [List.cons_subset] at hp
  unfold State.resumeSale; (repeat' split) <;> simp (maxDischargeDepth := 12) [ha, hp]

@[simp ↓] theorem Acts.decideResume (ha : Acts s0 s P) (x0 : Nat) (c : Card) (hp : [Part.memory, .parity, .lanes, .notices, .positions, .prices] ⊆ P) :
    Acts s0 (Sys2Proof.Machine.decideResume x0 c s) P := by
  simp only [List.cons_subset] at hp
  unfold Sys2Proof.Machine.decideResume; split <;> simp (maxDischargeDepth := 12) [ha, hp]

@[simp ↓] theorem Acts.decideCloseSale (ha : Acts s0 s P) (off : Nat) (c : Card) (hp : [Part.memory, .parity, .lanes, .notices, .positions, .store] ⊆ P) :
    Acts s0 (Sys2Proof.Machine.decideCloseSale off c s) P := by
  simp only [List.cons_subset] at hp
  unfold Sys2Proof.Machine.decideCloseSale; split <;> simp (maxDischargeDepth := 12) [ha, hp]

@[simp ↓] theorem Acts.decideReadSale (ha : Acts s0 s P) (x0 : Nat) (c : Card) (hp : [Part.memory, .parity, .lanes, .notices] ⊆ P) :
    Acts s0 (Sys2Proof.Machine.decideReadSale x0 c s) P := by
  simp only [List.cons_subset] at hp
  unfold Sys2Proof.Machine.decideReadSale; (repeat' split) <;> simp (maxDischargeDepth := 12) [ha, hp]

@[simp ↓] theorem Acts.decideClosePosition (ha : Acts s0 s P) (x0 : Nat) (c : Card) (hp : [Part.memory, .parity, .lanes, .notices, .positions] ⊆ P) :
    Acts s0 (Sys2Proof.Machine.decideClosePosition x0 c s) P := by
  simp only [List.cons_subset] at hp
  unfold Sys2Proof.Machine.decideClosePosition; split <;> simp (maxDischargeDepth := 12) [ha, hp]

@[simp ↓] theorem Acts.decideOpenPosition (ha : Acts s0 s P) (x0 : Nat) (c : Card) (hp : [Part.memory, .parity, .lanes, .notices, .prices, .displays] ⊆ P) :
    Acts s0 (Sys2Proof.Machine.decideOpenPosition x0 c s) P := by
  simp only [List.cons_subset] at hp
  unfold Sys2Proof.Machine.decideOpenPosition; split <;> simp (maxDischargeDepth := 12) [ha, hp]

@[simp ↓] theorem Acts.decideConfigurePosition (ha : Acts s0 s P) (off : Nat) (c : Card) (hp : [Part.memory, .parity, .lanes, .notices, .positions, .store] ⊆ P) :
    Acts s0 (Sys2Proof.Machine.decideConfigurePosition off c s) P := by
  simp only [List.cons_subset] at hp
  unfold Sys2Proof.Machine.decideConfigurePosition; (repeat' split) <;> simp (maxDischargeDepth := 12) [ha, hp]

/-! ## PriceCommands -/

@[simp ↓] theorem Acts.decideSetPricing (ha : Acts s0 s P) (off : Nat) (c : Card) (hp : [Part.memory, .parity, .lanes, .notices, .prices, .store] ⊆ P) :
    Acts s0 (Sys2Proof.Machine.decideSetPricing off c s) P := by
  simp only [List.cons_subset] at hp
  unfold Sys2Proof.Machine.decideSetPricing; split <;> simp (maxDischargeDepth := 12) [ha, hp]

@[simp ↓] theorem Acts.decideClearSiteFlags (ha : Acts s0 s P) (x0 : Nat) (c : Card) (hp : [Part.memory, .parity, .lanes, .notices, .prices] ⊆ P) :
    Acts s0 (Sys2Proof.Machine.decideClearSiteFlags x0 c s) P := by
  simp only [List.cons_subset] at hp
  simp (maxDischargeDepth := 12) [Sys2Proof.Machine.decideClearSiteFlags, ha, hp]

@[simp ↓] theorem Acts.decideLoadPrice (ha : Acts s0 s P) (x0 : Nat) (c : Card) (hp : [Part.memory, .parity, .lanes, .notices, .prices, .store] ⊆ P) :
    Acts s0 (Sys2Proof.Machine.decideLoadPrice x0 c s) P := by
  simp only [List.cons_subset] at hp
  unfold Sys2Proof.Machine.decideLoadPrice; (repeat' split) <;> simp_all (maxDischargeDepth := 12)

/-! ## DisplayCommands -/

@[simp ↓] theorem Acts.decideSetDisplayPolicy (ha : Acts s0 s P) (off : Nat) (c : Card) (hp : [Part.memory, .parity, .lanes, .notices, .displays, .store] ⊆ P) :
    Acts s0 (Sys2Proof.Machine.decideSetDisplayPolicy off c s) P := by
  simp only [List.cons_subset] at hp
  unfold Sys2Proof.Machine.decideSetDisplayPolicy; split <;> simp (maxDischargeDepth := 12) [ha, hp]

/-! ## InputCommands -/

@[simp ↓] theorem Acts.latch (ha : Acts s0 s P) (c : Cause) (hp : [Part.notices, .inputs] ⊆ P) :
    Acts s0 (s.latch c) P := by
  simp only [List.cons_subset] at hp
  simp (maxDischargeDepth := 12) [State.latch, ha, hp]

@[simp ↓] theorem Acts.evaluateMatch (ha : Acts s0 s P) (hp : [Part.notices, .inputs] ⊆ P) :
    Acts s0 (s.evaluateMatch) P := by
  simp only [List.cons_subset] at hp
  simp (maxDischargeDepth := 12) [State.evaluateMatch, ha, hp]

@[simp ↓] theorem Acts.judgeGeneral (ha : Acts s0 s P) (which : Byte) (levels : Byte) (hp : [Part.notices, .inputs] ⊆ P) :
    Acts s0 (s.judgeGeneral which levels) P := by
  simp only [List.cons_subset] at hp
  unfold State.judgeGeneral; dsimp only; split <;> simp (maxDischargeDepth := 12) [ha, hp]

@[simp ↓] theorem Acts.decideSetWatch (ha : Acts s0 s P) (off : Nat) (c : Card) (hp : [Part.memory, .parity, .lanes, .notices, .inputs, .store] ⊆ P) :
    Acts s0 (Sys2Proof.Machine.decideSetWatch off c s) P := by
  simp only [List.cons_subset] at hp
  unfold Sys2Proof.Machine.decideSetWatch; (repeat' split) <;> simp (maxDischargeDepth := 12) [ha, hp]

/-! ## ReaderCommands -/

@[simp ↓] theorem Acts.quarantine (ha : Acts s0 s P) (hp : [Part.memory, .parity, .lanes, .notices, .meters, .positions, .displays, .reader, .site, .store] ⊆ P) :
    Acts s0 (s.quarantine) P := by
  simp only [List.cons_subset] at hp
  simp (maxDischargeDepth := 12) [State.quarantine, ha, hp]

@[simp ↓] theorem Acts.decideSetRelayFloor (ha : Acts s0 s P) (off : Nat) (c : Card) (hp : [Part.memory, .parity, .lanes, .notices, .reader, .store] ⊆ P) :
    Acts s0 (Sys2Proof.Machine.decideSetRelayFloor off c s) P := by
  simp only [List.cons_subset] at hp
  simp (maxDischargeDepth := 12) [Sys2Proof.Machine.decideSetRelayFloor, ha, hp]

@[simp ↓] theorem Acts.goodFrame (ha : Acts s0 s P) (kind : Byte) (payload : List Byte) (hp : [Part.memory, .parity, .lanes, .notices, .reader] ⊆ P) :
    Acts s0 (s.goodFrame kind payload) P := by
  simp only [List.cons_subset] at hp
  unfold State.goodFrame; split <;> simp (maxDischargeDepth := 12) [ha, hp]

@[simp ↓] theorem Acts.badFrame (ha : Acts s0 s P) (hp : [Part.memory, .parity, .lanes, .notices, .reader] ⊆ P) :
    Acts s0 (s.badFrame) P := by
  simp only [List.cons_subset] at hp
  simp (maxDischargeDepth := 12) [State.badFrame, ha, hp]

@[simp ↓] theorem Acts.judgeFrame (ha : Acts s0 s P) (next : Receiver) (good : Option (Byte × List Byte)) (hp : [Part.memory, .parity, .lanes, .notices, .reader] ⊆ P) :
    Acts s0 (s.judgeFrame next good) P := by
  simp only [List.cons_subset] at hp
  unfold State.judgeFrame; dsimp only; (repeat' split) <;> simp (maxDischargeDepth := 12) [ha, hp]

@[simp ↓] theorem Acts.attemptUsed (ha : Acts s0 s P) (x : Send) (last : Option AnswerByte) (hp : [Part.memory, .parity, .lanes, .notices, .reader] ⊆ P) :
    Acts s0 (s.attemptUsed x last) P := by
  simp only [List.cons_subset] at hp
  simp (maxDischargeDepth := 12) [State.attemptUsed, ha, hp]

@[simp ↓] theorem Acts.sendAnswered (ha : Acts s0 s P) (x : Send) (a : AnswerByte) (hp : [Part.memory, .parity, .lanes, .notices, .reader] ⊆ P) :
    Acts s0 (s.sendAnswered x a) P := by
  simp only [List.cons_subset] at hp
  unfold State.sendAnswered; split <;> simp (maxDischargeDepth := 12) [ha, hp]

@[simp ↓] theorem Acts.decideSend (ha : Acts s0 s P) (off : Nat) (c : Card) (hp : [Part.memory, .parity, .lanes, .notices, .reader] ⊆ P) :
    Acts s0 (Sys2Proof.Machine.decideSend off c s) P := by
  simp only [List.cons_subset] at hp
  unfold Sys2Proof.Machine.decideSend; (repeat' split) <;> simp_all (maxDischargeDepth := 12)

@[simp ↓] theorem Acts.decideArmReceive (ha : Acts s0 s P) (off : Nat) (c : Card) (hp : [Part.memory, .parity, .lanes, .notices, .reader] ⊆ P) :
    Acts s0 (Sys2Proof.Machine.decideArmReceive off c s) P := by
  simp only [List.cons_subset] at hp
  unfold Sys2Proof.Machine.decideArmReceive; (repeat' split) <;> simp (maxDischargeDepth := 12) [ha, hp]

@[simp ↓] theorem Acts.decideDisarmReceive (ha : Acts s0 s P) (x0 : Nat) (c : Card) (hp : [Part.memory, .parity, .lanes, .notices, .reader] ⊆ P) :
    Acts s0 (Sys2Proof.Machine.decideDisarmReceive x0 c s) P := by
  simp only [List.cons_subset] at hp
  unfold Sys2Proof.Machine.decideDisarmReceive; (repeat' split) <;> simp (maxDischargeDepth := 12) [ha, hp]

@[simp ↓] theorem Acts.decideReaderOn (ha : Acts s0 s P) (x0 : Nat) (x1 : Card) (hp : [Part.memory, .parity, .lanes, .notices, .reader] ⊆ P) :
    Acts s0 (Sys2Proof.Machine.decideReaderOn x0 x1 s) P := by
  simp only [List.cons_subset] at hp
  unfold Sys2Proof.Machine.decideReaderOn; (repeat' split) <;> simp_all (maxDischargeDepth := 12)

@[simp ↓] theorem Acts.decideOpenLink (ha : Acts s0 s P) (x0 : Nat) (x1 : Card) (hp : [Part.memory, .parity, .lanes, .notices, .reader] ⊆ P) :
    Acts s0 (Sys2Proof.Machine.decideOpenLink x0 x1 s) P := by
  simp only [List.cons_subset] at hp
  simp (maxDischargeDepth := 12) [Sys2Proof.Machine.decideOpenLink, ha, hp]

@[simp ↓] theorem Acts.decideCloseLink (ha : Acts s0 s P) (x0 : Nat) (x1 : Card) (hp : [Part.memory, .parity, .lanes, .notices, .reader] ⊆ P) :
    Acts s0 (Sys2Proof.Machine.decideCloseLink x0 x1 s) P := by
  simp only [List.cons_subset] at hp
  unfold Sys2Proof.Machine.decideCloseLink; split <;> simp (maxDischargeDepth := 12) [ha, hp]

@[simp ↓] theorem Acts.decideReaderOff (ha : Acts s0 s P) (x0 : Nat) (x1 : Card) (hp : [Part.memory, .parity, .lanes, .notices, .meters, .positions, .displays, .reader, .site, .store] ⊆ P) :
    Acts s0 (Sys2Proof.Machine.decideReaderOff x0 x1 s) P := by
  simp only [List.cons_subset] at hp
  unfold Sys2Proof.Machine.decideReaderOff; split <;> simp (maxDischargeDepth := 12) [ha, hp]

@[simp ↓] theorem Acts.decideReleaseQuarantine (ha : Acts s0 s P) (x0 : Nat) (x1 : Card) (hp : [Part.memory, .parity, .lanes, .notices, .reader] ⊆ P) :
    Acts s0 (Sys2Proof.Machine.decideReleaseQuarantine x0 x1 s) P := by
  simp only [List.cons_subset] at hp
  simp (maxDischargeDepth := 12) [Sys2Proof.Machine.decideReleaseQuarantine, ha, hp]

/-! ## SiteCommands -/

@[simp ↓] theorem Acts.closingReached (ha : Acts s0 s P) (hp : [Part.memory, .parity, .lanes, .notices, .positions, .displays, .reader, .site, .store] ⊆ P) :
    Acts s0 (s.closingReached) P := by
  simp only [List.cons_subset] at hp
  unfold State.closingReached; split <;> simp (maxDischargeDepth := 12) [ha, hp]

@[simp ↓] theorem Acts.openingReached (ha : Acts s0 s P) (hp : [Part.memory, .parity, .lanes, .notices, .positions, .displays, .reader, .site, .store] ⊆ P) :
    Acts s0 (s.openingReached) P := by
  simp only [List.cons_subset] at hp
  unfold State.openingReached; split <;> simp (maxDischargeDepth := 12) [ha, hp]

@[simp ↓] theorem Acts.countClock (ha : Acts s0 s P) (hp : [Part.memory, .parity, .lanes, .notices, .positions, .displays, .reader, .site, .store] ⊆ P) :
    Acts s0 (s.countClock) P := by
  simp only [List.cons_subset] at hp
  unfold State.countClock; dsimp only; (repeat' split) <;> simp (maxDischargeDepth := 12) [ha, hp]

@[simp ↓] theorem Acts.stageTimeout (ha : Acts s0 s P) (hp : [Part.memory, .parity, .lanes, .notices, .meters, .positions, .prices, .displays, .inputs, .reader, .site, .store, .free] ⊆ P) :
    Acts s0 (s.stageTimeout) P := by
  simp only [List.cons_subset] at hp
  unfold State.stageTimeout; split <;> simp (maxDischargeDepth := 12) [ha, hp]

@[simp ↓] theorem Acts.decideSetSchedule (ha : Acts s0 s P) (off : Nat) (c : Card) (hp : [Part.memory, .parity, .lanes, .notices, .site, .store] ⊆ P) :
    Acts s0 (Sys2Proof.Machine.decideSetSchedule off c s) P := by
  simp only [List.cons_subset] at hp
  unfold Sys2Proof.Machine.decideSetSchedule; split <;> simp (maxDischargeDepth := 12) [ha, hp]

@[simp ↓] theorem Acts.decideSetClock (ha : Acts s0 s P) (x0 : Nat) (c : Card) (hp : [Part.memory, .parity, .lanes, .notices, .site] ⊆ P) :
    Acts s0 (Sys2Proof.Machine.decideSetClock x0 c s) P := by
  simp only [List.cons_subset] at hp
  simp (maxDischargeDepth := 12) [Sys2Proof.Machine.decideSetClock, ha, hp]

@[simp ↓] theorem Acts.decideNightNow (ha : Acts s0 s P) (x0 : Nat) (x1 : Card) (hp : [Part.memory, .parity, .lanes, .notices, .positions, .displays, .reader, .site, .store] ⊆ P) :
    Acts s0 (Sys2Proof.Machine.decideNightNow x0 x1 s) P := by
  simp only [List.cons_subset] at hp
  unfold Sys2Proof.Machine.decideNightNow; (repeat' split) <;> simp_all (maxDischargeDepth := 12)

@[simp ↓] theorem Acts.decideWakeNow (ha : Acts s0 s P) (x0 : Nat) (c : Card) (hp : [Part.memory, .parity, .lanes, .notices, .positions, .displays, .reader, .site, .store] ⊆ P) :
    Acts s0 (Sys2Proof.Machine.decideWakeNow x0 c s) P := by
  simp only [List.cons_subset] at hp
  unfold Sys2Proof.Machine.decideWakeNow; (repeat' split) <;> simp (maxDischargeDepth := 12) [ha, hp]

/-! ## StoreCommands -/

@[simp ↓] theorem Acts.dropCards (ha : Acts s0 s P) (hp : Part.lanes ∈ P) :
    Acts s0 (s.dropCards) P := by
  unfold State.dropCards; dsimp only; split <;> simp (maxDischargeDepth := 12) [ha, hp]

@[simp ↓] theorem Acts.emptyQueue (ha : Acts s0 s P) (hp : Part.store ∈ P) :
    Acts s0 (s.emptyQueue) P := by
  simp (maxDischargeDepth := 12) [State.emptyQueue, ha, hp]

@[simp ↓] theorem Acts.warnSupply (ha : Acts s0 s P) (hp : [Part.lanes, .notices, .meters, .positions, .displays, .reader, .site, .store] ⊆ P) :
    Acts s0 (s.warnSupply) P := by
  simp only [List.cons_subset] at hp
  simp (maxDischargeDepth := 12) [State.warnSupply, ha, hp]

@[simp ↓] theorem Acts.freezeAll (ha : Acts s0 s P) (hp : [Part.notices, .meters, .positions, .store] ⊆ P) :
    Acts s0 (s.freezeAll) P := by
  simp only [List.cons_subset] at hp
  simp (maxDischargeDepth := 12) [State.freezeAll, ha, hp]

@[simp ↓] theorem Acts.powerOnEffects (ha : Acts s0 s P) (hp : [Part.notices, .positions, .displays, .site, .store] ⊆ P) :
    Acts s0 (s.powerOnEffects) P := by
  simp only [List.cons_subset] at hp
  simp (maxDischargeDepth := 12) [State.powerOnEffects, ha, hp]

@[simp ↓] theorem Acts.loseBattery (ha : Acts s0 s P) (hp : [Part.notices, .site, .store] ⊆ P) :
    Acts s0 (s.loseBattery) P := by
  simp only [List.cons_subset] at hp
  simp (maxDischargeDepth := 12) [State.loseBattery, ha, hp]

@[simp ↓] theorem Acts.decideReadTotals (ha : Acts s0 s P) (x0 : Nat) (c : Card) (hp : [Part.memory, .parity, .lanes, .notices, .free] ⊆ P) :
    Acts s0 (Sys2Proof.Machine.decideReadTotals x0 c s) P := by
  simp only [List.cons_subset] at hp
  unfold Sys2Proof.Machine.decideReadTotals; (repeat' split) <;> simp (maxDischargeDepth := 12) [ha, hp]

@[simp ↓] theorem Acts.decideRebuildStore (ha : Acts s0 s P) (off : Nat) (x1 : Card) (hp : [Part.memory, .parity, .lanes, .notices, .positions, .store] ⊆ P) :
    Acts s0 (Sys2Proof.Machine.decideRebuildStore off x1 s) P := by
  simp only [List.cons_subset] at hp
  simp (maxDischargeDepth := 12) [Sys2Proof.Machine.decideRebuildStore, ha, hp]

/-! ## HostCommands -/

@[simp ↓] theorem Acts.ignoreGo (ha : Acts s0 s P) (l : LaneId) (value : Nat) (hp : [Part.lanes, .notices] ⊆ P) :
    Acts s0 (s.ignoreGo l value) P := by
  simp only [List.cons_subset] at hp
  simp (maxDischargeDepth := 12) [State.ignoreGo, ha, hp]

@[simp ↓] theorem Acts.startLane (ha : Acts s0 s P) (l : LaneId) (value : Nat) (hp : [Part.memory, .parity, .lanes, .notices] ⊆ P) :
    Acts s0 (s.startLane l value) P := by
  simp only [List.cons_subset] at hp
  unfold State.startLane; split <;> simp (maxDischargeDepth := 12) [ha, hp]

@[simp ↓] theorem Acts.undo (ha : Acts s0 s P) (k : Kind) (hp : [Part.memory, .parity, .lanes, .notices, .positions, .prices, .displays, .reader, .site, .store] ⊆ P) :
    Acts s0 (Kind.undo k s) P := by
  simp only [List.cons_subset] at hp
  unfold Kind.undo; split <;> simp (maxDischargeDepth := 12) [ha, hp]

@[simp ↓] theorem Acts.abortLane (ha : Acts s0 s P) (l : LaneId) (hp : [Part.memory, .parity, .lanes, .notices, .positions, .prices, .displays, .reader, .site, .store] ⊆ P) :
    Acts s0 (s.abortLane l) P := by
  simp only [List.cons_subset] at hp
  unfold State.abortLane; (repeat' split) <;> simp (maxDischargeDepth := 12) [ha, hp]

end Sys2Proof.Machine
end

