-- ==== Sys2Proof/Laws/Panel.lean ====
section
/-! SUPPORT. When the report of a grade field that turns WRITING changes no panel (R79): where the panels stand as their members set them. -/
namespace Sys2Proof.Machine

variable {s t : State}

/-! ## The small lemmas -/

theorem State.modPanel_id {g : Fin 8} {side : Side} {f : Panel → Panel}
    (h : f ((s.grade g).panels.get side) = (s.grade g).panels.get side) : s.modPanel g side f = s := by
  have h' : f (s.pru.grades[g].panels.get side) = s.pru.grades[g].panels.get side := h
  have e : (s.pru.grades[g].panels.set side (s.pru.grades[g].panels.get side)) = s.pru.grades[g].panels := by cases side <;> rfl
  simp only [State.modPanel, State.modGrade, h', e]
  have : s.pru.grades.set g s.pru.grades[g] = s.pru.grades := by simp
  rw [this]

/-- A panel that a PENDING member leaves UPDATING or FAULT stays as it is when it is set again to the state it has. -/
theorem Panel.become_same {p : Panel} {st : PanelState} {a : PanelAction} (h : p.state = st) (hu : st = .updating ∨ st = .fault)
    (hp : st = .fault → p.posted = false) : p.become st a = p := by
  cases p; rcases hu with rfl | rfl <;> simp_all [Panel.become]

/-- A field of a board that is PENDING leaves its panel no state but UPDATING and FAULT (R79). -/
theorem State.panelState_pending {side : Side} {h : HoseNo} (hf : (s.route side h).fitted = true)
    (hp : ((s.board side).field (.grade h)).st = .pending) :
    s.panelState (s.route side h).grade side = .updating ∨ s.panelState (s.route side h).grade side = .fault := by
  have hm : h ∈ s.members (s.route side h).grade side := by simp [State.members, hf]
  unfold State.panelState
  dsimp only
  rw [if_neg (by intro he; rw [List.isEmpty_iff] at he; rw [he] at hm; cases hm)]
  split
  · exact .inr rfl
  · rw [if_pos (by simp only [Bool.or_eq_true, List.any_eq_true]; exact .inr ⟨h, hm, by simp [hp]⟩)]
    exact .inl rfl

/-- The state that the members set depends on the routes, on the test of the board, and on which fields are FAULT or CURRENT. -/
theorem State.panelState_congr {g : Fin 8} {side : Side} (hr : t.miu.routes = s.miu.routes)
    (hs : (t.board side).segment = (s.board side).segment)
    (hf : ∀ h, (((t.board side).field (.grade h)).st = .fault ↔ ((s.board side).field (.grade h)).st = .fault)
      ∧ (((t.board side).field (.grade h)).st = .current ↔ ((s.board side).field (.grade h)).st = .current)) :
    t.panelState g side = s.panelState g side := by
  have hm : t.members g side = s.members g side := by simp only [State.members, State.route, hr]
  have e1 : ∀ h, (((t.board side).field (.grade h)).st == .fault) = (((s.board side).field (.grade h)).st == .fault) := fun h => by
    rw [Bool.eq_iff_iff]; simpa using (hf h).1
  have e2 : ∀ h, (((t.board side).field (.grade h)).st != .current) = (((s.board side).field (.grade h)).st != .current) := fun h => by
    rw [Bool.eq_iff_iff]; simpa using not_congr (hf h).2
  simp only [State.panelState, hm, hs, e1, e2]

/-- The panels go on standing where routes, panels, tests and the states of the grade fields stay, up to fields that turn from PENDING
to WRITING. -/
theorem State.panelsStand_congr (hd : t.ssu.site = s.ssu.site) (hr : t.miu.routes = s.miu.routes) (hg : t.pru = s.pru)
    (hs : ∀ side, (t.board side).segment = (s.board side).segment)
    (hf : ∀ side h, ((t.board side).field (.grade h)).st = ((s.board side).field (.grade h)).st
      ∨ ((s.board side).field (.grade h)).st = .pending ∧ ((t.board side).field (.grade h)).st = .writing)
    (h : s.panelsStand) : t.panelsStand := by
  intro hp side g hw
  have e : t.panelState g side = s.panelState g side := State.panelState_congr hr (hs side) fun k => by
    rcases hf side k with e | ⟨e1, e2⟩
    · rw [e]; exact ⟨.rfl, .rfl⟩
    · rw [e1, e2]; decide
  have eg : t.grade g = s.grade g := by simp only [State.grade, hg]
  rw [e] at hw
  simpa only [eg, e] using h (by rw [← hd]; exact hp) side g hw

/-- The panels go on standing after operations that touch neither site, meters, prices nor displays. -/
theorem Acts.panelsStand {P : List Part} (h : Acts s t P) (h1 : Part.site ∉ P) (h2 : Part.meters ∉ P) (h3 : Part.prices ∉ P)
    (h4 : Part.displays ∉ P) (hs : s.panelsStand) : t.panelsStand := by
  have e1 : t.ssu = s.ssu := h.frame .site h1
  have e2 : t.miu = s.miu := h.frame .meters h2
  have e3 : t.pru = s.pru := h.frame .prices h3
  have e4 : t.dlc = s.dlc := h.frame .displays h4
  refine State.panelsStand_congr (by rw [e1]) (by rw [e2]) e3 (fun side => ?_) (fun side k => .inl ?_) hs <;> simp only [State.board, e4]

/-! ## Wanted contents -/

theorem Fields.get_set_ne (x : Fields) {f k : FieldId} (h : k ≠ f) (r : FieldRec) : (x.set f r).get k = x.get k := by
  cases f <;> cases k <;> first | rfl | exact absurd rfl h | skip
  rename_i i j
  have : i.val ≠ j.val := fun e => h (by rw [Fin.ext e])
  simp [Fields.set, Fields.get, this]

theorem Fields.get_set_same (x : Fields) (f : FieldId) (r : FieldRec) : (x.set f r).get f = r := by
  cases f <;> simp [Fields.set, Fields.get]

/-- A change of a board that leaves test and grade fields leaves both of every board. -/
def Board.gradesLike (b c : Board) : Prop := c.segment = b.segment ∧ ∀ h, c.field (.grade h) = b.field (.grade h)

theorem State.updateField_gradesLike (s : State) (side : Side) {f : FieldId} (hf : ∀ h, f ≠ .grade h) (c : Content) (x : Side) :
    (s.board x).gradesLike ((s.updateField side f c).board x) := by
  unfold State.updateField State.board State.modBoard
  dsimp only
  rw [Sides.get_set]
  split
  · subst_vars; exact ⟨rfl, fun h => Fields.get_set_ne _ (hf h).symm _⟩
  · exact ⟨rfl, fun _ => rfl⟩

theorem Board.gradesLike.trans {b c d : Board} (h : b.gradesLike c) (k : c.gradesLike d) : b.gradesLike d :=
  ⟨k.1.trans h.1, fun n => (k.2 n).trans (h.2 n)⟩

theorem State.sendLegal_gradesLike (s : State) (side x : Side) : (s.board x).gradesLike ((s.sendLegal side).board x) := by
  unfold State.sendLegal
  split
  · exact ⟨rfl, fun _ => rfl⟩
  · simp only [legalFields, List.foldl_cons, List.foldl_nil]
    refine ((State.updateField_gradesLike _ _ ?_ _ _).trans (State.updateField_gradesLike _ _ ?_ _ _)).trans
      (State.updateField_gradesLike _ _ ?_ _ _) <;> simp

theorem State.sendContents_gradesLike (s : State) (side x : Side) : (s.board x).gradesLike ((s.sendContents side).board x) := by
  unfold State.sendContents
  split
  · exact ⟨rfl, fun _ => rfl⟩
  · exact State.updateField_gradesLike _ _ (by simp) _ _
  · exact (State.sendLegal_gradesLike _ _ _).trans (State.updateField_gradesLike _ _ (by simp) _ _)

theorem State.sendAll_gradesLike (s : State) (x : Side) : (s.board x).gradesLike (s.sendAll.board x) :=
  (State.sendContents_gradesLike _ _ _).trans (State.sendContents_gradesLike _ _ _)

/-- Wanted contents change no panel's standing. -/
theorem State.sendAll_panelsStand (h : s.panelsStand) : s.sendAll.panelsStand := by
  have ha : Acts s s.sendAll [.displays] := by simp
  have e1 : s.sendAll.ssu = s.ssu := ha.frame .site (by decide)
  have e2 : s.sendAll.miu = s.miu := ha.frame .meters (by decide)
  have e3 : s.sendAll.pru = s.pru := ha.frame .prices (by decide)
  exact State.panelsStand_congr (by rw [e1]) (by rw [e2]) e3 (fun side => (s.sendAll_gradesLike side).1)
    (fun side k => .inl (by rw [(s.sendAll_gradesLike side).2 k])) h

/-! ## The links -/

/-- Serving a link turns at most one field of its board from PENDING to WRITING, and not in POWER DOWN. -/
theorem State.serve_fields (s : State) (side x : Side) :
    ((s.serve side).board x).segment = (s.board x).segment
      ∧ ∀ f, (((s.serve side).board x).field f).st = ((s.board x).field f).st
        ∨ s.powerDown = false ∧ ((s.board x).field f).st = .pending ∧ (((s.serve side).board x).field f).st = .writing := by
  unfold State.serve
  split
  · rename_i hl
    have hd : s.powerDown = false := by simp only [State.linkFree, Bool.and_eq_true, Bool.not_eq_true'] at hl; exact hl.1.2
    split
    · rename_i f refresh hn
      simp only [State.board, State.modBoard, Sides.get_set]
      split
      · subst_vars
        refine ⟨rfl, fun k => ?_⟩
        simp only [Board.attemptField, Board.modField, Board.field]
        by_cases e : k = f
        · subst e
          rw [Fields.get_set_same]
          cases refresh
          · refine .inr ⟨hd, ?_, rfl⟩
            unfold Board.next at hn
            split at hn
            · rename_i g hg
              obtain ⟨rfl, -⟩ := Prod.mk.inj (Option.some.inj hn)
              simpa [State.board, Board.field] using List.find?_some hg
            · obtain ⟨_, _, h⟩ := Option.map_eq_some_iff.mp hn
              simp at h
          · exact .inl rfl
        · rw [Fields.get_set_ne _ e]; exact .inl rfl
      · exact ⟨rfl, fun _ => .inl rfl⟩
    · simp only [State.board, State.modBoard, Sides.get_set]
      split
      · subst_vars; exact ⟨rfl, fun _ => .inl rfl⟩
      · exact ⟨rfl, fun _ => .inl rfl⟩
  · exact ⟨rfl, fun _ => .inl rfl⟩

theorem State.serve_panelsStand (h : s.panelsStand) (side : Side) : (s.serve side).panelsStand := by
  have ha : Acts s (s.serve side) [.displays] := by simp
  have e1 : (s.serve side).ssu = s.ssu := ha.frame .site (by decide)
  have e2 : (s.serve side).miu = s.miu := ha.frame .meters (by decide)
  have e3 : (s.serve side).pru = s.pru := ha.frame .prices (by decide)
  exact State.panelsStand_congr (by rw [e1]) (by rw [e2]) e3 (fun x => (s.serve_fields side x).1)
    (fun x k => ((s.serve_fields side x).2 (.grade k)).imp id fun h => h.2) h

/-- Where the panels stand, the report of an attempt's beginning changes nothing. -/
theorem State.serveLink_stand (h : s.panelsStand) (side : Side) : s.serveLink side = s.serve side := by
  have ha : Acts s (s.serve side) [.displays] := by simp
  have em : (s.serve side).miu = s.miu := ha.frame .meters (by decide)
  have ep : (s.serve side).pru = s.pru := ha.frame .prices (by decide)
  have er : ∀ x n, (s.serve side).route x n = s.route x n := fun x n => by simp only [State.route, em]
  have eg : ∀ g, (s.serve side).grade g = s.grade g := fun g => by simp only [State.grade, ep]
  have key : ∀ g, ((s.serve side).members g side).any (fun n =>
        ((s.board side).fields.get (.grade n)).st != (((s.serve side).board side).field (.grade n)).st) = true →
      (s.serve side).refreshPanel side g = s.serve side := by
    intro g hg
    obtain ⟨n, hn, hne⟩ := List.any_eq_true.mp hg
    simp only [State.members, er, List.mem_filter, List.mem_finRange, true_and, Bool.and_eq_true, beq_iff_eq] at hn
    obtain ⟨hf, rfl⟩ := hn
    rcases (s.serve_fields side side).2 (.grade n) with e | ⟨hd, e1, -⟩
    · exact absurd e.symm (by simpa [Board.field] using hne)
    · have hw := h (by simpa [State.powerDown] using hd) side _ (State.panelState_pending hf e1).symm
      have es : (s.serve side).panelState (s.route side n).grade side = s.panelState (s.route side n).grade side :=
        State.panelState_congr (by rw [em]) (s.serve_fields side side).1 fun k => by
          rcases (s.serve_fields side side).2 (.grade k) with e | ⟨_, e1, e2⟩
          · rw [e]; exact ⟨.rfl, .rfl⟩
          · rw [e1, e2]; decide
      unfold State.refreshPanel
      refine State.modPanel_id ?_
      rw [eg, es]
      exact Panel.become_same hw.1 (State.panelState_pending hf e1) fun hx => hw.2 (hw.1.trans hx)
  unfold State.serveLink State.reportFields
  generalize List.finRange 8 = l
  induction l with
  | nil => rfl
  | cons g l ih =>
    rw [List.foldl_cons]
    split
    · rename_i hg; rw [key g hg]; exact ih
    · exact ih

/-- Where the panels stand, serving both links is serving them without a report. -/
theorem State.serveLinks_stand (h : s.panelsStand) : s.serveLinks = (s.serve .a).serve .b := by
  unfold State.serveLinks
  rw [State.serveLink_stand h, State.serveLink_stand (State.serve_panelsStand h .a)]

end Sys2Proof.Machine
end

