-- ==== Sys2Proof/Laws/Event.lean ====
section
/-! SUPPORT. What a command's event does: the wrappers of React.lean, the publishing of the mirrors, the event's end when nothing else
waits. -/
namespace Sys2Proof.Machine

variable {s s0 t : State} {f : State → State} {P : List Part}

/-! ## Publishing -/

@[simp] theorem publish_pending (s0 s : State) : (publish s0 s).pending = s.pending := rfl
@[simp] theorem publish_mainSupply (s0 s : State) : (publish s0 s).mainSupply = s.mainSupply := rfl
@[simp] theorem publish_hostReset (s0 s : State) : (publish s0 s).hostReset = s.hostReset := rfl
@[simp] theorem publish_xm (s0 s : State) : (publish s0 s).xm = s.xm := rfl
@[simp] theorem publish_upset (s0 s : State) : (publish s0 s).upset = s.upset := rfl
@[simp] theorem publish_lanes (s0 s : State) : (publish s0 s).lanes = s.lanes := rfl
@[simp] theorem publish_ntc (s0 s : State) : (publish s0 s).ntc = s.ntc := rfl
@[simp] theorem publish_miu (s0 s : State) : (publish s0 s).miu = s.miu := rfl
@[simp] theorem publish_psc (s0 s : State) : (publish s0 s).psc = s.psc := rfl
@[simp] theorem publish_pru (s0 s : State) : (publish s0 s).pru = s.pru := rfl
@[simp] theorem publish_dlc (s0 s : State) : (publish s0 s).dlc = s.dlc := rfl
@[simp] theorem publish_iwu (s0 s : State) : (publish s0 s).iwu = s.iwu := rfl
@[simp] theorem publish_riu (s0 s : State) : (publish s0 s).riu = s.riu := rfl
@[simp] theorem publish_ssu (s0 s : State) : (publish s0 s).ssu = s.ssu := rfl
@[simp] theorem publish_rsc (s0 s : State) : (publish s0 s).rsc = s.rsc := rfl
@[simp] theorem publish_free (s0 s : State) : (publish s0 s).free = s.free := rfl
@[simp] theorem publish_pos (s0 s : State) (x : Side) : (publish s0 s).pos x = s.pos x := rfl
@[simp] theorem publish_meter (s0 s : State) (x : MeterNo) : (publish s0 s).meter x = s.meter x := rfl
@[simp] theorem publish_route (s0 s : State) (x : Side) (h : HoseNo) : (publish s0 s).route x h = s.route x h := rfl
@[simp] theorem publish_grade (s0 s : State) (x : Fin 8) : (publish s0 s).grade x = s.grade x := rfl
@[simp] theorem publish_board (s0 s : State) (x : Side) : (publish s0 s).board x = s.board x := rfl
@[simp] theorem publish_lane (s0 s : State) (x : LaneId) : (publish s0 s).lane x = s.lane x := rfl
@[simp] theorem publish_half (s0 s : State) (x : Nat) : (publish s0 s).half x = s.half x := rfl

/-- Publishing changes the mirrors alone. -/
theorem publish_kept (s0 s : State) (p : Part) : p.kept s (publish s0 s) := by cases p <;> first | rfl | exact ⟨rfl, rfl⟩

theorem memoryOk_publish {s : State} (s0 : State) (h : s.memoryOk) : (publish s0 s).memoryOk := h

theorem evenHalf_step {g : Half} (h : evenHalf g) (b : Bool) : evenHalf (stepGeneration g b) := by
  unfold stepGeneration evenHalf at *
  split
  · rw [BitVec.toNat_add, show (2 : Half).toNat = 2 from rfl]; omega
  · exact h

theorem generationsEven_publish {s : State} (s0 : State) (h : s.generationsEven) : (publish s0 s).generationsEven := by
  obtain ⟨h1, h2, h3, h4, h5, h6⟩ := h
  exact ⟨evenHalf_step h1 _, evenHalf_step h2 _, evenHalf_step h3 _, evenHalf_step h4 _, evenHalf_step h5 _,
    evenHalf_step (evenHalf_step (evenHalf_step (evenHalf_step h6 _) _) _) _⟩

theorem generationsEven_congr {s t : State} (h : t.mirrors.settled = s.mirrors.settled) (hs : s.generationsEven) :
    t.generationsEven := by
  simp only [Mirrors.settled, Mirrors.mk.injEq] at h
  simp only [State.generationsEven] at *
  rw [h.1, h.2.1, h.2.2.1, h.2.2.2.1, h.2.2.2.2.1, h.2.2.2.2.2.1]; exact hs

/-! ## The wrappers -/

theorem event_eq (s : State) (f : State → State) : event s f = .next (publish s (f s).react) := rfl

theorem poweredEvent_on (h : s.mainSupply = true) (f : State → State) :
    poweredEvent s f = .next (publish s (f s).react) := by simp [poweredEvent, h, event_eq]

theorem eventWhen_on (h : s.mainSupply = true) {c : Bool} (hc : c = true) (f : State → State) :
    eventWhen s c f = .next (publish s (f s).react) := by simp [eventWhen, hc, poweredEvent_on h]

theorem hostEvent_on (h : s.mainSupply = true) (hr : s.hostReset = false) (f : State → State) :
    hostEvent s f = .next (publish s (f s).react) := by simp [hostEvent, hr, poweredEvent_on h]

/-- With the kind's card held and its owner not yet having decided, the decision is taken on it. -/
theorem cardEvent_on {k : Kind} {off : Nat} {c : Card} (h : s.holds k off c) (f : Nat → Card → State → State) :
    cardEvent s k f = .next (publish s (f off c s).react) := by
  obtain ⟨hm, hl, hk⟩ := h
  simp [cardEvent, poweredEvent_on hm, State.withCard, hl, hk]

/-- A powered event does nothing, or it is the event. -/
theorem poweredEvent_cases (s : State) (f : State → State) :
    poweredEvent s f = .next s ∨ poweredEvent s f = .next (publish s (f s).react) := by
  unfold poweredEvent; split
  · exact .inr rfl
  · exact .inl rfl

theorem eventWhen_cases (s : State) (c : Bool) (f : State → State) :
    eventWhen s c f = .next s ∨ (c = true ∧ eventWhen s c f = .next (publish s (f s).react)) := by
  unfold eventWhen; split
  · rename_i h
    rcases poweredEvent_cases s f with h' | h'
    · exact .inl h'
    · exact .inr ⟨h, h'⟩
  · exact .inl rfl

theorem hostEvent_cases (s : State) (f : State → State) :
    hostEvent s f = .next s ∨ hostEvent s f = .next (publish s (f s).react) := by
  unfold hostEvent; split
  · exact .inl rfl
  · exact poweredEvent_cases s f

/-! ## The end of an event -/

theorem State.quiet.calm (h : s.quiet) : s.calm := by
  obtain ⟨⟨h1, h2, h3, h4, h5, h6⟩, h7⟩ := h
  exact ⟨fun a b => absurd b (h1 a), fun a b => absurd b (h2 a), fun _ g hg => by simp [h3 g] at hg, fun _ l hl => by simp [h4] at hl,
    .inl h5, fun x k => absurd k (h6 x), h7⟩

theorem State.applyPrices_idle (h : s.pricesWait) : s.applyPrices = s := by
  have : ∀ l : List (Fin 8), l.foldl (fun s g =>
      match (s.grade g).pending with
      | some (p, c) => if s.lockedOn g || s.powerDown then s else s.applyPrice g p c
      | none => s) s = s := by
    intro l
    induction l with
    | nil => rfl
    | cons g l ih =>
      rw [List.foldl_cons]
      have : (match (s.grade g).pending with
          | some (p, c) => if s.lockedOn g || s.powerDown then s else s.applyPrice g p c
          | none => s) = s := by
        split
        · rename_i p c hp
          by_cases hd : s.ssu.site = .powerDown
          · simp [State.powerDown, hd]
          · simp [h hd g (by simp [hp])]
        · rfl
      rw [this]; exact ih
  exact this _

theorem State.gate_idle {side : Side} (h : s.gateWaits side) : s.gate side = s := by
  unfold State.gate
  dsimp only
  split
  · rename_i x h1 h2
    obtain ⟨hp, hu, hb⟩ := h h1 x h2
    obtain ⟨p, hp⟩ := Option.isSome_iff_exists.mp hp
    simp only [hp, hu, hb]
    simp
  · rfl

theorem State.examinePositions_idle (h : s.closingWaits) : s.examinePositions = s :=
  if_neg fun ⟨h1, h2, ha, hb⟩ => by obtain ⟨x, hx⟩ := h h1 h2; cases x <;> simp_all

theorem State.updating_of {g : Fin 8} {side : Side} (h : ((s.grade g).panels.get side).state = .updating) : s.updating g = true := by
  simp only [State.updating, List.any_eq_true]
  exact ⟨side, by cases side <;> simp [bothSides], by simp [h]⟩

theorem State.examinePanels_idle (h : s.panelsWait) : s.examinePanels = s :=
  if_neg fun ⟨h1, h2, hu⟩ => by
    obtain ⟨g, side, hg⟩ := h h1 h2
    simp only [State.anyUpdating, List.any_eq_false] at hu
    exact hu g (List.mem_finRange g) (State.updating_of hg)

theorem State.runStore_idle (h : s.stepsWait) (n : Nat) : State.runStore n s = s := by
  cases n with
  | zero => rfl
  | succ n =>
    rcases h with h | h | h
    · simp [State.runStore, Rsc.canBegin, h]
    · obtain ⟨a, h⟩ := Option.isSome_iff_exists.mp h
      simp [State.runStore, Rsc.canBegin, h]
    · simp [State.runStore, Rsc.canBegin, h]

theorem State.finishLoad_idle (h : s.loadWaits) : s.finishLoad = s := by
  unfold State.finishLoad
  split
  · rfl
  · rename_i l hl
    refine if_neg fun k => ?_
    simp only [Bool.and_eq_true, Bool.not_eq_true'] at k
    have := h (by simpa [State.powerDown] using k.2) l hl k.1.1.1 k.1.1.2
    simp [this] at k

/-! What waits stands in few records: it goes on waiting when these stand. -/

theorem State.panelsWait_congr (hs : t.ssu = s.ssu) (hg : t.pru = s.pru) (h : s.panelsWait) : t.panelsWait := by
  unfold State.panelsWait State.grade at *; rw [hs, hg]; exact h

theorem State.closingWaits_congr (hs : t.ssu = s.ssu) (hp : ∀ side, t.pos side = s.pos side) (h : s.closingWaits) : t.closingWaits := by
  unfold State.closingWaits at *; rw [hs]; simpa only [hp] using h

theorem State.pricesWait_congr (hs : t.ssu = s.ssu) (hg : t.pru = s.pru) (hp : ∀ side, t.pos side = s.pos side) (h : s.pricesWait) :
    t.pricesWait := by
  unfold State.pricesWait State.lockedOn State.grade at *; rw [hs, hg]; simpa only [hp] using h

theorem State.loadWaits_congr (hs : t.ssu = s.ssu) (hg : t.pru = s.pru) (h : s.loadWaits) : t.loadWaits := by
  unfold State.loadWaits State.updating State.grade at *; rw [hs, hg]; exact h

theorem State.gateWaits_congr {side : Side} (hp : t.pos side = s.pos side) (hg : t.pru = s.pru) (h : s.gateWaits side) :
    t.gateWaits side := by
  unfold State.gateWaits State.grade at *; rw [hp, hg]; exact h

/-- Where the conditions examined lead to a state whose panels stand, and then the contents are sent, the links are served once. -/
theorem State.react_once (he : s.examine = t.sendAll) (h : t.panelsStand) : s.react = (t.sendAll.serve .a).serve .b := by
  have hl := State.serveLinks_stand (State.sendAll_panelsStand h)
  have ha : Acts t.sendAll ((t.sendAll.serve .a).serve .b) [.displays] := by simp
  have hp : ((t.sendAll.serve .a).serve .b).pru = t.sendAll.pru := ha.frame .prices (by decide)
  simp only [State.react, settleFuel, State.settle, he, hl, hp, if_true]

/-- When what waits goes on waiting, the end of an event only sends contents to the boards and serves their links. -/
theorem State.react_calm (h : s.calm) : s.react = (s.sendAll.serve .a).serve .b := by
  obtain ⟨h0, h1, h2, h3, h4, h5, h6⟩ := h
  refine State.react_once ?_ h6
  simp only [State.examine, State.applyPrices_idle h2, State.gate_idle (h5 .a), State.gate_idle (h5 .b), State.examinePanels_idle h0,
    State.examinePositions_idle h1, State.runStore_idle h4, State.finishLoad_idle h3]

/-- When what waits goes on waiting, the end of an event touches the displays alone. -/
theorem Acts.react_calm {ps : List Part} (hs : Acts s0 s ps) (h : s.calm) (hp : Part.displays ∈ ps) : Acts s0 s.react ps := by
  rw [State.react_calm h]; simp (maxDischargeDepth := 8) [hs, hp]

/-- A step that waits alone begins at the end of the event, with the live values (R178). -/
theorem State.react_begins {st : StoreStep} {g : Nat} (h0 : s.panelsWait) (h1 : s.closingWaits) (h2 : s.pricesWait)
    (h3 : s.loadWaits) (h4 : s.rsc.queue = [st]) (h5 : ∀ side, s.gateWaits side) (h6 : s.panelsStand) (ha : s.rsc.active = none)
    (hk : s.rsc.check = .none) (hg : s.rsc.generation = some g) (hr : Requester.rebuild ∉ st.requesters)
    (hn : st.records ≠ allRecords) :
    s.react = ((((s.modRsc fun r => { r with
      queue := [], active := some { step := st, generation := g, contents := s.liveContents } }).sendAll).serve .a).serve .b) := by
  have e3 : State.runStore storeFuel s = s.modRsc fun r => { r with
      queue := [], active := some { step := st, generation := g, contents := s.liveContents } } := by
    have hb : s.beginStep = (s.modRsc fun r => { r with
        queue := [], active := some { step := st, generation := g, contents := s.liveContents } }, []) := by
      simp [State.beginStep, h4, hg, hr, hn]
    have hc : s.rsc.canBegin = true := by simp [Rsc.canBegin, h4, ha, hk]
    have hc' : (s.modRsc fun r => { r with
        queue := [], active := some { step := st, generation := g, contents := s.liveContents } }).rsc.canBegin = false := by
      simp [Rsc.canBegin]
    simp only [storeFuel, State.runStore, hc, hb, if_true, State.answerAll, List.foldl_nil, hc']
    simp
  have e4 : ∀ f, (s.modRsc f).finishLoad = s.modRsc f := fun f => State.finishLoad_idle (State.loadWaits_congr rfl rfl h3)
  refine State.react_once ?_ (show State.panelsStand (s.modRsc _) from h6)
  simp only [State.examine, State.applyPrices_idle h2, State.gate_idle (h5 .a), State.gate_idle (h5 .b), State.examinePanels_idle h0,
    State.examinePositions_idle h1, e3, e4]

/-- The last touches of an event are the displays'. -/
theorem Acts.sent (hs : Acts s0 s P) (hp : Part.displays ∈ P) : Acts s0 ((s.sendAll.serve .a).serve .b) P :=
  ((hs.sendAll hp).serve .a hp).serve .b hp

/-! ## Notices -/

theorem Ntc.Grows.notified {t u : State} (h : t.ntc.Grows u.ntc) {c : Cause} (hc : t.notified c) : u.notified c :=
  ⟨h.pending _ hc.1, h.causes _ _ hc.2⟩

theorem Ntc.Grows.reports {t u : State} (h : t.ntc.Grows u.ntc) {c : Cause} {d : Nat} (hc : s.reports t c d) : s.reports u c d := by
  refine ⟨h.notified hc.1, fun he => ?_⟩
  rw [← hc.2 he]
  refine (h.first _ fun h0 => ?_).1
  have := hc.1.2
  rw [h0] at this
  simp at this

/-- A cause raised is reported, when the operations before it raised none for its source. -/
theorem State.reports_raise {c : Cause} (d : Nat) (h : t.ntc.sources[c.source] = s.ntc.sources[c.source]) (hb : c.bit < 16) :
    s.reports (t.raise c d) c d := by
  have e : (t.raise c d).ntc.sources[c.source] =
      (t.ntc.sources[c.source]).gather c.bit (BitVec.ofNat 16 d) (t.ntc.presented == some c.source) := by
    rw [Ntc.raise_source, if_pos rfl]
  refine ⟨⟨by rw [e]; rfl, ?_⟩, fun he => ?_⟩
  · rw [e]; simp [SourceRec.gather, hb]
  · rw [e, h]; simp only [SourceRec.gather]; rw [if_pos he]

theorem Cause.bit_lt (c : Cause) : c.bit < 16 := by
  cases c <;> simp only [Cause.bit] <;> first | omega | (rename_i x; cases x <;> simp [PosCause.bit, LaneCause.bit])

/-- What a whole event leaves alone, from what its own effect leaves alone, when nothing else waits. -/
theorem changesOnly_of_acts {ps : List Part} (h : Acts s (f s) ps) (hc : (f s).calm) (hp : Part.displays ∈ ps) :
    s.changesOnly (publish s (f s).react) ps :=
  fun p hn => Part.kept_same (Part.kept_trans ((h.react_calm hc hp).frame p hn) (publish_kept _ _ p))

end Sys2Proof.Machine
end

