-- ==== Sys2Proof/Laws/Exec.lean ====
section
/-! SUPPORT. What a command does, said once: every command but a few listed ones either changes nothing, or makes one event, its own
effect followed by the end of the event (`exec_event`). -/
namespace Sys2Proof.Machine

/-- All fifteen parts. -/
def every : List Part :=
  [.queue, .lines, .memory, .parity, .lanes, .notices, .meters, .positions, .prices, .displays, .inputs, .reader, .site, .store, .free]

theorem mem_every (p : Part) : p ∈ every := by cases p <;> simp [every]

/-- Nothing happens, or an operation acts and the end of the event follows. -/
def State.eventTo (s t : State) : Prop := t = s ∨ ∃ u : State, Acts s u every ∧ t = publish s u.react

theorem event_of_powered {s t : State} {f : State → State} (h : poweredEvent s f = .next t) (hf : Acts s (f s) every) : s.eventTo t := by
  rcases poweredEvent_cases s f with h' | h' <;> rw [h'] at h
  · exact .inl (Host.Outcome.next.inj h).symm
  · exact .inr ⟨f s, hf, (Host.Outcome.next.inj h).symm⟩

theorem event_of_when {s t : State} {c : Bool} {f : State → State} (h : eventWhen s c f = .next t) (hf : Acts s (f s) every) :
    s.eventTo t := by
  unfold eventWhen at h; split at h
  · exact event_of_powered h hf
  · exact .inl (Host.Outcome.next.inj h).symm

theorem event_of_host {s t : State} {f : State → State} (h : hostEvent s f = .next t) (hf : Acts s (f s) every) : s.eventTo t := by
  unfold hostEvent at h; split at h
  · exact .inl (Host.Outcome.next.inj h).symm
  · exact event_of_powered h hf

theorem event_of_card {s t : State} {k : Kind} {f : Nat → Card → State → State} (h : cardEvent s k f = .next t)
    (hf : ∀ off c u, Acts s u every → Acts s (f off c u) every) : s.eventTo t :=
  event_of_powered h (Acts.withCard (Acts.refl _ _) k f hf)


theorem execRecognitionInstant_event {s t : State} {meter : MeterNo} {phaseA : Option Bool} {phaseB : Option Bool} (h : execRecognitionInstant meter phaseA phaseB s = .next t) : s.eventTo t := by
  refine event_of_when h ?_
  simp (maxDischargeDepth := 12) [mem_every]

theorem execOneSecondPeriod_event {s t : State} (h : execOneSecondPeriod s = .next t) : s.eventTo t := by
  refine event_of_powered h ?_
  simp (maxDischargeDepth := 12) [mem_every]

theorem execNozzleLift_event {s t : State} {side : Side} {hose : HoseNo} (h : execNozzleLift side hose s = .next t) : s.eventTo t := by
  refine event_of_when h ?_
  simp (maxDischargeDepth := 12) [mem_every]

theorem execNozzleHang_event {s t : State} {side : Side} {hose : HoseNo} (h : execNozzleHang side hose s = .next t) : s.eventTo t := by
  refine event_of_when h ?_
  simp (maxDischargeDepth := 12) [mem_every]

theorem execMotorSettleExpiry_event {s t : State} {side : Side} (h : execMotorSettleExpiry side s = .next t) : s.eventTo t := by
  refine event_of_when h ?_
  simp (maxDischargeDepth := 12) [mem_every]

theorem execSatelliteNozzleLift_event {s t : State} {side : Side} (h : execSatelliteNozzleLift side s = .next t) : s.eventTo t := by
  refine event_of_when h ?_
  simp (maxDischargeDepth := 12) [mem_every]

theorem execSatelliteNozzleHang_event {s t : State} {side : Side} (h : execSatelliteNozzleHang side s = .next t) : s.eventTo t := by
  refine event_of_when h ?_
  simp (maxDischargeDepth := 12) [mem_every]

theorem execEmergencyStopAssertion_event {s t : State} (h : execEmergencyStopAssertion s = .next t) : s.eventTo t := by
  refine event_of_when h ?_
  simp (maxDischargeDepth := 12) [mem_every]

theorem execEmergencyStopRelease_event {s t : State} (h : execEmergencyStopRelease s = .next t) : s.eventTo t := by
  refine event_of_when h ?_
  simp (maxDischargeDepth := 12) [mem_every]

theorem execLoopDeparted_event {s t : State} {loop : Loop} (h : execLoopDeparted loop s = .next t) : s.eventTo t := by
  refine event_of_when h ?_
  dsimp only; (repeat' split) <;> simp (maxDischargeDepth := 12) [mem_every]

theorem execLoopReturned_event {s t : State} {loop : Loop} (h : execLoopReturned loop s = .next t) : s.eventTo t := by
  refine event_of_when h ?_
  simp (maxDischargeDepth := 12) [mem_every]

theorem execSealChange_event {s t : State} {isOpen : Bool} (h : execSealChange isOpen s = .next t) : s.eventTo t := by
  refine event_of_when h ?_
  simp (maxDischargeDepth := 12) [mem_every]

theorem execDoorChange_event {s t : State} {door : Door} {isOpen : Bool} (h : execDoorChange door isOpen s = .next t) : s.eventTo t := by
  refine event_of_when h ?_
  simp (maxDischargeDepth := 12) [mem_every]

theorem execGeneralInputChange_event {s t : State} {which : Byte} {levels : Byte} (h : execGeneralInputChange which levels s = .next t) : s.eventTo t := by
  refine event_of_when h ?_
  simp (maxDischargeDepth := 12) [mem_every]

theorem execSettleWindowExpiry_event {s t : State} {side : Side} (h : execSettleWindowExpiry side s = .next t) : s.eventTo t := by
  refine event_of_when h ?_
  simp (maxDischargeDepth := 12) [mem_every]

theorem execFlowTimerExpiry_event {s t : State} {side : Side} (h : execFlowTimerExpiry side s = .next t) : s.eventTo t := by
  refine event_of_when h ?_
  simp (maxDischargeDepth := 12) [mem_every]

theorem execAuthTimerExpiry_event {s t : State} {side : Side} (h : execAuthTimerExpiry side s = .next t) : s.eventTo t := by
  refine event_of_when h ?_
  simp (maxDischargeDepth := 12) [mem_every]

theorem execAuthorize_event {s t : State} (h : execAuthorize s = .next t) : s.eventTo t := event_of_card h fun off c u hu => by simp [hu, mem_every]

theorem execCancel_event {s t : State} (h : execCancel s = .next t) : s.eventTo t := event_of_card h fun off c u hu => by simp [hu, mem_every]

theorem execStop_event {s t : State} (h : execStop s = .next t) : s.eventTo t := event_of_card h fun off c u hu => by simp [hu, mem_every]

theorem execResume_event {s t : State} (h : execResume s = .next t) : s.eventTo t := event_of_card h fun off c u hu => by simp [hu, mem_every]

theorem execCloseSale_event {s t : State} (h : execCloseSale s = .next t) : s.eventTo t := event_of_card h fun off c u hu => by simp [hu, mem_every]

theorem execReadSale_event {s t : State} (h : execReadSale s = .next t) : s.eventTo t := event_of_card h fun off c u hu => by simp [hu, mem_every]

theorem execClosePosition_event {s t : State} (h : execClosePosition s = .next t) : s.eventTo t := event_of_card h fun off c u hu => by simp [hu, mem_every]

theorem execOpenPosition_event {s t : State} (h : execOpenPosition s = .next t) : s.eventTo t := event_of_card h fun off c u hu => by simp [hu, mem_every]

theorem execConfigurePosition_event {s t : State} (h : execConfigurePosition s = .next t) : s.eventTo t := event_of_card h fun off c u hu => by simp [hu, mem_every]

theorem execConfigureMeter_event {s t : State} (h : execConfigureMeter s = .next t) : s.eventTo t := event_of_card h fun off c u hu => by simp [hu, mem_every]

theorem execConfigureHose_event {s t : State} (h : execConfigureHose s = .next t) : s.eventTo t := event_of_card h fun off c u hu => by simp [hu, mem_every]

theorem execSetRouting_event {s t : State} (h : execSetRouting s = .next t) : s.eventTo t := event_of_card h fun off c u hu => by simp [hu, mem_every]

theorem execClearMeterFault_event {s t : State} (h : execClearMeterFault s = .next t) : s.eventTo t := event_of_card h fun off c u hu => by simp [hu, mem_every]

theorem execReadMeters_event {s t : State} (h : execReadMeters s = .next t) : s.eventTo t := event_of_card h fun off c u hu => by simp [hu, mem_every]

theorem execSetPricing_event {s t : State} (h : execSetPricing s = .next t) : s.eventTo t := event_of_card h fun off c u hu => by simp [hu, mem_every]

theorem execClearSiteFlags_event {s t : State} (h : execClearSiteFlags s = .next t) : s.eventTo t := event_of_card h fun off c u hu => by simp [hu, mem_every]

theorem execLoadPrice_event {s t : State} (h : execLoadPrice s = .next t) : s.eventTo t := event_of_card h fun off c u hu => by simp [hu, mem_every]

theorem execSetDisplayPolicy_event {s t : State} (h : execSetDisplayPolicy s = .next t) : s.eventTo t := event_of_card h fun off c u hu => by simp [hu, mem_every]

theorem execLitFrame_event {s t : State} {board : Side} {frame : LitFrame} (h : execLitFrame board frame s = .next t) : s.eventTo t := by
  refine event_of_when h ?_
  simp (maxDischargeDepth := 12) [mem_every]

theorem execAnswerTimeout_event {s t : State} {board : Side} (h : execAnswerTimeout board s = .next t) : s.eventTo t := by
  refine event_of_when h ?_
  simp (maxDischargeDepth := 12) [mem_every]

theorem execRefreshInstant_event {s t : State} {board : Side} (h : execRefreshInstant board s = .next t) : s.eventTo t := by
  refine event_of_when h ?_
  simp (maxDischargeDepth := 12) [mem_every]

theorem execSetWatch_event {s t : State} (h : execSetWatch s = .next t) : s.eventTo t := event_of_card h fun off c u hu => by simp [hu, mem_every]

theorem execSetRelayFloor_event {s t : State} (h : execSetRelayFloor s = .next t) : s.eventTo t := event_of_card h fun off c u hu => by simp [hu, mem_every]

theorem execSettleTimerExpiry_event {s t : State} (h : execSettleTimerExpiry s = .next t) : s.eventTo t := by
  refine event_of_when h ?_
  simp (maxDischargeDepth := 12) [mem_every]

theorem execInboundFrame_event {s t : State} {frame : FrameEnd} (h : execInboundFrame frame s = .next t) : s.eventTo t := by
  refine event_of_when h ?_
  simp (maxDischargeDepth := 12) [mem_every]

theorem execInboundFrameTimeout_event {s t : State} (h : execInboundFrameTimeout s = .next t) : s.eventTo t := by
  refine event_of_when h ?_
  simp (maxDischargeDepth := 12) [mem_every]

theorem execAnswerByteSent_event {s t : State} (h : execAnswerByteSent s = .next t) : s.eventTo t := by
  refine event_of_when h ?_
  simp (maxDischargeDepth := 12) [mem_every]

theorem execReaderAnswer_event {s t : State} {answer : AnswerByte} (h : execReaderAnswer answer s = .next t) : s.eventTo t := by
  refine event_of_when h ?_
  (repeat' split) <;> simp (maxDischargeDepth := 12) [mem_every]

theorem execSendAnswerExpiry_event {s t : State} (h : execSendAnswerExpiry s = .next t) : s.eventTo t := by
  refine event_of_when h ?_
  (repeat' split) <;> simp (maxDischargeDepth := 12) [mem_every]

theorem execHoldDelayExpiry_event {s t : State} (h : execHoldDelayExpiry s = .next t) : s.eventTo t := by
  refine event_of_when h ?_
  simp (maxDischargeDepth := 12) [mem_every]

theorem execArmReceive_event {s t : State} (h : execArmReceive s = .next t) : s.eventTo t := event_of_card h fun off c u hu => by simp [hu, mem_every]

theorem execDisarmReceive_event {s t : State} (h : execDisarmReceive s = .next t) : s.eventTo t := event_of_card h fun off c u hu => by simp [hu, mem_every]

theorem execSend_event {s t : State} (h : execSend s = .next t) : s.eventTo t := event_of_card h fun off c u hu => by simp [hu, mem_every]

theorem execReaderOn_event {s t : State} (h : execReaderOn s = .next t) : s.eventTo t := event_of_card h fun off c u hu => by simp [hu, mem_every]

theorem execOpenLink_event {s t : State} (h : execOpenLink s = .next t) : s.eventTo t := event_of_card h fun off c u hu => by simp [hu, mem_every]

theorem execCloseLink_event {s t : State} (h : execCloseLink s = .next t) : s.eventTo t := event_of_card h fun off c u hu => by simp [hu, mem_every]

theorem execReaderOff_event {s t : State} (h : execReaderOff s = .next t) : s.eventTo t := event_of_card h fun off c u hu => by simp [hu, mem_every]

theorem execReleaseQuarantine_event {s t : State} (h : execReleaseQuarantine s = .next t) : s.eventTo t := event_of_card h fun off c u hu => by simp [hu, mem_every]

theorem execStageTimerExpiry_event {s t : State} (h : execStageTimerExpiry s = .next t) : s.eventTo t := by
  refine event_of_when h ?_
  simp (maxDischargeDepth := 12) [mem_every]

theorem execMeterSettleExpiry_event {s t : State} (h : execMeterSettleExpiry s = .next t) : s.eventTo t := by
  refine event_of_when h ?_
  simp (maxDischargeDepth := 12) [mem_every]

theorem execSetSchedule_event {s t : State} (h : execSetSchedule s = .next t) : s.eventTo t := event_of_card h fun off c u hu => by simp [hu, mem_every]

theorem execSetClock_event {s t : State} (h : execSetClock s = .next t) : s.eventTo t := event_of_card h fun off c u hu => by simp [hu, mem_every]

theorem execNightNow_event {s t : State} (h : execNightNow s = .next t) : s.eventTo t := event_of_card h fun off c u hu => by simp [hu, mem_every]

theorem execWakeNow_event {s t : State} (h : execWakeNow s = .next t) : s.eventTo t := event_of_card h fun off c u hu => by simp [hu, mem_every]

theorem execSupplyWarning_event {s t : State} (h : execSupplyWarning s = .next t) : s.eventTo t := by
  refine event_of_when h ?_
  dsimp only; (repeat' split) <;> simp (maxDischargeDepth := 12) [mem_every]

theorem execFreezeWindowExpiry_event {s t : State} (h : execFreezeWindowExpiry s = .next t) : s.eventTo t := by
  refine event_of_when h ?_
  simp (maxDischargeDepth := 12) [mem_every]

theorem execSupplyWarnRelease_event {s t : State} (h : execSupplyWarnRelease s = .next t) : s.eventTo t := by
  refine event_of_when h ?_
  simp (maxDischargeDepth := 12) [mem_every]

theorem execStoreCheckBegin_event {s t : State} (h : execStoreCheckBegin s = .next t) : s.eventTo t := by
  refine event_of_when h ?_
  simp (maxDischargeDepth := 12) [mem_every]

theorem execStoreCheckEnd_event {s t : State} (h : execStoreCheckEnd s = .next t) : s.eventTo t := by
  refine event_of_when h ?_
  simp (maxDischargeDepth := 12) [mem_every]

theorem execStoreStepCompletion_event {s t : State} (h : execStoreStepCompletion s = .next t) : s.eventTo t := by
  refine event_of_when h ?_
  simp (maxDischargeDepth := 12) [mem_every]

theorem execReadTotals_event {s t : State} (h : execReadTotals s = .next t) : s.eventTo t := event_of_card h fun off c u hu => by simp [hu, mem_every]

theorem execRebuildStore_event {s t : State} (h : execRebuildStore s = .next t) : s.eventTo t := event_of_card h fun off c u hu => by simp [hu, mem_every]

theorem execGoStart_event {s t : State} {lane : LaneId} {value : BitVec 15} (h : execGoStart lane value s = .next t) : s.eventTo t := by
  refine event_of_host h ?_
  simp (maxDischargeDepth := 12) [mem_every]

theorem execGoAbort_event {s t : State} {lane : LaneId} {value : BitVec 15} (h : execGoAbort lane value s = .next t) : s.eventTo t := by
  refine event_of_host h ?_
  simp (maxDischargeDepth := 12) [mem_every]

theorem execHostWrite_event {s t : State} {offset : BitVec 15} {value : Half} (h : execHostWrite offset value s = .next t) : s.eventTo t := by
  refine event_of_host h ?_
  simp (maxDischargeDepth := 12) [mem_every]

theorem execInboundFrameStart_event {s t : State} (h : execInboundFrameStart s = .next t) : s.eventTo t := by
  refine event_of_when h ?_
  simp (maxDischargeDepth := 12) [mem_every]

theorem execLineSilence_event {s t : State} (h : execLineSilence s = .next t) : s.eventTo t := by
  refine event_of_when h ?_
  simp (maxDischargeDepth := 12) [mem_every]

theorem execSendFrameEnd_event {s t : State} (h : execSendFrameEnd s = .next t) : s.eventTo t := by
  refine event_of_when h ?_
  simp (maxDischargeDepth := 12) [mem_every]

/-- The commands whose effect is no plain event: they reach the part with main supply off, or they are the host's on the notices. -/
def special : Instr → Bool
  | .coldStart | .powerOn | .supplyFall | .batteryLoss | .batteryReturn | .hostReset | .hostResetRelease | .clockCount | .noticeRead
  | .noticeDone _ | .overrunWrite _ | .enableWrite _ | .hostParity _ => true
  | _ => false

/-- Every other command changes nothing or makes one event. -/
theorem exec_event {i : Instr} {s t : State} (hi : special i = false) (h : exec i s = .next t) : s.eventTo t := by
  cases i
  case recognitionInstant meter phaseA phaseB => exact execRecognitionInstant_event (meter := meter) (phaseA := phaseA) (phaseB := phaseB) h
  case oneSecondPeriod => exact execOneSecondPeriod_event h
  case nozzleLift side hose => exact execNozzleLift_event (side := side) (hose := hose) h
  case nozzleHang side hose => exact execNozzleHang_event (side := side) (hose := hose) h
  case motorSettleExpiry side => exact execMotorSettleExpiry_event (side := side) h
  case satelliteNozzleLift side => exact execSatelliteNozzleLift_event (side := side) h
  case satelliteNozzleHang side => exact execSatelliteNozzleHang_event (side := side) h
  case emergencyStopAssertion => exact execEmergencyStopAssertion_event h
  case emergencyStopRelease => exact execEmergencyStopRelease_event h
  case loopDeparted loop => exact execLoopDeparted_event (loop := loop) h
  case loopReturned loop => exact execLoopReturned_event (loop := loop) h
  case sealChange isOpen => exact execSealChange_event (isOpen := isOpen) h
  case doorChange door isOpen => exact execDoorChange_event (door := door) (isOpen := isOpen) h
  case generalInputChange which levels => exact execGeneralInputChange_event (which := which) (levels := levels) h
  case settleWindowExpiry side => exact execSettleWindowExpiry_event (side := side) h
  case flowTimerExpiry side => exact execFlowTimerExpiry_event (side := side) h
  case authTimerExpiry side => exact execAuthTimerExpiry_event (side := side) h
  case authorize => exact execAuthorize_event h
  case cancel => exact execCancel_event h
  case stop => exact execStop_event h
  case resume => exact execResume_event h
  case closeSale => exact execCloseSale_event h
  case readSale => exact execReadSale_event h
  case closePosition => exact execClosePosition_event h
  case openPosition => exact execOpenPosition_event h
  case configurePosition => exact execConfigurePosition_event h
  case configureMeter => exact execConfigureMeter_event h
  case configureHose => exact execConfigureHose_event h
  case setRouting => exact execSetRouting_event h
  case clearMeterFault => exact execClearMeterFault_event h
  case readMeters => exact execReadMeters_event h
  case setPricing => exact execSetPricing_event h
  case clearSiteFlags => exact execClearSiteFlags_event h
  case loadPrice => exact execLoadPrice_event h
  case setDisplayPolicy => exact execSetDisplayPolicy_event h
  case litFrame board frame => exact execLitFrame_event (board := board) (frame := frame) h
  case answerTimeout board => exact execAnswerTimeout_event (board := board) h
  case refreshInstant board => exact execRefreshInstant_event (board := board) h
  case setWatch => exact execSetWatch_event h
  case setRelayFloor => exact execSetRelayFloor_event h
  case settleTimerExpiry => exact execSettleTimerExpiry_event h
  case inboundFrame frame => exact execInboundFrame_event (frame := frame) h
  case inboundFrameTimeout => exact execInboundFrameTimeout_event h
  case answerByteSent => exact execAnswerByteSent_event h
  case readerAnswer answer => exact execReaderAnswer_event (answer := answer) h
  case sendAnswerExpiry => exact execSendAnswerExpiry_event h
  case holdDelayExpiry => exact execHoldDelayExpiry_event h
  case armReceive => exact execArmReceive_event h
  case disarmReceive => exact execDisarmReceive_event h
  case send => exact execSend_event h
  case readerOn => exact execReaderOn_event h
  case openLink => exact execOpenLink_event h
  case closeLink => exact execCloseLink_event h
  case readerOff => exact execReaderOff_event h
  case releaseQuarantine => exact execReleaseQuarantine_event h
  case clockCount => simp [special] at hi
  case stageTimerExpiry => exact execStageTimerExpiry_event h
  case meterSettleExpiry => exact execMeterSettleExpiry_event h
  case setSchedule => exact execSetSchedule_event h
  case setClock => exact execSetClock_event h
  case nightNow => exact execNightNow_event h
  case wakeNow => exact execWakeNow_event h
  case supplyWarning => exact execSupplyWarning_event h
  case freezeWindowExpiry => exact execFreezeWindowExpiry_event h
  case supplyWarnRelease => exact execSupplyWarnRelease_event h
  case coldStart => simp [special] at hi
  case supplyFall => simp [special] at hi
  case powerOn => simp [special] at hi
  case storeCheckBegin => exact execStoreCheckBegin_event h
  case storeCheckEnd => exact execStoreCheckEnd_event h
  case storeStepCompletion => exact execStoreStepCompletion_event h
  case batteryLoss => simp [special] at hi
  case readTotals => exact execReadTotals_event h
  case rebuildStore => exact execRebuildStore_event h
  case hostReset => simp [special] at hi
  case goStart lane value => exact execGoStart_event (lane := lane) (value := value) h
  case goAbort lane value => exact execGoAbort_event (lane := lane) (value := value) h
  case noticeRead => simp [special] at hi
  case noticeDone => simp [special] at hi
  case overrunWrite => simp [special] at hi
  case enableWrite => simp [special] at hi
  case registerWriteOther => exact .inl (Host.Outcome.next.inj h).symm
  case hostWrite offset value => exact execHostWrite_event (offset := offset) (value := value) h
  case hostParity => simp [special] at hi
  case inboundFrameStart => exact execInboundFrameStart_event h
  case lineSilence => exact execLineSilence_event h
  case sendFrameEnd => exact execSendFrameEnd_event h
  case batteryReturn => simp [special] at hi
  case hostResetRelease => simp [special] at hi

end Sys2Proof.Machine
end

