-- ==== Sys2Proof/Laws/Position.lean ====
section
/-! SUPPORT. What each operation of the Position Controller does to the position records: the side's own record by an equation, the
other side's left alone. -/
namespace Sys2Proof.Machine

variable {s t : State} {P : List Part}

/-- An operation that does not name the positions leaves every record. -/
theorem Acts.pos_eq (h : Acts s t P) (hp : Part.positions ∉ P) (x : Side) : t.pos x = s.pos x := by
  have := h.frame .positions hp
  simp only [Part.kept] at this
  simp [State.pos, this]

/-! ## States, flags, arrivals -/

theorem State.modPos_pos_ne (s : State) {side x : Side} (f : Position → Position) (h : x ≠ side) :
    (s.modPos side f).pos x = s.pos x := by rw [State.modPos_pos_eq, if_neg h]

@[simp] theorem State.modPos_modPos (s : State) (side : Side) (f g : Position → Position) :
    (s.modPos side f).modPos side g = s.modPos side fun p => g (f p) := by cases side <;> rfl

@[simp] theorem State.raisePos_psc (s : State) (side : Side) (c : PosCause) (d : Nat) : (s.raisePos side c d).psc = s.psc := rfl
@[simp] theorem State.raisePos_pos (s : State) (side : Side) (c : PosCause) (d : Nat) (x : Side) :
    (s.raisePos side c d).pos x = s.pos x := rfl
@[simp] theorem State.raisePos_ssu (s : State) (side : Side) (c : PosCause) (d : Nat) : (s.raisePos side c d).ssu = s.ssu := rfl
@[simp] theorem State.raisePos_iwu (s : State) (side : Side) (c : PosCause) (d : Nat) : (s.raisePos side c d).iwu = s.iwu := rfl
@[simp] theorem State.raisePos_miu (s : State) (side : Side) (c : PosCause) (d : Nat) : (s.raisePos side c d).miu = s.miu := rfl
@[simp] theorem State.raisePos_rsc (s : State) (side : Side) (c : PosCause) (d : Nat) : (s.raisePos side c d).rsc = s.rsc := rfl

theorem State.lifted_congr (hm : t.miu = s.miu) (hi : t.iwu = s.iwu) (x : Side) : t.lifted x = s.lifted x := by
  have : t.isLifted x = s.isLifted x := by funext h; simp only [State.isLifted, State.route, hm, hi]
  simp only [State.lifted, this]

theorem State.closePos_pos (s : State) (side : Side) (r : CloseReason) :
    (s.closePos side r).pos side = { (s.pos side).enter (.closed r) with auth := none, authTimer := none } := by
  simp [State.closePos]
theorem State.closePos_pos_ne (s : State) {side x : Side} (r : CloseReason) (h : x ≠ side) : (s.closePos side r).pos x = s.pos x := by
  simp [State.closePos, State.modPos_pos_ne _ _ h]

theorem State.setReason_pos (s : State) (side : Side) (r : CloseReason) :
    (s.setReason side r).pos side = (s.pos side).enter (.closed r) := by simp [State.setReason]
theorem State.setReason_pos_ne (s : State) {side x : Side} (r : CloseReason) (h : x ≠ side) :
    (s.setReason side r).pos x = s.pos x := by simp [State.setReason, State.modPos_pos_ne _ _ h]

theorem State.enterIdle_pos (s : State) (side : Side) :
    (s.enterIdle side).pos side = ((s.pos side).enter .idle).clearFlags := by simp [State.enterIdle]
theorem State.enterIdle_pos_ne (s : State) {side x : Side} (h : x ≠ side) : (s.enterIdle side).pos x = s.pos x := by
  simp [State.enterIdle, State.modPos_pos_ne _ _ h]

/-- A sticky flag's record differs in the three flags alone. -/
theorem State.setFlag_pos (s : State) (side : Side) (c : PosCause) (h : HoseNo) :
    ∃ a b d, (s.setFlag side c h).pos side = { s.pos side with wrongHose := a, multiLift := b, liftWhileClosed := d } := by
  unfold State.setFlag
  dsimp only
  split <;> split <;> first | exact ⟨_, _, _, rfl⟩ | (simp only [State.raisePos_pos, State.modPos_pos]; exact ⟨_, _, _, rfl⟩)
theorem State.setFlag_pos_ne (s : State) {side x : Side} (c : PosCause) (h : HoseNo) (hx : x ≠ side) :
    (s.setFlag side c h).pos x = s.pos x := by
  unfold State.setFlag
  dsimp only
  split <;> split <;> first | rfl | simp only [State.raisePos_pos, State.modPos_pos_ne _ _ hx]

/-- The close that R48 makes of an arrival while the site is CLOSING. -/
def Position.closedForNight (p : Position) : Position := { p.enter (.closed .night) with auth := none, authTimer := none }

theorem State.closeIfClosing_pos (s : State) (side : Side) :
    (s.closeIfClosing side).pos side = if s.ssu.site = .closing then (s.pos side).closedForNight else s.pos side := by
  unfold State.closeIfClosing
  split
  · exact State.closePos_pos s side .night
  · rfl
theorem State.closeIfClosing_pos_ne (s : State) {side x : Side} (h : x ≠ side) : (s.closeIfClosing side).pos x = s.pos x := by
  unfold State.closeIfClosing
  split
  · exact State.closePos_pos_ne s .night h
  · rfl

/-- An arrival at IDLE or CALLING (R57, R61, R68, R77). -/
theorem State.arriveOpen_pos (s : State) (side : Side) :
    (s.arriveOpen side).pos side =
      (let q := { s.pos side with auth := none, authTimer := none }
       let q := if (s.lifted side).length = 1 then q.enter .calling else (q.enter .idle).clearFlags
       if s.ssu.site = .closing then q.closedForNight else q) := by
  have hl : ∀ f : Position → Position, (s.modPos side f).lifted side = s.lifted side := fun f => State.lifted_congr rfl rfl side
  simp only [State.arriveOpen, State.closeIfClosing_pos, hl]
  by_cases h : (s.lifted side).length = 1 <;> simp [h, State.enterIdle]
theorem State.arriveOpen_pos_ne (s : State) {side x : Side} (h : x ≠ side) : (s.arriveOpen side).pos x = s.pos x := by
  unfold State.arriveOpen
  dsimp only
  rw [State.closeIfClosing_pos_ne _ h]
  split
  · simp [State.modPos_pos_ne _ _ h]
  · rw [State.enterIdle_pos_ne _ h, State.modPos_pos_ne _ _ h]

/-- An arrival at AUTHORIZED (R61). -/
theorem State.arriveAuthorized_pos (s : State) (side : Side) (a : Authorization) :
    (s.arriveAuthorized side a).pos side =
      (let q := { (s.pos side).enter .authorized with auth := some a, authTimer := authTime a }
       if s.ssu.site = .closing then q.closedForNight else q) := by
  simp [State.arriveAuthorized, State.closeIfClosing_pos]
theorem State.arriveAuthorized_pos_ne (s : State) {side x : Side} (a : Authorization) (h : x ≠ side) :
    (s.arriveAuthorized side a).pos x = s.pos x := by
  simp [State.arriveAuthorized, State.closeIfClosing_pos_ne _ h, State.modPos_pos_ne _ _ h]

/-! ## Sales and claims -/

theorem State.modSale_pos (s : State) (side : Side) (f : Sale → Sale) :
    (s.modSale side f).pos side = { s.pos side with sale := (s.pos side).sale.map f } := by
  unfold State.modSale
  split
  · rename_i h; rw [show (s.pos side).sale.map f = (s.pos side).sale by rw [h]; rfl]
  · rename_i h; rw [show ∀ (u : State) g, (u.modPru g).pos side = u.pos side from fun _ _ => rfl, State.modPos_pos, h]; rfl
theorem State.modSale_pos_ne (s : State) {side x : Side} (f : Sale → Sale) (h : x ≠ side) : (s.modSale side f).pos x = s.pos x := by
  unfold State.modSale
  split
  · rfl
  · rw [show ∀ (u : State) g, (u.modPru g).pos x = u.pos x from fun _ _ => rfl, State.modPos_pos_ne _ _ h]

theorem State.grant_pos (s : State) (side : Side) (m : MeterNo) (role : Role) :
    (s.grant side m role).pos side = { s.pos side with
      sale := (s.pos side).sale.map fun sl =>
        { sl with claims := sl.claims ++ [{ meter := m, role := role, n := 0, h := 0, k := (s.meter m).config.k }] } } := by
  simp [State.grant, State.modSale_pos]
theorem State.grant_pos_ne (s : State) {side x : Side} (m : MeterNo) (role : Role) (h : x ≠ side) :
    (s.grant side m role).pos x = s.pos x := by
  simp [State.grant, State.modSale_pos_ne _ _ h]

theorem State.releaseClaims_pos_ne (s : State) {side x : Side} (b : Bool) (h : x ≠ side) : (s.releaseClaims side b).pos x = s.pos x := by
  unfold State.releaseClaims
  split
  · rfl
  · rw [State.modPos_pos_ne _ _ h]
    exact Acts.pos_eq (Acts.foldl (fun u c hu => hu.modMeter _ _ (by decide : Part.meters ∈ [Part.meters])) (.refl _ _) _) (by decide) x

/-- The claims of the sale go, and nothing else of the record (R16). -/
theorem State.releaseClaims_pos (s : State) (side : Side) (b : Bool) :
    (s.releaseClaims side b).pos side = { s.pos side with sale := (s.pos side).sale.map fun sl => { sl with claims := [] } } := by
  unfold State.releaseClaims
  split
  · rename_i h; rw [Option.map_congr (g := id) (by simp [h]), Option.map_id]; rfl
  · rw [State.modPos_pos]
    rw [Acts.pos_eq (Acts.foldl (fun u c hu => hu.modMeter _ _ (by decide : Part.meters ∈ [Part.meters])) (.refl s _) _) (by decide) side]

theorem State.withdrawCheck_pos (s : State) (side x : Side) : (s.withdrawCheck side).pos x = s.pos x :=
  Acts.pos_eq (P := [.displays]) (by simp) (by decide) x

/-- An abandoned start leaves no sale and no motor timer (R56, R57). -/
theorem State.abandonStart_pos (s : State) (side : Side) :
    (s.abandonStart side).pos side = { s.pos side with sale := none, motorTimer := none } := by
  simp [State.abandonStart, State.releaseClaims_pos, State.withdrawCheck_pos]
theorem State.abandonStart_pos_ne (s : State) {side x : Side} (h : x ≠ side) : (s.abandonStart side).pos x = s.pos x := by
  simp [State.abandonStart, State.modPos_pos_ne _ _ h, State.releaseClaims_pos_ne _ _ h, State.withdrawCheck_pos]

theorem State.endSale_pos (s : State) (side : Side) (r : StopReason) :
    (s.endSale side r).pos side = { (s.pos side).enter .ending with
      sale := (s.pos side).sale.map fun sl => { sl with stop := some r },
      flowTimer := none, motorTimer := none, settleTimer := some (s.pos side).config.settleWindow } := by
  simp [State.endSale, State.modSale_pos, Position.enter]
theorem State.endSale_pos_ne (s : State) {side x : Side} (r : StopReason) (h : x ≠ side) : (s.endSale side r).pos x = s.pos x := by
  simp [State.endSale, State.modSale_pos_ne _ _ h, State.modPos_pos_ne _ _ h]

/-- The end of a sale: it joins the unpaid list and becomes the last shown sale (R64 to R66). -/
theorem State.finishSale_pos (s : State) (side : Side) (e : EndedSale) :
    (s.finishSale side e).pos side =
      { s.pos side with sale := none, unpaid := (s.pos side).unpaid ++ [e], lastShown := e.shown } := by
  simp [State.finishSale, State.addTotals, State.releaseClaims_pos]
theorem State.finishSale_pos_ne (s : State) {side x : Side} (e : EndedSale) (h : x ≠ side) : (s.finishSale side e).pos x = s.pos x := by
  simp [State.finishSale, State.addTotals, State.releaseClaims_pos_ne _ _ h, State.modPos_pos_ne _ _ h]

theorem State.requestSatellite_pos_ne (s : State) {side x : Side} (h : x ≠ side) : (s.requestSatellite side).pos x = s.pos x := by
  unfold State.requestSatellite
  dsimp only
  (repeat' split) <;> simp [State.modSale_pos_ne _ _ h, State.grant_pos_ne _ _ _ h]

theorem State.fallBack_pos_ne (s : State) {side x : Side} (r : StartResult) (d : Nat) (h : x ≠ side) :
    (s.fallBack side r d).pos x = s.pos x := by
  unfold State.fallBack
  dsimp only
  rw [State.raisePos_pos, State.modPos_pos_ne _ _ h]
  split
  · rw [State.arriveAuthorized_pos_ne _ _ h, State.abandonStart_pos_ne _ h]
  · rw [State.arriveOpen_pos_ne _ h, State.abandonStart_pos_ne _ h]

theorem State.lockSale_pos_ne (s : State) {side x : Side} (p : Nat) (h : x ≠ side) : (s.lockSale side p).pos x = s.pos x := by
  unfold State.lockSale
  dsimp only
  split
  · refine (Acts.pos_eq (P := [.displays]) (Acts.beginStartCheck (.refl _ _) _ _ (by decide)) (by decide) x).trans ?_
    rw [State.modPos_pos_ne _ _ h, State.modSale_pos_ne _ _ h]
  · rfl

theorem State.gate_pos_ne (s : State) {side x : Side} (h : x ≠ side) : (s.gate side).pos x = s.pos x := by
  unfold State.gate
  dsimp only
  (repeat' split) <;> simp [State.fallBack_pos_ne _ _ _ h, State.lockSale_pos_ne _ _ h]

theorem State.openValves_pos_ne (s : State) {side x : Side} (h : x ≠ side) : (s.openValves side).pos x = s.pos x := by
  unfold State.openValves
  dsimp only
  (repeat' split) <;> simp [State.endSale_pos_ne _ _ h, State.modSale_pos_ne _ _ h, State.modPos_pos_ne _ _ h]

/-- What follows the price applies and the gates when the conditions are examined. -/
theorem Acts.eventEnd (u : State) : Acts u ((State.runStore storeFuel u.examinePanels.examinePositions).finishLoad.sendAll)
    [.memory, .parity, .lanes, .notices, .prices, .displays, .reader, .site, .store] :=
  (((((Acts.refl u _).examinePanels (by simp)).examinePositions (by simp)).runStore _ (by simp)).finishLoad (by simp)).sendAll (by simp)

/-- What one examination and the links after it keep, the whole end of an event keeps. -/
theorem State.react_induction {R : State → Prop} (hs : R s) (he : ∀ u, R u → R u.examine) (hl : ∀ u, R u → R u.serveLinks) :
    R s.react := by
  unfold State.react
  generalize settleFuel = n
  induction n generalizing s with
  | zero => exact hs
  | succ n ih =>
    unfold State.settle
    dsimp only
    split
    · exact hl _ (he _ hs)
    · exact ih (hl _ (he _ hs))

theorem State.serveLinks_pos (s : State) (x : Side) : s.serveLinks.pos x = s.pos x :=
  Acts.pos_eq (P := [.prices, .displays]) (Acts.serveLinks (.refl _ _) (by simp)) (by decide) x

/-- The conditions examined change no position that does not wait at the price gate. -/
theorem State.examine_pos {x : Side} (h : (s.pos x).st ≠ .starting .gate) : s.examine.pos x = s.pos x := by
  have h0 : s.applyPrices.pos x = s.pos x := Acts.pos_eq (P := [.prices, .displays, .store]) (Acts.applyPrices (.refl _ _) (by simp)) (by decide) x
  have hg : ∀ (u : State) (y : Side), (u.pos x).st ≠ .starting .gate → (u.gate y).pos x = u.pos x := by
    intro u y hu
    by_cases e : x = y
    · subst e; rw [State.gate_idle fun k => absurd k hu]
    · exact State.gate_pos_ne u e
  have h1 : ((s.applyPrices.gate .a).gate .b).pos x = s.pos x := by
    rw [hg _ .b (by rw [hg _ .a (by rw [h0]; exact h), h0]; exact h), hg _ .a (by rw [h0]; exact h), h0]
  unfold State.examine
  dsimp only
  rw [Acts.pos_eq (Acts.eventEnd _) (by decide) x, h1]

/-- The end of an event changes no position that does not wait at the price gate. -/
theorem State.react_pos {x : Side} (h : (s.pos x).st ≠ .starting .gate) : s.react.pos x = s.pos x :=
  State.react_induction (R := fun u => u.pos x = s.pos x) rfl
    (fun _ hu => (State.examine_pos (by rw [hu]; exact h)).trans hu) fun u hu => (State.serveLinks_pos u x).trans hu

end Sys2Proof.Machine
end

