-- ==== Sys2Proof/Laws/Cards.lean ====
section
/-! SUPPORT. What the Card Walker leaves on a card: the link read, the end of a card whose link shows END, the meters at the end of an
event. -/
namespace Sys2Proof.Machine

variable {s t : State} {P : List Part}

/-! ## Link reads -/

theorem State.parityGood_writeByte (s : State) (a : Nat) (v : Byte) {b n : Nat} (h : s.parityGood b n = true) :
    (s.writeByte a v).parityGood b n = true := by
  simp only [State.parityGood, List.all_eq_true] at *
  exact fun x hx => h x (List.mem_of_mem_filter hx)

theorem State.parityGood_writeAt (s : State) (a : Nat) (l : List (Nat × Byte)) {b n : Nat} (h : s.parityGood b n = true) :
    (s.writeAt a l).parityGood b n = true := by
  induction l generalizing s with
  | nil => exact h
  | cons p l ih => exact ih _ (State.parityGood_writeByte s _ _ h)

theorem State.parityGood_writeHalf (s : State) (a : Nat) (v : Half) {b n : Nat} (h : s.parityGood b n = true) :
    (s.writeHalf a v).parityGood b n = true := State.parityGood_writeByte _ _ _ (State.parityGood_writeByte s _ _ h)

theorem State.readLink_atEnd {off : Nat} :
    s.readLink off = .atEnd ↔ s.parityGood (off + 2) 2 = true ∧ (s.half (off + 2)).getLsbD 0 = true := by
  unfold State.readLink
  cases s.parityGood (off + 2) 2 <;> cases (s.half (off + 2)).getLsbD 0 <;> simp

theorem State.half_writeAt_above (s : State) (a : Nat) (l : List (Nat × Byte)) {x : Nat} (h : x + 1 < a) :
    (s.writeAt a l).half x = s.half x := by
  simp only [State.half]
  rw [State.read_writeAt_other _ _ fun p _ => by omega, State.read_writeAt_other _ _ fun p _ => by omega]

/-- Result words lie beyond the link. -/
theorem State.readLink_results {off : Nat} (h : s.readLink off = .atEnd) (l : List (Nat × Byte)) :
    (s.writeAt (off + 16) l).readLink off = .atEnd := by
  rw [State.readLink_atEnd] at *
  exact ⟨State.parityGood_writeAt _ _ _ h.1, by rw [State.half_writeAt_above _ _ _ (by omega)]; exact h.2⟩

/-! ## The end of a card whose link shows END -/

/-- Both ways of a lane after a card whose link shows END lead to IDLE (R197, R200). -/
theorem State.moveOn_atEnd (s : State) (l : LaneId) (off : Nat) :
    (s.moveOn l off .atEnd).2 = false ∧ ((s.moveOn l off .atEnd).1.lane l).st = .idle
      ∧ ((s.moveOn l off .atEnd).1.lane l).held = (s.lane l).held
      ∧ ((s.moveOn l off .atEnd).1.lane l).lastFinished = (s.lane l).lastFinished
      ∧ (s.moveOn l off .atEnd).1.xm = s.xm := by
  unfold State.moveOn
  split <;> simp [State.raiseLane]

/-- The memory that a finish leaves: the results, then outcome and FINISHED-END. -/
theorem State.finishCard_atEnd {l : LaneId} {h : Held} (hm : s.memoryOk) (hh : (s.lane l).held = some h)
    (hl : s.readLink h.offset = .atEnd) (results : List (Nat × Byte)) (o : CardOutcome) :
    (s.finishCard l results o).cardEnded l h.offset o
      ∧ (s.finishCard l results o).xm =
          (((s.writeAt (h.offset + 16) results).writeHalf (h.offset + 6) (BitVec.ofNat 16 o.code)).writeHalf (h.offset + 4)
            CardState.finishedEnd.code).xm := by
  have hl' : (((s.modLane l fun x => { x with st := .walking }).writeAt (h.offset + 16) results).readLink h.offset) = .atEnd :=
    State.readLink_results (by rw [State.readLink_atEnd] at *; simpa using hl) _
  have hxm : ((s.modLane l fun x => { x with st := .walking }).writeAt (h.offset + 16) results).xm =
      (s.writeAt (h.offset + 16) results).xm := by
    have : ∀ (u v : State), u.xm = v.xm → ∀ rs : List (Nat × Byte), (u.writeAt (h.offset + 16) rs).xm = (v.writeAt (h.offset + 16) rs).xm := by
      intro u v huv rs
      induction rs generalizing u v with
      | nil => exact huv
      | cons p rs ih => exact ih _ _ (by simp [huv])
    exact this _ _ (by simp) _
  generalize hu : (s.modLane l fun x => { x with st := .walking }).writeAt (h.offset + 16) results = u at *
  have huok : u.memoryOk := by
    rw [← hu]; exact State.memoryOk_writeAt (by simpa [State.memoryOk] using hm) _ _
  have hfin : s.finishCard l results o = State.follow ((u.closeCard l h.offset h.card.note [] o).moveOn l h.offset .atEnd) l := by
    simp only [State.finishCard, hh, hu, hl']
  have hmv := State.moveOn_atEnd (u.closeCard l h.offset h.card.note [] o) l h.offset
  have hfol : s.finishCard l results o = ((u.closeCard l h.offset h.card.note [] o).moveOn l h.offset .atEnd).1 := by
    rw [hfin, State.follow, hmv.1]; rfl
  have hlink : u.readLink h.offset = .atEnd := hl'
  have hmem : (u.closeCard l h.offset h.card.note [] o).xm =
      ((u.writeHalf (h.offset + 6) (BitVec.ofNat 16 o.code)).writeHalf (h.offset + 4) CardState.finishedEnd.code).xm := by
    simp only [State.closeCard, State.writeAt, hlink, LinkRead.state, State.modLane_xm, State.markFinished]
    split <;> simp [State.raiseLane]
  have hheld : ((u.closeCard l h.offset h.card.note [] o).lane l).held = none
      ∧ ((u.closeCard l h.offset h.card.note [] o).lane l).lastFinished = h.offset := by
    simp only [State.closeCard, State.writeAt, State.modLane_lane, State.markFinished]
    split <;> simp [State.raiseLane]
  have hxm' : (((u.writeHalf (h.offset + 6) (BitVec.ofNat 16 o.code)).writeHalf (h.offset + 4) CardState.finishedEnd.code).xm) =
      (((s.writeAt (h.offset + 16) results).writeHalf (h.offset + 6) (BitVec.ofNat 16 o.code)).writeHalf (h.offset + 4)
        CardState.finishedEnd.code).xm := by
    simp [State.writeHalf, hxm]
  have hhalf : ∀ x, (s.finishCard l results o).half x =
      ((u.writeHalf (h.offset + 6) (BitVec.ofNat 16 o.code)).writeHalf (h.offset + 4) CardState.finishedEnd.code).half x := by
    intro x; simp only [State.half, hfol, hmv.2.2.2.2, hmem]
  refine ⟨⟨?_, ?_, ?_, ?_, ?_⟩, ?_⟩
  · rw [hhalf, State.half_writeHalf_other _ _ (by omega), State.half_writeHalf_same huok.1]
  · rw [hhalf, State.half_writeHalf_same (State.memoryOk_writeHalf huok _ _).1]
  · rw [hfol]; exact hmv.2.1
  · rw [hfol, hmv.2.2.1]; exact hheld.1
  · rw [hfol, hmv.2.2.2.1]; exact hheld.2
  · rw [hfol, hmv.2.2.2.2, hmem, hxm']

/-- A refused card ends with its outcome (R199). -/
theorem State.refuseCard_atEnd {l : LaneId} {h : Held} (hm : s.memoryOk) (hh : (s.lane l).held = some h)
    (hl : s.readLink h.offset = .atEnd) (o : CardOutcome) : (s.refuseCard l o).cardEnded l h.offset o := by
  simp only [State.refuseCard, hh]
  exact (State.finishCard_atEnd (s := s.raiseLane l .refused h.offset) (by simpa [State.raiseLane, State.memoryOk] using hm)
    (by simpa [State.raiseLane] using hh) (by rw [State.readLink_atEnd] at *; simpa [State.raiseLane] using hl) [] o).1

/-- What a card has become stays at the end of an event in which nothing else waits. -/
theorem State.cardEnded_congr {l : LaneId} {off : Nat} {o : CardOutcome} (hx : t.xm = s.xm) (hl : t.lanes = s.lanes)
    (h : s.cardEnded l off o) : t.cardEnded l off o := by
  have e : t.lane l = s.lane l := by cases l <;> simp [State.lane, hl]
  simpa only [State.cardEnded, State.half, hx, e] using h

theorem State.cardEnded_event {s0 : State} {l : LaneId} {off : Nat} {o : CardOutcome} (hc : s.calm) (h : s.cardEnded l off o) :
    (publish s0 s.react).cardEnded l off o := by
  have ha : Acts s s.react [.displays] := (Acts.refl s _).react_calm hc (by simp)
  have hx : s.react.xm = s.xm := ha.frame .memory (by decide)
  have hn : s.react.lanes = s.lanes := ha.frame .lanes (by decide)
  refine State.cardEnded_congr ?_ ?_ h
  · rw [publish_xm, hx]
  · rw [publish_lanes, hn]

/-! ## The meters at the end of an event -/

/-- A meter but for its claim: the rest of its record is the same. -/
def Meter.like (x y : Meter) : Prop := ∃ o p u, y = { x with owner := o, phaseErrors := p, unclaimed := u }

theorem Meter.like_refl (x : Meter) : x.like x := ⟨_, _, _, rfl⟩
theorem Meter.like_trans {x y z : Meter} (h : x.like y) (k : y.like z) : x.like z := by
  obtain ⟨a, b, c, rfl⟩ := h; obtain ⟨d, e, f, rfl⟩ := k; exact ⟨d, e, f, rfl⟩

theorem State.releaseClaims_meter (s : State) (side : Side) (b : Bool) (m : MeterNo) : (s.meter m).like ((s.releaseClaims side b).meter m) := by
  unfold State.releaseClaims
  split
  · exact Meter.like_refl _
  · rw [State.modPos_meter]
    rename_i sl hs
    clear hs
    generalize sl.claims = l
    induction l generalizing s with
    | nil => exact Meter.like_refl _
    | cons c l ih =>
      rw [List.foldl_cons]
      refine Meter.like_trans ?_ (ih _)
      rw [State.modMeter_meter_eq]
      split
      · subst_vars; exact ⟨_, _, _, rfl⟩
      · exact Meter.like_refl _

theorem Acts.meter_eq (h : Acts s t P) (hp : Part.meters ∉ P) (m : MeterNo) : t.meter m = s.meter m := by
  have := h.frame .meters hp
  simp only [Part.kept] at this
  simp only [State.meter, this]

theorem State.fallBack_meter (s : State) (side : Side) (r : StartResult) (d : Nat) (m : MeterNo) :
    (s.meter m).like ((s.fallBack side r d).meter m) := by
  have h1 : (s.abandonStart side).meter m = ((s.withdrawCheck side).releaseClaims side true).meter m := rfl
  have h2 : (s.withdrawCheck side).meter m = s.meter m := Acts.meter_eq (P := [.displays]) (by simp) (by decide) m
  have h3 : ∀ u : State, (s.fallBack side r d).meter m = (s.abandonStart side).meter m := by
    intro _
    unfold State.fallBack
    dsimp only
    refine (Acts.meter_eq (P := [.positions, .notices]) ?_ (by decide) m)
    split <;> simp (maxDischargeDepth := 6)
  rw [h3 s, h1, ← h2]
  exact State.releaseClaims_meter _ _ _ _

theorem State.gate_meter (s : State) (side : Side) (m : MeterNo) : (s.meter m).like ((s.gate side).meter m) := by
  have hl : ∀ p, (s.lockSale side p).meter m = s.meter m := fun p =>
    Acts.meter_eq (P := [.positions, .prices, .displays]) (by simp) (by decide) m
  unfold State.gate
  dsimp only
  (repeat' split) <;> first | exact State.fallBack_meter _ _ _ _ _ | (rw [hl]; exact Meter.like_refl _) | exact Meter.like_refl _

/-- The end of an event changes of a meter at most its claim owner, its phase-error count and its unclaimed count. -/
theorem State.react_meter (s : State) (m : MeterNo) : (s.meter m).like (s.react.meter m) := by
  refine State.react_induction (R := fun u => (s.meter m).like (u.meter m)) (Meter.like_refl _) (fun u hu => Meter.like_trans hu ?_) fun u hu => ?_
  · have h0 : u.applyPrices.meter m = u.meter m := Acts.meter_eq (P := [.prices, .displays, .store]) (by simp) (by decide) m
    unfold State.examine
    dsimp only
    rw [Acts.meter_eq (Acts.eventEnd _) (by decide) m, ← h0]
    exact Meter.like_trans (State.gate_meter _ _ _) (State.gate_meter _ _ _)
  · rw [Acts.meter_eq (P := [.prices, .displays]) (Acts.serveLinks (.refl _ _) (by simp)) (by decide) m]; exact hu

theorem Meter.like.lifetime {x y : Meter} (h : x.like y) : y.lifetime = x.lifetime := by obtain ⟨_, _, _, rfl⟩ := h; rfl
theorem Meter.like.config {x y : Meter} (h : x.like y) : y.config = x.config := by obtain ⟨_, _, _, rfl⟩ := h; rfl
theorem Meter.like.faulted {x y : Meter} (h : x.like y) : y.faulted = x.faulted := by obtain ⟨_, _, _, rfl⟩ := h; rfl
theorem Meter.like.sinceReport {x y : Meter} (h : x.like y) : y.sinceReport = x.sinceReport := by obtain ⟨_, _, _, rfl⟩ := h; rfl
theorem Meter.like.rate {x y : Meter} (h : x.like y) : y.rate = x.rate := by obtain ⟨_, _, _, rfl⟩ := h; rfl
theorem Meter.like.tally {x y : Meter} (h : x.like y) : y.tally = x.tally := by obtain ⟨_, _, _, rfl⟩ := h; rfl
theorem Meter.like.phaseA {x y : Meter} (h : x.like y) : y.phaseA = x.phaseA := by obtain ⟨_, _, _, rfl⟩ := h; rfl
theorem Meter.like.phaseB {x y : Meter} (h : x.like y) : y.phaseB = x.phaseB := by obtain ⟨_, _, _, rfl⟩ := h; rfl

end Sys2Proof.Machine
end

