-- ==== Sys2Proof/Laws/Decided.lean ====
section
/-! SUPPORT. A card decided within an event: what finishing and refusing leave, that nothing waits afterwards, the ends of sales and starts in
the terms of Safety.lean. -/
namespace Sys2Proof.Machine
variable {s t u : State} {P : List Part}

/-! ## Cards decided in an event -/

/-- What waits goes on waiting after operations that touch neither site, store, prices nor positions. -/
theorem Acts.calm (h : Acts s t P) (hc : s.calm) (h1 : Part.site ∉ P) (h2 : Part.store ∉ P) (h3 : Part.prices ∉ P)
    (hp : ∀ side, t.pos side = s.pos side) (hs : s.panelsStand → t.panelsStand) : t.calm := by
  have e1 : t.ssu = s.ssu := h.frame .site h1
  have e2 : t.rsc = s.rsc := h.frame .store h2
  have e3 : t.pru = s.pru := h.frame .prices h3
  obtain ⟨a, b, c, d, e, f, g⟩ := hc
  exact ⟨State.panelsWait_congr e1 e3 a, State.closingWaits_congr e1 hp b, State.pricesWait_congr e1 e3 hp c, State.loadWaits_congr e1 e3 d,
    by unfold State.stepsWait; rw [e2]; exact e, fun side => State.gateWaits_congr (hp side) e3 (f side), hs g⟩

/-- Nothing waits after operations that touch neither site, store nor prices and put no position at the gate. -/
theorem Acts.stillQuiet (h : Acts s t P) (hc : s.quiet) (h1 : Part.site ∉ P) (h2 : Part.store ∉ P) (h3 : Part.prices ∉ P)
    (h4 : ∀ side, (t.pos side).st ≠ .starting .gate) (hs : s.panelsStand → t.panelsStand) : t.quiet := by
  have e1 : t.ssu = s.ssu := h.frame .site h1
  have e2 : t.rsc = s.rsc := h.frame .store h2
  have e3 : t.pru = s.pru := h.frame .prices h3
  obtain ⟨⟨a, b, c, d, e, _⟩, g⟩ := hc
  exact ⟨⟨by rw [e1]; exact a, by rw [e1]; exact b, by simpa [State.grade, e3] using c, by rw [e3]; exact d, by rw [e2]; exact e, h4⟩, hs g⟩

/-- What finishing a card touches. -/
def cardParts : List Part := [.memory, .parity, .lanes, .notices]

theorem Acts.finish (s : State) (l : LaneId) (r : List (Nat × Byte)) (o : CardOutcome) : Acts s (s.finishCard l r o) cardParts := by
  simp (maxDischargeDepth := 8) [cardParts]
theorem Acts.refuse (s : State) (l : LaneId) (o : CardOutcome) : Acts s (s.refuseCard l o) cardParts := by
  simp (maxDischargeDepth := 8) [cardParts]

@[simp] theorem State.finishCard_pos (s : State) (l : LaneId) (r : List (Nat × Byte)) (o : CardOutcome) (x : Side) :
    (s.finishCard l r o).pos x = s.pos x := (Acts.finish s l r o).pos_eq (by decide) x
@[simp] theorem State.refuseCard_pos (s : State) (l : LaneId) (o : CardOutcome) (x : Side) : (s.refuseCard l o).pos x = s.pos x :=
  (Acts.refuse s l o).pos_eq (by decide) x

theorem State.finishCard_calm (h : s.calm) (l : LaneId) (r : List (Nat × Byte)) (o : CardOutcome) : (s.finishCard l r o).calm :=
  (Acts.finish s l r o).calm h (by decide) (by decide) (by decide) (fun _ => State.finishCard_pos ..)
    ((Acts.finish s l r o).panelsStand (by decide) (by decide) (by decide) (by decide))
theorem State.refuseCard_calm (h : s.calm) (l : LaneId) (o : CardOutcome) : (s.refuseCard l o).calm :=
  (Acts.refuse s l o).calm h (by decide) (by decide) (by decide) (fun _ => State.refuseCard_pos ..)
    ((Acts.refuse s l o).panelsStand (by decide) (by decide) (by decide) (by decide))

/-- The held card finishes at once after operations that touch neither memory nor lanes. -/
theorem State.endsCard_finish {k : Kind} {off : Nat} {c : Card} (h : s.holds k off c) (ha : Acts s u P) (h1 : Part.memory ∉ P)
    (h2 : Part.parity ∉ P) (h3 : Part.lanes ∉ P) (hu : s.calm → u.calm) (r : List (Nat × Byte)) (o : CardOutcome) :
    s.endsCard (publish s (u.finishCard k.lane r o).react) k.lane off o := by
  intro hc hm hl
  have ex : u.xm = s.xm := ha.frame .memory h1
  have eu : u.upset = s.upset := ha.frame .parity h2
  have el : u.lanes = s.lanes := ha.frame .lanes h3
  have ei : ∀ i, u.lane i = s.lane i := fun i => by cases i <;> simp [State.lane, el]
  have hl' : u.readLink off = .atEnd := by
    rw [State.readLink_atEnd] at *
    simpa [State.parityGood, State.half, ex, eu] using hl
  have hh : (u.lane k.lane).held = some { offset := off, card := c, phase := .undecided } := by rw [ei]; exact h.2.1
  have he := (State.finishCard_atEnd (ha.memory hm) hh hl' r o).1
  exact State.cardEnded_event (State.finishCard_calm (hu hc) _ _ _) he

theorem State.endsCard_refuse {k : Kind} {off : Nat} {c : Card} (h : s.holds k off c) (o : CardOutcome) :
    s.endsCard (publish s (s.refuseCard k.lane o).react) k.lane off o := by
  intro hc hm hl
  have he := State.refuseCard_atEnd hm h.2.1 hl o
  exact State.cardEnded_event (State.refuseCard_calm hc _ _) he

theorem Card.side_eq {c : Card} {side : Side} (h : c.to = sideCode side) : c.side = some side := by
  cases side <;> simp [sideCode] at h <;> simp [Card.side, h]

theorem Card.side_none {c : Card} (h : 1 < c.to) : c.side = none := by
  unfold Card.side; split <;> first | omega | rfl

/-- The end of an event, on a position that does not wait at the gate. -/
theorem publish_react_pos {s0 : State} {x : Side} (h : (s.pos x).st ≠ .starting .gate) : (publish s0 s.react).pos x = s.pos x := by
  rw [publish_pos, State.react_pos h]

theorem Accrued.gain_same (a : Accrued) (f : SaleFlags) : a.gain f f = a := by cases a; simp [Accrued.gain]

/-- A change of a sale that leaves the flags accrues nothing. -/
theorem State.modSale_pru {side : Side} {f : Sale → Sale} (h : ∀ x, (f x).flags = x.flags) : (s.modSale side f).pru = s.pru := by
  unfold State.modSale
  split
  · rfl
  · dsimp only
    simp only [h, Accrued.gain_same]; rfl

@[simp] theorem State.endSale_pru (s : State) (side : Side) (r : StopReason) : (s.endSale side r).pru = s.pru := by
  unfold State.endSale
  exact State.modSale_pru (f := fun sl => { sl with stop := some r }) fun _ => rfl

theorem State.endSale_endingWith {side : Side} {x : Sale} (h : (s.pos side).sale = some x) (r : StopReason) :
    (s.endSale side r).pos side = (s.pos side).endingWith x r := by
  rw [State.endSale_pos, h]; rfl

/-- The fall-back to AUTHORIZED (R56). -/
theorem State.fallBack_fallenBack {side : Side} {a : Authorization} (hc : s.ssu.site ≠ .closing)
    (h : ((s.pos side).sale.bind Sale.held).or (s.pos side).auth = some a) (r : StartResult) (d : Nat) :
    (s.fallBack side r d).pos side = (s.pos side).fallenBack a r := by
  have hs : (s.abandonStart side).ssu = s.ssu :=
    (show Acts s (s.abandonStart side) [.meters, .positions, .displays] by simp (maxDischargeDepth := 8)).frame .site (by decide)
  unfold State.fallBack
  cases hx : (s.pos side).sale <;> simp only [hx, Option.bind_none, Option.bind_some, Option.none_or] at h <;>
    (simp only [hx]; simp [h, State.arriveAuthorized_pos, State.abandonStart_pos, hs, hc, Position.fallenBack, Position.enter, authTime])

end Sys2Proof.Machine
end

