-- ==== Sys2Proof/Laws/Store.lean ====
section
/-! SUPPORT. What the small operations on the retained store, the panels, the register window and a byte's parity do. -/
namespace Sys2Proof.Machine

/-! ## Records (R176, R179, R185) -/

@[simp] theorem Store.writeRecord_contents (st : Store) (r : RecordId) (n : Nat) (c : Contents) (good : Bool) :
    (st.writeRecord r n c good).contents = st.contents.put c r := rfl
@[simp] theorem Store.spoil_contents (st : Store) (r : RecordId) : (st.spoil r).contents = st.contents := rfl
/-- The record's own seal after a write carries its new check word, or none where the write was cut. -/
theorem Store.writeRecord_seal (st : Store) (r : RecordId) (n : Nat) (c : Contents) (good : Bool) :
    (st.writeRecord r n c good).seal r =
      { generation := n, check := if good then some (c.checkWord r n) else none } := by
  cases r <;> simp [Store.writeRecord, Store.seal, RecordId.number]
theorem Store.spoil_seal (st : Store) (r : RecordId) : (st.spoil r).seal r = { st.seal r with check := none } := by
  cases r <;> simp [Store.spoil, Store.seal, RecordId.number]
/-- A write leaves every other record's seal as it was. -/
theorem Store.writeRecord_seal_other (st : Store) {r x : RecordId} (n : Nat) (c : Contents) (good : Bool)
    (h : r.number ≠ x.number) : (st.writeRecord r n c good).seal x = st.seal x := by
  have h' : r.number.val ≠ x.number.val := fun e => h (Fin.ext e)
  simp [Store.writeRecord, Store.seal, h']
theorem Store.spoil_seal_other (st : Store) {r x : RecordId} (h : r.number ≠ x.number) : (st.spoil r).seal x = st.seal x := by
  have h' : r.number.val ≠ x.number.val := fun e => h (Fin.ext e)
  simp [Store.spoil, Store.seal, h']
/-- A spoilt record is not sound. -/
theorem Store.spoil_not_sound (st : Store) (r : RecordId) : (st.spoil r).sound r = false := by
  simp [Store.sound, Store.intact, Store.spoil_seal]

/-! ## Panels (R80, R110) -/

theorem Panel.post_unused (p : Panel) (held : Bool) (h : p.state = .unused) : p.post held = p := by simp [Panel.post, h]
theorem Panel.post_used (p : Panel) (held : Bool) (h : p.state ≠ .unused) :
    p.post held = { p with state := .updating, posted := true, held := held } := by simp [Panel.post, h]
@[simp] theorem Panel.release_state (p : Panel) : p.release.state = p.state := rfl
@[simp] theorem Panel.release_held (p : Panel) : p.release.held = false := rfl
@[simp] theorem Panel.release_blocked (p : Panel) : p.release.blocked = p.blocked := rfl

/-! ## A byte's parity (R192) -/

/-- A parity failure changes the marks alone. -/
theorem State.failParity_eq (s : State) (a : Nat) : ∃ u, s.failParity a = { s with upset := u } := by
  unfold State.failParity; split
  · exact ⟨_, rfl⟩
  · exact ⟨s.upset, rfl⟩

/-! ## The register window (R206) -/

@[simp] theorem State.registerAt_go_dispense (s : State) : s.registerAt 0x00 = s.goRegister .dispense := rfl
@[simp] theorem State.registerAt_go_site (s : State) : s.registerAt 0x02 = s.goRegister .site := rfl
@[simp] theorem State.registerAt_go_reader (s : State) : s.registerAt 0x04 = s.goRegister .reader := rfl
@[simp] theorem State.registerAt_notice (s : State) : s.registerAt 0x06 = s.noticeRegister := rfl
@[simp] theorem State.registerAt_overrun (s : State) : s.registerAt 0x08 = s.overrunRegister := rfl
@[simp] theorem State.registerAt_enable (s : State) : s.registerAt 0x0A = s.enableRegister := rfl
/-- Every other offset of the window reads 0. -/
theorem State.registerAt_other (s : State) {offset : Nat} (h : 0x0C ≤ offset) : s.registerAt offset = 0 := by
  have h' : ∀ k < 6, offset / 2 ≠ k := by omega
  unfold State.registerAt
  split <;> first | rfl | (exfalso; omega)

/-! ## Answer bytes (R133) -/

@[simp] theorem AnswerByte.ofByte_byte (a : AnswerByte) : AnswerByte.ofByte (AnswerByte.byte a) = some a := by cases a <;> rfl

end Sys2Proof.Machine
end

