-- ==== Sys2Proof/Tests/Slice0.lean ====
section
/-! SUPPORT. Tests: ill-formed terms refused, reset as a power-on, the spec's worked examples, one or two small steps per command, and
for every statement with hypotheses states and operands that meet them, clause by clause. -/
namespace Sys2Proof.Tests
open Sys2Proof.Machine

/-! ## WellFormed: each check refuses an ill-formed term and lets its neighbour pass -/

theorem test_wellFormed_recognition :
    (Instr.recognitionInstant 0 none none).wellFormed = false ∧ (Instr.recognitionInstant 0 none (some true)).wellFormed = true := by
  decide
theorem test_wellFormed_general :
    (Instr.generalInputChange 0 0xFF).wellFormed = false ∧ (Instr.generalInputChange 0x80 0).wellFormed = true := by decide
theorem test_wellFormed_lit_shape :
    (Instr.litFrame .a { number := 0, wellFormed := true, field := .price, content := .digits (List.replicate 7 .blank) }).wellFormed
      = false
    ∧ (Instr.litFrame .a { number := 0, wellFormed := true, field := .status, content := .digits [] }).wellFormed = false
    ∧ (Instr.litFrame .a { number := 0, wellFormed := true, field := .price, content := .digits (List.replicate 5 .blank) }).wellFormed
      = true := by decide
theorem test_wellFormed_lit_digit :
    (Instr.litFrame .a { number := 0, wellFormed := true, field := .price, content := .digits [.blank, .blank, .blank, .dash, .digit 10] }).wellFormed
      = false := by decide
set_option maxRecDepth 4000 in
theorem test_wellFormed_frame :
    (Instr.inboundFrame (.badLength 250)).wellFormed = false ∧ (Instr.inboundFrame (.badLength 251)).wellFormed = true
    ∧ (Instr.inboundFrame (.complete 1 (List.replicate 251 0) 0)).wellFormed = false := by decide
theorem test_wellFormed_register :
    (Instr.registerWriteOther 0x0B 0).wellFormed = false ∧ (Instr.registerWriteOther 0x0C 0).wellFormed = true := by decide

/-! ## Reset -/

set_option maxRecDepth 20000 in
/-- State.reset is what POWER_ON makes of a part without main supply whose kept values are those of log 5. -/
theorem test_reset_is_power_on : exec .powerOn { State.reset with mainSupply := false } = .next State.reset := by rfl
theorem test_empty_queue_idles : step State.reset = .next State.reset := by rfl
theorem test_step_takes_the_front :
    step { State.reset with pending := [.hostReset, .hostResetRelease] }
      = exec .hostReset { State.reset with pending := [.hostResetRelease] } := by rfl
/-- No row of the table gives bits. -/
theorem test_no_word_spells_a_command : decodeTableWord 16 0 = none ∧ State.reset.withFetchWord 16 0 = State.reset := by
  exact ⟨rfl, rfl⟩

/-! ## The worked examples of 02 and 07 -/

/-- 02, "Volume at an even K-factor" and "at an uneven K-factor". -/
theorem test_claim_volume : claimVolume 4217 100000 = 42170 ∧ claimVolume 10000 98765 = 101250 ∧ claimVolume (-1) 100000 = 0 := by
  decide
/-- 02, "Amount under each mode": V = 42,170, E = 1,819. -/
theorem test_amount_each_mode :
    effectivePrice 1859 40 = 1819 ∧ roundAmount .halfEven (42170 * 1819) = 7671 ∧ roundAmount .truncate (42170 * 1819) = 7670
    ∧ roundAmount .halfUp (42170 * 1819) = 7671 ∧ roundAmount .ceiling (42170 * 1819) = 7671
    ∧ roundAmount .fiveCent (42170 * 1819) = 7670 := by decide
/-- 02, "The half-way case": E = 1,250. -/
theorem test_amount_half_way :
    roundAmount .halfEven (100 * 1250) = 12 ∧ roundAmount .halfUp (100 * 1250) = 13 ∧ roundAmount .halfEven (140 * 1250) = 18
    ∧ roundAmount .halfUp (140 * 1250) = 18 := by decide
/-- 02, "A clamped discount". -/
theorem test_discount_clamped : effectivePrice 1200 1500 = 1 ∧ discountClamps 1200 1500 = true ∧ discountClamps 1200 1199 = false := by
  decide
/-- 02, "Saturation and the ceiling target": E = 99,999. -/
theorem test_ceiling_target :
    ceilingTarget .halfEven 99999 = 1000010 ∧ ceilingTarget .truncate 99999 = 1000010
    ∧ roundAmount .halfEven (1000010 * 99999) = 10000000 ∧ saleAmount .halfEven (1000010 * 99999) = 9999999
    ∧ roundAmount .halfEven (1000009 * 99999) = 9999990 := by decide
/-- 02, the amount preset of 5,000 at E = 1,819, and 4,998 under FIVE-CENT. -/
theorem test_amount_targets :
    leastVolume .halfEven 1819 5000 = 27485 ∧ leastVolume .truncate 1819 5000 = 27488
    ∧ (makeLock 1859 40 .halfEven (.amount 5000) 1000000 500).vt = 27485
    ∧ (makeLock 1859 40 .halfEven (.amount 5000) 1000000 500).vs = some 26985
    ∧ (makeLock 1859 40 .fiveCent (.amount 4998) 1000000 500).vt = 27447
    ∧ (makeLock 1859 40 .fiveCent (.amount 4998) 1000000 500).preset = .amount 4995 := by decide +kernel
/-- 07: the CRC over the nine digits is 29B1h. -/
theorem test_crc : crc16 [0x31, 0x32, 0x33, 0x34, 0x35, 0x36, 0x37, 0x38, 0x39] = 0x29B1 := by decide +kernel
/-- R133: the answer bytes, and the two that no answer is. -/
theorem test_answer_bytes :
    AnswerByte.byte .accept = 0xA1 ∧ AnswerByte.byte .hold = 0xA2 ∧ AnswerByte.byte .reject = 0xA3 ∧ AnswerByte.ofByte 0xA2 = some .hold
    ∧ AnswerByte.ofByte 0x5A = none := by decide
/-- R22, R76, R92, R205: at power-on a mirror reads 0 where nothing is written; its generation byte too. -/
theorem test_mirrors_read_zero :
    State.reset.byteAt 0x100 = 0 ∧ State.reset.byteAt 0x102 = 0 ∧ State.reset.byteAt 0x2FF = 0 ∧ State.reset.byteAt 0x310 = 0 :=
  ⟨by decide, mirrorByteAt_unwritten (parts := [State.reset.mirrors.positionA]) (by decide) 0 0 (i := 2) (by decide),
    mirrorByteAt_unwritten (parts := [State.reset.mirrors.positionB]) (by decide) 1 0 (i := 0xFF) (by decide),
    mirrorByteAt_unwritten (parts := [State.reset.mirrors.price]) (by decide) 2 0 (i := 0x10) (by decide)⟩
/-- R94: 50.04 in AMOUNT, leading zeros blank. -/
theorem test_long_value :
    longValue 5004 = .digits [.blank, .blank, .blank, .digit 5, .digit 0, .digit 0, .digit 4]
    ∧ longValue 4 = .digits [.blank, .blank, .blank, .blank, .digit 0, .digit 0, .digit 4] := by decide

set_option maxRecDepth 20000

/-! ## States for the tests -/

/-- A meter whose phases are recognised low. -/
def lowMeter : Meter := { Meter.default with phaseA := some false, phaseB := some false }
/-- A fitted single hose. -/
def hose (m : MeterNo) (g : Fin 8) : HoseRoute := { HoseRoute.default m with fitted := true, grade := g }
/-- A satellite hose on meters 4 and 5, slow-down distance 500 mL. -/
def truckHose : HoseRoute :=
  { HoseRoute.default 3 with fitted := true, grade := 1, kind := .satellite, secondary := some 4, slowDown := 500 }
/-- A current panel. -/
def shownPanel : Panel := { state := .current, blocked := false, posted := false, held := false }
/-- A grade priced 1,859. -/
def pricedGrade : Grade := { Grade.default with price := some 1859, panels := { a := shownPanel, b := shownPanel } }
/-- An IDLE position. -/
def idle : Position := Position.default.enter .idle

/-- What stands with a record of the open site's store: generation 5 and the check word. -/
def sealOf (r : RecordId) : Seal := { generation := 5, check := some ((Contents.default 3).checkWord r 5) }

/-- A board whose grade fields are CURRENT. -/
def pricedBoard : Board :=
  { Board.default with fields :=
    { Fields.default with grades := Vector.replicate 4 { FieldRec.default (priceValue 1859) with shown := some (priceValue 1859), st := .current } } }

/-- An open site: meters low, hoses A1 to A4 and B1 fitted, every grade priced, positions IDLE, seal open, loops normal, the reader's
gate closed with its supply on, a sound store. -/
def opened : State :=
  { State.reset with
    ntc := .default, dlc := { boards := { a := pricedBoard, b := pricedBoard }, policy := .default },
    miu :=
      { meters := Vector.replicate 8 lowMeter,
        routes := { a := #v[hose 0 0, hose 1 3, truckHose, hose 2 0], b := #v[hose 5 0, hose 0 3, .default 6, .default 7] },
        enables := { blend := true, satellite := true, tolerance := 5, settleVolume := 2000 }, counting := true },
    psc := { a := idle, b := idle }, pru := { Pru.default with grades := Vector.replicate 8 pricedGrade },
    iwu :=
      { Iwu.default with
        nozzles := { a := Vector.replicate 4 (some false), b := Vector.replicate 4 (some false) },
        satellites := { a := some false, b := some false }, enclosure := some true, cable := some true, cabinet := some false,
        hydraulic := some false, calSeal := some true, emergency := some false, general := Vector.replicate 8 (some false) },
    riu := { Riu.default with domain := .gated },
    ssu :=
      { State.reset.ssu with
        site := .opened, stageTimer := none, clock := { day := 100, second := 43200, lost := false },
        wake := { origin := .coldStart, stage := 6, outcomes := #v[some 1, some 0, some 0, some 0, some 0, some 0] } },
    rsc :=
      { State.reset.rsc with
        generation := some 5, restart := 3, check := .none, supplyWarn := some false,
        store := { contents := .default 3, seals := #v[sealOf .header, sealOf .config, sealOf .prices, sealOf .totals, sealOf .meters,
          sealOf .unpaidA, sealOf .unpaidB, sealOf .reader] } } }

/-- The site in another state. -/
def atSite (x : SiteState) (s : State) : State := s.modSsu fun u => { u with site := x }
/-- A stage of a wake of some origin, its timer running. -/
def waking (o : WakeOrigin) (n : Nat) (s : State) : State :=
  s.modSsu fun u =>
    { u with site := .waking, stageTimer := some 5000, wake := { origin := o, stage := n, outcomes := Vector.replicate 6 none } }
/-- Position A in another state. -/
def atA (st : PosState) (s : State) : State := s.modPos .a fun p => p.enter st
/-- Both positions CLOSED for WAKE without a sale. -/
def shut (s : State) : State := { s with psc := s.psc.map fun p => { p.enter (.closed .wake) with auth := none, sale := none } }
/-- The authorization of 03's example: tag 40,117, hose 2, AMOUNT 5,000, PREPAY, D 40, 120 s. -/
def auth : Authorization :=
  { tag := 40117, allowed := 2, preset := .amount 5000, origin := .prepay, discount := 40, timeout := 120 }
/-- An authorization of origin READER. -/
def readerAuth : Authorization := { auth with origin := .reader }
/-- Position A AUTHORIZED. -/
def authorized (a : Authorization) (s : State) : State :=
  s.modPos .a fun p => { p.enter .authorized with auth := some a, authTimer := some 120000 }
/-- Its lock: P 1,859, D 40, V_t 27,485, V_s 26,985. -/
def lock : Lock := makeLock 1859 40 .halfEven (.amount 5000) 1000000 500
/-- The sale of hose A2 on meter 2 with `n` counts. -/
def sale (n : Nat) : Sale :=
  { Sale.recompute
      { newSale auth 1 (hose 1 3) { day := 100, second := 43200 } with
        lock := some lock, claims := [{ meter := 1, role := .primary, n := n, h := n, k := 100000 }] } with stop := none }
/-- Position A in a state with a sale, its meter claimed. -/
def selling (st : PosState) (x : Sale) (s : State) : State :=
  (s.modMeter 1 fun m => { m with owner := some (.a, .primary) }).modPos .a fun p =>
    { p.enter st with sale := some x, flowTimer := some 60000, settleTimer := if st = .ending then some 300 else none }
/-- Position A in STARTING under the authorization. -/
def starting (st : StartStep) (s : State) : State :=
  (selling (.starting st) { sale 0 with held := some auth } s).modPos .a fun p => { p with motorTimer := some 500, flowTimer := none }
/-- Hose A1 to A4 lifted. -/
def lifted (h : HoseNo) (s : State) : State := s.setNozzle .a h true
/-- An unpaid sale of tag 40,102. -/
def unpaid : EndedSale :=
  { tag := 40102, origin := .prepay, hose := 1, grade := 3, kind := .single, p := 1859, d := 40, e := 1819, mode := .halfEven,
    v := 42170, amount := 7671, flags := { SaleFlags.clear with inexact := true }, stop := .hung,
    started := { day := 100, second := 1 }, ended := { day := 100, second := 60 }, recovered := false }

/-- The bytes of a word, least significant first. -/
def w4 (n : Nat) : List Byte := [BitVec.ofNat 8 n, BitVec.ofNat 8 (n / 256), BitVec.ofNat 8 (n / 65536), BitVec.ofNat 8 (n / 16777216)]
/-- The bytes of a halfword, least significant first. -/
def h2 (n : Nat) : List Byte := [BitVec.ofNat 8 n, BitVec.ofNat 8 (n / 256)]
/-- A card of a kind byte, target and body, flags 0. -/
def card (kind : Byte) (target : Half) (body : List Byte) : Card :=
  { kind := kind, flags := 0, target := target, words := BitVec.ofNat 16 ((body.length + 3) / 4), hostReference := 0, body := body }
/-- The lane holds the card, taken at 0900h, its link END, undecided. -/
def given (l : LaneId) (c : Card) (s : State) : State :=
  { s.modLane l fun x => { x with st := .walking, current := 0x900, held := some { offset := 0x900, card := c, phase := .undecided } } with
    xm := [(0x902, 1), (0x904, 1)] }
/-- The lane waits with the card. -/
def waiting (l : LaneId) (c : Card) (s : State) : State :=
  { s.modLane l fun x => { x with st := .waiting, current := 0x900, held := some { offset := 0x900, card := c, phase := .waiting } } with
    xm := [(0x902, 1), (0x904, 1)] }

/-- The next state of a command. -/
def after (c : Instr) (s : State) : State :=
  match exec c s with
  | .next t => t
  | _ => s

/-! ## Hypotheses that statements share -/

/-- State.panelsStand as a Bool, the POWER DOWN of the site apart. -/
def standB (s : State) : Bool :=
  bothSides.all fun side => (List.finRange 8).all fun g =>
    let p := (s.grade g).panels.get side
    match s.panelState g side with
    | .fault => p.state == .fault && !p.posted
    | .updating => p.state == .updating
    | _ => true

theorem stand_of {s : State} (h : standB s = true) : s.panelsStand := by
  intro _ side g hg
  simp only [standB, List.all_eq_true] at h
  have := h side (by cases side <;> simp [bothSides]) g (List.mem_finRange g)
  rcases hg with hg | hg <;> rw [hg] at this ⊢ <;> simp_all

/-- State.quiet as a Bool. -/
def calmB (s : State) : Bool :=
  (s.ssu.site != .waking || s.ssu.wake.stage != 3) && (s.ssu.site != .closing || s.ssu.closingPhase != some .positions)
    && (List.finRange 8).all (fun g => (s.grade g).pending.isNone) && s.pru.loading.isNone && s.rsc.queue.isEmpty
    && (s.pos .a).st != .starting .gate && (s.pos .b).st != .starting .gate && standB s

theorem quiet_of {s : State} (h : calmB s = true) : s.quiet := by
  simp only [calmB, Bool.and_eq_true, Bool.or_eq_true, bne_iff_ne, List.all_eq_true, Option.isNone_iff_eq_none, List.isEmpty_iff,
    ne_eq, List.mem_finRange, forall_true_left] at h
  obtain ⟨⟨⟨⟨⟨⟨⟨h1, h2⟩, h3⟩, h4⟩, h5⟩, h6⟩, h7⟩, h8⟩ := h
  refine ⟨⟨fun h => ?_, fun h => ?_, h3, h4, h5, fun side => ?_⟩, stand_of h8⟩
  · simpa [h] using h1
  · simpa [h] using h2
  · cases side <;> assumption

theorem calm_of {s : State} (h : calmB s = true) : s.calm := (quiet_of h).calm

/-- No stage 3, no closing in phase POSITIONS, no pending price, no report that would change a panel. -/
def stillB (s : State) : Bool :=
  (s.ssu.site != .waking || s.ssu.wake.stage != 3) && (s.ssu.site != .closing || s.ssu.closingPhase != some .positions)
    && (List.finRange 8).all (fun g => (s.grade g).pending.isNone) && standB s

theorem calm_if {s : State} (h : stillB s = true) (hl : s.loadWaits) (hq : s.stepsWait) (hg : ∀ side, s.gateWaits side) : s.calm := by
  simp only [stillB, Bool.and_eq_true, Bool.or_eq_true, bne_iff_ne, List.all_eq_true, Option.isNone_iff_eq_none, ne_eq,
    List.mem_finRange, forall_true_left] at h
  obtain ⟨⟨⟨h1, h2⟩, h3⟩, h4⟩ := h
  refine ⟨fun a b => ?_, fun a b => ?_, fun _ g hp => ?_, hl, hq, hg, stand_of h4⟩
  · simp [a, b] at h1
  · simp [a, b] at h2
  · simp [h3 g] at hp

theorem no_load {s : State} (h : s.pru.loading = none) : s.loadWaits := fun _ l hl => by rw [h] at hl; cases hl
theorem no_gate {s : State} {side : Side} (h : (s.pos side).st ≠ .starting .gate) : s.gateWaits side := fun hs => absurd hs h
theorem at_gate {s : State} {side : Side} {x : Sale} (hx : (s.pos side).sale = some x)
    (h : (s.grade x.grade).price.isSome = true ∧ ((s.grade x.grade).panels.get side).state = .updating
      ∧ ((s.grade x.grade).panels.get side).blocked = false) : s.gateWaits side := fun _ y hy => by
  rw [hx] at hy; obtain rfl := Option.some.inj hy; exact h

theorem closed_of {s : State} (ha : ((s.pos .a).st.isClosed && (s.pos .a).sale.isNone) = true)
    (hb : ((s.pos .b).st.isClosed && (s.pos .b).sale.isNone) = true) : s.allClosed := by
  intro side; cases side <;> simp_all

theorem shaped_of {p : Position} (h : p.st.isClosed = true) (hs : p.sale = none) (ha : p.auth = none) : p.shaped := by
  refine ⟨?_, ?_, fun _ hx => ?_, fun _ _ hx => ?_, fun _ _ hx => ?_⟩ <;>
    cases hst : p.st <;> simp_all [PosState.isClosed, PosState.selling]

/-- Closed positions, no test but one of stage 2 on a board without a result, no store check or resume. -/
theorem inOrder_of {s : State} (h : s.allClosed)
    (ht : ∀ side, (s.board side).test = none ∨ (∃ ph o, (s.board side).test = some (.segment ph o true))
      ∧ s.ssu.site = .waking ∧ s.ssu.wake.stage = 2 ∧ s.ssu.results.get side = none)
    (hc : s.rsc.check = .none) (hr : s.riu.resuming = false) : s.inOrder := by
  refine ⟨fun side => ?_, fun side => ?_, fun h => absurd hc h, fun h => by rw [hr] at h; cases h⟩
  · have := (h side).1
    refine ⟨fun _ => this, fun _ => ?_, fun _ => ?_⟩ <;> cases hs : (s.pos side).st <;> simp_all [PosState.isClosed, PosState.isStarting]
  · rcases ht side with ht | ⟨⟨ph, o, ht⟩, hw⟩
    · exact ⟨fun ph hp => (by rw [ht] at hp; cases hp), fun hs => (by simp [Board.segment, ht] at hs)⟩
    · exact ⟨fun ph hp => (by rw [ht] at hp; cases hp), fun _ => ⟨(h side).1, .inl hw⟩⟩

/-- The kind's lane holds the card, undecided, its link END, and nothing else waits. -/
def Ready (s : State) (k : Kind) (c : Card) : Prop :=
  s.holds k 0x900 c ∧ s.calm ∧ s.memoryOk ∧ s.readLink 0x900 = .atEnd ∧ s.lanes.site.stopRequested = false
    ∧ s.lanes.reader.stopRequested = false

theorem ready_of {s : State} {k : Kind} {c : Card}
    (h : (s.mainSupply && (s.lane k.lane).held == some { offset := 0x900, card := c, phase := .undecided }
      && Kind.ofByte c.kind == some k && calmB s && Memory.wf s.xm && rising s.upset && s.readLink 0x900 == .atEnd
      && !s.lanes.site.stopRequested && !s.lanes.reader.stopRequested) = true) : Ready s k c := by
  simp only [Bool.and_eq_true, beq_iff_eq, Bool.not_eq_true'] at h
  obtain ⟨⟨⟨⟨⟨⟨⟨⟨h1, h2⟩, h3⟩, h4⟩, h5⟩, h6⟩, h7⟩, h8⟩, h9⟩ := h
  exact ⟨⟨h1, h2, h3⟩, calm_of h4, ⟨h5, h6⟩, h7, h8, h9⟩

/-- The store can begin a step. -/
theorem storeFree_of {s : State}
    (h : (s.rsc.active.isNone && s.rsc.check == .none && s.rsc.generation.isSome && s.ssu.site != .powerDown) = true) : s.storeFree := by
  simp only [Bool.and_eq_true, beq_iff_eq, bne_iff_ne, Option.isNone_iff_eq_none] at h
  exact ⟨h.1.1.1, h.1.1.2, h.1.2, h.2⟩

/-! ## Small steps, expected results from the rules and from 03's example -/

/-- R4, R7: phase A alone to high with phase B low, unclaimed. -/
theorem test_count_forward :
    let t := after (.recognitionInstant 2 (some true) none) opened
    (t.meter 2).lifetime = 1 ∧ (t.meter 2).unclaimed = 1 ∧ (t.meter 2).sinceReport = 1 ∧ (t.meter 2).phaseA = some true := by decide
/-- R8: CONFIGURE METER has lowered the limit to 5 at a since-report count of 5; the next count leads toward zero. -/
theorem test_creep_limit_lowered :
    let t := after (.recognitionInstant 2 (some true) none) (opened.modMeter 2 fun m => { m with sinceReport := 5, phaseB := some true })
    (t.meter 2).sinceReport = 0 ∧ t.ntc.sources[4].first = 3 := by decide
/-- 03's example, count 2,749: V = 27,490, N = 50,004,310, A = 5,000, ENDING with PRESET, outputs off. -/
theorem test_count_reaches_target :
    let t := after (.recognitionInstant 1 (some true) none) (selling .slowing (sale 2748) opened)
    (t.pos .a).st = .ending ∧ (t.pos .a).sale.map (fun x => (x.v, x.n, x.amount, x.stop)) = some (27490, 50004310, 5000, some .preset)
      ∧ (t.pos .a).slow = false ∧ (t.pos .a).pump = false ∧ (t.pos .a).settleTimer = some 300 := by decide
/-- R9: the tally becomes the rate. -/
theorem test_one_second :
    let t := after .oneSecondPeriod (opened.modMeter 3 fun m => { m with tally := 7 })
    (t.meter 3).rate = 7 ∧ (t.meter 3).tally = 0 := by decide +kernel
/-- R49: a lift in IDLE. -/
theorem test_lift_in_idle :
    let t := after (.nozzleLift .a 2) opened
    (t.pos .a).st = .calling ∧ t.lifted .a = [2] ∧ t.ntc.sources[2].causes = 1 ∧ t.ntc.sources[2].first = 3 := by decide
/-- 03's example, the lift of A2: STARTING at its check, the lock, meter 2 claimed. -/
theorem test_lift_starts :
    let t := after (.nozzleLift .a 1) (authorized auth opened)
    (t.pos .a).st = .starting .check ∧ (t.pos .a).auth = none ∧ (t.meter 1).owner = some (.a, .primary)
      ∧ (t.pos .a).sale.map (fun x => x.lock.map fun l => (l.p, l.d, l.e, l.vt, l.source)) = some (some (1859, 40, 1819, 27485, .preset))
      ∧ (t.board .a).test = some (.startCheck .eights) := by decide
/-- R59: the hang of the sale's hose. -/
theorem test_hang_ends :
    let t := after (.nozzleHang .a 1) (lifted 1 (selling .fuelling (sale 3) opened))
    (t.pos .a).st = .ending ∧ (t.pos .a).sale.map Sale.stop = some (some .hung) := by decide
/-- R49: the last hang in CALLING. -/
theorem test_hang_in_calling : ((after (.nozzleHang .a 0) (lifted 0 (atA .calling opened))).pos .a).st = .idle := by decide
/-- R55: the valves open, the first-flow timeout of 30 s. -/
theorem test_motor_settle :
    let t := after (.motorSettleExpiry .a) (starting .motor opened)
    (t.pos .a).st = .fuelling ∧ (t.pos .a).fast = true ∧ (t.pos .a).slow = true ∧ (t.pos .a).flowTimer = some 30000 := by decide
/-- 03's example, the settle window: V 27,510, A 5,004, OVERRUN, the hose's totals, the step of TOTALS, METERS, UNPAID A. -/
theorem test_settle_window :
    let t := after (.settleWindowExpiry .a) (selling .ending { sale 2751 with stop := some .preset } opened)
    (t.pos .a).st = .idle ∧ (t.pos .a).unpaid.map (fun e => (e.v, e.amount, e.flags.overrun)) = [(27510, 5004, true)]
      ∧ t.rsc.totals.a[1] = { volume := 27510, amount := 5004, sales := 1 } ∧ (t.meter 1).owner = none
      ∧ t.rsc.active.map (fun a => a.step.records) = some [.totals, .meters, .unpaidA] := by decide
/-- R60. -/
theorem test_flow_timer :
    ((after (.flowTimerExpiry .a) (selling .fuelling (sale 3) opened)).pos .a).sale.map Sale.stop = some (some .noFlow) := by decide
/-- R61. -/
theorem test_auth_timer :
    let t := after (.authTimerExpiry .a) (authorized auth opened)
    (t.pos .a).st = .idle ∧ (t.pos .a).auth = none ∧ t.ntc.sources[2].causes = 0x20 := by decide
/-- R15: the satellite meter claimed. -/
theorem test_satellite_lift :
    let x := { sale 0 with hose := 2, kind := .satellite, satelliteHonoured := true }
    let t := after (.satelliteNozzleLift .a) (selling .fuelling x opened)
    (t.meter 4).owner = some (.a, .satellite) ∧ (t.pos .a).sale.map (fun x => x.claims.length) = some 2 := by decide
/-- R119. -/
theorem test_satellite_hang :
    (after (.satelliteNozzleHang .b) { opened with iwu := { opened.iwu with satellites := { a := none, b := some true } } }).iwu.satellites.b
      = some false := by decide
/-- R62, R120. -/
theorem test_emergency :
    let t := after .emergencyStopAssertion (selling .slowing (sale 3) opened)
    (t.pos .a).sale.map Sale.stop = some (some .emergency) ∧ t.ntc.sources[11].first = 271
      ∧ (after .emergencyStopRelease t).iwu.emergency = some false := by decide
/-- R148: quarantine, the reader's authorization gone. -/
theorem test_loop_departed :
    let t := after (.loopDeparted .cable) (authorized readerAuth opened)
    t.riu.domain = .quarantine ∧ (t.pos .a).st = .idle ∧ t.ntc.sources[1].first = 1 := by decide
/-- R149: a return raises TAMPER and leaves the domain. -/
theorem test_loop_returned :
    let s := { opened with iwu := { opened.iwu with cable := some false }, riu := { opened.riu with domain := .quarantine } }
    let t := after (.loopReturned .cable) s
    t.riu.domain = .quarantine ∧ t.ntc.sources[1].causes = 2 := by decide
/-- R122, R123: details 270 and 268. -/
theorem test_seal_and_door :
    (after (.sealChange false) opened).ntc.sources[11].first = 270 ∧ (after (.doorChange .cabinet true) opened).ntc.sources[11].first = 268 := by decide
/-- R124: an unmasked change in EVENT mode latches the pattern. -/
theorem test_general_input :
    let s := { opened with iwu := { opened.iwu with watch := { opened.iwu.watch with mask := 0xF0 } } }
    (after (.generalInputChange 0x05 0x05) s).iwu.latched = 5 ∧ (after (.generalInputChange 0x80 0x80) s).ntc = s.ntc := by decide

/-- The body of AUTHORIZE for the example's authorization. -/
def authorizeBody : List Byte := w4 40117 ++ [2, 2, 2, 0] ++ w4 5000 ++ w4 40 ++ w4 120
/-- 03's example, AUTHORIZE in IDLE. -/
theorem test_authorize :
    let t := after .authorize (given .dispense (card 1 0 authorizeBody) opened)
    (t.pos .a).auth = some auth ∧ (t.pos .a).st = .authorized ∧ (t.pos .a).authTimer = some 120000 ∧ t.half 0x906 = 0
      ∧ t.half 0x904 = 3 := by decide
/-- 03's example: two unpaid sales, UNPAID FULL (10). -/
theorem test_authorize_unpaid_full :
    (after .authorize (given .dispense (card 1 0 authorizeBody)
      (opened.modPos .a fun p => { p with unpaid := [unpaid, unpaid] }))).half 0x906 = 10 := by decide
/-- R68, R69, R70. -/
theorem test_cancel_stop_resume :
    ((after .cancel (given .dispense (card 2 0 []) (selling .paused (sale 3) opened))).pos .a).sale.map Sale.stop = some (some .host)
    ∧ ((after .stop (given .dispense (card 3 2 []) (selling .slowing (sale 3) opened))).pos .a).st = .paused
    ∧ ((after .resume (given .dispense (card 4 0 []) (selling .paused (sale 2699) opened))).pos .a).st = .slowing := by decide
/-- R71, R72, R74. -/
theorem test_sale_cards :
    let s := opened.modPos .a fun p => { p with unpaid := [unpaid] }
    ((after .closeSale (given .dispense (card 5 0 (w4 40102)) s)).pos .a).unpaid = []
    ∧ (after .readSale (given .dispense { card 6 0 (1 :: List.replicate 47 0) with flags := 4 } s)).bytes 0x928 4 = w4 42170
    ∧ ((after .closePosition (given .dispense (card 7 0 []) s)).pos .a).st = .closed .host := by decide
/-- R74, R110. -/
theorem test_open_position :
    let t := after .openPosition (given .dispense (card 8 0 []) (atA (.closed .host) opened))
    (t.board .a).test = some (.segment .eights true false) ∧ t.half 0x906 = 0 := by decide
/-- R17 to R21. -/
theorem test_meter_cards :
    ((after .configureMeter (given .site (card 0x20 1 ([1, 0, 1, 15] ++ w4 2000000)) opened)).meter 0).config.k = 2000000
    ∧ (after .configureMeter (given .site (card 0x20 9 ([1, 0, 1, 15] ++ w4 2000000)) opened)).half 0x906 = 3
    ∧ (after .configureHose (given .site (card 0x21 4 ([1, 3, 0, 6, 0, 0] ++ h2 300)) opened)).route .b 0
        = { HoseRoute.default 5 with fitted := true, grade := 3, slowDown := 300 }
    ∧ (after .setRouting (given .site (card 0x22 0 ([0, 1, 20, 0] ++ w4 10000)) opened)).miu.enables.tolerance = 20 := by decide
theorem test_meter_reports :
    ((after .clearMeterFault (given .site (card 0x23 8 []) (opened.modMeter 7 fun m => { m with faulted := true }))).meter 7).faulted = false
    ∧ (after .readMeters (given .site (card 0x24 2 (List.replicate 20 0)) (opened.modMeter 1 fun m => { m with lifetime := 0x0102030405 }))).bytes
        0x910 6 = [5, 4, 3, 2, 1, 0] := by decide
/-- R41, R42, R75, R86, R113, R126, R132. -/
theorem test_site_cards :
    (after .setPricing (given .site (card 0x25 0 [4, 1, 0, 0]) opened)).pru.siteMode = .fiveCent
    ∧ (after .clearSiteFlags (given .site (card 0x26 0 (w4 0))
        { opened with pru := { opened.pru with accrued := { Accrued.clear with inexact := true, ceiling := true } } })).bytes 0x910 4 = [5, 0, 0, 0]
    ∧ ((after .configurePosition (given .site (card 0x27 1 (w4 1000 ++ h2 5 ++ h2 300 ++ h2 0 ++ h2 2000 ++ w4 1)) opened)).pos .b).config.noFlow
        = 300
    ∧ ((after .loadPrice (given .site (card 0x28 3 (w4 1900 ++ w4 7 ++ w4 0)) opened)).grade 3).price = some 1900 := by decide
theorem test_more_site_cards :
    (after .setDisplayPolicy (given .site (card 0x29 0 [15, 1, 0, 0]) opened)).dlc.policy = { retryLimit := 15, action := .record }
    ∧ (after .setWatch (given .site (card 0x2A 0 [20, 1, 0xF0, 0x0A]) opened)).iwu.watch
        = { interval := 20, mode := .matching, mask := 0xF0, compare := 0x0A }
    ∧ (after .setRelayFloor (given .site (card 0x2B 0 (h2 0x4000 ++ h2 0))
        { opened with riu := { opened.riu with domain := .off } })).riu.floor = 0x4000
    ∧ (after .setSchedule (given .site (card 0x2C 0 (w4 1 ++ w4 79200 ++ w4 21600)) opened)).ssu.schedule
        = some { closing := 79200, opening := 21600 }
    ∧ (after .setClock (given .site (card 0x2D 0 (w4 65535 ++ w4 86399)) opened)).ssu.clock = { day := 65535, second := 86399, lost := false } := by decide
/-- R160, R161, R173, R174. -/
theorem test_night_and_wake_cards :
    (after .nightNow (given .site (card 0x2E 0 []) opened)).ssu.closingPhase = some .readerDown
    ∧ (after .wakeNow (given .site (card 0x2F 0 (w4 0)) (atSite .night opened))).ssu.wake.origin = .card := by decide
/-- R187, R188: SEALED is 9. -/
theorem test_store_cards :
    (after .readTotals (given .site { card 0x30 1 (List.replicate 24 0) with flags := 4 }
      { opened with rsc := { opened.rsc with totals := { opened.rsc.totals with a := opened.rsc.totals.a.set 1 { volume := 27510, amount := 5004, sales := 1 } } } })).bytes
        0x910 4 = w4 27510
    ∧ (after .rebuildStore (given .site (card 0x31 0 [])
        (atSite (.faulted .store) { opened with iwu := { opened.iwu with calSeal := some false } }))).half 0x906 = 9 := by decide
/-- R130, R144 to R149. -/
theorem test_reader_cards :
    (after .readerOn (given .reader (card 0x40 0 []) { opened with riu := Riu.default })).riu.settleTimer = some 500
    ∧ (after .readerOff (given .reader (card 0x41 0 []) opened)).riu.domain = .off
    ∧ (after .openLink (given .reader (card 0x42 0 []) opened)).riu.domain = .opened
    ∧ (after .closeLink (given .reader (card 0x43 0 []) { opened with riu := { opened.riu with domain := .opened } })).riu.domain = .gated
    ∧ (after .releaseQuarantine (given .reader (card 0x47 0 []) { opened with riu := { opened.riu with domain := .quarantine } })).riu.domain = .off
    ∧ (after .settleTimerExpiry { opened with riu := { opened.riu with domain := .powering, settleTimer := some 500 } }).riu.domain = .gated := by decide

/-- The reader's link open. -/
def linked : State := { opened with riu := { opened.riu with domain := .opened } }
/-- An armed receive of buffer 127, its card at 0A00h. -/
def armed : State :=
  { linked with riu := { linked.riu with receiver := .inside, armed := [{ card := 0xA00, buffer := 127, note := false, toEnd := true }] } }
/-- A Send in flight of the card at 0900h. -/
def sending (ph : SendPhase) (attempts holds : Nat) : State :=
  waiting .reader (card 0x44 127 [1, 1, 0, 0, 0, 0, 0, 0])
    { linked with
      riu := { linked.riu with
        send := some { card := 0x900, buffer := 127, frame := [], attempts := attempts, holds := holds, last := none, phase := ph } } }

/-- R138, R140. -/
theorem test_frames :
    let t := after (.inboundFrame (.complete 1 [0x41] (frameCheck 1 [0x41]))) armed
    t.riu.answers = [.accept] ∧ t.bytes 0x7F00 1 = [0x41] ∧ t.half 0xA06 = 0
    ∧ (after (.inboundFrame (.badLength 251)) armed).riu.receiver = .discarding
    ∧ (after .inboundFrameTimeout armed).riu.badRun = 1 := by decide
theorem test_receiver :
    (after .inboundFrameStart linked).riu.receiver = .inside
    ∧ (after .lineSilence { linked with riu := { linked.riu with receiver := .discarding } }).riu.receiver = .outside
    ∧ (after .answerByteSent { linked with riu := { linked.riu with answers := [.hold, .accept] } }).riu.answers = [.accept] := by decide
/-- R137, R139, R141. -/
theorem test_receive_cards :
    (after .armReceive (given .reader (card 0x45 127 (w4 0)) linked)).riu.armed.length = 1
    ∧ (after .disarmReceive (given .reader (card 0x46 127 []) armed)).half 0xA06 = 18
    ∧ (after .send (given .reader (card 0x44 127 [2, 1, 0, 0, 0, 0, 0, 0]) linked)).riu.send.map (fun x => x.frame.length) = some 6 := by decide
/-- R142. -/
theorem test_send :
    (after (.readerAnswer .accept) (sending .awaiting 2 0)).half 0x906 = 0
    ∧ (after (.readerAnswer .reject) (sending .awaiting 2 0)).half 0x906 = 20
    ∧ (after (.readerAnswer .hold) (sending .awaiting 0 39)).riu.send.map Send.phase = some .holding
    ∧ (after .sendAnswerExpiry (sending .awaiting 0 0)).riu.send.map Send.attempts = some 1
    ∧ (after .holdDelayExpiry (sending .holding 0 1)).riu.send.map Send.phase = some .sending
    ∧ (after .sendFrameEnd (sending .sending 0 0)).riu.send.map Send.phase = some .awaiting := by decide

/-- Board A writing its AMOUNT field, number 9. -/
def writing (retries : Nat) (s : State) : State :=
  s.modBoard .a fun b =>
    { b.modField .amount fun r => { r with st := .writing, retries := retries } with
      attempt := some { field := .amount, number := 9, sent := eights .amount }, writeNumber := 10 }
/-- R96, R97, R103: verified; failed with retries left; exhausted, a side fault that ends the sale. -/
theorem test_attempts :
    (((after (.litFrame .a { number := 9, wellFormed := true, field := .amount, content := eights .amount }) (writing 1 opened)).board .a).field
        .amount).shown = some (eights .amount)
    ∧ (((after (.answerTimeout .a) (writing 1 opened)).board .a).field .amount).retries = 0
    ∧ ((after (.answerTimeout .a) (writing 0 (selling .fuelling (sale 3) opened))).pos .a).sale.map Sale.stop = some (some .display) := by decide
/-- R101. -/
theorem test_refresh :
    (((after (.refreshInstant .b) (opened.modBoard .b fun b => b.modField .status fun r => { r with st := .fault })).board .b).field .volume).refreshDue
      = false := by decide

/-- R156, R159. -/
theorem test_clock :
    (after .clockCount { opened with ssu := { opened.ssu with clock := { day := 65535, second := 86399, lost := false } } }).ssu.clock
      = { day := 0, second := 0, lost := false }
    ∧ (after .clockCount { opened with ssu := { opened.ssu with schedule := some { closing := 43201, opening := 5 } } }).ssu.site = .closing := by decide
/-- R164, R167 to R169: outcome 3 of STORE CHECK; METER SETTLE to an open site. -/
theorem test_stages :
    (after .stageTimerExpiry State.reset).ssu.site = .faulted .store
    ∧ (after .meterSettleExpiry (waking .coldStart 4 opened)).ssu.site = .opened := by decide
/-- R180, R182, R183. -/
theorem test_supply :
    (after .supplyWarning opened).ssu.site = .powerDown
    ∧ ((after .freezeWindowExpiry { selling .fuelling (sale 3) (atSite .powerDown opened) with
        rsc := { opened.rsc with freeze := .window } }).pos .a).unpaid.map EndedSale.stop = [.power]
    ∧ (after .supplyWarnRelease { atSite .powerDown opened with rsc := { opened.rsc with supplyWarn := some true } }).rsc.coldWait = true
    ∧ (after .supplyFall opened).mainSupply = false := by decide
/-- R105, R106, R109: a start check's position that the warning closes; after the freeze of a sale STATUS alone follows. -/
theorem test_contents_in_power_down :
    let t := after .supplyWarning (starting .check opened)
    let u := after .freezeWindowExpiry
      { (selling .fuelling (sale 3) (atSite .powerDown opened)).sendAll with rsc := { opened.rsc with freeze := .window } }
    ((t.board .a).field .amount).wanted = dashes .amount ∧ ((t.board .a).field .status).wanted = .lamps false false true false
    ∧ ((u.board .a).field .amount).wanted ≠ dashes .amount ∧ ((u.board .a).field .status).wanted = .lamps false false true true := by decide
/-- R157, R185. -/
theorem test_battery :
    (after .batteryLoss opened).rsc.lost = true ∧ (after .batteryReturn (after .batteryLoss opened)).rsc.lost = true
    ∧ (after .coldStart { atSite .powerDown opened with rsc := { opened.rsc with freeze := .done, coldWait := true } }).ssu.wake.origin
        = .coldStart := by decide
/-- R176: every record of the open site's store is sound. -/
theorem opened_sound (r : RecordId) : opened.rsc.store.sound r = true := by
  simp only [Store.sound, Store.intact, Bool.and_eq_true]
  cases r <;> exact ⟨⟨beq_iff_eq.2 rfl, beq_iff_eq.2 rfl⟩, by decide⟩
theorem opened_passes : opened.rsc.firstUnsound = none := by
  have h : allRecords.find? (fun i => !opened.rsc.store.sound i) = none := List.find?_eq_none.2 fun r _ => by simp [opened_sound r]
  exact congrArg (Option.map RecordId.number) h
/-- R164, R184: a sound store restores and stage 2 begins at a wake that is no cold start; a lost store fails the check. -/
theorem test_store_check :
    (after .storeCheckBegin { waking .card 1 opened with rsc := { opened.rsc with check := .requested } }).rsc.check = .running
    ∧ (after .storeCheckEnd { waking .card 1 opened with rsc := { opened.rsc with check := .running, lost := true } }).ssu.site
        = .faulted .store := by decide
theorem test_store_check_passes :
    (State.storeCheckEnds { waking .card 1 opened with rsc := { opened.rsc with check := .running } }).ssu.wake.stage = 2 := by
  have h : ∀ s : State, s.rsc.firstUnsound = none → s.storeCheckEnds = s.checkPassed := fun s hs => by
    unfold State.storeCheckEnds; rw [hs]
  rw [h { waking .card 1 opened with rsc := { opened.rsc with check := .running } } opened_passes]; decide
/-- R178: the step's record is written. -/
theorem test_store_step :
    (after .storeStepCompletion { opened with rsc := { opened.rsc with
      active := some { step := { records := [.reader], requesters := [] }, generation := 9, contents := opened.liveContents } } }).rsc.store.seals[7]
      = { generation := 9, check := some (opened.liveContents.checkWord .reader 9) } := by rfl
/-- R191, R197, R204, R206 to R209. -/
theorem test_host_port :
    (after (.hostWrite 0x801 0xABCD) opened).half 0x800 = 0xABCD
    ∧ (after (.hostWrite 0x7FE 1) opened).ntc.sources[12].first = 0x7FE
    ∧ (after (.hostParity 0x805) opened).upset = [0x805]
    ∧ (after .hostReset opened).hostReset = true ∧ (after .hostResetRelease (after .hostReset opened)).hostReset = false
    ∧ (opened.registerAt 0x0A = 0x1FFF ∧ opened.registerAt 0x0C = 0) := by decide
/-- R206: a write at an offset without a register. -/
theorem test_other_register : after (.registerWriteOther 0x20 5) opened = opened := by rfl
theorem test_notice_registers :
    let s := opened.raise .closing 1
    (after .noticeRead s).half 0x70 = 2 ∧ (after .noticeRead s).half 0x74 = 7
    ∧ (after (.noticeDone 0) (after .noticeRead s)).ntc.presented = none
    ∧ (after (.enableWrite 0xFFFF) s).ntc.enable = 0x1FFF
    ∧ (after (.overrunWrite 0x40) (after .noticeRead s)).overrunRegister = 0 := by decide
/-- A FRESH card at 0800h, CANCEL to position A, its link END. -/
def placed : State := { opened with xm := [(0x800, 2), (0x802, 1)] }
/-- R197, R198. -/
theorem test_go :
    (after (.goStart .dispense 0x803) placed).lanes.dispense.held.map Held.offset = some 0x800
    ∧ (after (.goStart .site 0x800) placed).half 0x806 = 1
    ∧ (after (.goStart .dispense 0x7FC) placed).lanes.dispense.halt = .badCardAddress
    ∧ (after (.goAbort .reader 0) (sending .awaiting 0 0)).half 0x906 = 17 := by decide

/-! ## Witnesses: for every statement with hypotheses, states and operands that meet them, clause by clause -/

theorem both {p : Side → Prop} (ha : p .a) (hb : p .b) : ∀ side, p side
  | .a => ha
  | .b => hb

/-- A dispensing sale, its flow timer about to expire. -/
def running : State := { selling .fuelling (sale 3) opened with pending := [.flowTimerExpiry .a] }
/-- A command at the front of the open site's queue. -/
def queued (c : Instr) (s : State) : State := { s with pending := [c] }

theorem witness_StepRunsTheFrontCommand : (queued .hostReset opened).pending = .hostReset :: [] ∧ opened.pending = [] := ⟨rfl, rfl⟩

theorem witness_MemoryKeepsItsForm :
    (queued (.hostWrite 0x7FFE 1) placed).memoryOk ∧ ∃ t, step (queued (.hostWrite 0x7FFE 1) placed) = .next t ∧ t.half 0x7FFE = 1 :=
  ⟨⟨by decide, by decide⟩, _, rfl, by decide⟩

theorem running_sale {side : Side} {x : Sale} (h : (running.pos side).sale = some x) : side = .a ∧ x = sale 3 := by
  cases side
  · exact ⟨rfl, (Option.some.inj h).symm⟩
  · exact absurd (show (none : Option Sale) = some x from h) (by simp)

theorem running_step : ∃ t, step running = .next t ∧ (t.pos .a).st = .ending := ⟨_, rfl, by decide⟩

theorem witness_SalesStayLawful : running.salesLawful ∧ ∃ t, step running = .next t ∧ (t.pos .a).st = .ending := by
  refine ⟨⟨fun side x h => ?_, both ?_ ?_, ⟨?_, ?_⟩, fun a h => ?_⟩, running_step⟩
  · obtain ⟨rfl, rfl⟩ := running_sale h
    exact ⟨by decide, by decide +kernel, by decide +kernel⟩
  all_goals first
    | (intro e he; exact absurd (show e ∈ ([] : List EndedSale) from he) (by simp))
    | exact absurd (show (none : Option ActiveStep) = some a from h) (by simp)

theorem running_shaped : ∀ side, (running.pos side).shaped := by
  refine both ⟨by decide, by decide, fun x h => ?_, fun x a h => ?_, fun x a h h' => ?_⟩ ⟨by decide, by decide, fun x h => ?_, fun x a h => ?_, fun x a h => ?_⟩
  · obtain ⟨-, rfl⟩ := running_sale h; decide
  · intro h'; exact absurd (show (none : Option Authorization) = some a from h') (by simp)
  · obtain ⟨-, rfl⟩ := running_sale h; exact absurd (show (none : Option Authorization) = some a from h') (by simp)
  all_goals exact absurd (running_sale h).1 (by decide)

theorem witness_PositionsStayShaped :
    (∀ side, (running.pos side).shaped) ∧ ∃ t, step running = .next t ∧ (t.pos .a).st = .ending := ⟨running_shaped, running_step⟩

/-- The open site's boards, every content sent. -/
def contented : State := opened.sendAll

/-- In POWER DOWN, the freeze window running. -/
def warned (s : State) : State := { atSite .powerDown s with rsc := { s.rsc with supplyWarn := some true, freeze := .window } }

/-- Every content sent at an open site and in POWER DOWN, where the freeze follows. -/
theorem witness_OutputsStaySafe :
    (∀ side, (running.pos side).outputsSafe) ∧ (∃ t, step running = .next t ∧ (t.pos .a).st = .ending)
      ∧ (let s := queued (.nozzleLift .a 1) contented
        (∀ side, s.contentsSent side) ∧ (s.board .a).test = none ∧ ∃ t, step s = .next t ∧ (t.pos .a).st = .calling)
      ∧ (let s := queued .freezeWindowExpiry (warned contented)
        (∀ side, s.contentsSent side) ∧ ∃ t, step s = .next t ∧ t.rsc.freeze = .steps) :=
  ⟨both (by unfold Position.outputsSafe; decide) (by unfold Position.outputsSafe; decide), running_step,
    ⟨both (by unfold State.contentsSent; decide) (by unfold State.contentsSent; decide), rfl, _, rfl, by decide⟩,
    both (by unfold State.contentsSent; decide) (by unfold State.contentsSent; decide), _, rfl, by decide⟩

/-- One sale at position A, its only claim the one owned meter. -/
theorem agree_of {s : State} {x : Sale} {c : Claim} (ha : (s.pos .a).sale = some x) (hb : (s.pos .b).sale = none) (hc : x.claims = [c])
    (hm : ∀ m, (s.meter m).owner = if m = c.meter then some (.a, c.role) else none) : s.claimsAgree := by
  refine ⟨both (fun y hy d hd => ?_) (fun y hy => ?_), fun m side role h => ?_⟩
  · rw [ha] at hy; obtain rfl := Option.some.inj hy
    rw [hc] at hd; obtain rfl := List.mem_singleton.1 hd
    rw [hm, if_pos rfl]
  · rw [hb] at hy; cases hy
  · rw [hm] at h
    split at h
    · obtain ⟨rfl, rfl⟩ := Prod.mk.inj (Option.some.inj h)
      exact ⟨x, ha, c, by rw [hc]; exact List.mem_singleton.2 rfl, Eq.symm ‹_›, rfl⟩
    · cases h

theorem witness_ClaimsStayInAgreement :
    running.routesLawful ∧ (∀ side, (running.pos side).shaped) ∧ running.claimsAgree
      ∧ ∃ t, step running = .next t ∧ (t.pos .a).st = .ending := by
  refine ⟨⟨both ?_ ?_, both ?_ ?_, fun a h => ?_⟩, running_shaped,
    agree_of (c := { meter := 1, role := .primary, n := 3, h := 3, k := 100000 }) rfl rfl rfl (by decide), running_step⟩
  · intro h; fin_cases h <;> exact ⟨by decide, by decide, by decide, by decide, by decide⟩
  · intro h; fin_cases h <;> exact ⟨by decide, by decide, by decide, by decide, by decide⟩
  · intro h; fin_cases h <;> exact ⟨by decide, by decide, by decide, by decide, by decide⟩
  · intro h; fin_cases h <;> exact ⟨by decide, by decide, by decide, by decide, by decide⟩
  · exact absurd (show (none : Option ActiveStep) = some a from h) (by simp)

/-- Quarantined while a sale of origin PREPAY flows. -/
def quarantined : State := { running with riu := { running.riu with domain := .quarantine } }

theorem witness_QuarantineHolds :
    (∀ side, (quarantined.pos side).shaped) ∧ quarantined.riu.domain = .quarantine ∧ (∀ side, (quarantined.pos side).noReader)
      ∧ (∃ t, step quarantined = .next t ∧ t.riu.domain = .quarantine) ∧ ∃ t, exec .clockCount quarantined = .next t := by
  refine ⟨running_shaped, rfl, both ⟨fun a h => ?_, fun x h _ => ?_⟩ ⟨fun a h => ?_, fun x h => ?_⟩, ⟨_, rfl, by decide⟩, _, rfl⟩
  · exact absurd (show (none : Option Authorization) = some a from h) (by simp)
  · obtain ⟨-, rfl⟩ := running_sale h; decide
  · exact absurd (show (none : Option Authorization) = some a from h) (by simp)
  · exact absurd (running_sale h).1 (by decide)

/-- A NIGHT with a counting clock; stage 2 of a wake with a segment test running. -/
theorem witness_NightKeepsTheReaderDown :
    (let s := queued .clockCount (atSite .night (shut { opened with riu := { opened.riu with domain := .off } }));
      s.ssu.site = .night ∧ s.riu.domain.down ∧ s.inOrder ∧ (∀ side, (s.pos side).shaped) ∧ s.claimsAgree
        ∧ ∃ t, step s = .next t ∧ t.ssu.site = .night)
    ∧ (let s := queued .stageTimerExpiry ((waking .card 2 (shut opened)).modBoard .a fun b => { b with test := some (.segment .eights false true) })
      s.inOrder ∧ s.ssu.site = .waking ∧ ∃ t, step s = .next t ∧ t.ssu.site = .waking) := by
  refine ⟨⟨rfl, .inl rfl, inOrder_of (closed_of rfl rfl) (both (.inl rfl) (.inl rfl)) rfl rfl,
      both (shaped_of rfl rfl rfl) (shaped_of rfl rfl rfl), ⟨fun side x h => ?_, fun m side role h => ?_⟩, _, rfl, by decide⟩,
    inOrder_of (closed_of rfl rfl) (both (.inr ⟨⟨_, _, rfl⟩, rfl, rfl, rfl⟩) (.inl rfl)) rfl rfl, rfl, _, rfl, by decide⟩
  · cases side <;> cases h
  · revert h; fin_cases m <;> intro h <;> cases h

theorem witness_BoundsAreKept :
    (queued (.inboundFrame (.badStop true)) armed).riu.bounded ∧ (queued .clockCount opened).ssu.clock.inRange
      ∧ (∃ t, step (queued (.inboundFrame (.badStop true)) armed) = .next t ∧ t.riu.badRun = 1)
      ∧ ∃ t, step (queued .clockCount opened) = .next t ∧ t.ssu.clock.second = 43201 :=
  ⟨by unfold Riu.bounded; decide, by unfold Clock.inRange; decide, ⟨_, rfl, by decide⟩, _, rfl, by decide⟩

theorem witness_MirrorsFollowTheirOwners :
    (queued .clockCount State.reset).generationsEven ∧ (∃ t, step (queued .clockCount State.reset) = .next t)
      ∧ State.reset.mainSupply = true ∧ State.reset.mirrored .ssu
      ∧ ∃ t, exec .clockCount State.reset = .next t ∧ t.image .ssu ≠ State.reset.image .ssu :=
  ⟨by unfold State.generationsEven evenHalf; decide, ⟨_, rfl⟩, rfl, rfl, _, rfl, by decide⟩

theorem witness_ReaderFramesStayIsolated :
    (FrameEnd.complete 1 [0x41] (frameCheck 1 [0x41])).wellFormed = true ∧ (FrameEnd.badLength 251).wellFormed = true
      ∧ (∃ t, exec (.inboundFrame (.complete 1 [0x41] (frameCheck 1 [0x41]))) armed = .next t ∧ t.riu.armed = [])
      ∧ ∃ u, exec (.inboundFrame (.badLength 251)) armed = .next u ∧ u.riu.armed ≠ [] :=
  ⟨by decide, by decide, ⟨_, rfl, by decide⟩, _, rfl, by decide⟩

/-! ### Meters -/

/-- Meter 1 with other levels or records. -/
def meterAs (f : Meter → Meter) (s : State) : State := s.modMeter 0 f

/-- Both values of each level; the phase error of an unclaimed meter that is OK; the cycle from both low; first levels of one phase and of
both. -/
theorem witness_QuadratureDecoding :
    (∀ a b, let s := meterAs (fun m => { m with phaseA := some a, phaseB := some b }) opened
      s.mainSupply = true ∧ s.miu.counting = true ∧ (s.meter 0).config.decoding = .quadrature ∧ (s.meter 0).phaseA = some a
        ∧ (s.meter 0).phaseB = some b ∧ (s.meter 0).faulted = false ∧ (s.meter 0).owner = none)
    ∧ (opened.meter 0).phaseA = some false ∧ (opened.meter 0).phaseB = some false
    ∧ (let s := meterAs (fun m => { m with phaseA := none, phaseB := none }) opened
      (s.meter 0).config.decoding = .quadrature ∧ (s.meter 0).phaseA = none ∧ (s.meter 0).phaseB = none ∧ s.calm)
    ∧ ((meterAs (fun m => { m with phaseA := none }) opened).meter 0).phaseB = some false :=
  ⟨by decide, rfl, rfl, ⟨rfl, rfl, rfl, calm_of rfl⟩, rfl⟩

/-- CONFIGURE METER for meter 1: SINGLE, the least values. -/
def singleCard : Card := card 0x20 1 ([1, 0, 1, 1] ++ w4 10000)
/-- Phase A low, high and without a level; a card that gives SINGLE. -/
theorem witness_SingleDecoding :
    (let s := meterAs (fun m => { m with config := { m.config with decoding := .single } }) opened;
      s.mainSupply = true ∧ s.miu.counting = true ∧ (s.meter 0).config.decoding = .single ∧ (s.meter 0).phaseA = some false
        ∧ (s.meter 0).owner = none ∧ s.calm)
    ∧ (let s := meterAs (fun m => { m with config := { m.config with decoding := .single }, phaseA := some true }) opened
      s.calm ∧ (s.meter 0).phaseA = some true)
    ∧ (let s := meterAs (fun m => { m with config := { m.config with decoding := .single }, phaseA := none }) opened
      s.calm ∧ (s.meter 0).phaseA = none ∧ (s.meter 0).config.decoding = .single)
    ∧ Ready (given .site singleCard opened) .configureMeter singleCard ∧ singleCard.meter = some 0 ∧ 2 ≤ singleCard.words.toNat
    ∧ singleCard.meterConfig = some { decoding := .single, k := 10000, reverseAllowance := 0, creepLimit := 1, phaseErrorLimit := 1 }
    ∧ opened.storeClosed = false ∧ opened.iwu.calSeal = some true :=
  ⟨⟨rfl, rfl, by decide, by decide, by decide, calm_of rfl⟩, ⟨calm_of rfl, by decide⟩, ⟨calm_of rfl, by decide, by decide⟩, ready_of rfl,
    by decide, by decide, by decide, rfl, rfl⟩

/-- Both decodings and both signs; below the limit, at it, above a lowered limit with the count leading away from it; phase B without a
level. -/
theorem witness_UnclaimedCountReportsCreep :
    opened.mainSupply = true ∧ opened.miu.counting = true ∧ opened.calm ∧ (opened.meter 0).owner = none
      ∧ opened.countsBy 0 (some true) none 1 ∧ (meterAs (fun m => { m with phaseB := some true }) opened).countsBy 0 (some true) none (-1)
      ∧ (meterAs (fun m => { m with config := { m.config with decoding := .single } }) opened).countsBy 0 (some true) (some true) 1
      ∧ ¬ ((opened.meter 0).config.creepLimit ≤ ((opened.meter 0).sinceReport + 1).natAbs)
      ∧ (let s := meterAs (fun m => { m with sinceReport := 4 }) opened
        (s.meter 0).config.creepLimit ≤ ((s.meter 0).sinceReport + 1).natAbs ∧ (s.meter 0).owner = none)
      ∧ (let s := meterAs (fun m => { m with sinceReport := 5, phaseB := some true }) opened
        s.countsBy 0 (some true) none (-1) ∧ (s.meter 0).config.creepLimit ≤ (s.meter 0).sinceReport.natAbs
          ∧ ¬ ((s.meter 0).config.creepLimit ≤ ((s.meter 0).sinceReport - 1).natAbs))
      ∧ (let s := meterAs (fun m => { m with phaseB := none }) opened
        s.calm ∧ s.miu.counting = true ∧ (s.meter 0).config.decoding = .quadrature ∧ (s.meter 0).phaseA = some false
          ∧ (s.meter 0).phaseB = none ∧ (s.meter 0).owner = none) :=
  ⟨rfl, rfl, calm_of rfl, by decide, ⟨rfl, rfl, .inr ⟨rfl, rfl, .inl ⟨rfl, rfl⟩⟩⟩, ⟨rfl, rfl, .inr ⟨rfl, rfl, .inr ⟨rfl, rfl⟩⟩⟩,
    ⟨rfl, rfl, .inl ⟨rfl, rfl⟩⟩, by decide, by decide, ⟨⟨rfl, rfl, .inr ⟨rfl, rfl, .inr ⟨rfl, rfl⟩⟩⟩, by decide, by decide⟩,
    calm_of rfl, rfl, rfl, rfl, rfl, rfl⟩

/-- Phase B of meter 2 recognised high: the next count is negative. -/
def backwards (s : State) : State := s.modMeter 1 fun m => { m with phaseB := some true }
/-- Meter 2 decodes SINGLE. -/
def singly (s : State) : State := s.modMeter 1 fun m => { m with config := { m.config with decoding := .single } }
/-- The example's sale with another lock, or at a highest count of 500. -/
def saleTo (l : Lock) (n : Nat) : Sale := { sale n with lock := some l }
def sunk (x : Sale) : Sale := { x with claims := [{ meter := 1, role := .primary, n := 3, h := 500, k := 100000 }] }
/-- A blend 50 percent off, its deviation begun at 2,010 mL. -/
def offBlendSale : Sale :=
  { sale 300 with
    claims := [{ meter := 1, role := .primary, n := 300, h := 300, k := 100000 }, { meter := 0, role := .secondary, n := 0, h := 0, k := 100000 }],
    blend := some { ratio := 50, tolerance := 5, settleVolume := 3010 }, deviationStart := some 2010 }

/-- Both signs and both decodings in every state; V at V_t and at V_s, each from the mL before; below both; the source LIMIT; an excursion
of a dispensing sale and of a start; a deviation that has lasted 1,000 mL; a frozen sale and one in ENDING. -/
theorem witness_ClaimedCountReachesTheSale :
    (∀ st, let s := selling st (sale 3) opened
      s.mainSupply = true ∧ s.miu.counting = true ∧ (s.meter 1).owner = some (.a, .primary) ∧ (s.pos .a).sale = some (sale 3)
        ∧ (s.pos .a).st = st ∧ s.countsBy 1 (some true) none 1 ∧ (backwards s).countsBy 1 (some true) none (-1)
        ∧ (singly s).countsBy 1 (some true) (some true) 1)
    ∧ (let y := (saleTo { lock with vt := 27490 } 2748).afterCount 1 1
      27490 ≤ y.v ∧ (sale 2748).v < 27490 ∧ (selling .fuelling (saleTo { lock with vt := 27490 } 2748) opened).calm
        ∧ lock.source = .preset ∧ (makeLock 1859 40 .halfEven .none 1000000 500).source = .limit)
    ∧ (let y := (saleTo { lock with vs := some 26990 } 2698).afterCount 1 1
      26990 ≤ y.v ∧ y.v < lock.vt ∧ (sale 2698).v < 26990)
    ∧ (((sale 3).afterCount 1 1).v < 26985 ∧ (sale 3).afterCount 1 1 ≠ sale 3 ∧ (sale 3).blend = none)
    ∧ ((∃ c ∈ ((sunk (sale 3)).afterCount 1 (-1)).claims, c.meter = 1
        ∧ (((backwards (selling .fuelling (sunk (sale 3)) opened)).meter 1).config.reverseAllowance : Int) < c.h - c.n)
      ∧ (backwards (selling .slowing (sunk (sale 3)) opened)).calm)
    ∧ ((offBlendSale.afterCount 1 1).offBlend = some true ∧ (offBlendSale.afterCount 1 1).v = 2010 + 1000
      ∧ (selling .fuelling offBlendSale opened).calm)
    ∧ (let s := backwards (selling (.starting .motor) { sunk (sale 0) with held := some auth } opened)
      s.calm ∧ s.noPending ∧ (s.pos .a).st.isStarting = true ∧ s.ssu.site ≠ .powerDown ∧ ((sunk (sale 0)).claims.map Claim.meter).Nodup)
    ∧ (selling .ending (sale 3) opened).calm
    ∧ (let s := atSite .powerDown (selling .fuelling (sale 3) opened)
      s.calm ∧ s.ssu.site = .powerDown ∧ s.miu.counting = true ∧ s.noPending) :=
  ⟨fun st => ⟨rfl, rfl, rfl, rfl, rfl, ⟨rfl, rfl, .inr ⟨rfl, rfl, .inl ⟨rfl, rfl⟩⟩⟩, ⟨rfl, rfl, .inr ⟨rfl, rfl, .inr ⟨rfl, rfl⟩⟩⟩,
      rfl, rfl, .inl ⟨rfl, rfl⟩⟩,
    ⟨by decide, by decide, calm_of rfl, by decide, by decide +kernel⟩, by decide, by decide, ⟨by decide, calm_of rfl⟩, ⟨by decide, by decide, calm_of rfl⟩,
    ⟨calm_of rfl, (quiet_of rfl).1.2.2.1, by decide, by decide, by decide⟩, calm_of rfl, calm_of rfl, rfl, rfl, (quiet_of rfl).1.2.2.1⟩

/-- FAULTED; unclaimed; claimed one below the limit; claimed at the limit: dispensing, in a start, in ENDING, frozen; the first level of phase A
beside a change of phase B, and that of phase B beside a fall of phase A. -/
theorem witness_PhaseErrorActsByClaimAndFault :
    let atLimit := fun s : State => s.modMeter 1 fun m => { m with phaseErrors := 3 }
    let s := selling .slowing (sale 3) opened
    let bad := atLimit s
    let start := atLimit (starting .motor opened)
    s.mainSupply = true ∧ s.calm ∧ (s.meter 1).config.decoding = .quadrature ∧ (s.meter 1).phaseA = some false
      ∧ (s.meter 1).phaseB = some false
      ∧ ((meterAs (fun m => { m with faulted := true }) opened).meter 0).faulted = true
      ∧ (s.meter 0).faulted = false ∧ (s.meter 0).owner = none
      ∧ (s.meter 1).faulted = false ∧ (s.meter 1).owner = some (.a, .primary)
      ∧ (s.meter 1).phaseErrors + 1 < (s.meter 1).config.phaseErrorLimit
      ∧ (bad.meter 1).config.phaseErrorLimit ≤ (bad.meter 1).phaseErrors + 1 ∧ (bad.pos .a).st.isDispensing = true
      ∧ bad.ssu.site ≠ .powerDown ∧ bad.calm ∧ (bad.pos .a).sale = some (sale 3)
      ∧ start.calm ∧ (start.pos .a).st.isStarting = true ∧ (start.pos .a).sale = some { sale 0 with held := some auth }
      ∧ (atLimit (selling .ending (sale 3) opened)).calm ∧ (atLimit (atSite .powerDown s)).calm
      ∧ (let s := meterAs (fun m => { m with phaseA := none }) opened
        s.calm ∧ (s.meter 0).phaseA = none ∧ (s.meter 0).phaseB = some false)
      ∧ (let s := meterAs (fun m => { m with phaseA := some true, phaseB := none }) opened
        s.calm ∧ (s.meter 0).phaseB = none ∧ ¬ ((s.meter 0).phaseA = some false ∧ some false = some true)) :=
  ⟨rfl, calm_of rfl, by decide, by decide, by decide, by decide, by decide, by decide, by decide, by decide, by decide, by decide, by decide,
    by decide, calm_of rfl, rfl, calm_of rfl, by decide, rfl, calm_of rfl, calm_of rfl, ⟨calm_of rfl, rfl, rfl⟩, calm_of rfl, rfl, by decide⟩

theorem witness_SecondSetsCountRates : opened.mainSupply = true ∧ opened.calm := ⟨rfl, calm_of rfl⟩

/-- A configuration at the upper bounds, and one at the lower. -/
def widest : MeterConfig := { decoding := .single, k := 2000000, reverseAllowance := 255, creepLimit := 255, phaseErrorLimit := 15 }
def least : MeterConfig := { decoding := .quadrature, k := 10000, reverseAllowance := 0, creepLimit := 1, phaseErrorLimit := 1 }
def meterCard (g : MeterConfig) (target : Half) : Card :=
  card 0x20 target ([BitVec.ofNat 8 g.decoding.code, BitVec.ofNat 8 g.reverseAllowance, BitVec.ofNat 8 g.creepLimit,
    BitVec.ofNat 8 g.phaseErrorLimit] ++ w4 g.k)
/-- The card of the widest configuration given in a state. -/
def meterGiven (s : State) : State := given .site (meterCard widest 1) s

theorem witness_ConfigureMeterActs :
    (Ready (meterGiven opened) .configureMeter (meterCard widest 1) ∧ (meterCard widest 1).to = (0 : MeterNo).val + 1
      ∧ 2 ≤ (meterCard widest 1).words.toNat ∧ (meterCard widest 1).meterConfig = some widest ∧ (meterCard least 8).meterConfig = some least
      ∧ (meterCard widest 1).w 1 = 2000000 ∧ opened.storeClosed = false ∧ opened.iwu.calSeal = some true ∧ (opened.meter 0).owner = none
      ∧ opened.storeFree)
    ∧ (Ready (given .site (meterCard widest 0) opened) .configureMeter (meterCard widest 0) ∧ (meterCard widest 0).meter = none
      ∧ (meterCard widest 9).meter = none)
    ∧ (Ready (given .site (card 0x20 8 [0, 0, 1, 1]) opened) .configureMeter (card 0x20 8 [0, 0, 1, 1])
      ∧ (card 0x20 8 [0, 0, 1, 1]).meter = some 7 ∧ (card 0x20 8 [0, 0, 1, 1]).words.toNat < 2)
    ∧ (meterCard { widest with k := 2000001 } 1).meterConfig = none
    ∧ (Ready (meterGiven (waking .card 1 opened)) .configureMeter (meterCard widest 1) ∧ (waking .card 1 opened).storeClosed = true)
    ∧ Ready (meterGiven { opened with iwu := { opened.iwu with calSeal := none } }) .configureMeter (meterCard widest 1)
    ∧ (let s := meterAs (fun m => { m with owner := some (.a, .primary) }) opened
      Ready (meterGiven s) .configureMeter (meterCard widest 1) ∧ (s.meter 0).owner.isSome = true) :=
  ⟨⟨ready_of rfl, rfl, by decide, by decide, by decide, by decide, rfl, rfl, by decide, storeFree_of rfl⟩, ⟨ready_of rfl, by decide, by decide⟩,
    ⟨ready_of rfl, by decide, by decide⟩, by decide, ⟨ready_of rfl, rfl⟩, ready_of rfl, ready_of rfl, by decide⟩

/-- CONFIGURE HOSE for B1, a blend at its bounds; SET ROUTING at its bounds. -/
def blendRoute : HoseRoute :=
  { fitted := true, grade := 7, kind := .blend, primary := 0, secondary := some 7, ratio := 100, slowDown := 5000 }
def hoseCard : Card := card 0x21 4 ([1, 7, 1, 1, 8, 100] ++ h2 5000)
def routingCard : Card := card 0x22 0 ([1, 0, 20, 0] ++ w4 10000)

/-- CONFIGURE HOSE that takes B1's hose away. -/
def unfitCard : Card := card 0x21 4 ([0, 0, 0, 6, 0, 0] ++ h2 0)
/-- Stage 3 of a wake: B1's panel, the only one of its side and grade, UPDATING, its field PENDING; A2's panel in a state. -/
def pricing (st : PanelState) : State :=
  given .site unfitCard (((((waking .card 3 (shut opened)).modPanel 0 .b fun p => { p with state := .updating }).modPanel 3 .a
    fun p => { p with state := st }).modBoard .b fun b => b.modField (.grade 0) fun r => { r with st := .pending }))
theorem pricing_calm (st : PanelState) : (pricing st).calm := by
  refine ⟨fun _ _ => ⟨0, .b, by cases st <;> rfl⟩, fun h => ?_, fun _ g hp => ?_, no_load (by cases st <;> rfl), .inl (by cases st <;> rfl),
    both (no_gate ?_) (no_gate ?_), stand_of (by cases st <;> rfl)⟩
  · exact absurd h (by cases st <;> decide)
  · exact absurd hp (by revert g; cases st <;> decide)
  all_goals cases st <;> decide

/-- Both cards accepted; in stage 3 with a panel that goes on UPDATING, with none left, one of them in FAULT and none; both in STORE CHECK;
CONFIGURE HOSE for a position in CALLING. -/
theorem witness_RoutingCardsReplaceTheRoutes :
    (Ready (given .site hoseCard opened) .configureHose hoseCard ∧ hoseCard.to = 4 * sideCode .b + (0 : HoseNo).val
      ∧ hoseCard.hoseRoute = some blendRoute ∧ blendRoute.lawful ∧ opened.storeClosed = false ∧ (opened.pos .b).st.atRest = true
      ∧ opened.storeFree)
    ∧ (Ready (given .site routingCard opened) .setRouting routingCard ∧ 2 ≤ routingCard.words.toNat ∧ routingCard.b 2 = 20
      ∧ routingCard.w 1 = 10000)
    ∧ (∀ st, let s := pricing st
      s.holds .configureHose 0x900 unfitCard ∧ s.calm ∧ s.storeFree ∧ s.ssu.site = .waking ∧ s.ssu.wake.stage = 3
        ∧ unfitCard.hoseRoute = some { hose 5 0 with fitted := false } ∧ s.storeClosed = false ∧ (s.pos .b).st.atRest = true)
    ∧ (((after .configureHose (pricing .updating)).grade 3).panels.get .a).state = .updating
    ∧ (∀ g, ∀ x ∈ [Side.a, .b], (((after .configureHose (pricing .current)).grade g).panels.get x).state ≠ .updating)
    ∧ (∀ g, ∀ x ∈ [Side.a, .b], (((after .configureHose (pricing .current)).grade g).panels.get x).state ≠ .fault)
    ∧ (∀ g, ∀ x ∈ [Side.a, .b], (((after .configureHose (pricing .fault)).grade g).panels.get x).state ≠ .updating)
    ∧ (((after .configureHose (pricing .fault)).grade 3).panels.get .a).state = .fault
    ∧ (after .configureHose (pricing .fault)).ssu.wake.outcomes[2] = some 1
    ∧ hoseCard.misfits .configureHose = none ∧ routingCard.misfits .setRouting = none
    ∧ (let s := waking .card 1 opened
      Ready (given .site hoseCard s) .configureHose hoseCard ∧ Ready (given .site routingCard s) .setRouting routingCard
        ∧ s.storeClosed = true)
    ∧ (let s := opened.modPos .b fun p => p.enter .calling
      Ready (given .site hoseCard s) .configureHose hoseCard ∧ (s.pos .b).st.atRest = false) :=
  ⟨⟨ready_of rfl, rfl, by decide, ⟨by decide, fun _ => ⟨7, rfl, by decide⟩, by decide, by decide, by decide⟩, rfl, by decide, storeFree_of rfl⟩,
    ⟨ready_of rfl, by decide, by decide, by decide⟩,
    fun st => ⟨⟨rfl, rfl, by decide⟩, pricing_calm st, storeFree_of rfl, rfl, rfl, by decide, rfl, rfl⟩,
    by decide, by decide, by decide, by decide, by decide, by decide,
    by decide, by decide, ⟨ready_of rfl, ready_of rfl, rfl⟩, ready_of rfl, rfl⟩

theorem witness_ClearMeterFaultClearsTheFault :
    (Ready (given .site (card 0x23 0 []) opened) .clearMeterFault (card 0x23 0 []) ∧ (card 0x23 0 []).to < 1 ∧ 8 < (card 0x23 9 []).to)
    ∧ Ready (given .site (card 0x23 8 []) opened) .clearMeterFault (card 0x23 8 []) ∧ (card 0x23 8 []).to = (7 : MeterNo).val + 1
    ∧ (opened.meter 7).faulted = false
    ∧ Ready (given .site (card 0x23 1 []) (meterAs (fun m => { m with faulted := true }) opened)) .clearMeterFault (card 0x23 1 [])
    ∧ ((meterAs (fun m => { m with faulted := true }) opened).meter 0).faulted = true :=
  ⟨⟨ready_of rfl, by decide, by decide⟩, ready_of rfl, rfl, by decide, ready_of rfl, by decide⟩

/-! ### Volume, amount, positions -/

/-- The half-way values, one on either side, and the two refusals. -/
theorem witness_AmountRounding :
    (125000 % 10000 = 5000 ∧ 125000 / 10000 % 2 = 0) ∧ (175000 % 10000 = 5000 ∧ 175000 / 10000 % 2 = 1) ∧ 124999 % 10000 < 5000
    ∧ 5000 < 125001 % 10000 ∧ 25000 ≤ 25000 % 50000 ∧ 24999 % 50000 < 25000
    ∧ (let c := card 0x28 7 (w4 1900 ++ w4 5 ++ w4 0)
      Ready (given .site c opened) .loadPrice c ∧ c.to < 8 ∧ c.b 4 = 5)
    ∧ (let c := card 0x25 0 [5, 0, 0, 0]
      Ready (given .site c opened) .setPricing c ∧ 4 < c.b 0) :=
  ⟨by decide, by decide, by decide, by decide, by decide, by decide, ⟨ready_of rfl, by decide, by decide⟩, ready_of rfl, by decide⟩

theorem witness_TargetsOfALock : 1 ≤ effectivePrice 1859 40 ∧ (5000 : Nat) ≤ roundAmount .halfEven (27485 * 1819) := by decide

/-- Unfitted; CLOSED; IDLE; CALLING; and, AUTHORIZED, a hose not allowed, a second hose up, both flags clear, an unfitted hose. -/
theorem witness_NozzleLiftActsByState :
    opened.calm ∧ (opened.iwu.nozzles.get .b)[(3 : HoseNo)] ≠ some true ∧ (opened.pos .b).st ≠ .authorized
    ∧ (opened.route .b 3).fitted = false ∧ (opened.route .a 0).fitted = true ∧ (opened.pos .a).st = .idle
    ∧ ((atA (.closed .night) opened).pos .a).st.isClosed = true
    ∧ (atA (.closed .night) opened).calm
    ∧ (lifted 0 (atA .calling opened)).calm ∧ ((lifted 0 (atA .calling opened)).iwu.nozzles.get .a)[(1 : HoseNo)] ≠ some true
    ∧ (authorized auth opened).calm ∧ ((authorized auth opened).pos .a).auth = some auth ∧ auth.allowed.getLsbD (0 : HoseNo).val = false
    ∧ (lifted 0 (authorized auth opened)).isLifted .a 0 = true ∧ auth.allowed.getLsbD (1 : HoseNo).val = true
    ∧ (lifted 0 (authorized auth opened)).calm ∧ ((authorized auth opened).pos .a).wrongHose = false
    ∧ ((lifted 0 (authorized auth opened)).pos .a).multiLift = false
    ∧ (let s := opened.modPos .b fun p => { p.enter .authorized with auth := some auth }
      s.calm ∧ (s.pos .b).st = .authorized ∧ (s.iwu.nozzles.get .b)[(3 : HoseNo)] ≠ some true ∧ (s.route .b 3).fitted = false) :=
  ⟨calm_of rfl, by decide, by decide, by decide, by decide, by decide, by decide, calm_of rfl, calm_of rfl, by decide, calm_of rfl, by decide,
    by decide, by decide, by decide, calm_of rfl, rfl, rfl, calm_of rfl, rfl, by decide, rfl⟩

/-- An authorization for every hose. -/
def anyHose : Authorization := { auth with allowed := 15 }
/-- The sale of A2 before its lock. -/
def gateSale : Sale := { sale 0 with lock := none }
/-- A2's start waits at the price gate: the panel of grade 4 on side A is UPDATING. -/
def gating : State :=
  (selling (.starting .gate) gateSale (opened.modPanel 3 .a fun p => { p with state := .updating })).modPos .a fun p =>
    { p with auth := some auth, flowTimer := none }

theorem gating_calm {s : State} (hp : s.psc = gating.psc) (hg : s.pru = gating.pru) (hq : s.rsc.queue = []) (h : stillB s = true) :
    s.calm := by
  refine calm_if h (no_load (by rw [hg]; rfl)) (.inl hq) fun side => ?_
  cases side
  · refine at_gate (x := gateSale) (by unfold State.pos; rw [hp]; rfl) ?_
    unfold State.grade; rw [hg]; decide
  · exact no_gate (by unfold State.pos; rw [hp]; decide)

/-- CALLING; at rest; another hose's sale; the start's own hose, past the lock and at the price gate; the dispensing sale's own, frozen too;
AUTHORIZED, the hang that leaves no hose up, one that leaves two up, one under the emergency stop; an unfitted hose; a first recognition. -/
theorem witness_NozzleHangActsByState :
    (let s := lifted 0 (atA .calling opened);
      s.mainSupply = true ∧ s.calm ∧ s.noPending ∧ (s.iwu.nozzles.get .a)[(0 : HoseNo)] = some true ∧ (s.route .a 0).fitted = true
        ∧ (s.pos .a).st = .calling)
    ∧ (let s := lifted 0 opened
      s.calm ∧ (s.pos .a).st.atRest = true)
    ∧ (let s := lifted 0 (selling .fuelling (sale 3) opened)
      s.calm ∧ (s.pos .a).sale = some (sale 3) ∧ (sale 3).hose ≠ 0)
    ∧ (let s := lifted 1 (starting .motor opened)
      s.calm ∧ (s.iwu.nozzles.get .a)[(1 : HoseNo)] = some true ∧ (s.pos .a).sale = some { sale 0 with held := some auth }
        ∧ (s.pos .a).st.isStarting = true ∧ (s.pos .a).st ≠ .authorized)
    ∧ (let s := lifted 1 gating
      s.calm ∧ (s.pos .a).sale = some gateSale ∧ gateSale.hose = 1 ∧ gateSale.held.or (s.pos .a).auth = some auth
        ∧ (s.pos .a).st.isStarting = true)
    ∧ (let s := lifted 1 (selling .paused (sale 3) opened)
      s.calm ∧ (s.pos .a).sale = some (sale 3) ∧ (sale 3).hose = 1 ∧ (s.pos .a).st.isDispensing = true ∧ s.ssu.site ≠ .powerDown)
    ∧ (let s := atSite .powerDown (lifted 1 (selling .paused (sale 3) opened))
      s.calm ∧ (s.iwu.nozzles.get .a)[(1 : HoseNo)] = some true ∧ (s.route .a 1).fitted = true ∧ (s.pos .a).sale = some (sale 3)
        ∧ (s.pos .a).st.isDispensing = true ∧ s.ssu.site = .powerDown)
    ∧ (let s := lifted 0 (authorized anyHose opened)
      s.calm ∧ (s.pos .a).auth = some anyHose ∧ (s.iwu.nozzles.get .a)[(0 : HoseNo)] = some true ∧ ∀ k, k ≠ 0 → s.isLifted .a k = false)
    ∧ (let s := lifted 0 (lifted 1 (lifted 3 (authorized anyHose opened)))
      s.calm ∧ ∀ k, k ≠ 0 → s.isLifted .a k = true → anyHose.allowed.getLsbD k.val = true → ∃ j, j ≠ 0 ∧ j ≠ k ∧ s.isLifted .a j = true)
    ∧ (let s := lifted 0 (lifted 1 (authorized anyHose { opened with iwu := { opened.iwu with emergency := some true } }))
      s.calm ∧ s.iwu.emergency = some true ∧ (s.iwu.nozzles.get .a)[(0 : HoseNo)] = some true)
    ∧ (let s := opened.setNozzle .b 3 true
      s.calm ∧ (s.iwu.nozzles.get .b)[(3 : HoseNo)] ≠ some false ∧ (s.route .b 3).fitted = false)
    ∧ (let s : State := { opened with iwu := { opened.iwu with nozzles := State.reset.iwu.nozzles } }
      s.calm ∧ (s.iwu.nozzles.get .a)[(0 : HoseNo)] = none ∧ (s.route .a 0).fitted = true) :=
  ⟨⟨rfl, calm_of rfl, (quiet_of rfl).1.2.2.1, by decide, by decide, by decide⟩, ⟨calm_of rfl, by decide⟩, ⟨calm_of rfl, rfl, by decide⟩,
    ⟨calm_of rfl, by decide, rfl, by decide, by decide⟩, ⟨gating_calm rfl rfl rfl rfl, rfl, rfl, rfl, by decide⟩,
    ⟨calm_of rfl, rfl, rfl, by decide, by decide⟩, ⟨calm_of rfl, rfl, rfl, rfl, rfl, rfl⟩, ⟨calm_of rfl, rfl, rfl, by decide⟩,
    ⟨calm_of rfl, by decide⟩, ⟨calm_of rfl, rfl, rfl⟩, ⟨calm_of rfl, by decide, rfl⟩, calm_of rfl, rfl, rfl⟩

theorem truckHose_lawful : truckHose.lawful := ⟨by decide, fun _ => ⟨4, rfl, by decide⟩, by decide, by decide, by decide⟩
/-- A blend of meters 1 and 2 at a ratio. -/
def blendHose (ratio : Nat) : HoseRoute := { hose 0 0 with kind := .blend, secondary := some 1, ratio := ratio }
theorem blendHose_lawful {r : Nat} (h : r ≤ 100) : (blendHose r).lawful :=
  ⟨(by simp [blendHose]), fun _ => ⟨1, rfl, (by decide : (1 : MeterNo) ≠ 0)⟩, (by simp [blendHose]), h, (by decide : (0 : Nat) ≤ 5000)⟩
theorem canClaim_A2 {s : State} (h : s.miu = opened.miu) : s.canClaim .a 1 := by
  unfold State.canClaim State.route State.meter
  rw [h]; exact ⟨⟨by decide, by decide, by decide, by decide, by decide⟩, _, rfl, by decide⟩
/-- The grade of the hose has its price shown. -/
def shownPrice (s : State) (side : Side) (h : HoseNo) : Bool :=
  let g := s.grade (s.route side h).grade
  (g.panels.get side).state == .current && !(g.panels.get side).blocked && g.price == some 1859
/-- The satellite nozzle of side A up. -/
def trucking (s : State) : State := { s with iwu := { s.iwu with satellites := { a := some true, b := some false } } }
/-- A AUTHORIZED for every hose, A4 a blend, blends enabled or not. -/
def blending (ratio : Nat) (on : Bool) : State :=
  { authorized anyHose opened with miu := { opened.miu with
    routes := { opened.miu.routes with a := opened.miu.routes.a.set 3 (blendHose ratio) }, enables := { opened.miu.enables with blend := on } } }
/-- The start at the price gate with an attempt on A2's grade field in flight. -/
def gateWriting (retries : Nat) : State :=
  gating.modBoard .a fun b =>
    { b.modField (.grade 1) fun r => { r with st := .writing, retries := retries, wanted := eights (.grade 1) } with
      attempt := some { field := .grade 1, number := 9, sent := eights (.grade 1) }, writeNumber := 10 }

/-- The lift of A2 with its panel CURRENT and with it UPDATING; the hang of A1 that leaves A2 up; a truck hose with its nozzle up, its
meter free and FAULTED; a blend; a start at the price gate whose grade field awaits the frame that verifies it. -/
theorem witness_StartTriggerStartsTheSale :
    (let s := authorized auth opened;
      s.mainSupply = true ∧ s.calm ∧ (s.pos .a).st = .authorized ∧ (s.pos .a).auth = some auth ∧ auth.allowed.getLsbD (1 : HoseNo).val = true
        ∧ s.iwu.emergency ≠ some true ∧ (s.route .a 1).fitted = true ∧ s.canClaim .a 1 ∧ shownPrice s .a 1
        ∧ (s.iwu.nozzles.get .a)[(1 : HoseNo)] ≠ some true ∧ ∀ k : HoseNo, k ≠ 1 → s.isLifted .a k = false)
    ∧ (let s := (authorized auth opened).modPanel 3 .a fun p => { p with state := .updating }
      s.calm ∧ s.canClaim .a 1 ∧ ((s.grade 3).panels.get .a).state = .updating ∧ (s.grade 3).price.isSome = true)
    ∧ (let s := lifted 0 (lifted 1 (authorized auth opened))
      s.calm ∧ (s.pos .a).auth = some auth ∧ s.canClaim .a 1 ∧ shownPrice s .a 1 ∧ (s.iwu.nozzles.get .a)[(0 : HoseNo)] = some true
        ∧ (s.route .a 0).fitted = true ∧ (s.iwu.nozzles.get .a)[(1 : HoseNo)] = some true
        ∧ ∀ k : HoseNo, k ≠ 1 → k ≠ 0 → s.isLifted .a k = false)
    ∧ (let s := trucking (authorized anyHose opened)
      s.calm ∧ anyHose.allowed.getLsbD (2 : HoseNo).val = true ∧ s.canClaim .a 2 ∧ shownPrice s .a 2
        ∧ s.startClaims .a 2 = [(3, .primary), (4, .satellite)] ∧ (s.route .a 2).fitted = true)
    ∧ (let s := trucking ((authorized anyHose opened).modMeter 4 fun m => { m with faulted := true })
      s.calm ∧ s.canClaim .a 2 ∧ s.satelliteAsked .a 2 = some 4 ∧ (s.meter 4).grants = false ∧ s.startClaims .a 2 = [(3, .primary)])
    ∧ (let s := blending 50 true
      s.calm ∧ s.canClaim .a 3 ∧ shownPrice s .a 3 ∧ (s.route .a 3).fitted = true ∧ anyHose.allowed.getLsbD (3 : HoseNo).val = true
        ∧ s.startClaims .a 3 = [(0, .primary), (1, .secondary)] ∧ (s.startSale .a 3 anyHose).blend.isSome = true)
    ∧ (let s := gateWriting 1
      s.mainSupply = true ∧ s.calm ∧ (s.pos .a).st = .starting .gate ∧ (s.board .a).test = none ∧ (s.pos .a).sale = some gateSale
        ∧ gateSale.lock = none ∧ (s.pos .a).auth = some auth ∧ (s.grade gateSale.grade).price = some 1859
        ∧ (s.board .a).attempt = some { field := .grade 1, number := 9, sent := eights (.grade 1) } ∧ (s.route .a 1).fitted = true
        ∧ (s.route .a 1).grade = gateSale.grade ∧ (∀ k : HoseNo, k ≠ 1 → (s.route .a k).grade ≠ gateSale.grade)
        ∧ (let f := (s.board .a).field (.grade 1); f.st ≠ .current ∧ f.repost = false ∧ f.wanted = eights (.grade 1))
        ∧ s.ssu.site ≠ .waking ∧ s.pru.loading = none) :=
  ⟨⟨rfl, calm_of rfl, by decide, by decide, by decide, by decide, by decide, canClaim_A2 rfl, by decide, by decide, by decide⟩,
    ⟨calm_of rfl, canClaim_A2 rfl, by decide, by decide⟩,
    ⟨calm_of rfl, by decide, canClaim_A2 rfl, by decide, by decide, by decide, by decide, by decide⟩,
    ⟨calm_of rfl, by decide, ⟨truckHose_lawful, _, rfl, by decide⟩, by decide, by decide, by decide⟩,
    ⟨calm_of rfl, ⟨truckHose_lawful, _, rfl, by decide⟩, by decide, by decide, by decide⟩,
    ⟨calm_of rfl, ⟨blendHose_lawful (by decide), _, rfl, by decide⟩, by decide, by decide, by decide, by decide, by decide⟩,
    rfl, gating_calm rfl rfl rfl rfl, by decide, rfl, rfl, rfl, rfl, rfl, rfl, by decide, by decide, by decide, by decide, by decide, rfl⟩

/-- AUTHORIZE's card for the example with another target or body. -/
def authorizeCard (target : Half) (body : List Byte) : Card := card 1 target body
theorem authorizes_auth : (authorizeCard 0 authorizeBody).authorizes auth :=
  ⟨rfl, rfl, ⟨rfl, rfl, by decide, by decide⟩, rfl, rfl, by decide, rfl, by decide⟩
/-- The example's card passes AUTHORIZE's checks in a state whose positions, hoses, inputs, reader and site are as they should be. -/
theorem authorizable_auth {s : State}
    (h : (s.ssu.site == .opened && (s.route .a 1).fitted && decide ((s.pos .a).unpaid = []) && s.iwu.emergency == some false) = true) :
    s.authorizable .a (authorizeCard 0 authorizeBody) auth := by
  simp only [Bool.and_eq_true, beq_iff_eq, decide_eq_true_eq] at h
  obtain ⟨⟨⟨h1, h2⟩, h3⟩, h4⟩ := h
  refine ⟨rfl, by decide, authorizes_auth, h1, by decide, by decide, fun k hk => ?_,
    fun h => absurd h (by decide), by simp [h3], by simp [h4], fun h => absurd h (by decide), by simp [h3]⟩
  rw [show k = 1 by revert hk; revert k; decide]; exact h2

/-- Starts by a lift, by the hang of another hose, by AUTHORIZE. A route that refuses; the first meter claimed, the first FAULTED, the second of a blend claimed; the price absent, the panel in FAULT,
the grade blocked, with a satellite meter that grants and with one that does not; a start at the price gate whose last attempt fails. -/
theorem witness_StartFailuresFallBack :
    (let s := authorized auth opened;
      s.mainSupply = true ∧ s.calm ∧ (s.pos .a).st = .authorized ∧ (s.pos .a).auth = some auth
        ∧ auth.allowed.getLsbD (1 : HoseNo).val = true ∧ (s.route .a 1).fitted = true ∧ (s.route .a 1).lawful
        ∧ (s.iwu.nozzles.get .a)[(1 : HoseNo)] ≠ some true ∧ (∀ k : HoseNo, k ≠ 1 → s.isLifted .a k = false))
    ∧ (let s := lifted 0 (lifted 1 (authorized auth opened))
      s.calm ∧ (s.iwu.nozzles.get .a)[(0 : HoseNo)] = some true ∧ (s.route .a 0).fitted = true ∧ (s.iwu.nozzles.get .a)[(1 : HoseNo)] = some true
        ∧ ∀ k : HoseNo, k ≠ 1 → k ≠ 0 → s.isLifted .a k = false)
    ∧ (let c := authorizeCard 0 authorizeBody
      let s := given .dispense c (lifted 1 (atA .calling (opened.modMeter 1 fun m => { m with faulted := true })))
      Ready s .authorize c ∧ s.authorizable .a c auth ∧ (s.pos .a).st = .calling ∧ s.lifted .a = [1]
        ∧ (s.route .a 1).asks s.miu.enables = some ([] ++ (1, .primary) :: []) ∧ (s.meter 1).owner = none ∧ (s.meter 1).faulted = true)
    ∧ (let s := blending 50 false
      s.calm ∧ (s.route .a 3).lawful ∧ (s.route .a 3).asks s.miu.enables = none)
    ∧ (let s := (authorized auth opened).modMeter 1 fun m => { m with owner := some (.b, .primary) }
      s.calm ∧ (s.route .a 1).asks s.miu.enables = some ([] ++ (1, .primary) :: []) ∧ (s.meter 1).owner.isSome = true)
    ∧ (let s := (authorized auth opened).modMeter 1 fun m => { m with faulted := true }
      s.calm ∧ (s.meter 1).owner = none ∧ (s.meter 1).faulted = true)
    ∧ (let s := (blending 1 true).modMeter 1 fun m => { m with owner := some (.b, .primary) }
      s.calm ∧ (s.route .a 3).asks s.miu.enables = some ([(0, .primary)] ++ (1, .secondary) :: []) ∧ (s.meter 0).grants = true
        ∧ (s.meter 1).owner.isSome = true)
    ∧ (let s := (authorized auth opened).modGrade 3 fun g => { g with price := none }
      s.calm ∧ s.canClaim .a 1 ∧ (s.grade (s.route .a 1).grade).price = none ∧ s.satelliteAsked .a 1 = none)
    ∧ (let s := (authorized auth opened).modPanel 3 .a fun p => { p with state := .fault }
      s.calm ∧ s.canClaim .a 1 ∧ ((s.grade (s.route .a 1).grade).panels.get .a).state = .fault)
    ∧ (let s := trucking ((authorized anyHose opened).modPanel 1 .a fun p => { p with blocked := true })
      s.calm ∧ s.canClaim .a 2 ∧ ((s.grade (s.route .a 2).grade).panels.get .a).blocked = true ∧ s.satelliteAsked .a 2 = some 4
        ∧ (s.meter 4).grants = true ∧ ((s.modMeter 4 fun m => { m with faulted := true }).meter 4).grants = false)
    ∧ (let s := gateWriting 0
      s.mainSupply = true ∧ s.calm ∧ (s.pos .a).st = .starting .gate ∧ (s.board .a).test = none ∧ (s.pos .a).sale = some gateSale
        ∧ gateSale.held.or (s.pos .a).auth = some auth
        ∧ (s.board .a).attempt = some { field := .grade 1, number := 9, sent := eights (.grade 1) } ∧ (s.route .a 1).fitted = true
        ∧ (s.route .a 1).grade = gateSale.grade ∧ ((s.board .a).field (.grade 1)).retries = 0
        ∧ ((s.board .a).field (.grade 1)).st ≠ .fault ∧ (s.grade gateSale.grade).price.isSome = true) :=
  ⟨⟨rfl, calm_of rfl, by decide, by decide, by decide, by decide, (canClaim_A2 rfl).1, by decide, by decide⟩,
    ⟨calm_of rfl, by decide, by decide, by decide, by decide⟩,
    ⟨ready_of rfl, authorizable_auth rfl, by decide, by decide, rfl, by decide, by decide⟩,
    ⟨calm_of rfl, blendHose_lawful (by decide), by decide⟩, ⟨calm_of rfl, rfl, by decide⟩, ⟨calm_of rfl, by decide, by decide⟩,
    ⟨calm_of rfl, rfl, by decide, by decide⟩, ⟨calm_of rfl, canClaim_A2 rfl, by decide, by decide⟩, ⟨calm_of rfl, canClaim_A2 rfl, by decide⟩,
    ⟨calm_of rfl, ⟨truckHose_lawful, _, rfl, by decide⟩, by decide, by decide, by decide, by decide⟩,
    rfl, gating_calm rfl rfl rfl rfl, by decide, rfl, rfl, rfl, rfl, by decide, by decide, by decide, by decide, by decide⟩

/-- V below V_t and at it; FUELLING; AUTHORIZED. -/
theorem witness_PositionTimerExpiries :
    (let s := starting .motor opened;
      s.mainSupply = true ∧ s.calm ∧ (s.pos .a).st = .starting .motor ∧ (s.pos .a).motorTimer.isSome = true
        ∧ (s.pos .a).sale = some { sale 0 with held := some auth } ∧ (sale 0).lock = some lock ∧ (sale 0).v < lock.vt)
    ∧ lock.vt ≤ (sale 2749).v
    ∧ (let s := selling .slowing (sale 3) opened
      s.calm ∧ (s.pos .a).st = .slowing ∧ (s.pos .a).flowTimer.isSome = true ∧ (s.pos .a).sale = some (sale 3))
    ∧ (let s := authorized auth opened
      s.calm ∧ s.ssu.site ≠ .closing ∧ (s.pos .a).st = .authorized ∧ (s.pos .a).authTimer.isSome = true) :=
  ⟨⟨rfl, calm_of rfl, by decide, by decide, rfl, rfl, by decide⟩, by decide, ⟨calm_of rfl, by decide, by decide, rfl⟩, calm_of rfl,
    by decide, by decide, by decide⟩

theorem witness_SettleWindowCompletesTheSale :
    let x := { sale 2751 with stop := some .preset }
    let s := selling .ending x opened
    s.mainSupply = true ∧ (s.pos .a).st = .ending ∧ (s.pos .a).settleTimer.isSome = true ∧ (s.pos .a).sale = some x ∧ x.lock = some lock
      ∧ x.stop = some .preset ∧ s.calm ∧ s.noPending ∧ s.storeFree ∧ s.ssu.site ≠ .closing :=
  ⟨rfl, by decide, by decide, rfl, rfl, rfl, calm_of rfl, (quiet_of rfl).1.2.2.1, storeFree_of rfl, by decide⟩

/-- A truck sale on A3. -/
def truck : Sale := { sale 0 with hose := 2, kind := .satellite, satelliteHonoured := true }

theorem witness_SatelliteNozzleCommands :
    (let s := selling .fuelling truck opened;
      s.mainSupply = true ∧ s.calm ∧ s.iwu.satellites.get .a ≠ some true ∧ (s.pos .a).sale = some truck
        ∧ (s.route .a truck.hose).secondary = some 4 ∧ truck.satelliteHonoured = true ∧ truck.claims ≠ []
        ∧ (∀ c ∈ truck.claims, c.role ≠ .satellite) ∧ (s.pos .a).st.isDispensing = true ∧ (s.meter 4).owner = none
        ∧ (s.meter 4).faulted = false ∧ ((s.modMeter 4 fun m => { m with faulted := true }).meter 4).faulted = true)
    ∧ (let s := selling .ending truck opened
      s.calm ∧ (s.pos .a).st = .ending)
    ∧ (opened.calm ∧ opened.iwu.satellites.get .a ≠ some true ∧ (opened.pos .a).sale = none)
    ∧ (let s := selling .fuelling { truck with claims := [] } opened
      s.calm ∧ (s.pos .a).sale = some { truck with claims := [] })
    ∧ (let s := selling .fuelling (sale 3) opened
      s.calm ∧ (s.pos .a).sale = some (sale 3) ∧ (s.route .a (sale 3).hose).secondary = none)
    ∧ (atA .idle { opened with iwu := { opened.iwu with satellites := { a := none, b := none } } }).iwu.satellites.get .a ≠ some false :=
  ⟨⟨rfl, calm_of rfl, by decide, rfl, by decide, rfl, by decide, by decide, by decide, by decide, by decide, by decide⟩,
    ⟨calm_of rfl, by decide⟩, ⟨calm_of rfl, by decide, rfl⟩, ⟨calm_of rfl, rfl⟩, ⟨calm_of rfl, rfl, by decide⟩, by decide⟩

/-- A VOLUME preset of 0 for A1. -/
def volumeAuth (v : Nat) : Authorization := { auth with allowed := 1, preset := .volume v }
def volumeBody (v : Nat) : List Byte := w4 40117 ++ [1, 1, 2, 0] ++ w4 v ++ w4 40 ++ w4 120
theorem authorizes_volume : (authorizeCard 0 (volumeBody 1000000)).authorizes (volumeAuth 1000000)
    ∧ (authorizeCard 0 (volumeBody 1000001)).authorizes (volumeAuth 1000001) ∧ (authorizeCard 0 (volumeBody 0)).authorizes (volumeAuth 0) :=
  ⟨⟨rfl, rfl, ⟨rfl, rfl⟩, rfl, rfl, by decide, rfl, by decide⟩, ⟨rfl, rfl, ⟨rfl, rfl⟩, rfl, rfl, by decide, rfl, by decide⟩,
    rfl, rfl, ⟨rfl, rfl⟩, rfl, rfl, by decide, rfl, by decide⟩

/-- Each refusal's condition, in R67's order, and the accepted card in IDLE and in CALLING with A1 alone up, with A2 alone up, its panel
CURRENT and UPDATING. -/
theorem witness_AuthorizeActsByItsChecks :
    (Ready (given .dispense (authorizeCard 2 authorizeBody) opened) .authorize (authorizeCard 2 authorizeBody)
      ∧ 1 < (authorizeCard 2 authorizeBody).to)
    ∧ (Ready (given .dispense (authorizeCard 0 (w4 1)) opened) .authorize (authorizeCard 0 (w4 1)) ∧ (authorizeCard 0 (w4 1)).words.toNat < 5)
    ∧ (authorizeCard 0 authorizeBody).authorizes auth ∧ 5 ≤ (authorizeCard 0 authorizeBody).words.toNat
    ∧ (atA (.closed .host) opened).pos .a ≠ opened.pos .a ∧ ((atA (.closed .host) opened).pos .a).st.isClosed = true
    ∧ ((atA .paused opened).pos .a).st ≠ .idle ∧ ((atA .paused opened).pos .a).st ≠ .calling
    ∧ (atSite .closing opened).ssu.site ≠ .opened
    ∧ (opened.pos .a).config.saleLimit < (authorizeCard 0 (volumeBody 1000001)).w 2 ∧ (authorizeCard 0 (volumeBody 0)).w 2 < 1
    ∧ ¬ ((opened.pos .a).config.saleLimit < (authorizeCard 0 (volumeBody 1000000)).w 2)
    ∧ 2 ≤ ((opened.modPos .a fun p => { p with unpaid := [unpaid, unpaid] }).pos .a).unpaid.length
    ∧ (∃ e ∈ ((opened.modPos .a fun p => { p with unpaid := [{ unpaid with tag := 40117 }] }).pos .a).unpaid, e.tag = auth.tag)
    ∧ (let s := given .dispense (authorizeCard 0 authorizeBody) opened
      Ready s .authorize (authorizeCard 0 authorizeBody) ∧ s.authorizable .a (authorizeCard 0 authorizeBody) auth ∧ (s.pos .a).st = .idle)
    ∧ (let s := given .dispense (authorizeCard 0 authorizeBody) (lifted 0 (atA .calling opened))
      Ready s .authorize (authorizeCard 0 authorizeBody) ∧ s.authorizable .a (authorizeCard 0 authorizeBody) auth ∧ (s.pos .a).st = .calling ∧ s.lifted .a = [0]
        ∧ auth.allowed.getLsbD (0 : HoseNo).val = false)
    ∧ (let s := given .dispense (authorizeCard 0 authorizeBody) (lifted 1 (atA .calling opened))
      Ready s .authorize (authorizeCard 0 authorizeBody) ∧ s.authorizable .a (authorizeCard 0 authorizeBody) auth ∧ s.lifted .a = [1] ∧ auth.allowed.getLsbD (1 : HoseNo).val = true
        ∧ s.canClaim .a 1 ∧ shownPrice s .a 1)
    ∧ (let s := given .dispense (authorizeCard 0 authorizeBody)
          (lifted 1 (atA .calling (opened.modPanel 3 .a fun p => { p with state := .updating })))
      Ready s .authorize (authorizeCard 0 authorizeBody) ∧ s.authorizable .a (authorizeCard 0 authorizeBody) auth ∧ s.canClaim .a 1
        ∧ ((s.grade (s.route .a 1).grade).panels.get .a).state = .updating) :=
  ⟨⟨ready_of rfl, by decide⟩, ⟨ready_of rfl, by decide⟩, authorizes_auth, by decide, by decide, by decide, by decide, by decide, by decide,
    by decide, by decide, by decide, by decide, ⟨_, List.mem_singleton.2 rfl, rfl⟩,
    ⟨ready_of rfl, authorizable_auth rfl, by decide⟩,
    ⟨ready_of rfl, authorizable_auth rfl, by decide, by decide, by decide⟩,
    ⟨ready_of rfl, authorizable_auth rfl, by decide, by decide, canClaim_A2 rfl, by decide⟩, ready_of rfl, authorizable_auth rfl,
    canClaim_A2 rfl, by decide⟩

/-- A card of lane 0 given in a state. -/
def given0 (k : Byte) (s : State) : State := given .dispense (card k 0 []) s

theorem witness_CancelActsByState :
    (Ready (given0 2 (atSite .powerDown opened)) .cancel (card 2 0 []) ∧ (card 2 0 []).to = sideCode .a)
    ∧ (Ready (given0 2 opened) .cancel (card 2 0 []) ∧ (opened.pos .a).st.atRest = true)
    ∧ (Ready (given0 2 (authorized auth opened)) .cancel (card 2 0 []) ∧ ((authorized auth opened).pos .a).st = .authorized)
    ∧ (Ready (given0 2 (starting .check opened)) .cancel (card 2 0 [])
      ∧ ((starting .check opened).pos .a).sale = some { sale 0 with held := some auth })
    ∧ ((given0 2 gating).holds .cancel 0x900 (card 2 0 []) ∧ (given0 2 gating).calm ∧ (given0 2 gating).readLink 0x900 = .atEnd
      ∧ (given0 2 gating).memoryOk ∧ (gating.pos .a).sale = some gateSale ∧ gateSale.held.or (gating.pos .a).auth = some auth)
    ∧ Ready (given0 2 (selling .paused (sale 3) opened)) .cancel (card 2 0 [])
    ∧ ((selling .paused (sale 3) opened).pos .a).st.isDispensing = true :=
  ⟨⟨ready_of rfl, rfl⟩, ⟨ready_of rfl, by decide⟩, ⟨ready_of rfl, by decide⟩, ⟨ready_of rfl, rfl⟩,
    ⟨⟨rfl, rfl, rfl⟩, gating_calm rfl rfl rfl rfl, by decide, ⟨by decide, by decide⟩, rfl, rfl⟩, ready_of rfl, by decide⟩

/-- A bad target, one position, ALL; RESUME refused, below V_t, at V_t. -/
theorem witness_StopAndResume :
    (let s := given .dispense (card 3 3 []) opened;
      Ready s .stop (card 3 3 []) ∧ 2 < (card 3 3 []).to)
    ∧ (Ready (given0 3 (selling .fuelling (sale 3) opened)) .stop (card 3 0 []) ∧ (card 3 0 []).to = sideCode .a)
    ∧ (let s := given .dispense (card 3 2 []) (selling .slowing (sale 2700) opened)
      Ready s .stop (card 3 2 []) ∧ (card 3 2 []).to = 2)
    ∧ (Ready (given0 4 opened) .resume (card 4 0 []) ∧ (opened.pos .a).st ≠ .paused)
    ∧ (let s := given0 4 (selling .paused (sale 3) { opened with iwu := { opened.iwu with emergency := some true } })
      Ready s .resume (card 4 0 []) ∧ s.iwu.emergency = some true)
    ∧ (let s := given0 4 (selling .paused (sale 2748) opened)
      Ready s .resume (card 4 0 []) ∧ (s.pos .a).sale = some (sale 2748) ∧ (sale 2748).lock = some lock ∧ (sale 2748).v < lock.vt)
    ∧ (let s := given0 4 (selling .paused (sale 2749) opened)
      Ready s .resume (card 4 0 []) ∧ lock.vt ≤ (sale 2749).v) :=
  ⟨⟨ready_of rfl, by decide⟩, ⟨ready_of rfl, rfl⟩, ⟨ready_of rfl, rfl⟩, ⟨ready_of rfl, by decide⟩, ⟨ready_of rfl, by decide⟩,
    ⟨ready_of rfl, rfl, rfl, by decide⟩, ready_of rfl, by decide⟩

/-- One unpaid sale. -/
def owing : State := opened.modPos .a fun p => { p with unpaid := [unpaid] }
def closeCard (tag : Nat) : Card := card 5 0 (w4 tag)
def readCard (sel : Byte) (flags : Byte) : Card := { card 6 0 (sel :: List.replicate 47 0) with flags := flags }

/-- CLOSE SALE in STORE CHECK, without and with the tag. READ SALE: a bad form, a bad selector, a short body, an unpaid sale and a current
sale that is not there; an unpaid sale in FULL form, the current sale before its lock and after it, in the position's form. -/
theorem witness_SaleCards :
    (Ready (given .dispense (closeCard 40102) (waking .card 1 owing)) .closeSale (closeCard 40102) ∧ (waking .card 1 owing).storeClosed = true)
    ∧ (Ready (given .dispense (closeCard 7) owing) .closeSale (closeCard 7) ∧ (∀ e ∈ (owing.pos .a).unpaid, e.tag.toNat ≠ (closeCard 7).w 0))
    ∧ (Ready (given .dispense (closeCard 40102) owing) .closeSale (closeCard 40102) ∧ unpaid.tag.toNat = (closeCard 40102).w 0
      ∧ owing.storeClosed = false ∧ owing.storeFree)
    ∧ (Ready (given .dispense (readCard 1 6) owing) .readSale (readCard 1 6) ∧ (readCard 1 6).form = 3)
    ∧ (Ready (given .dispense (readCard 3 0) owing) .readSale (readCard 3 0) ∧ 2 < (readCard 3 0).b 0 ∧ 12 ≤ (readCard 3 0).words.toNat)
    ∧ (Ready (given .dispense (readCard 2 0) owing) .readSale (readCard 2 0) ∧ (owing.pos .a).unpaid.length < (readCard 2 0).b 0)
    ∧ (let c := { readCard 1 0 with words := 11 }
      Ready (given .dispense c owing) .readSale c ∧ c.words.toNat < 12)
    ∧ (Ready (given .dispense (readCard 0 2) owing) .readSale (readCard 0 2) ∧ (owing.pos .a).sale = none ∧ (readCard 0 2).form = 1)
    ∧ (let s := selling .fuelling (sale 3) opened
      Ready (given .dispense (readCard 0 0) s) .readSale (readCard 0 0) ∧ (readCard 0 0).b 0 = 0 ∧ (s.pos .a).sale = some (sale 3)
        ∧ (sale 3).lock = some lock ∧ 12 ≤ (readCard 0 0).words.toNat)
    ∧ (let s := given .dispense (readCard 0 0) gating
      s.holds .readSale 0x900 (readCard 0 0) ∧ s.calm ∧ s.readLink 0x900 = .atEnd ∧ s.memoryOk ∧ (s.pos .a).sale = some gateSale
        ∧ gateSale.lock = none)
    ∧ Ready (given .dispense (readCard 1 4) owing) .readSale (readCard 1 4) ∧ (readCard 1 4).form = 2
    ∧ (owing.pos .a).unpaid[(readCard 1 4).b 0 - 1]? = some unpaid :=
  ⟨⟨ready_of rfl, rfl⟩, ⟨ready_of rfl, by decide⟩, ⟨ready_of rfl, by decide, rfl, storeFree_of rfl⟩, ⟨ready_of rfl, by decide⟩,
    ⟨ready_of rfl, by decide, by decide⟩, ⟨ready_of rfl, by decide⟩, ⟨ready_of rfl, by decide⟩, ⟨ready_of rfl, rfl, by decide⟩,
    ⟨ready_of rfl, by decide, rfl, rfl, by decide⟩,
    ⟨⟨rfl, rfl, rfl⟩, gating_calm rfl rfl rfl rfl, by decide, ⟨by decide, by decide⟩, rfl, rfl⟩, ready_of rfl, by decide, by decide⟩

theorem witness_ClosingAndOpeningAPosition :
    (Ready (given0 7 opened) .closePosition (card 7 0 []) ∧ (opened.pos .a).st = .idle)
    ∧ Ready (given0 7 (atA .calling opened)) .closePosition (card 7 0 [])
    ∧ (let s := atSite .closing (selling .fuelling (sale 3) opened)
      Ready (given0 7 s) .closePosition (card 7 0 []) ∧ s.ssu.site = .closing ∧ (s.pos .a).st ≠ .idle)
    ∧ Ready (given0 8 (atSite .night opened)) .openPosition (card 8 0 [])
    ∧ (Ready (given0 8 opened) .openPosition (card 8 0 []) ∧ (opened.pos .a).st ≠ .closed .host ∧ (opened.pos .a).st ≠ .closed .display)
    ∧ Ready (given0 8 (atA (.closed .display) opened)) .openPosition (card 8 0 [])
    ∧ ((atA (.closed .display) opened).board .a).segment = false :=
  ⟨⟨ready_of rfl, by decide⟩, ready_of rfl, ⟨ready_of rfl, rfl, by decide⟩, ready_of rfl, ⟨ready_of rfl, by decide, by decide⟩, ready_of rfl,
    rfl⟩

def positionCard : Card := card 0x27 1 (w4 1000 ++ h2 5 ++ h2 300 ++ h2 5000 ++ h2 2000 ++ w4 1)
def policyCard : Card := card 0x29 0 [15, 1, 0, 0]

/-- Cards of every kind that has a target or a body to check, each refused: a bad target, a short body, a value beside its range. -/
def misfitCards : List (Kind × Card × CardOutcome) :=
  [(.cancel, card 2 2 [], .badTarget), (.resume, card 4 2 [], .badTarget), (.closePosition, card 7 2 [], .badTarget),
   (.openPosition, card 8 2 [], .badTarget), (.closeSale, card 5 0 [], .badValue), (.authorize, card 1 0 (w4 1), .badValue),
   (.configurePosition, card 0x27 0 (w4 999 ++ h2 5 ++ h2 5 ++ h2 0 ++ h2 100 ++ w4 0), .badValue),
   (.configureMeter, card 0x20 0 ([0, 0, 1, 1] ++ w4 10000), .badTarget),
   (.configureHose, card 0x21 0 ([1, 0, 1, 1, 1, 50] ++ h2 0), .badValue), (.setRouting, card 0x22 0 ([1, 1, 21, 0] ++ w4 0), .badValue),
   (.clearMeterFault, card 0x23 9 [], .badTarget), (.readMeters, card 0x24 1 (w4 0), .badValue),
   (.setPricing, card 0x25 0 [5, 0, 0, 0], .badValue), (.clearSiteFlags, card 0x26 0 [], .badValue), (.wakeNow, card 0x2F 0 [], .badValue),
   (.loadPrice, card 0x28 8 (w4 1 ++ w4 7 ++ w4 0), .badTarget), (.setDisplayPolicy, card 0x29 0 [2, 0, 0, 0], .badValue),
   (.setWatch, card 0x2A 0 [0, 0, 0, 0], .badValue), (.setRelayFloor, card 0x2B 0 (h2 0x4001 ++ h2 0), .badValue),
   (.setSchedule, card 0x2C 0 (w4 1 ++ w4 5 ++ w4 5), .badValue), (.setClock, card 0x2D 0 (w4 65536 ++ w4 0), .badValue),
   (.stop, card 3 3 [], .badTarget), (.readSale, readCard 3 0, .badValue), (.readSale, { readCard 0 6 with target := 2 }, .badTarget),
   (.send, card 0x44 128 [1, 1, 0, 0], .badTarget), (.send, card 0x44 127 [1, 251, 0, 0, 0, 0, 0, 0], .badValue),
   (.armReceive, card 0x45 128 [], .badTarget), (.armReceive, card 0x45 127 [], .badValue), (.disarmReceive, card 0x46 128 [], .badTarget)]
/-- READ TOTALS in form 3, its body short. -/
def formThreeCard : Card := { card 0x30 7 (w4 0) with flags := 6 }

/-- The cards that are BUSY while the store is closed. -/
def busyCards : List (Kind × Card) :=
  [(.configurePosition, positionCard), (.setPricing, card 0x25 0 [4, 1, 0, 0]), (.setDisplayPolicy, policyCard),
   (.setWatch, card 0x2A 0 [20, 1, 0, 0]), (.setRelayFloor, card 0x2B 0 (h2 0x4000 ++ h2 0)),
   (.loadPrice, card 0x28 3 (w4 1 ++ w4 7 ++ w4 0)), (.readTotals, card 0x30 7 (List.replicate 24 0)),
   (.setSchedule, card 0x2C 0 (w4 1 ++ w4 5 ++ w4 6))]

theorem witness_SettingsCardsReplaceTheSettings :
    (Ready (given .site positionCard opened) .configurePosition positionCard ∧ positionCard.to = sideCode .b
      ∧ positionCard.positionConfig
        = some { saleLimit := 1000, form := .full, firstFlow := 5, noFlow := 300, motorSettle := 5000, settleWindow := 2000 }
      ∧ opened.storeClosed = false ∧ (opened.pos .b).st.atRest = true ∧ opened.storeFree)
    ∧ (let c := card 0x25 0 [4, 1, 0, 0]
      Ready (given .site c opened) .setPricing c ∧ 1 ≤ c.words.toNat ∧ c.b 0 = RoundMode.fiveCent.code ∧ c.b 1 = Form.full.code)
    ∧ Ready (given .site policyCard opened) .setDisplayPolicy policyCard ∧ policyCard.b 0 = 15 ∧ policyCard.b 1 = PanelAction.record.code
    ∧ (∀ x ∈ misfitCards, Ready (given x.1.lane x.2.1 opened) x.1 x.2.1 ∧ x.2.1.misfits x.1 = some x.2.2)
    ∧ (Ready (given .site formThreeCard opened) .readTotals formThreeCard ∧ formThreeCard.misfits .readTotals = some .badForm)
    ∧ Ready (given .dispense (readCard 3 6) opened) .readSale (readCard 3 6) ∧ (readCard 3 6).misfits .readSale = some .badForm
    ∧ (∀ x ∈ busyCards, ∀ s ∈ [waking .card 1 opened, atSite (.faulted .store) opened],
      Ready (given x.1.lane x.2 s) x.1 x.2 ∧ x.2.misfits x.1 = none ∧ s.storeClosed = true)
    ∧ (let s := opened.modPos .b fun p => p.enter .calling
      Ready (given .site positionCard s) .configurePosition positionCard ∧ (s.pos .b).st.atRest = false)
    ∧ (let c := card 0x2C 0 (w4 1 ++ w4 5 ++ w4 6)
      Ready (given .site c (atSite .powerDown opened)) .setSchedule c ∧ c.misfits .setSchedule = none) :=
  ⟨⟨ready_of rfl, rfl, by decide, rfl, by decide, storeFree_of rfl⟩, ⟨ready_of rfl, by decide, by decide, by decide⟩, ready_of rfl,
    by decide, by decide, fun x hx => by fin_cases hx <;> exact ⟨ready_of rfl, by decide⟩, ⟨ready_of rfl, by decide⟩, ready_of rfl, by decide,
    fun x hx s hs => by fin_cases hx <;> fin_cases hs <;> exact ⟨ready_of rfl, by decide, rfl⟩, ⟨ready_of rfl, by decide⟩, ready_of rfl, by decide⟩

theorem witness_ReadingCards :
    (let c := card 0x26 0 (w4 0);
      Ready (given .site c opened) .clearSiteFlags c ∧ 1 ≤ c.words.toNat)
    ∧ (let c := { card 0x30 7 (List.replicate 24 0) with flags := 4 }
      Ready (given .site c opened) .readTotals c ∧ c.to = 4 * sideCode .b + (3 : HoseNo).val ∧ 6 ≤ c.words.toNat ∧ c.form < 3
        ∧ opened.storeClosed = false ∧ opened.rsc.generation = some 5)
    ∧ (let c := card 0x24 8 (List.replicate 20 0)
      Ready (given .site c opened) .readMeters c ∧ c.to = (7 : MeterNo).val + 1 ∧ 5 ≤ c.words.toNat ∧ (opened.meter 7).owner = none)
    ∧ (∀ q ∈ [(Side.a, Role.primary), (.b, .secondary), (.a, .satellite)], let c := card 0x24 1 (List.replicate 20 0)
      let s := meterAs (fun m => { m with owner := some q, sinceReport := -254, faulted := true, phaseErrors := 15, rate := 65535 }) opened
      Ready (given .site c s) .readMeters c ∧ (s.meter 0).owner = some q ∧ (s.meter 0).sinceReport = -254) :=
  ⟨⟨ready_of rfl, by decide⟩, ⟨ready_of rfl, rfl, by decide, by decide, rfl, rfl⟩, ⟨ready_of rfl, rfl, by decide, rfl⟩,
    fun q hq => by fin_cases hq <;> exact ⟨ready_of rfl, rfl, rfl⟩⟩

/-- Every field CURRENT. -/
def allShown : Fields :=
  let f : FieldRec :=
    { wanted := .digits [], shown := some (.digits []), st := .current, retries := 3, repost := false, refreshDue := false, heldPost := false }
  { amount := f, volume := f, price := f, grades := Vector.replicate 4 f, status := f }
/-- Every grade is priced, its panels UPDATING. -/
def allUpdating (s : State) : State :=
  s.modPru fun u => { u with grades := Vector.replicate 8 { pricedGrade with panels := { a := { shownPanel with state := .updating }, b := { shownPanel with state := .updating } } } }
/-- An attempt on a field of board A in flight, every other field CURRENT, under a test or none. -/
def probing (t : Option Test) (f : FieldId) (retries : Nat) (s : State) : State :=
  (allUpdating s).modBoard .a fun b =>
    { b with
      fields := allShown.set f { allShown.amount with wanted := eights f, st := .writing, retries := retries }, test := t,
      attempt := some { field := f, number := 9, sent := eights f }, writeNumber := 10 }
/-- Position A CLOSED for HOST, a segment test of OPEN POSITION in a phase. -/
def segmenting (ph : TestPhase) (f : FieldId) (retries : Nat) : State :=
  probing (some (.segment ph true false)) f retries (atA (.closed .host) opened)

def priceCard (p : Nat) : Card := card 0x28 3 (w4 p ++ w4 7 ++ w4 0)

/-- LOAD PRICE waits on the site lane, applied and stored, for A2's grade field alone. -/
def priceShown (retries : Nat) (other : PanelState) : State :=
  waiting .site (priceCard 1900) ((opened.modGrade 3 fun g => { g with
      price := some 1900, panels := { a := { shownPanel with state := .updating }, b := { shownPanel with state := other } } }).modBoard .a fun b =>
    { b.modField (.grade 1) fun r => { r with st := .writing, retries := retries, wanted := eights (.grade 1) } with
      attempt := some { field := .grade 1, number := 9, sent := eights (.grade 1) }, writeNumber := 10 })
/-- The state with its LOAD PRICE in progress. -/
def loadingOf (s : State) : State := { s with pru := { s.pru with loading := some { grade := 3, applied := true, stored := true } } }

theorem loading_calm (r : Nat) (o : PanelState) : (loadingOf (priceShown r o)).calm :=
  calm_if rfl (fun _ _ hl _ _ => by obtain rfl := Option.some.inj hl; rfl) (.inl rfl)
    (both (no_gate (by decide : (PosState.idle) ≠ _)) (no_gate (by decide : (PosState.idle) ≠ _)))

/-- No sale locked on the grade, and one; the last panel's last field verified, failed for good, failed with a retry left, the other panel
CURRENT and in FAULT; another hose of the grade not yet shown. -/
theorem witness_LoadPriceAppliesOrWaits :
    (Ready (given .site (priceCard 99999) opened) .loadPrice (priceCard 99999) ∧ (priceCard 99999).to = (3 : Fin 8).val
      ∧ 3 ≤ (priceCard 99999).words.toNat ∧ (priceCard 99999).w 0 = 99999 ∧ (priceCard 99999).b 4 = RoundCode.site.code
      ∧ opened.storeClosed = false ∧ opened.storeFree ∧ opened.lockedOn 3 = false ∧ ∀ side, (opened.board side).segment = false)
    ∧ (let s := given .site (priceCard 1) (segmenting .eights .amount 3)
      Ready s .loadPrice (priceCard 1) ∧ (s.board .a).segment = true ∧ ∀ h, ((s.board .a).field (.grade h)).st ≠ .fault)
    ∧ Ready (given .site (priceCard 1) (selling .fuelling (sale 3) opened)) .loadPrice (priceCard 1)
    ∧ (selling .fuelling (sale 3) opened).lockedOn 3 = true
    ∧ (∀ r o, o ≠ .updating → let s := loadingOf (priceShown r o)
      s.mainSupply = true ∧ s.calm ∧ s.ssu.site ≠ .powerDown ∧ s.memoryOk ∧ (s.board .a).segment = false
        ∧ s.pru.loading = some { grade := 3, applied := true, stored := true }
        ∧ s.lanes.site.held = some { offset := 0x900, card := priceCard 1900, phase := .waiting } ∧ (priceCard 1900).kind = 0x28
        ∧ s.readLink 0x900 = .atEnd ∧ (s.route .a 1).fitted = true ∧ (s.route .a 1).grade = 3
        ∧ ((s.grade 3).panels.get .b).state ≠ .updating
        ∧ (s.board .a).attempt = some { field := .grade 1, number := 9, sent := eights (.grade 1) }
        ∧ ((s.board .a).field (.grade 1)).retries = r ∧ ((s.board .a).field (.grade 1)).st = .writing
        ∧ ((s.board .a).field (.grade 1)).wanted = eights (.grade 1) ∧ ((s.board .a).field (.grade 1)).repost = false
        ∧ ∀ k : HoseNo, k ≠ 1 → (s.route .a k).grade ≠ 3)
    ∧ (let s := (loadingOf { priceShown 1 .current with miu := { opened.miu with
          routes := { opened.miu.routes with a := opened.miu.routes.a.set 3 (hose 2 3) } } }).modBoard .a fun b =>
        b.modField (.grade 3) fun r => { r with st := .pending }
      s.calm ∧ (s.route .a 3).fitted = true ∧ (s.route .a 3).grade = 3 ∧ ((s.board .a).field (.grade 3)).st ≠ .current
        ∧ ∀ k, ((s.board .a).field (.grade k)).st ≠ .fault) :=
  ⟨⟨ready_of rfl, rfl, by decide, by decide, by decide, rfl, storeFree_of rfl, by decide, fun side => by cases side <;> rfl⟩,
    ⟨ready_of rfl, rfl, by decide⟩, ready_of rfl, by decide,
    fun r o h => ⟨rfl, loading_calm r o, (by decide : SiteState.opened ≠ _), ⟨rfl, rfl⟩, rfl, rfl, rfl, rfl,
      (by decide : (waiting .site (priceCard 1900) opened).readLink 0x900 = .atEnd), rfl, rfl, h, rfl,
      rfl, rfl, rfl, rfl, (by decide : ∀ k : HoseNo, k ≠ 1 → (opened.route .a k).grade ≠ 3)⟩,
    calm_if rfl (fun _ _ hl _ _ => by obtain rfl := Option.some.inj hl; rfl) (.inl rfl) (both (no_gate (by decide)) (no_gate (by decide))),
    by decide, by decide, by decide, by decide⟩

/-! ### Displays, inputs, reader -/

/-- What an attempt on AMOUNT, STATUS or A1's grade field finds. -/
theorem probes (t : Option Test) (r : Nat) (s : State) : ∀ f ∈ [FieldId.amount, .status, .grade 0],
    let b := (probing t f r s).board .a
    b.attempt = some { field := f, number := 9, sent := eights f } ∧ b.test = t ∧ (b.field f).retries = r ∧ (b.field f).st = .writing
      ∧ (b.field f).wanted = eights f ∧ (b.field f).repost = false ∧ ∀ g ∈ allFields, g ≠ f → (b.field g).st = .current := by
  intro f hf
  simp only [List.mem_cons, List.not_mem_nil, or_false] at hf
  rcases hf with rfl | rfl | rfl <;> refine ⟨rfl, rfl, rfl, rfl, rfl, rfl, fun g hg h => ?_⟩ <;>
    simp only [allFields, List.mem_cons, List.not_mem_nil, or_false] at hg <;> rcases hg with rfl | rfl | rfl | rfl | rfl | rfl | rfl | rfl <;>
    first | rfl | exact absurd rfl h

/-- A start whose check runs, its motor settle time 0 or not. -/
def startChecking (ph : TestPhase) (settle : Nat) : State :=
  (probing (some (.startCheck ph)) .amount 3 (starting .check opened)).modPos .a fun p => { p with config := { p.config with motorSettle := settle } }

/-- A segment test in BLANK on board A, A2's grade field in its last attempt with a posting held back, LOAD PRICE waiting for its panel. -/
def loadTesting : State :=
  loadingOf (waiting .site (priceCard 1900) (((segmenting .blank (.grade 1) 0).modPanel 3 .b fun p => { p with state := .current }).modBoard .a
    fun b => b.modField (.grade 1) fun r => { r with heldPost := true }))
/-- R79, R87, R110: the failed attempt makes the panel FAULT, LOAD PRICE finishes BLOCKED, and the test's end makes the panel UPDATING. -/
theorem test_load_price_in_segment_test : let t := after (.answerTimeout .a) loadTesting
    t.half 0x906 = BitVec.ofNat 16 CardOutcome.blocked.code ∧ Memory.read t.xm 0x918 = BitVec.ofNat 8 PanelState.fault.code
      ∧ t.pru.loading = none ∧ (t.board .a).test = none ∧ ((t.grade 3).panels.get .a).state = .updating := by decide

/-- A segment test in BLANK on board A whose STATUS is the last field to be shown, A4 a second hose of A2's grade: A2's field CURRENT, A4's in
FAULT, a posting held back on each after an apply during the test, LOAD PRICE waiting for their panel. -/
def endingTest : State :=
  let s := segmenting .blank .status 3
  let s := { s with miu := { s.miu with routes := { s.miu.routes with a := s.miu.routes.a.set 3 (hose 2 3) } } }
  let s := (s.modPanel 3 .b fun p => { p with state := .current }).modPanel 3 .a fun p => { p with posted := true, held := true }
  loadingOf (waiting .site (priceCard 1900) (s.modBoard .a fun b =>
    (b.modField (.grade 1) fun r => { r with heldPost := true }).modField (.grade 3) fun r => { r with st := .fault, heldPost := true }))
/-- R79, R80, R87, R110: at the test's end A2's field turns PENDING, which makes the panel FAULT; LOAD PRICE finishes BLOCKED; the postings
held back make the panel UPDATING. -/
theorem test_load_price_at_test_end :
    let t := after (.litFrame .a { number := 9, wellFormed := true, field := .status, content := eights .status }) endingTest
    t.half 0x906 = BitVec.ofNat 16 CardOutcome.blocked.code ∧ Memory.read t.xm 0x918 = BitVec.ofNat 8 PanelState.fault.code
      ∧ t.pru.loading = none ∧ (t.board .a).test = none ∧ ((t.grade 3).panels.get .a).state = .updating := by decide

/-- No attempt in flight; one on each kind of field, its retries at 0, below and at the limit, nothing else waiting; the failure of a legal
field in every kind of position state; each phase of a start check, all shown and VOLUME not; each phase of a segment test, done with a
field in FAULT and not done, its requester OPEN POSITION in each site state, or stage 2 of a wake with no other result; the last failure in
a segment test, with a LOAD PRICE waiting and a posting held back too. -/
theorem witness_AttemptsEndVerifiedOrFailed :
    ((opened.board .a).attempt = none ∧ opened.calm)
    ∧ (∀ f ∈ [FieldId.amount, .status, .grade 0], ∀ r, let s := probing none f r opened
      s.mainSupply = true ∧ s.calm ∧ s.quiet ∧ (s.board .a).segment = false ∧ (s.board .a).test = none)
    ∧ (opened.dlc.policy.retryLimit = 3 ∧ isLegal .amount = true ∧ isLegal .status = false ∧ isLegal (.grade 0) = false)
    ∧ (∀ x ∈ [opened, atA .calling opened, authorized auth opened, starting .check opened, selling .fuelling (sale 3) opened,
        atA (.closed .host) opened, atA (.closed .night) opened, selling .ending (sale 3) opened], calmB (probing none .amount 0 x) = true)
    ∧ (selling .fuelling (sale 3) opened).dlc = opened.dlc
    ∧ (∀ ph, let s := startChecking ph 500
      s.calm ∧ (s.board .a).test = some (.startCheck ph) ∧ (∀ f ∈ [FieldId.volume, .price], ((s.board .a).field f).st = .current)
        ∧ (s.pos .a).st = .starting .check ∧ (s.pos .a).sale = some { sale 0 with held := some auth } ∧ (sale 0).lock = some lock)
    ∧ ((startChecking .zeros 0).pos .a).config.motorSettle = 0
    ∧ (let s := startChecking .eights 500
      (((s.modBoard .a fun b => b.modField .volume fun r => { r with st := .pending }).board .a).field .volume).st ≠ .current)
    ∧ (∀ ph, let s := segmenting ph .amount 3
      s.calm ∧ (s.board .a).test = some (.segment ph true false) ∧ (s.pos .a).st.isClosed = true ∧ s.ssu.site = .opened)
    ∧ (((((segmenting .blank .amount 3).modBoard .a fun b => b.modField .status fun r => { r with st := .fault }).board .a).field .status).st = .fault)
    ∧ ((((segmenting .blank .amount 3).modBoard .a fun b => b.modField .price fun r => { r with st := .fault }).board .a).field .price).st ≠ .current
    ∧ (calmB (atSite .night (segmenting .blank .amount 3)) = true  ∧ calmB (waking .card 4 (segmenting .blank .amount 3)) = true)
    ∧ (∀ ph, ∀ f ∈ [FieldId.amount, .grade 0], let s := segmenting ph f 0
      s.mainSupply = true ∧ s.calm ∧ s.ssu.site ≠ .waking ∧ (s.pos .a).st.isClosed = true)
    ∧ (let s := loadTesting
      s.mainSupply = true ∧ s.calm ∧ s.memoryOk ∧ s.ssu.site = .opened
        ∧ s.pru.loading = some { grade := 3, applied := true, stored := true }
        ∧ s.lanes.site.held = some { offset := 0x900, card := priceCard 1900, phase := .waiting } ∧ s.readLink 0x900 = .atEnd
        ∧ (s.board .a).test = some (.segment .blank true false) ∧ ((s.board .a).field (.grade 1)).retries = 0
        ∧ ((s.board .a).field (.grade 1)).st = .writing
        ∧ (s.board .a).attempt = some { field := .grade 1, number := 9, sent := eights (.grade 1) } ∧ (s.route .a 1).fitted = true
        ∧ ((s.grade 3).panels.get .b).state ≠ .updating ∧ (∀ f ∈ allFields, f = .grade 1 ∨ ((s.board .a).field f).st = .current)
        ∧ ∀ k, (s.route .a k).fitted = true → (s.route .a k).grade = 3 → ((s.board .a).field (.grade k)).heldPost = true)
    ∧ (∀ ph, ∀ f ∈ [FieldId.amount, .grade 0],
      let s := waking .card 2 (probing (some (.segment ph false true)) f 0 (atA (.closed .wake) opened))
      s.mainSupply = true ∧ s.calm ∧ (s.board .a).test = some (.segment ph false true) ∧ s.ssu.site = .waking ∧ s.ssu.wake.stage = 2
        ∧ s.ssu.results.get .b = none ∧ (s.pos .a).st.isClosed = true) :=
  ⟨⟨rfl, calm_of rfl⟩, fun f hf _ => by fin_cases hf <;> exact ⟨rfl, calm_of rfl, quiet_of rfl, rfl, rfl⟩, by decide, by decide, rfl,
    fun _ => ⟨calm_of rfl, rfl, (by intro f hf; fin_cases hf <;> rfl), rfl, rfl, rfl⟩, rfl, by decide, fun _ => ⟨calm_of rfl, rfl, rfl, rfl⟩, rfl,
    by decide, by decide, fun ph f hf => by
      fin_cases hf <;> exact ⟨rfl, calm_of rfl, (by decide : SiteState.opened ≠ _), rfl⟩,
    ⟨rfl, calm_if rfl (fun _ _ hl _ _ => by obtain rfl := Option.some.inj hl; rfl) (.inl rfl) (both (no_gate (by decide)) (no_gate (by decide))),
      ⟨rfl, rfl⟩, rfl, rfl, rfl, by decide, rfl, rfl, rfl, rfl, rfl, by decide, by decide, by decide⟩, fun ph f hf => by
      fin_cases hf <;> exact ⟨rfl, calm_of rfl, rfl, rfl, rfl, rfl, rfl⟩⟩

/-- A segment test on board A after a price was applied: A1's grade field PENDING, A4's of the same grade in a state, their panel UPDATING. -/
def faulting (st : FieldState) : State :=
  (allUpdating (atA (.closed .host) opened)).modBoard .a fun b => { b with
    fields := { allShown with grades := (Vector.replicate 4 allShown.amount).set 0 { allShown.amount with st := .pending } |>.set 3 { allShown.amount with st := st } },
    test := some (.segment .eights true false) }
/-- R79, R84, R110: A1's field turns WRITING, and A4's FAULT makes the panel FAULT. -/
theorem test_writing_report : let t := after (.refreshInstant .a) (faulting .fault)
    ((t.board .a).field (.grade 0)).st = .writing ∧ ((t.grade 0).panels.get .a).state = .fault := by decide

/-- The link of board A free, its contents sent, its fields in these states. -/
def fieldsAs (g : FieldId → FieldState) : State :=
  allFields.foldl (fun s f => s.modBoard .a fun b => b.modField f fun r => { r with st := g f, refreshDue := false }) (allUpdating contented)
/-- A free link, its last field PENDING; none PENDING and its last field in FAULT; nothing to serve. -/
theorem free_link (x : FieldState) : let s := fieldsAs fun f => if f = .status then x else .writing
    s.mainSupply = true ∧ s.calm ∧ s.ssu.site ≠ .powerDown ∧ s.contentsSent .a ∧ (s.board .a).attempt = none
      ∧ (∀ f, f ≠ .status → ((s.board .a).field f).st = .writing ∧ ((s.board .a).field f).refreshDue = false)
      ∧ ((s.board .a).field .status).st = x ∧ ((s.board .a).field .status).refreshDue = false ∧ allFields[7]? = some .status :=
  ⟨rfl, calm_of rfl, (by decide : SiteState.opened ≠ _), ⟨fun _ _ f hf => by fin_cases hf <;> rfl, fun _ => rfl⟩, rfl,
    fun f hf => by
      cases f with
      | grade h => fin_cases h <;> exact ⟨rfl, rfl⟩
      | status => exact absurd rfl hf
      | _ => exact ⟨rfl, rfl⟩,
    rfl, rfl, rfl⟩

/-- An attempt in flight, at day and at night; a free link with its last field in each state, at night too; a free link in a segment test,
another field of the grade in each state. -/
theorem witness_RefreshInstantMarksFields :
    (writing 1 opened).mainSupply = true ∧ (writing 1 opened).calm ∧ (writing 1 opened).ssu.site ≠ .powerDown
    ∧ ((writing 1 opened).board .a).attempt.isSome = true ∧ (atSite .night (writing 1 opened)).calm
    ∧ (∀ x, let s := fieldsAs fun f => if f = .status then x else .writing
      s.calm ∧ s.contentsSent .a ∧ (s.board .a).attempt = none ∧ ((s.board .a).field .status).st = x)
    ∧ (atSite .night (fieldsAs fun _ => .current)).calm
    ∧ (∀ st : FieldState, let s := faulting st
      s.mainSupply = true ∧ s.idle ∧ s.ssu.site ≠ .powerDown ∧ (s.board .a).segment = true ∧ (s.board .a).attempt = none
        ∧ (∀ f ∈ legalFields, ((s.board .a).field f).st ≠ .pending) ∧ ((s.board .a).field (.grade 0)).st = .pending
        ∧ (∀ k : HoseNo, ¬ k < 0) ∧ (s.route .a 0).fitted = true ∧ (s.route .a 3).fitted = true ∧ (s.route .a 3).grade = (s.route .a 0).grade
        ∧ ((s.board .a).field (.grade 3)).st = st) :=
  ⟨rfl, calm_of rfl, by decide, by decide, calm_of rfl,
    fun x => ⟨(free_link x).2.1, (free_link x).2.2.2.1, (free_link x).2.2.2.2.1, (free_link x).2.2.2.2.2.2.1⟩, calm_of rfl, fun st => by
    cases st <;> exact ⟨rfl, ⟨(nomatch ·), (nomatch ·), by decide, rfl, rfl, both (by decide) (by decide)⟩, by decide, rfl, rfl, by decide, rfl,
      by decide, rfl, rfl, rfl, rfl⟩⟩

/-- Levels that change, from a recognised level and from none; the assertion with a start, one that waits at the price gate, a sale, and a
frozen one. -/
theorem witness_InputChangesActAndAreReported :
    opened.calm ∧ opened.iwu.calSeal ≠ some false ∧ opened.iwu.cabinet ≠ some true ∧ opened.iwu.hydraulic ≠ some true
    ∧ State.reset.calm ∧ State.reset.mainSupply = true ∧ State.reset.iwu.emergency ≠ some false ∧ State.reset.iwu.enclosure ≠ some true
    ∧ State.reset.iwu.cable ≠ some true ∧ State.reset.iwu.calSeal ≠ some false
    ∧ ({ opened with iwu := { opened.iwu with enclosure := some false } } : State).iwu.enclosure ≠ some true
    ∧ opened.iwu.emergency ≠ some true ∧ opened.noPending
    ∧ (starting .motor opened).calm ∧ ((starting .motor opened).pos .a).st.isStarting = true
    ∧ ((starting .motor opened).pos .a).sale = some { sale 0 with held := some auth }
    ∧ gating.calm ∧ (gating.pos .a).sale = some gateSale ∧ gateSale.held.or (gating.pos .a).auth = some auth
    ∧ (selling .paused (sale 3) opened).calm ∧ ((selling .paused (sale 3) opened).pos .a).st.isDispensing = true
    ∧ (atSite .powerDown (selling .paused (sale 3) opened)).calm ∧ (atSite .powerDown opened).ssu.site = .powerDown :=
  ⟨calm_of rfl, by decide, by decide, by decide, calm_of rfl, rfl, by decide, by decide, by decide, by decide, by decide, by decide,
    (quiet_of rfl).1.2.2.1, calm_of rfl, by decide, rfl, gating_calm rfl rfl rfl rfl, rfl, rfl, calm_of rfl, by decide, calm_of rfl, rfl⟩

/-- A watch with mask and compare in a mode. -/
def watching (m : WatchMode) (mask compare : Byte) (arm : Bool) (s : State) : State :=
  { s with iwu := { s.iwu with armed := arm, watch := { s.iwu.watch with mode := m, mask := mask, compare := compare } } }
def watchCard (m : Byte) : Card := card 0x2A 0 [20, m, 0xFE, 0x01]

/-- Which is 01h, levels 01h: a change of IN16 to active. EVENT with IN16 unmasked and masked; MATCH armed, not armed, not matching; a
first recognition, which is no change; the card's two modes. -/
theorem witness_GeneralInputWatch :
    opened.calm ∧ (0x01 : BitVec 8).getLsbD 0 = true ∧ opened.iwu.general[(0 : Fin 8)] = some (!(0x01 : BitVec 8).getLsbD 0)
    ∧ (watching .event 0xFE 0 true opened).iwu.watch.mask.getLsbD 0 = false ∧ (watching .event 0xFF 0 true opened).iwu.watch.mask = 0xFF
    ∧ (let s := watching .matching 0xFE 0x01 true opened
      s.calm ∧ s.iwu.watch.mode = .matching ∧ s.iwu.armed = true ∧ s.iwu.watch.mask ≠ 0xFF
        ∧ ∀ i : Fin 8, s.iwu.watch.mask.getLsbD i.val = true ∨ (if (0x01 : BitVec 8).getLsbD i.val then some ((0x01 : BitVec 8).getLsbD i.val)
            else s.iwu.general[i]) = some (s.iwu.watch.compare.getLsbD i.val))
    ∧ (watching .matching 0xFE 0x01 false opened).iwu.armed = false
    ∧ (watching .matching 0xFE 0x00 true opened).iwu.watch.compare.getLsbD 0 = false
    ∧ State.reset.iwu.general[(0 : Fin 8)] = none
    ∧ (Ready (given .site (watchCard 0) opened) .setWatch (watchCard 0) ∧ (watchCard 0).b 0 = 20 ∧ (watchCard 0).b 1 = WatchMode.event.code)
    ∧ (let s := given .site (watchCard 1) { opened with iwu := { opened.iwu with general := Vector.replicate 8 (some true) } }
      Ready s .setWatch (watchCard 1) ∧ (watchCard 1).byte 2 ≠ 0xFF
        ∧ ∀ i : Fin 8, ((watchCard 1).byte 2).getLsbD i.val = true ∨ s.iwu.general[i] = some (((watchCard 1).byte 3).getLsbD i.val)) :=
  ⟨calm_of rfl, by decide, by decide, by decide, rfl, ⟨calm_of rfl, rfl, rfl, by decide, by decide⟩, rfl, by decide, by decide,
    ⟨ready_of rfl, by decide, by decide⟩, ready_of rfl, by decide, by decide⟩

/-- The reader's cards lie apart: no card held, and one held. -/
theorem apart_none {s : State} (h : s.lanes.reader.held = none)
    (p : s.riu.armed.Pairwise fun e f => e.card + 8 ≤ f.card ∨ f.card + 8 ≤ e.card) : s.readerCardsApart :=
  ⟨p, fun x hx => by rw [h] at hx; cases hx⟩
theorem apart_some {s : State} (x : Held) (h : s.lanes.reader.held = some x)
    (p : s.riu.armed.Pairwise fun e f => e.card + 8 ≤ f.card ∨ f.card + 8 ≤ e.card)
    (q : s.readLink x.offset = .atEnd ∧ ∀ e ∈ s.riu.armed, e.card + 8 ≤ x.offset ∨ x.offset + 64 ≤ e.card) : s.readerCardsApart :=
  ⟨p, fun y hy => by rw [h] at hy; obtain rfl := Option.some.inj hy; exact q⟩

/-- A closing site whose positions are not both CLOSED. -/
def inPositions (s : State) : State := (atSite .closing s).modSsu fun u => { u with closingPhase := some .positions }
theorem inPositions_calm {s : State} (h : calmB s = true) (ha : (s.pos .a).st.isClosed = false) : (inPositions s).calm := by
  obtain ⟨⟨-, -, hp, hl, hq, hg⟩, -⟩ := quiet_of h
  refine ⟨fun hs => absurd hs (by simp [inPositions, atSite, State.modSsu]), fun _ _ => ⟨.a, ha⟩, fun _ g h' => ?_, no_load hl, .inl hq,
    fun side => no_gate (hg side),
    stand_of (by have k := h; simp only [calmB, Bool.and_eq_true] at k; exact k.2)⟩
  rw [show ((inPositions s).grade g).pending = (s.grade g).pending from rfl, hp g] at h'
  cases h'

/-- A Send awaiting its answer beside an armed receive. -/
def sendingArmed : State := { sending .awaiting 1 2 with riu := { (sending .awaiting 1 2).riu with armed := armed.riu.armed } }
/-- A READER ON that waits for the settle time. -/
def turningOn : State := waiting .reader (card 0x40 0 []) { opened with riu := { opened.riu with domain := .powering, settleTimer := some 500 } }
/-- A start of origin READER at the price gate. -/
def gatingReader : State :=
  gating.modPos .a fun p => { p with auth := some readerAuth, sale := some { gateSale with origin := .reader } }

/-- Each loop from normal and from none; QUARANTINE; a Send, a READER ON and an armed receive; an authorization and a start of origin
READER, past the lock and at the price gate, and of another; a CLOSING site. -/
theorem witness_LoopDepartureQuarantines :
    (opened.mainSupply = true ∧ opened.calm ∧ opened.iwu.enclosure ≠ some false ∧ State.reset.iwu.cable ≠ some false
      ∧ opened.riu.resuming = false ∧ opened.riu.domain ≠ .quarantine ∧ opened.noPending)
    ∧ (quarantined.calm ∧ quarantined.riu.domain = .quarantine)
    ∧ (sendingArmed.calm ∧ sendingArmed.memoryOk ∧ sendingArmed.readerCardsApart ∧ sendingArmed.riu.send.isSome = true
      ∧ sendingArmed.riu.armed ≠ []
      ∧ sendingArmed.lanes.reader.held = some { offset := 0x900, card := card 0x44 127 [1, 1, 0, 0, 0, 0, 0, 0], phase := .waiting }
      ∧ Kind.ofByte (card 0x44 127 [1, 1, 0, 0, 0, 0, 0, 0]).kind = some .send)
    ∧ (turningOn.calm ∧ turningOn.memoryOk ∧ turningOn.readerCardsApart
      ∧ turningOn.lanes.reader.held = some { offset := 0x900, card := card 0x40 0 [], phase := .waiting }
      ∧ Kind.ofByte (card 0x40 0 []).kind = some .readerOn)
    ∧ ((authorized readerAuth opened).calm ∧ ((authorized readerAuth opened).pos .a).auth = some readerAuth ∧ readerAuth.origin = .reader)
    ∧ (let s := selling (.starting .check) { sale 0 with held := some readerAuth, origin := .reader } opened
      s.calm ∧ (s.pos .a).st.isStarting = true ∧ (s.pos .a).sale = some { sale 0 with held := some readerAuth, origin := .reader })
    ∧ (gatingReader.calm ∧ (gatingReader.pos .a).st.isStarting = true
      ∧ (gatingReader.pos .a).sale = some { gateSale with origin := .reader })
    ∧ (let s := inPositions (selling (.starting .check) { sale 0 with held := some readerAuth, origin := .reader } opened)
      s.calm ∧ s.ssu.site = .closing)
    ∧ ((authorized auth opened).pos .a).auth = some auth ∧ auth.origin ≠ .reader :=
  ⟨⟨rfl, calm_of rfl, by decide, by decide, rfl, by decide, (quiet_of rfl).1.2.2.1⟩, ⟨calm_of rfl, rfl⟩,
    ⟨calm_of rfl, ⟨rfl, rfl⟩, apart_some _ rfl (by decide) (by decide), rfl, by decide, rfl, by decide⟩,
    ⟨calm_of rfl, ⟨rfl, rfl⟩, apart_some _ rfl (by decide) (by decide), rfl, by decide⟩,
    ⟨calm_of rfl, rfl, rfl⟩, ⟨calm_of rfl, by decide, rfl⟩,
    ⟨calm_if rfl (no_load rfl) (.inl rfl) (both (at_gate (x := { gateSale with origin := .reader }) rfl (by decide)) (no_gate (by decide))), by decide, rfl⟩,
    ⟨inPositions_calm rfl rfl, rfl⟩, rfl, by decide⟩

/-- The reader in a domain. -/
def inDomain (d : Domain) (s : State) : State := { s with riu := { s.riu with domain := d } }
/-- A card of lane 2 without body given in a state. -/
def given2 (k : Byte) (s : State) : State := given .reader (card k 0 []) s

theorem witness_ReaderSupplyAndLink :
    (Ready (given2 0x40 (waking .card 1 opened)) .readerOn (card 0x40 0 []) ∧ (waking .card 1 opened).storeClosed = true)
    ∧ Ready (given2 0x40 (inDomain .quarantine opened)) .readerOn (card 0x40 0 [])
    ∧ Ready (given2 0x40 (atSite .night (inDomain .off opened))) .readerOn (card 0x40 0 [])
    ∧ Ready (given2 0x40 opened) .readerOn (card 0x40 0 []) ∧ Ready (given2 0x40 (inDomain .off opened)) .readerOn (card 0x40 0 [])
    ∧ Ready (given2 0x40 (inDomain .powering opened)) .readerOn (card 0x40 0 [])
    ∧ (let s := waiting .reader (card 0x40 0 []) { opened with riu := { opened.riu with domain := .powering, settleTimer := some 500 } }
      s.calm ∧ s.riu.settleTimer.isSome = true ∧ s.riu.resuming = false
        ∧ s.lanes.reader.held = some { offset := 0x900, card := card 0x40 0 [], phase := .waiting } ∧ (card 0x40 0 []).kind = 0x40)
    ∧ Ready (given2 0x41 (inDomain .quarantine opened)) .readerOff (card 0x41 0 [])
    ∧ Ready (given2 0x41 (inDomain .off opened)) .readerOff (card 0x41 0 []) ∧ Ready (given2 0x41 (inDomain .powering opened)) .readerOff (card 0x41 0 [])
    ∧ (Ready (given2 0x41 (inDomain .gated armed)) .readerOff (card 0x41 0 []) ∧ (given2 0x41 (inDomain .gated armed)).readerCardsApart)
    ∧ (Ready (given2 0x41 armed) .readerOff (card 0x41 0 []) ∧ (given2 0x41 armed).readerCardsApart ∧ armed.riu.armed ≠ []
      ∧ armed.riu.resuming = false)
    ∧ Ready (given2 0x47 opened) .releaseQuarantine (card 0x47 0 [])
    ∧ Ready (given2 0x47 (inDomain .quarantine opened)) .releaseQuarantine (card 0x47 0 [])
    ∧ (opened.iwu.enclosure = some true ∧ opened.iwu.cable = some true)
    ∧ (let s := given2 0x47 (inDomain .quarantine { opened with iwu := { opened.iwu with cable := none } })
      Ready s .releaseQuarantine (card 0x47 0 []) ∧ ¬ (s.iwu.enclosure = some true ∧ s.iwu.cable = some true))
    ∧ Ready (given2 0x42 opened) .openLink (card 0x42 0 []) ∧ Ready (given2 0x42 linked) .openLink (card 0x42 0 [])
    ∧ Ready (given2 0x42 (inDomain .off opened)) .openLink (card 0x42 0 [])
    ∧ Ready (given2 0x43 opened) .closeLink (card 0x43 0 [])
    ∧ (Ready (given2 0x43 armed) .closeLink (card 0x43 0 []) ∧ (given2 0x43 armed).readerCardsApart)
    ∧ Ready (given2 0x43 (inDomain .off opened)) .closeLink (card 0x43 0 []) :=
  ⟨⟨ready_of rfl, rfl⟩, ready_of rfl, ready_of rfl, ready_of rfl, ready_of rfl, ready_of rfl, ⟨calm_of rfl, rfl, rfl, rfl, rfl⟩, ready_of rfl,
    ready_of rfl, ready_of rfl, ⟨ready_of rfl, apart_some _ rfl (by decide) (by decide)⟩,
    ⟨ready_of rfl, apart_some _ rfl (by decide) (by decide), by decide, rfl⟩, ready_of rfl, ready_of rfl, ⟨rfl, rfl⟩, ⟨ready_of rfl, by decide⟩,
    ready_of rfl, ready_of rfl, ready_of rfl, ready_of rfl, ⟨ready_of rfl, apart_some _ rfl (by decide) (by decide)⟩, ready_of rfl⟩

def armCard (target : Half) : Card := card 0x45 target (w4 0)
/-- Eight armed receives. -/
def fullyArmed : State :=
  { linked with riu := { linked.riu with
    armed := (List.range 8).map fun i => { card := 0x1000 + 32 * i, buffer := 118 + i, note := false, toEnd := true } } }
def floorCard (n : Nat) : Card := card 0x2B 0 (h2 n ++ h2 0)

/-- The armed receive asks for a notice. -/
def noting (s : State) : State := { s with riu := { s.riu with armed := s.riu.armed.map fun e => { e with note := true } } }

/-- Each refusal of ARM RECEIVE; an accepted one, with stop requested too; DISARM RECEIVE with and without the buffer armed; SET RELAY FLOOR at a bound. -/
theorem witness_ArmedReceiveCards :
    (Ready (given .reader (armCard 127) (waking .card 1 linked)) .armReceive (armCard 127) ∧ (waking .card 1 linked).storeClosed = true
      ∧ (armCard 127).to ≤ 127 ∧ 1 ≤ (armCard 127).words.toNat)
    ∧ Ready (given .reader (armCard 127) (inDomain .quarantine opened)) .armReceive (armCard 127)
    ∧ (Ready (given .reader (armCard 111) linked) .armReceive (armCard 111) ∧ (armCard 111).to * 256 < linked.riu.floor)
    ∧ Ready (given .reader (armCard 112) (inDomain .powering opened)) .armReceive (armCard 112)
    ∧ (Ready (given .reader (armCard 112) fullyArmed) .armReceive (armCard 112) ∧ 8 ≤ fullyArmed.riu.armed.length)
    ∧ Ready (given .reader (armCard 127) armed) .armReceive (armCard 127)
    ∧ (Ready (given .reader (armCard 112) linked) .armReceive (armCard 112) ∧ ¬ ((armCard 112).to * 256 < linked.riu.floor))
    ∧ (Ready (given .reader (card 0x46 127 []) linked) .disarmReceive (card 0x46 127 []) ∧ linked.riu.armed = [])
    ∧ (Ready (given .reader (card 0x46 127 []) armed) .disarmReceive (card 0x46 127 [])
      ∧ armed.riu.armed = [] ++ { card := 0xA00, buffer := 127, note := false, toEnd := true } :: [])
    ∧ (Ready (given .site (floorCard 0x7C00) (inDomain .off opened)) .setRelayFloor (floorCard 0x7C00) ∧ (floorCard 0x7C00).h 0 = 0x7C00
      ∧ (floorCard 0x7C00).h 0 % 0x400 = 0 ∧ (floorCard 0x4000).h 0 = 0x4000 ∧ (inDomain .off opened).riu.armed = []
      ∧ (inDomain .off opened).storeFree)
    ∧ Ready (given .site (floorCard 0x4000) opened) .setRelayFloor (floorCard 0x4000)
    ∧ (let s := (given .reader (armCard 112) linked).modLane .reader fun x => { x with stopRequested := true }
      s.holds .armReceive 0x900 (armCard 112) ∧ s.calm ∧ s.readLink 0x900 = .atEnd ∧ s.lanes.reader.stopRequested = true)
    ∧ (Ready (given .reader (card 0x46 127 []) (noting armed)) .disarmReceive (card 0x46 127 [])
      ∧ (noting armed).riu.armed = [] ++ { card := 0xA00, buffer := 127, note := true, toEnd := true } :: []) :=
  ⟨⟨ready_of rfl, rfl, by decide, by decide⟩, ready_of rfl, ⟨ready_of rfl, by decide⟩, ready_of rfl, ⟨ready_of rfl, by decide⟩, ready_of rfl,
    ⟨ready_of rfl, by decide⟩, ⟨ready_of rfl, rfl⟩, ⟨ready_of rfl, rfl⟩,
    ⟨ready_of rfl, by decide, by decide, by decide, rfl, storeFree_of rfl⟩, ready_of rfl,
    ⟨⟨rfl, rfl, by decide⟩, calm_of rfl, by decide, rfl⟩, ready_of rfl, rfl⟩

theorem witness_GoodFramesAreRelayed :
    linked.mainSupply = true ∧ linked.calm ∧ linked.riu.domain = .opened ∧ linked.riu.receiver = .outside
    ∧ armed.calm ∧ armed.riu.receiver = .inside ∧ ([] : List Byte).length ≤ 250 ∧ (List.replicate 250 (0 : Byte)).length ≤ 250
    ∧ ({ armed with riu := { armed.riu with answers := [.hold, .hold, .hold, .reject] } } : State).riu.answers.length = 4
    ∧ armed.riu.answers.length < 4 ∧ ({ armed with riu := { armed.riu with armed := [] } } : State).riu.armed = []
    ∧ armed.riu.armed = { card := 0xA00, buffer := 127, note := false, toEnd := true } :: [] ∧ 0xA00 + 24 ≤ 127 * 256 ∧ armed.memoryOk
    ∧ ((noting armed).calm ∧ (noting armed).riu.armed = { card := 0xA00, buffer := 127, note := true, toEnd := true } :: []) :=
  ⟨rfl, calm_of rfl, rfl, rfl, calm_of rfl, rfl, by decide, by simp, rfl, by decide, rfl, rfl, by decide, ⟨by decide, by decide⟩, calm_of rfl, rfl⟩

theorem witness_BadFramesAreCounted :
    armed.mainSupply = true ∧ armed.calm ∧ armed.riu.domain = .opened ∧ armed.riu.receiver = .inside ∧ 250 < (251 : Byte).toNat
    ∧ frameCheck 1 [] ≠ 0 ∧ (3 : Byte) ≠ 1 ∧ (3 : Byte) ≠ 2
    ∧ ({ armed with riu := { armed.riu with answers := [.hold, .hold, .hold, .reject] } } : State).riu.answers.length = 4
    ∧ ({ armed with riu := { armed.riu with badRun := 14 } } : State).riu.badRun < 15
    ∧ 15 ≤ ({ armed with riu := { armed.riu with badRun := 15 } } : State).riu.badRun
    ∧ (let s : State := { sendingArmed with riu := { sendingArmed.riu with badRun := 15, receiver := .inside } }
      s.calm ∧ s.memoryOk ∧ s.readerCardsApart ∧ s.riu.send.isSome = true ∧ s.riu.answers.length < 4 ∧ s.riu.domain = .opened)
    ∧ ({ linked with riu := { linked.riu with receiver := .discarding } } : State).calm
    ∧ (let s : State := { linked with riu := { linked.riu with answers := [.reject] } }
      s.calm ∧ s.riu.answers = .reject :: [] ∧ s.riu.orphan = false ∧ s.riu.send = none) :=
  ⟨rfl, calm_of rfl, rfl, rfl, by decide, by decide, by decide, by decide, rfl, by decide, by decide,
    ⟨calm_of rfl, ⟨rfl, rfl⟩, apart_some _ rfl (by decide) (by decide), rfl, by decide, rfl⟩, calm_of rfl, calm_of rfl, rfl, rfl, rfl⟩

def sendCard (target : Half) (n : Byte) : Card := card 0x44 target [2, n, 0, 0, 0, 0, 0, 0]

theorem witness_SendBeginsItsFirstAttempt :
    (Ready (given .reader (sendCard 127 250) linked) .send (sendCard 127 250) ∧ (sendCard 127 250).to ≤ 127
      ∧ 2 ≤ (sendCard 127 250).words.toNat ∧ (sendCard 127 250).b 0 = 2 ∧ (sendCard 127 250).b 1 = 250 ∧ (sendCard 127 1).b 1 = 1
      ∧ (∀ a ∈ linked.upset, a < 127 * 256 ∨ 127 * 256 + 250 ≤ a))
    ∧ (Ready (given .reader (sendCard 127 250) { linked with upset := [0x7FF9] }) .send (sendCard 127 250)
      ∧ ¬ (∀ a ∈ [0x7FF9], a < 127 * 256 ∨ 127 * 256 + 250 ≤ a))
    ∧ (Ready (given .reader (sendCard 111 1) linked) .send (sendCard 111 1) ∧ (sendCard 111 1).to * 256 < linked.riu.floor)
    ∧ Ready (given .reader (sendCard 127 1) opened) .send (sendCard 127 1)
    ∧ Ready (given .reader (sendCard 127 1) armed) .send (sendCard 127 1) :=
  ⟨⟨ready_of rfl, by decide, by decide, by decide, by decide, by decide, by decide⟩, ⟨ready_of rfl, by decide⟩, ⟨ready_of rfl, by decide⟩,
    ready_of rfl, ready_of rfl⟩

theorem witness_SendAttempts :
    (let s := sending .awaiting 2 40;
      s.mainSupply = true ∧ s.calm ∧ s.riu.domain = .opened ∧ s.riu.send.map Send.phase = some .awaiting
        ∧ s.lanes.reader.held = some { offset := 0x900, card := card 0x44 127 [1, 1, 0, 0, 0, 0, 0, 0], phase := .waiting }
        ∧ (card 0x44 127 [1, 1, 0, 0, 0, 0, 0, 0]).kind = 0x44 ∧ s.readLink 0x900 = .atEnd ∧ s.memoryOk ∧ s.riu.receiver = .outside
        ∧ s.riu.send.map Send.attempts = some 2 ∧ s.riu.send.map Send.holds = some 40)
    ∧ (sending .sending 0 0).riu.orphan = false ∧ (sending .sending 0 0).riu.send.map Send.phase = some .sending
    ∧ (sending .awaiting 1 39).riu.send.map Send.attempts = some 1 ∧ (sending .awaiting 1 39).riu.send.map Send.holds = some 39
    ∧ (sending .holding 0 1).riu.send.map Send.phase = some .holding :=
  ⟨⟨rfl, calm_of rfl, rfl, rfl, rfl, rfl, by decide, ⟨by decide, by decide⟩, rfl, rfl, rfl⟩, rfl, rfl, rfl, rfl, rfl⟩

/-! ### Site, supplies, store, host -/

/-- The clock one second before a time of the schedule. -/
def scheduled (close openAt second : Nat) (s : State) : State :=
  s.modSsu fun u =>
    { u with schedule := some { closing := close, opening := openAt }, clock := { day := 7, second := second, lost := false } }
def clockCard (d t : Nat) : Card := card 0x2D 0 (w4 d ++ w4 t)
def scheduleCard (on : Nat) (c o : Nat) : Card := card 0x2C 0 (w4 on ++ w4 c ++ w4 o)

/-- NIGHT NOW and WAKE NOW given in a state. -/
def nightCard : Card := card 0x2E 0 []
def wakeCard : Card := card 0x2F 0 (w4 0)
/-- The night entry waiting for its reader step. -/
def closingSite : State := (atSite .closing opened).modSsu fun u => { u with closingOrigin := some .card, closingPhase := some .readerDown }
/-- The same with position A CLOSED for NIGHT, a NIGHT NOW waiting, and the READER step in progress. -/
def nightAsked : State :=
  { waiting .site nightCard (atA (.closed .night) closingSite) with rsc := { opened.rsc with
      active := some { step := { records := [.reader], requesters := [.nightReader] }, generation := 5, contents := opened.liveContents } } }

/-- The lanes' cards lie apart and their links show END. -/
theorem cardsEnd_of {s : State}
    (h : ((∀ e ∈ s.riu.armed, 0x800 ≤ e.card) ∧ ∀ l ∈ [LaneId.dispense, .site, .reader], ∀ x ∈ (s.lane l).held,
      0x800 ≤ x.offset ∧ s.readLink x.offset = .atEnd ∧ ∀ k ∈ [LaneId.dispense, .site, .reader], ∀ g ∈ (s.lane k).held, k ≠ l →
        x.offset + 64 ≤ g.offset ∨ g.offset + 64 ≤ x.offset)) : s.cardsEnd := by
  refine ⟨fun l x hx => ?_, h.1⟩
  have all : ∀ l : LaneId, l ∈ [LaneId.dispense, .site, .reader] := by intro l; cases l <;> decide
  obtain ⟨a, b, c⟩ := h.2 l (all l) x hx
  exact ⟨a, b, fun k g hg => c k (all k) g hg⟩

theorem witness_ClockCountsAndJudgesTheSchedule :
    opened.calm ∧ opened.mainSupply = true ∧ opened.ssu.schedule = none
    ∧ ({ opened with mainSupply := false } : State).mainSupply = false
    ∧ (let s := scheduled 0 21600 86399 opened
      s.calm ∧ s.ssu.schedule = some { closing := 0, opening := 21600 } ∧ s.ssu.clock.lost = false ∧ s.ssu.clock.second = 86399
        ∧ s.ssu.site = .opened ∧ ∀ side, (s.pos side).st = .idle)
    ∧ (let s := scheduled 0 21600 86399 (selling .fuelling (sale 3) opened)
      s.calm ∧ (s.pos .a).st.isDispensing = true)
    ∧ (let s := scheduled 0 21600 86399 sendingArmed
      s.calm ∧ s.storeFree ∧ s.riu.domain = .opened ∧ s.memoryOk ∧ s.readerCardsApart ∧ s.riu.armed ≠ [] ∧ s.riu.send.isSome = true)
    ∧ (let s := scheduled 0 21600 86399 turningOn
      s.calm ∧ s.memoryOk ∧ s.readerCardsApart ∧ s.lanes.reader.held.isSome = true)
    ∧ (scheduled 0 21600 86399 (waking .card 2 opened)).calm
    ∧ (let s := (scheduled 0 21600 86399 (atSite .closing opened)).modSsu fun u => { u with closingPhase := some .meters }
      s.calm ∧ s.ssu.site = .closing)
    ∧ (let s := scheduled 0 21600 21599 nightAsked
      s.calm ∧ s.ssu.site = .closing ∧ s.memoryOk ∧ s.cardsEnd
        ∧ s.lanes.site.held = some { offset := 0x900, card := nightCard, phase := .waiting } ∧ Kind.ofByte nightCard.kind = some .nightNow
        ∧ (s.pos .a).st = .closed .night ∧ s.rsc.active.isSome = true)
    ∧ (let s := scheduled 0 21600 21599 (atSite .night (atA (.closed .night) opened))
      s.calm ∧ s.ssu.site = .night ∧ (s.pos .a).st = .closed .night)
    ∧ (scheduled 0 21600 5 opened).ssu.clock.second = 5
    ∧ (∀ x ∈ [SiteState.opened, .night, .powerDown, .faulted .store, .faulted .display], ∀ n ∈ [86399, 21599],
      let s := scheduled 0 21600 n (atSite x opened)
      s.calm ∧ s.ssu.site = x ∧ s.ssu.clock.second = n)
    ∧ Ready (given .site (clockCard 65535 86399) (atSite .powerDown opened)) .setClock (clockCard 65535 86399)
    ∧ (Ready (given .site (clockCard 65535 86399) opened) .setClock (clockCard 65535 86399) ∧ (clockCard 65535 86399).w 0 = 65535
      ∧ (clockCard 65535 86399).w 1 = 86399)
    ∧ (Ready (given .site (scheduleCard 1 0 86399) opened) .setSchedule (scheduleCard 1 0 86399) ∧ (scheduleCard 1 0 86399).b 0 = 1
      ∧ (scheduleCard 1 0 86399).w 1 = 0 ∧ (scheduleCard 1 0 86399).w 2 = 86399)
    ∧ Ready (given .site (scheduleCard 0 0 0) opened) .setSchedule (scheduleCard 0 0 0) ∧ (scheduleCard 0 0 0).b 0 = 0 ∧ opened.storeFree :=
  ⟨calm_of rfl, rfl, rfl, rfl, ⟨calm_of rfl, rfl, rfl, rfl, rfl, both (by decide) (by decide)⟩, ⟨calm_of rfl, by decide⟩,
    ⟨calm_of rfl, storeFree_of rfl, rfl, ⟨rfl, rfl⟩, apart_some _ rfl (by decide) (by decide), by decide, rfl⟩,
    ⟨calm_of rfl, ⟨rfl, rfl⟩, apart_some _ rfl (by decide) (by decide), rfl⟩, calm_of rfl,
    ⟨calm_of rfl, rfl⟩, ⟨calm_of rfl, rfl, ⟨rfl, rfl⟩, cardsEnd_of (by decide), rfl, by decide, rfl, rfl⟩, ⟨calm_of rfl, rfl, by decide⟩, rfl,
    fun x hx n hn => by fin_cases hx <;> fin_cases hn <;> exact ⟨calm_of rfl, rfl, rfl⟩, ready_of rfl, ⟨ready_of rfl, by decide, by decide⟩,
    ⟨ready_of rfl, by decide, by decide, by decide⟩, ready_of rfl, by decide, storeFree_of rfl⟩

/-- NIGHT NOW in each site state, with positions at rest, a Send and an armed receive, a READER ON, a dispensing sale; WAKE NOW in each site
state, withdrawing a closing with a NIGHT NOW's step in progress. -/
theorem witness_NightAndWakeCards :
    (Ready (given .site nightCard opened) .nightNow nightCard ∧ opened.storeFree ∧ (∀ side, (opened.pos side).st = .idle))
    ∧ (Ready (given .site nightCard sendingArmed) .nightNow nightCard ∧ (given .site nightCard sendingArmed).storeFree
      ∧ (given .site nightCard { sendingArmed with lanes := linked.lanes }).readerCardsApart ∧ sendingArmed.riu.send.isSome = true
      ∧ sendingArmed.riu.domain = .opened)
    ∧ (let s := { given .site nightCard turningOn with
        lanes := { turningOn.lanes with
          site := (given .site nightCard opened).lanes.site,
          reader := { turningOn.lanes.reader with held := some { offset := 0xA00, card := card 0x40 0 [], phase := .waiting } } },
        xm := [(0x902, 1), (0x904, 1), (0xA02, 1), (0xA04, 1)] }
      Ready s .nightNow nightCard ∧ s.readerCardsApart ∧ s.lanes.reader.held.isSome = true)
    ∧ (Ready (given .site nightCard (selling .fuelling (sale 3) opened)) .nightNow nightCard
      ∧ ((selling .fuelling (sale 3) opened).pos .a).st.isDispensing = true)
    ∧ Ready (given .site nightCard closingSite) .nightNow nightCard
    ∧ Ready (given .site nightCard (atSite .night opened)) .nightNow nightCard
    ∧ Ready (given .site nightCard (waking .card 2 opened)) .nightNow nightCard
    ∧ Ready (given .site nightCard (atSite (.faulted .display) opened)) .nightNow nightCard
    ∧ (Ready (given .site wakeCard (waking .card 2 opened)) .wakeNow wakeCard ∧ 1 ≤ wakeCard.words.toNat)
    ∧ (Ready (given .site wakeCard opened) .wakeNow wakeCard ∧ (given .site wakeCard opened).memoryOk)
    ∧ (Ready (given .site wakeCard nightAsked) .wakeNow wakeCard ∧ (nightAsked.pos .a).st = .closed .night
      ∧ nightAsked.rsc.active.isSome = true)
    ∧ (Ready (given .site wakeCard (atSite .night (atA (.closed .night) opened))) .wakeNow wakeCard
      ∧ ((atSite .night (atA (.closed .night) opened)).pos .a).st = .closed .night)
    ∧ Ready (given .site wakeCard (atSite (.faulted .store) (atA (.closed .power) opened))) .wakeNow wakeCard :=
  ⟨⟨ready_of rfl, storeFree_of rfl, both (by decide) (by decide)⟩,
    ⟨ready_of rfl, storeFree_of rfl, apart_none rfl (by decide), rfl, rfl⟩, ⟨ready_of rfl, apart_some _ rfl (by decide) (by decide), rfl⟩,
    ⟨ready_of rfl, by decide⟩, ready_of rfl, ready_of rfl, ready_of rfl, ready_of rfl, ⟨ready_of rfl, by decide⟩, ⟨ready_of rfl, rfl, rfl⟩,
    ⟨ready_of rfl, rfl, rfl⟩, ⟨ready_of rfl, rfl⟩, ready_of rfl⟩

/-- A WAKE NOW waits on the site lane. -/
def wakeAsked (s : State) : State := waiting .site wakeCard s
/-- Stage 2 of a wake with these results, a stage's segment test running on A. -/
def testing (ph : TestPhase) (f : FieldId) (retries : Nat) (a b : Option Bool) : State :=
  (waking .card 2 (probing (some (.segment ph false true)) f retries (shut opened))).modSsu fun u => { u with results := { a := a, b := b } }
/-- The reader of the night to be resumed, in stage 5. -/
def resuming (s : State) : State :=
  { waking .coldStart 5 s with riu := { opened.riu with domain := .powering, settleTimer := some 500, resuming := true } }
/-- A closing held over. -/
def heldOver (s : State) : State := s.modSsu fun u => { u with heldOver := true }

/-- The timeout of each stage, a WAKE NOW waiting and none, the closing due and not; stage 2 with one board's result missing, and with both;
the last field of a segment test verified and failed, the other board tested and not; METER SETTLE with the reader's flag clear, in
QUARANTINE, with a loop away, OFF, POWERING, GATED, OPEN; the resume ended by the settle time, by READER OFF, by a departure. -/
theorem witness_WakeStageTimers :
    (State.reset.mainSupply = true ∧ State.reset.ssu.site = .waking ∧ State.reset.ssu.stageTimer.isSome = true ∧ State.reset.rsc.queue = []
      ∧ State.reset.memoryOk ∧ State.reset.cardsEnd ∧ State.reset.calm ∧ State.reset.allClosed ∧ State.reset.ssu.wake.stage = 1)
    ∧ (let s := wakeAsked (waking .card 1 (shut opened))
      s.calm ∧ s.allClosed ∧ s.memoryOk ∧ s.cardsEnd ∧ s.lanes.site.held = some { offset := 0x900, card := wakeCard, phase := .waiting }
        ∧ Kind.ofByte wakeCard.kind = some .wakeNow)
    ∧ (∀ b, let s := testing .eights .amount 3 none b
      s.mainSupply = true ∧ s.calm ∧ s.ssu.stageTimer.isSome = true ∧ s.rsc.queue = [] ∧ s.ssu.wake.stage = 2 ∧ s.ssu.results.get .a = none
        ∧ s.ssu.results.get .b = b ∧ (s.board .a).test = some (.segment .eights false true) ∧ (s.board .b).segment = false
        ∧ s.allClosed)
    ∧ (let s := (testing .eights .amount 3 none none).modBoard .b fun b => { b with test := some (.segment .eights false true) }
      s.calm ∧ s.allClosed ∧ (s.board .b).test = some (.segment .eights false true))
    ∧ ((waking .card 3 (shut opened)).ssu.wake.stage = 3 ∧ (waking .card 3 (shut opened)).rsc.queue = [] ∧ (waking .card 3 (shut opened)).allClosed)
    ∧ (let s := wakeAsked (waking .card 5 (shut opened))
      s.calm ∧ s.allClosed ∧ s.ssu.closingDue = false ∧ s.memoryOk ∧ s.cardsEnd ∧ (s.pos .a).st = .closed .wake)
    ∧ (let s := heldOver (waking .card 5 (shut opened))
      s.calm ∧ s.ssu.closingDue = true ∧ s.rsc.generation.isSome = true ∧ s.allClosed ∧ s.lanes.site.held = none)
    ∧ (∀ ph r b, let s := testing ph .amount r none b
      s.mainSupply = true ∧ s.calm ∧ s.ssu.site = .waking ∧ s.ssu.wake.stage = 2 ∧ (s.board .a).test = some (.segment ph false true)
        ∧ (s.board .b).segment = false ∧ s.allClosed
        ∧ (s.board .a).attempt = some { field := .amount, number := 9, sent := eights .amount }
        ∧ ((s.board .a).field .amount).retries = r ∧ ((s.board .a).field .amount).wanted = eights .amount
        ∧ s.ssu.results.get .b = b)
    ∧ (∀ ph r, let s := (testing ph .amount r none none).modBoard .b fun b => { b with test := some (.segment .eights true true) }
      s.calm ∧ s.allClosed ∧ (s.board .a).test = some (.segment ph false true) ∧ (s.board .b).segment = true ∧ s.ssu.results.get .b = none)
    ∧ (∀ d ∈ [Domain.quarantine, .off, .powering, .gated, .opened], ∀ due f,
      let s := (waking .coldStart 4 (inDomain d { shut opened with rsc := { opened.rsc with reader := f } })).modSsu fun u => { u with heldOver := due }
      s.mainSupply = true ∧ s.calm ∧ s.ssu.site = .waking ∧ s.ssu.wake.stage = 4 ∧ s.ssu.stageTimer.isSome = true ∧ s.rsc.reader = f
        ∧ s.riu.domain = d ∧ s.iwu.enclosure = some true ∧ s.iwu.cable = some true ∧ s.ssu.closingDue = due ∧ s.allClosed)
    ∧ (let s := waking .coldStart 4 { shut opened with iwu := { opened.iwu with cable := none } }
      s.calm ∧ s.allClosed ∧ s.iwu.cable ≠ some true)
    ∧ (∀ due, let s := (resuming (waiting .reader (card 0x40 0 []) (shut opened))).modSsu fun u => { u with heldOver := due }
      s.mainSupply = true ∧ s.calm ∧ s.ssu.site = .waking ∧ s.ssu.wake.stage = 5 ∧ s.riu.domain = .powering ∧ s.riu.resuming = true
        ∧ s.riu.settleTimer.isSome = true ∧ s.ssu.closingDue = due ∧ s.memoryOk ∧ s.readerCardsApart
        ∧ s.lanes.reader.held = some { offset := 0x900, card := card 0x40 0 [], phase := .waiting } ∧ s.iwu.cable ≠ some false ∧ s.allClosed)
    ∧ (let s := given2 0x41 (resuming (shut opened))
      s.holds .readerOff 0x900 (card 0x41 0 []) ∧ s.calm ∧ s.allClosed) :=
  ⟨⟨rfl, rfl, rfl, rfl, ⟨by decide, by decide⟩, cardsEnd_of (by decide), calm_of rfl, closed_of rfl rfl, rfl⟩,
    ⟨calm_of rfl, closed_of rfl rfl, ⟨rfl, rfl⟩, cardsEnd_of (by decide), rfl, by decide⟩,
    fun _ => ⟨rfl, calm_of rfl, rfl, rfl, rfl, rfl, rfl, rfl, rfl, closed_of rfl rfl⟩, ⟨calm_of rfl, closed_of rfl rfl, rfl⟩,
    ⟨rfl, rfl, closed_of rfl rfl⟩, ⟨calm_of rfl, closed_of rfl rfl, rfl, ⟨rfl, rfl⟩, cardsEnd_of (by decide), rfl⟩,
    ⟨calm_of rfl, rfl, rfl, closed_of rfl rfl, rfl⟩,
    fun _ _ _ => ⟨rfl, calm_of rfl, rfl, rfl, rfl, rfl, closed_of rfl rfl, rfl, rfl, rfl, rfl⟩,
    fun _ _ => ⟨calm_of rfl, closed_of rfl rfl, rfl, rfl, rfl⟩,
    (by intro d _ due f; refine ⟨rfl, calm_of rfl, rfl, rfl, rfl, rfl, rfl, rfl, rfl, ?_, closed_of rfl rfl⟩; cases due <;> rfl),
    ⟨calm_of rfl, closed_of rfl rfl, by decide⟩,
    (by intro due
        refine ⟨rfl, calm_of rfl, rfl, rfl, rfl, rfl, rfl, ?_, ⟨rfl, rfl⟩, apart_some _ rfl .nil ⟨?_, fun e h => nomatch h⟩, rfl, ?_,
          closed_of rfl rfl⟩
        · cases due <;> rfl
        · exact (by decide : (waiting .reader (card 0x40 0 []) opened).readLink 0x900 = .atEnd)
        · exact (by decide : some true ≠ some false)),
    ⟨rfl, rfl, by decide⟩, calm_of rfl, closed_of rfl rfl⟩

/-- Every kind of position; a start whose claim agrees with its meter; night. -/
theorem witness_SupplyWarningFreezesThePart :
    (let s := starting .check opened;
      s.claimsAgree ∧ (s.pos .a).sale = some { sale 0 with held := some auth } ∧ ((sale 0).claims.map Claim.meter).Nodup)
    ∧ opened.mainSupply = true ∧ opened.rsc.supplyWarn ≠ some true ∧ opened.ssu.site ≠ .powerDown
    ∧ ((selling .fuelling (sale 3) opened).pos .a).st.isDispensing = true ∧ ((starting .check opened).pos .a).st.isStarting = true
    ∧ (opened.pos .b).st.isDispensing = false ∧ (opened.pos .b).st ≠ .ending ∧ (opened.pos .b).st.isClosed = false
    ∧ (atSite .night opened).ssu.site = .night :=
  ⟨⟨agree_of (c := { meter := 1, role := .primary, n := 0, h := 0, k := 100000 }) rfl rfl rfl (by decide), rfl, by decide⟩, by decide⟩

theorem witness_FreezeEndsTheFrozenSales :
    (let s := warned (selling .fuelling (sale 3) opened);
      s.mainSupply = true ∧ s.calm ∧ s.ssu.site = .powerDown ∧ s.rsc.freeze = .window ∧ s.rsc.active = none ∧ s.rsc.check = .none
        ∧ s.rsc.generation.isSome = true ∧ (s.pos .b).sale = none ∧ (s.pos .a).sale = some (sale 3) ∧ (sale 3).lock = some lock
        ∧ (∃ c ∈ (sale 3).claims, c.meter = 1) ∧ (s.meter 1).owner = some (.a, .primary) ∧ ∀ c ∈ (sale 3).claims, c.meter ≠ 2)
    ∧ ((warned opened).calm ∧ (warned opened).rsc.supplyWarn ≠ some false)
    ∧ (let s := atSite .powerDown { opened with rsc := { opened.rsc with coldWait := true } }
      s.mainSupply = true ∧ s.calm ∧ s.ssu.site = .powerDown ∧ s.rsc.supplyWarn ≠ some true ∧ s.rsc.coldWait = true) :=
  ⟨⟨rfl, calm_of rfl, rfl, rfl, rfl, rfl, rfl, by decide, rfl, rfl, by decide, by decide, by decide⟩, ⟨calm_of rfl, by decide⟩,
    ⟨rfl, calm_of rfl, rfl, by decide, rfl⟩⟩

theorem witness_PowerCommands :
    ({ opened with mainSupply := false } : State).mainSupply = false
    ∧ (let s : State := { warned opened with rsc := { opened.rsc with freeze := .done, coldWait := true } }
      s.mainSupply = true ∧ s.ssu.site = .powerDown ∧ s.rsc.freeze = .done ∧ s.rsc.coldWait = true ∧ s.rsc.supplyWarn = some false
        ∧ s.rsc.batteryCut = false)
    ∧ ({ opened with rsc := { opened.rsc with batteryCut := true } } : State).rsc.batteryCut = true
    ∧ (let s : State := { opened with rsc := { opened.rsc with
        active := some { step := { records := [.prices], requesters := [] }, generation := 5, contents := opened.liveContents } } }
      s.mainSupply = true ∧ s.rsc.active.map (fun a => a.step.records) = some [.prices] ∧ RecordId.totals ∉ [RecordId.prices])
    ∧ opened.calm ∧ opened.rsc.batteryLow = false :=
  ⟨rfl, ⟨rfl, rfl, rfl, rfl, rfl, rfl⟩, rfl, ⟨rfl, rfl, by decide⟩, calm_of rfl, rfl⟩

/-- A store check in a state of progress. -/
def checking (c : CheckState) (s : State) : State := { s with rsc := { s.rsc with check := c } }

/-- The open site with another seal on a record of the store. -/
def spoilt (i : Fin 8) (x : Seal) : State :=
  { opened with rsc := { opened.rsc with store := { opened.rsc.store with seals := opened.rsc.store.seals.set i x } } }

/-- A check that passes at a cold start and at another wake, a step that keeps its record's live values waiting, of METERS too; one that
fails for a damaged record, for a record of another generation, for a lost store, with a step waiting, a night entry's too; receives armed
under another floor, the check passing and failing. -/
theorem witness_StoreCheckRestoresOrFaults :
    (let s := checking .requested (waking .coldStart 1 opened);
      s.mainSupply = true ∧ s.calm ∧ s.rsc.check = .requested ∧ s.rsc.active = none)
    ∧ (∀ o, let s := checking .running (waking o 1 (shut opened))
      s.mainSupply = true ∧ s.calm ∧ s.rsc.check = .running ∧ s.rsc.active = none ∧ s.ssu.site = .waking ∧ s.allClosed
        ∧ s.ssu.wake.stage = 1 ∧ s.rsc.lost = false ∧ s.ssu.wake.origin = o ∧ s.rsc.queue = []
        ∧ ∀ r, (s.rsc.store.seal r).check = some (s.rsc.store.contents.checkWord r (s.rsc.store.seal r).generation)
            ∧ (s.rsc.store.seal r).generation = (s.rsc.store.seal .header).generation)
    ∧ (∀ r, let s := checking .running { waking .coldStart 1 (shut opened) with rsc := { opened.rsc with queue := [{ records := [r], requesters := [] }] } }
      s.calm ∧ s.allClosed ∧ ¬ ∀ n ∈ s.rsc.queue, r ∉ n.records)
    ∧ (let s := checking .running (waking .coldStart 1 (shut (spoilt 7 { generation := 5, check := none })))
      s.calm ∧ s.allClosed ∧ (s.rsc.store.seal .reader).check = none)
    ∧ (let s := checking .running (waking .coldStart 1
          (shut (spoilt 3 { generation := 4, check := some ((Contents.default 3).checkWord .totals 4) })))
      s.calm ∧ s.allClosed ∧ (s.rsc.store.seal .totals).generation ≠ (s.rsc.store.seal .header).generation)
    ∧ (∀ q ∈ [Requester.card .site 0x900, .nightReader, .nightMeters],
      let s := checking .running { waking .coldStart 1 (shut opened) with rsc := { opened.rsc with
          lost := true, queue := [{ records := [.config], requesters := [q] }] } }
      s.calm ∧ s.allClosed ∧ s.rsc.lost = true ∧ s.rsc.queue ≠ [])
    ∧ (let s := checking .running State.reset
      s.calm ∧ s.allClosed ∧ s.rsc.check = .running ∧ s.rsc.lost = false ∧ (s.rsc.store.seal .header).check = none ∧ s.ssu.wake.stage = 1)
    ∧ (∀ lost, let s := checking .running (waking .card 1 (wakeAsked (shut { noting armed with
          riu := { (noting armed).riu with floor := 0x4000 }, rsc := { opened.rsc with lost := lost } })))
      s.calm ∧ s.allClosed ∧ s.rsc.lost = lost ∧ s.rsc.queue = [] ∧ s.memoryOk ∧ s.cardsEnd ∧ s.readerCardsApart ∧ s.riu.armed ≠ []
        ∧ s.riu.floor = 0x4000 ∧ s.rsc.store.contents.config.floor = 0x7000
        ∧ ∀ h, s.lanes.site.held = some h → ∀ e ∈ s.riu.armed, e.card + 8 ≤ h.offset ∨ h.offset + 64 ≤ e.card) :=
  ⟨⟨rfl, calm_of rfl, rfl, rfl⟩,
    fun o => ⟨rfl, calm_of rfl, rfl, rfl, rfl, closed_of rfl rfl, rfl, rfl, rfl, rfl, fun r => by cases r <;> exact ⟨rfl, rfl⟩⟩,
    fun r => ⟨calm_if rfl (no_load rfl) (.inr (.inr rfl)) (both (no_gate (by decide : PosState.closed .wake ≠ .starting .gate))
      (no_gate (by decide : PosState.closed .wake ≠ .starting .gate))), closed_of rfl rfl, fun h => h _ (.head _) (.head _)⟩,
    ⟨calm_of rfl, closed_of rfl rfl, rfl⟩, ⟨calm_of rfl, closed_of rfl rfl, by decide⟩,
    fun q hq => by fin_cases hq <;> exact ⟨calm_if rfl (no_load rfl) (.inr (.inr rfl)) (both (no_gate (by decide)) (no_gate (by decide))),
      closed_of rfl rfl, rfl, by decide⟩,
    ⟨calm_of rfl, closed_of rfl rfl, rfl, rfl, rfl, rfl⟩, fun lost => ⟨calm_of rfl, closed_of rfl rfl, rfl, rfl, ⟨rfl, rfl⟩, cardsEnd_of (by
      cases lost <;> decide), apart_none rfl (by cases lost <;> decide), by cases lost <;> decide, rfl, rfl, fun h hh => by
        obtain rfl := Option.some.inj hh; cases lost <;> decide⟩⟩

/-- A card waiting on a store step in progress. -/
def storing : State :=
  { opened with
    xm := [(0x902, 1), (0x904, 1)],
    lanes := { opened.lanes with site := { opened.lanes.site with
      st := .walking, held := some { offset := 0x900, card := policyCard, phase := .onStore } } },
    rsc := { opened.rsc with
      active := some { step := { records := [.config], requesters := [.card .site 0x900] }, generation := 5, contents := opened.liveContents } } }
def rebuildCard : Card := card 0x31 0 []

/-- A step of the records in progress for these requesters. -/
def stepping (records : List RecordId) (who : List Requester) (s : State) : State :=
  { s with rsc := { s.rsc with
    active := some { step := { records := records, requesters := who }, generation := 5, contents := opened.liveContents } } }
/-- A card of lane 0 at 0A00h that waits on a step beside the site lane's. -/
def storingTwo : State :=
  { storing with
    xm := [(0x902, 1), (0x904, 1), (0xA02, 1), (0xA04, 1)],
    lanes := { storing.lanes with dispense := { opened.lanes.dispense with
      st := .walking, held := some { offset := 0xA00, card := closeCard 40102, phase := .onStore } } } }

/-- A step for nobody, for one card, for two, for a LOAD PRICE with a panel UPDATING and with none, for the night entry's two phases with a
NIGHT NOW and a READER ON waiting, for the check of a cold start, for a rebuild, for the two freeze steps, a step waiting behind; for nobody with the live
generation absent, a rebuild waiting, the freeze steps and nothing; a lost store; REBUILD STORE refused twice, taken with the HEADER intact at the last generation and with it damaged. -/
theorem witness_StoreStepsAndRebuild :
    (storing.mainSupply = true ∧ storing.calm ∧ storing.rsc.lost = false
      ∧ storing.rsc.active = some { step := { records := [.config], requesters := [.card .site 0x900] }, generation := 5, contents := opened.liveContents }
      ∧ (storing.lane .site).held = some { offset := 0x900, card := policyCard, phase := .onStore } ∧ storing.readLink 0x900 = .atEnd)
    ∧ (∀ who, let s := stepping [.prices] who opened
      s.mainSupply = true ∧ s.calm ∧ s.rsc.lost = false ∧ s.rsc.queue = [] ∧ s.rsc.check ≠ .running ∧ s.rsc.generation.isSome = true
        ∧ s.ssu.site ≠ .powerDown)
    ∧ (let s := stepping allRecords [.rebuild] { opened with rsc := { opened.rsc with lost := true } }
      s.calm ∧ s.rsc.lost = true)
    ∧ (let s := stepping [.totals, .meters, .unpaidA, .reader] [.freeze .a] (atSite .powerDown { opened with rsc := { opened.rsc with
          queue := [{ records := [.totals, .meters, .unpaidB], requesters := [.freeze .b] }] } })
      s.calm ∧ s.rsc.generation.isSome = true ∧ s.rsc.check ≠ .running ∧ [RecordId.totals, .meters, .unpaidB] ≠ allRecords)
    ∧ (∀ n ∈ [{ records := allRecords, requesters := [.rebuild] },
          ({ records := [.totals, .meters, .unpaidA, .reader], requesters := [.freeze .a] } : StoreStep)],
      let s := stepping [.header] [] (atSite .powerDown { opened with rsc := { opened.rsc with
          generation := none, queue := [n, { records := [.totals, .meters, .unpaidB], requesters := [.freeze .b] }] } })
      s.mainSupply = true ∧ s.calm ∧ s.rsc.lost = false ∧ s.rsc.generation = none ∧ s.rsc.check ≠ .running
        ∧ s.rsc.active.map (fun a => a.step.requesters) = some [])
    ∧ (let s := stepping [.header] [] (atSite .powerDown { opened with rsc := { opened.rsc with generation := none } })
      s.calm ∧ s.rsc.queue = [])
    ∧ (let s := stepping [.config, .unpaidA] [.card .site 0x900, .card .dispense 0xA00] storingTwo
      s.calm ∧ s.memoryOk ∧ s.readLink 0x900 = .atEnd ∧ s.readLink 0xA00 = .atEnd
        ∧ (s.lane .dispense).held = some { offset := 0xA00, card := closeCard 40102, phase := .onStore })
    ∧ (∀ st, let s := stepping [.prices] [.loadPrice] (waiting .site (priceCard 1900) { opened.modPanel 3 .a fun p => { p with state := st } with
          pru := { (opened.modPanel 3 .a fun p => { p with state := st }).pru with loading := some { grade := 3, applied := true, stored := false } } })
      s.calm ∧ s.pru.loading = some { grade := 3, applied := true, stored := false } ∧ s.ssu.site ≠ .powerDown ∧ s.memoryOk)
    ∧ (nightAsked.calm ∧ nightAsked.rsc.active.map (fun a => a.step.requesters) = some [.nightReader] ∧ nightAsked.ssu.site = .closing
      ∧ nightAsked.ssu.closingPhase = some .readerDown ∧ nightAsked.rsc.queue = [] ∧ nightAsked.rsc.generation.isSome = true)
    ∧ (let s := stepping [.meters] [.nightMeters] { turningOn with ssu := { closingSite.ssu with closingPhase := some .meters } }
      s.calm ∧ s.memoryOk ∧ s.readerCardsApart ∧ s.lanes.reader.held.isSome = true ∧ s.ssu.site = .closing
        ∧ s.ssu.closingPhase = some .meters)
    ∧ (let s := stepping [.meters] [.nightMeters] (nightAsked.modSsu fun u => { u with closingPhase := some .meters })
      s.calm ∧ s.memoryOk ∧ s.cardsEnd ∧ s.ssu.site = .closing ∧ s.ssu.closingPhase = some .meters)
    ∧ (let s := stepping [.header] [.header] { waking .coldStart 1 opened with rsc := { opened.rsc with check := .headerStep } }
      s.calm ∧ s.memoryOk ∧ s.ssu.site = .waking ∧ s.ssu.wake.stage = 1)
    ∧ (let s := stepping allRecords [.rebuild, .card .site 0x900] (atSite (.faulted .store) { storing with
          lanes := { storing.lanes with site := { storing.lanes.site with held := some { offset := 0x900, card := rebuildCard, phase := .onStore } } } })
      s.calm ∧ s.memoryOk ∧ s.lanes.site.held = some { offset := 0x900, card := rebuildCard, phase := .onStore } ∧ s.readLink 0x900 = .atEnd)
    ∧ Ready (given .site rebuildCard opened) .rebuildStore rebuildCard
    ∧ Ready (given .site rebuildCard (atSite (.faulted .store) { opened with iwu := { opened.iwu with calSeal := some false } })) .rebuildStore
        rebuildCard
    ∧ (let s := atSite (.faulted .store) (spoilt 0 { generation := 65535, check := some ((Contents.default 3).checkWord .header 65535) })
      Ready (given .site rebuildCard s) .rebuildStore rebuildCard ∧ s.rsc.store.intact .header = true
        ∧ (s.rsc.store.seal .header).generation = 65535 ∧ s.iwu.calSeal = some true ∧ s.rsc.active = none ∧ s.rsc.check = .none)
    ∧ Ready (given .site rebuildCard (atSite (.faulted .store) { opened with rsc := { opened.rsc with store := State.reset.rsc.store } }))
        .rebuildStore rebuildCard
    ∧ State.reset.rsc.store.intact .header = false :=
  ⟨⟨rfl, calm_of rfl, rfl, rfl, rfl, by decide⟩,
    fun who => ⟨rfl, calm_of rfl, rfl, rfl, (by decide : CheckState.none ≠ _), rfl, (by decide : SiteState.opened ≠ _)⟩, ⟨calm_of rfl, rfl⟩,
    ⟨calm_if rfl (no_load rfl) (.inr (.inl rfl)) (both (no_gate (by decide)) (no_gate (by decide))), rfl, by decide, by decide⟩,
    fun n _ => ⟨rfl, calm_if rfl (no_load rfl) (.inr (.inl rfl)) (both (no_gate (by decide : PosState.idle ≠ .starting .gate))
      (no_gate (by decide : PosState.idle ≠ .starting .gate))), rfl, rfl, (by decide : CheckState.none ≠ .running), rfl⟩, ⟨calm_of rfl, rfl⟩,
    ⟨calm_of rfl, ⟨rfl, rfl⟩, by decide, by decide, rfl⟩,
    fun st => ⟨calm_if rfl (fun _ _ hl _ h => by obtain rfl := Option.some.inj hl; cases h) (.inl rfl)
      (both (no_gate (by decide : PosState.idle ≠ _)) (no_gate (by decide : PosState.idle ≠ _))), rfl, (by decide : SiteState.opened ≠ _), rfl, rfl⟩,
    ⟨calm_of rfl, rfl, rfl, rfl, rfl, rfl⟩, ⟨calm_of rfl, ⟨rfl, rfl⟩, apart_some _ rfl (by decide) (by decide), rfl, rfl, rfl⟩,
    ⟨calm_of rfl, ⟨rfl, rfl⟩, cardsEnd_of (by decide), rfl, rfl⟩, ⟨calm_of rfl, ⟨rfl, rfl⟩, rfl, rfl⟩, ⟨calm_of rfl, ⟨rfl, rfl⟩, rfl, by decide⟩,
    ready_of rfl, ready_of rfl, ⟨ready_of rfl, beq_iff_eq.2 rfl, rfl, rfl, rfl, rfl⟩, ready_of rfl, by decide⟩

/-- A part at rest, one with a LOAD PRICE in progress, one without main supply, one under HRESET_N. -/
theorem witness_HostResetAndRelease :
    (opened.mainSupply = true ∧ opened.calm ∧ opened.hostReset = false ∧ opened.mirrors.touched = [] ∧ opened.mirrors.wholes = [])
    ∧ (let s := stepping [.prices] [.loadPrice, .card .site 0x900] { opened with
        pru := { opened.pru with loading := some { grade := 3, applied := true, stored := false } } }
      s.mainSupply = true ∧ s.calm ∧ s.hostReset = false ∧ s.pru.loading.isSome = true ∧ s.rsc.active.isSome = true)
    ∧ ({ opened with mainSupply := false } : State).mainSupply = false ∧ ({ opened with hostReset := true } : State).hostReset = true :=
  ⟨⟨rfl, calm_of rfl, rfl, rfl, rfl⟩,
    ⟨rfl, calm_if rfl (fun _ _ hl _ h => by obtain rfl := Option.some.inj hl; cases h) (.inl rfl) (both (no_gate (by decide)) (no_gate (by decide))),
      rfl, rfl, rfl⟩, rfl, rfl⟩

/-- A FRESH card of a kind and body length at 0800h. -/
def placedCard (k w : Byte) : State := { opened with xm := [(0x800, k), (0x802, 1)] ++ if w = 0 then [] else [(0x80A, w)] }

theorem witness_GoStartsAndAborts :
    ((placedCard 2 0).mainSupply = true ∧ (placedCard 2 0).hostReset = false ∧ (placedCard 2 0).calm ∧ ((placedCard 2 0).lane .dispense).st = .idle
      ∧ (placedCard 2 0).readLink 0x800 = .atEnd ∧ (placedCard 2 0).memoryOk ∧ (placedCard 2 0).half 0x804 = 0
      ∧ 0x800 + 16 ≤ (placedCard 2 0).riu.floor ∧ Kind.ofByte (Memory.read (placedCard 2 0).xm 0x800) = some .cancel)
    ∧ (given0 2 opened).lanes.dispense.st = .walking ∧ (given0 2 opened).calm
    ∧ 0x7FC < 0x800 ∧ opened.riu.floor < 0x6FF4 + 16
    ∧ ({ placedCard 2 0 with upset := [0x80F] } : State).upset = [0x80F]
    ∧ ({ opened with xm := [(0x804, 1)] } : State).half 0x804 ≠ 0
    ∧ Kind.ofByte (Memory.read (placedCard 0x99 0).xm 0x800) = none ∧ Kind.lane .nightNow ≠ .dispense
    ∧ 12 < ((placedCard 2 13).half 0x80A).toNat
    ∧ ((opened.lane .reader).st = .idle)
    ∧ (let s := given0 2 opened
      (s.lane .dispense).held.isSome = true)
    ∧ (opened.modLane .reader fun x => { x with st := .walking }).calm
    ∧ (let s := sending .awaiting 1 0
      (s.lane .reader).st = .waiting ∧ (s.lane .reader).held = some
          { offset := 0x900, card := card 0x44 127 [1, 1, 0, 0, 0, 0, 0, 0], phase := .waiting }
        ∧ s.calm ∧ s.memoryOk ∧ s.readLink 0x900 = .atEnd)
    ∧ (waiting .reader (card 0x40 0 []) (inDomain .powering opened)).calm
    ∧ (let s := waiting .site (priceCard 1) { selling .fuelling (sale 3) opened with
        pru := { opened.pru with loading := some { grade := 3, applied := false, stored := false } } }
      (s.lane .site).st = .waiting ∧ s.pru.loading = some { grade := 3, applied := false, stored := false } ∧ s.lockedOn 3 = true) :=
  ⟨⟨rfl, rfl, calm_of rfl, rfl, by decide, ⟨by decide, by decide⟩, by decide, by decide, by decide⟩, rfl, calm_of rfl, by decide, by decide, rfl,
    by decide, by decide, by decide, by decide, rfl, rfl, calm_of rfl, ⟨rfl, rfl, calm_of rfl, ⟨by decide, by decide⟩, by decide⟩, calm_of rfl, rfl,
    rfl, by decide⟩

/-- A card without body at 0900h whose link names the card at 0800h, its flags given. -/
def chained (k flags : Byte) (l : LaneId) (s : State) : State :=
  { waiting l { card k 0 [] with flags := flags } s with xm := [(0x800, 2), (0x802, 1), (0x903, 8), (0x904, 1)] }

/-- A finish with each link, the next card taken and halted at, stop requested and not, NOTE asked for; a start whose refused card names the
next; the aborts of an applied LOAD PRICE, of a NIGHT NOW that closes the site and of one that only waits, of a WAKE NOW. -/
theorem witness_GoStartsAndAborts_chain :
    (let s := given0 2 opened;
      s.memoryOk ∧ (s.lane .dispense).held.isSome = true ∧ s.readLink 0x900 = .atEnd ∧ (s.lane .dispense).stopRequested = false
        ∧ ∀ p ∈ ([] : List (Nat × Byte)), p.1 < 48)
    ∧ (let s := { given0 2 opened with upset := [0x902] }
      s.memoryOk ∧ s.readLink 0x900 = .parity)
    ∧ (let s := chained 2 1 .dispense opened
      s.memoryOk ∧ s.readLink 0x900 = .next 0x800 ∧ s.haltsAt 0x800 = none ∧ s.refusesAt .dispense 0x800 = none
        ∧ (s.lane .dispense).held.map (fun h => h.card.flags.getLsbD 0) = some true)
    ∧ (let s := { chained 2 0 .dispense opened with upset := [0x80F] }
      s.memoryOk ∧ s.readLink 0x900 = .next 0x800 ∧ s.haltsAt 0x800 = some .parity)
    ∧ (let s := (chained 2 0 .dispense opened).modLane .dispense fun x => { x with stopRequested := true }
      (s.lane .dispense).stopRequested = true)
    ∧ (let s : State := { opened with xm := [(0x900, 0x99), (0x903, 8)] }
      s.calm ∧ s.memoryOk ∧ s.haltsAt 0x900 = none ∧ s.readLink 0x900 = .next 0x800 ∧ Kind.ofByte (Memory.read s.xm 0x900) = none)
    ∧ ((loadingOf (priceShown 1 .current)).calm ∧ (loadingOf (priceShown 1 .current)).lanes.site.st = .waiting
      ∧ (loadingOf (priceShown 1 .current)).pru.loading = some { grade := 3, applied := true, stored := true }
      ∧ Kind.ofByte (priceCard 1900).kind = some .loadPrice)
    ∧ (nightAsked.mainSupply = true ∧ nightAsked.hostReset = false ∧ nightAsked.calm ∧ nightAsked.memoryOk ∧ nightAsked.lanes.site.st = .waiting
      ∧ nightAsked.readLink 0x900 = .atEnd ∧ nightAsked.ssu.closingOrigin = some .card ∧ Kind.ofByte nightCard.kind = some .nightNow)
    ∧ (nightAsked.modSsu fun u => { u with closingOrigin := some .schedule }).calm
    ∧ (wakeAsked (waking .card 2 opened)).calm ∧ Kind.ofByte wakeCard.kind = some .wakeNow :=
  ⟨⟨⟨by decide, rfl⟩, rfl, by decide, rfl, by decide⟩, ⟨⟨by decide, by decide⟩, by decide⟩, ⟨⟨by decide, rfl⟩, by decide, by decide, by decide, rfl⟩,
    ⟨⟨by decide, by decide⟩, by decide, by decide⟩, rfl, ⟨calm_of rfl, ⟨by decide, rfl⟩, by decide, by decide, by decide⟩,
    ⟨loading_calm 1 .current, rfl, rfl, by decide⟩, ⟨rfl, rfl, calm_of rfl, ⟨by decide, rfl⟩, rfl, by decide, rfl, by decide⟩, calm_of rfl,
    calm_of rfl, by decide⟩

theorem witness_HostAccesses :
    (let s := opened.raise .hostParity 5;
      s.mainSupply = true ∧ s.hostReset = false ∧ s.calm ∧ s.ntc.presented = none ∧ s.ntc.sources[(12 : Fin 13)].pending = true
        ∧ s.ntc.enable.getLsbD 12 = true ∧ (∀ j : Fin 13, j < 12 → s.ntc.sources[j].pending = false ∨ s.ntc.enable.getLsbD j.val = false)
        ∧ s.memoryOk)
    ∧ (∀ i : Fin 13, opened.ntc.sources[i].pending = false ∨ opened.ntc.enable.getLsbD i.val = false) ∧ opened.calm ∧ opened.memoryOk
    ∧ (0x0C ≤ (0x0C : Byte).toNat ∧ (0x7FF : BitVec 15).toNat < 0x800 ∧ 0x800 ≤ (0x800 : BitVec 15).toNat)
    ∧ (0x7FF : BitVec 15).toNat - (0x7FF : BitVec 15).toNat % 2 < 0x800 ∧ 0x800 ≤ (0x801 : BitVec 15).toNat - (0x801 : BitVec 15).toNat % 2
    ∧ ({ opened with hostReset := true } : State).hostReset = true
    ∧ (let s : State := { opened with ntc := { opened.ntc with presented := some Cause.hostParity.source } }
      s.mainSupply = true ∧ s.hostReset = false ∧ s.calm ∧ s.memoryOk ∧ s.ntc.sources[Cause.hostParity.source].overrun = false) :=
  ⟨⟨rfl, rfl, calm_of rfl, rfl, by decide, by decide, by decide, by decide, by decide⟩, by decide, calm_of rfl, ⟨by decide, by decide⟩, by decide, by decide,
    by decide, rfl, rfl, rfl, calm_of rfl, ⟨by decide, by decide⟩, by decide⟩

end Sys2Proof.Tests
end

section
/-! PROOFS. Lemmas about the meters: what the end of an event leaves of them, decoding (R3 to R5), counting (R7 to R9). -/
namespace Sys2Proof.Machine

variable {s t : State} {P : List Part}

/-! ## What the end of an event leaves of supply and meters -/

/-- What the end of an event can touch at all. -/
def reactParts : List Part :=
  [.memory, .parity, .lanes, .notices, .meters, .positions, .prices, .displays, .reader, .site, .store]

theorem Acts.reactAll (s : State) : Acts s s.react reactParts := Acts.react (.refl s _) (List.Subset.refl _)

@[simp] theorem State.react_mainSupply (s : State) : s.react.mainSupply = s.mainSupply :=
  ((Acts.reactAll s).frame .lines (by decide)).1

/-- Releasing claims leaves the meters counting. -/
theorem State.releaseClaims_counting (s : State) (side : Side) (b : Bool) :
    (s.releaseClaims side b).miu.counting = s.miu.counting := by
  unfold State.releaseClaims
  split
  · rfl
  · rename_i sl hs
    clear hs
    rw [State.modPos_miu]
    generalize sl.claims = cs
    induction cs generalizing s with
    | nil => rfl
    | cons c cs ih => rw [List.foldl_cons, ih]; rfl

theorem State.fallBack_counting (s : State) (side : Side) (r : StartResult) (d : Nat) :
    (s.fallBack side r d).miu.counting = s.miu.counting := by
  have h1 : Acts (s.abandonStart side) (s.fallBack side r d) [.positions, .notices] := by
    unfold State.fallBack; dsimp only; split <;> simp (maxDischargeDepth := 6)
  have h2 : Acts s (s.withdrawCheck side) [.displays] := by simp
  have e1 : (s.fallBack side r d).miu = (s.abandonStart side).miu := h1.frame .meters (by decide)
  have e2 : (s.withdrawCheck side).miu = s.miu := h2.frame .meters (by decide)
  have e3 : (s.abandonStart side).miu = ((s.withdrawCheck side).releaseClaims side true).miu := rfl
  rw [e1, e3, State.releaseClaims_counting, e2]

theorem State.gate_counting (s : State) (side : Side) : (s.gate side).miu.counting = s.miu.counting := by
  have hl (p : Nat) : (s.lockSale side p).miu = s.miu :=
    (show Acts s (s.lockSale side p) [.positions, .prices, .displays] by simp).frame .meters (by decide)
  unfold State.gate
  dsimp only
  (repeat' split) <;> simp [State.fallBack_counting, hl]

/-- The end of an event leaves the meters counting, or not counting (R23). -/
@[simp] theorem State.react_counting (s : State) : s.react.miu.counting = s.miu.counting := by
  refine State.react_induction (R := fun u => u.miu.counting = s.miu.counting) rfl (fun u hu => ?_) fun u hu => ?_
  · have h0 : u.applyPrices.miu = u.miu := (show Acts u u.applyPrices [.prices, .displays, .store] by simp).frame .meters (by decide)
    have h1 : u.examine.miu = ((u.applyPrices.gate .a).gate .b).miu := (Acts.eventEnd _).frame .meters (by decide)
    rw [h1, State.gate_counting, State.gate_counting, h0, hu]
  · have h1 : u.serveLinks.miu = u.miu := (show Acts u u.serveLinks [.prices, .displays] by simp).frame .meters (by decide)
    rw [h1, hu]

/-! ## Decoding (R3 to R5) -/

@[simp] theorem edge_none_left (new : Option Bool) : edge none new = false := rfl
@[simp] theorem edge_none_right (old : Option Bool) : edge old none = false := by cases old <;> rfl
@[simp] theorem edge_not (v : Bool) : edge (some v) (some !v) = true := by cases v <;> rfl

/-- QUADRATURE, both phases at once: a phase error (R4). -/
theorem Meter.decode_both {x : Meter} {a b : Bool} (hq : x.config.decoding = .quadrature) (ha : x.phaseA = some a)
    (hb : x.phaseB = some b) : x.decode (some !a) (some !b) = .phaseError := by
  simp [Meter.decode, hq, ha, hb]

/-- QUADRATURE, phase A alone to high: a count by phase B's level (R4). -/
theorem Meter.decode_rise {x : Meter} {b : Bool} (hq : x.config.decoding = .quadrature) (ha : x.phaseA = some false)
    (hb : x.phaseB = some b) : x.decode (some true) none = .count !b := by
  cases b <;> simp [Meter.decode, hq, ha, hb, edge]

/-- QUADRATURE, phase A alone to low (R4). -/
theorem Meter.decode_fall {x : Meter} (hq : x.config.decoding = .quadrature) (b : Option Bool) (h : edge x.phaseB b = false) :
    x.decode (some false) b = .nothing := by
  simp [Meter.decode, hq, h]

/-- QUADRATURE, phase A without an edge: nothing, whatever phase B does (R3, R4). -/
theorem Meter.decode_noEdge {x : Meter} {a : Option Bool} (hq : x.config.decoding = .quadrature) (h : edge x.phaseA a = false)
    (b : Option Bool) : x.decode a b = .nothing := by
  simp [Meter.decode, hq, h]

/-- SINGLE: phase A to high counts forward (R5). -/
theorem Meter.decode_single_rise {x : Meter} (hd : x.config.decoding = .single) (ha : x.phaseA = some false) (b : Option Bool) :
    x.decode (some true) b = .count true := by
  simp [Meter.decode, hd, ha, edge]

/-- SINGLE: every other change counts nothing (R5). -/
theorem Meter.decode_single_other {x : Meter} {a : Option Bool} (hd : x.config.decoding = .single)
    (h : x.phaseA = some false → a ≠ some true) (b : Option Bool) : x.decode a b = .nothing := by
  have : ¬ (edge x.phaseA a = true ∧ a = some true) := fun ⟨he, ha⟩ => by
    subst ha
    match hp : x.phaseA with
    | none => simp [hp] at he
    | some true => simp [hp, edge] at he
    | some false => exact h hp rfl
  simp [Meter.decode, hd, this]

/-- An instant that recognises no new level leaves the levels as they are. -/
theorem Meter.recognise_same {x : Meter} {a b : Option Bool} (h : x.recognises a b = false) : x.recognise a b = x := by
  simp only [Meter.recognises, Bool.or_eq_false_iff, Bool.and_eq_false_iff, bne_eq_false_iff_eq] at h
  have e (o p : Option Bool) (k : o.isSome = false ∨ o = p) : o.or p = p := by
    cases o with
    | none => rfl
    | some v => exact k.resolve_left (by simp)
  rw [Meter.recognise, e _ _ h.1, e _ _ h.2]

/-! ## Counting (R7 to R9) -/

/-- A meter after a count, its claim and its unclaimed flow apart. -/
structure Meter.Counted (x y : Meter) (forward : Bool) : Prop where
  lifetime : y.lifetime = x.lifetime + BitVec.ofInt 48 (signOf forward)
  tally : y.tally = x.tally + 1
  phaseA : y.phaseA = x.phaseA
  phaseB : y.phaseB = x.phaseB
  config : y.config = x.config
  faulted : y.faulted = x.faulted

theorem Meter.Counted.like {x y z : Meter} {f : Bool} (h : x.Counted y f) (k : y.like z) : x.Counted z f :=
  ⟨k.lifetime.trans h.lifetime, k.tally.trans h.tally, k.phaseA.trans h.phaseA, k.phaseB.trans h.phaseB, k.config.trans h.config,
    k.faulted.trans h.faulted⟩

/-- The sale's share of a count touches no meter but through a fall-back (R7). -/
theorem State.deliver_meter (s : State) (side : Side) (m : MeterNo) (forward : Bool) (x : MeterNo) :
    (s.meter x).like ((s.deliver side m forward).meter x) := by
  have hs (f : Sale → Sale) : (s.modSale side f).meter x = s.meter x :=
    Acts.meter_eq (P := [.positions, .prices]) (by simp) (by decide) x
  have hd (u : State) : (u.dispensed side m forward).meter x = u.meter x :=
    Acts.meter_eq (P := [.positions, .prices, .free]) (by simp) (by decide) x
  unfold State.deliver
  dsimp only
  rw [← hs fun sl => sl.count m (if forward then 1 else -1)]
  (repeat' split) <;> simp [hd, Meter.like_refl, State.fallBack_meter]

theorem State.deliver_counting (s : State) (side : Side) (m : MeterNo) (forward : Bool) :
    (s.deliver side m forward).miu.counting = s.miu.counting := by
  have hs (f : Sale → Sale) : (s.modSale side f).miu = s.miu :=
    (show Acts s (s.modSale side f) [.positions, .prices] by simp).frame .meters (by decide)
  have hd (u : State) : (u.dispensed side m forward).miu = u.miu :=
    (show Acts u (u.dispensed side m forward) [.positions, .prices, .free] by simp).frame .meters (by decide)
  unfold State.deliver
  dsimp only
  (repeat' split) <;> simp [hd, hs, State.fallBack_counting]

theorem State.meterFaultReport_meter (s : State) (side : Side) (m x : MeterNo) :
    (s.meter x).like ((s.meterFaultReport side m).meter x) := by
  have he (r : StopReason) : (s.endSale side r).meter x = s.meter x :=
    Acts.meter_eq (P := [.positions, .prices]) (by simp) (by decide) x
  unfold State.meterFaultReport
  dsimp only
  (repeat' split) <;> simp [he, Meter.like_refl, State.fallBack_meter]

theorem State.meterFaultReport_counting (s : State) (side : Side) (m : MeterNo) :
    (s.meterFaultReport side m).miu.counting = s.miu.counting := by
  have he (r : StopReason) : (s.endSale side r).miu = s.miu :=
    (show Acts s (s.endSale side r) [.positions, .prices] by simp).frame .meters (by decide)
  unfold State.meterFaultReport
  dsimp only
  (repeat' split) <;> simp [he, State.fallBack_counting]

/-- An unclaimed count moves the unclaimed and since-report counts alone (R7, R8). -/
theorem State.unclaimedCount_meter (s : State) (m : MeterNo) (forward : Bool) :
    ∃ u n, (s.unclaimedCount m forward).meter m = { s.meter m with unclaimed := u, sinceReport := n } := by
  unfold State.unclaimedCount
  dsimp only
  split <;> simp

theorem State.unclaimedCount_counting (s : State) (m : MeterNo) (forward : Bool) :
    (s.unclaimedCount m forward).miu.counting = s.miu.counting := by
  unfold State.unclaimedCount
  dsimp only
  split <;> rfl

theorem State.countMeter_counting (s : State) (m : MeterNo) (forward : Bool) :
    (s.countMeter m forward).miu.counting = s.miu.counting := by
  unfold State.countMeter
  dsimp only
  (repeat' split) <;> simp [State.deliver_counting, State.unclaimedCount_counting]

/-- A count of a counting meter, claimed or not (R7, R9). -/
theorem State.countMeter_meter (hc : s.miu.counting = true) (m : MeterNo) (forward : Bool) :
    (s.meter m).Counted ((s.countMeter m forward).meter m) forward := by
  have h0 : (s.meter m).Counted ((s.modMeter m fun x =>
      { x with lifetime := x.lifetime + BitVec.ofInt 48 (signOf forward), tally := x.tally + 1 }).meter m) forward := by
    rw [State.modMeter_meter]; exact ⟨rfl, rfl, rfl, rfl, rfl, rfl⟩
  unfold State.countMeter
  dsimp only
  rw [if_pos hc]
  split
  · exact h0.like (State.deliver_meter ..)
  · obtain ⟨u, n, e⟩ := State.unclaimedCount_meter (s.modMeter m fun x =>
      { x with lifetime := x.lifetime + BitVec.ofInt 48 (signOf forward), tally := x.tally + 1 }) m forward
    rw [e]
    exact ⟨h0.lifetime, h0.tally, h0.phaseA, h0.phaseB, h0.config, h0.faulted⟩

/-- A phase error leaves levels, counts and configuration (R6). -/
theorem State.phaseError_meter (s : State) (m : MeterNo) :
    ∃ e f, ({ s.meter m with phaseErrors := e, faulted := f } : Meter).like ((s.phaseError m).meter m) := by
  unfold State.phaseError
  dsimp only
  split
  · exact ⟨_, _, Meter.like_refl _⟩
  · split
    · exact ⟨_, _, Meter.like_refl _⟩
    · split
      · refine ⟨(s.meter m).phaseErrors + 1, true, Meter.like_trans (Eq.subst ?_ (Meter.like_refl _)) (State.meterFaultReport_meter ..)⟩
        simp
      · exact ⟨(s.meter m).phaseErrors + 1, (s.meter m).faulted, by rw [State.modMeter_meter]; exact Meter.like_refl _⟩

theorem State.phaseError_counting (s : State) (m : MeterNo) : (s.phaseError m).miu.counting = s.miu.counting := by
  unfold State.phaseError
  dsimp only
  (repeat' split) <;> simp [State.meterFaultReport_counting]

end Sys2Proof.Machine
end

section
/-! PROOFS. RECOGNITION_INSTANT and the statements about decoding (R4, R5). -/
namespace Sys2Proof.Machine

variable {s t : State} {P : List Part}

/-! ## RECOGNITION_INSTANT as an event (R3 to R5) -/

/-- An instant that recognises no new level is none (log 1). -/
theorem exec_recognition_same {m : MeterNo} {a b : Option Bool} (h : (s.meter m).recognises a b = false) :
    exec (.recognitionInstant m a b) s = .next s := by
  show execRecognitionInstant m a b s = .next s
  rw [execRecognitionInstant, eventWhen, h]; rfl

theorem exec_recognition {m : MeterNo} {a b : Option Bool} (hm : s.mainSupply = true) (h : (s.meter m).recognises a b = true) :
    exec (.recognitionInstant m a b) s = .next (publish s (s.recognition m a b).react) :=
  eventWhen_on hm h _

/-- The meter's recognised levels have taken their new values. -/
def State.recognised (s : State) (m : MeterNo) (a b : Option Bool) : State := s.modMeter m fun x => x.recognise a b

@[simp] theorem State.recognised_meter (s : State) (m : MeterNo) (a b : Option Bool) :
    (s.recognised m a b).meter m = (s.meter m).recognise a b := State.modMeter_meter ..
theorem State.recognised_meter_ne (s : State) {m x : MeterNo} (a b : Option Bool) (h : x ≠ m) :
    (s.recognised m a b).meter x = s.meter x := by rw [State.recognised, State.modMeter_meter_eq, if_neg h]

theorem Acts.recognised (s : State) (m : MeterNo) (a b : Option Bool) : Acts s (s.recognised m a b) [.meters] :=
  (Acts.refl s _).modMeter _ _ (by decide)

theorem State.recognition_nothing {m : MeterNo} {a b : Option Bool} (h : (s.meter m).decode a b = .nothing) :
    s.recognition m a b = s.recognised m a b := by simp only [State.recognition, h]; rfl
theorem State.recognition_count {m : MeterNo} {a b : Option Bool} {f : Bool} (h : (s.meter m).decode a b = .count f) :
    s.recognition m a b = (s.recognised m a b).countMeter m f := by simp only [State.recognition, h]; rfl
theorem State.recognition_phaseError {m : MeterNo} {a b : Option Bool} (h : (s.meter m).decode a b = .phaseError) :
    s.recognition m a b = (s.recognised m a b).phaseError m := by simp only [State.recognition, h]; rfl

/-- From `s` to `t` the meter has taken new levels, its lifetime count has moved by `n` and its tally by `k`; it counts on, under its
configuration. -/
structure State.Recognises (s t : State) (m : MeterNo) (a b : Option Bool) (n : BitVec 48) (k : Nat) : Prop where
  phaseA : (t.meter m).phaseA = a.or (s.meter m).phaseA
  phaseB : (t.meter m).phaseB = b.or (s.meter m).phaseB
  lifetime : (t.meter m).lifetime = (s.meter m).lifetime + n
  tally : (t.meter m).tally = (s.meter m).tally + k
  config : (t.meter m).config = (s.meter m).config
  mainSupply : t.mainSupply = s.mainSupply
  counting : t.miu.counting = s.miu.counting

/-- The end of the event adds nothing. -/
theorem State.Recognises.event {u : State} {m : MeterNo} {a b : Option Bool} {n : BitVec 48} {k : Nat}
    (h : s.Recognises u m a b n k) : s.Recognises (publish s u.react) m a b n k := by
  have hl := State.react_meter u m
  constructor
  · rw [publish_meter, hl.phaseA, h.phaseA]
  · rw [publish_meter, hl.phaseB, h.phaseB]
  · rw [publish_meter, hl.lifetime, h.lifetime]
  · rw [publish_meter, hl.tally, h.tally]
  · rw [publish_meter, hl.config, h.config]
  · rw [publish_mainSupply, State.react_mainSupply, h.mainSupply]
  · rw [publish_miu, State.react_counting, h.counting]

theorem State.recognised_recognises (s : State) (m : MeterNo) (a b : Option Bool) : s.Recognises (s.recognised m a b) m a b 0 0 := by
  constructor <;> first | rfl | simp [Meter.recognise]

theorem State.countMeter_recognises (hc : s.miu.counting = true) (m : MeterNo) (a b : Option Bool) (f : Bool) :
    s.Recognises ((s.recognised m a b).countMeter m f) m a b (BitVec.ofInt 48 (signOf f)) 1 := by
  have hl := State.countMeter_meter (s := s.recognised m a b) hc m f
  rw [State.recognised_meter] at hl
  exact ⟨hl.phaseA, hl.phaseB, hl.lifetime, hl.tally, hl.config,
    ((Acts.countMeter (.refl (s.recognised m a b) _) m f (List.Subset.refl _)).frame .lines (by decide)).1,
    State.countMeter_counting ..⟩

theorem State.phaseError_recognises (s : State) (m : MeterNo) (a b : Option Bool) :
    s.Recognises ((s.recognised m a b).phaseError m) m a b 0 0 := by
  obtain ⟨e, f, hl⟩ := State.phaseError_meter (s.recognised m a b) m
  rw [State.recognised_meter] at hl
  exact ⟨hl.phaseA, hl.phaseB, by simpa [Meter.recognise] using hl.lifetime, hl.tally, hl.config,
    ((Acts.phaseError (.refl (s.recognised m a b) _) m (List.Subset.refl _)).frame .lines (by decide)).1,
    State.phaseError_counting ..⟩

/-- An instant that is no count and no phase error moves the levels alone (R3 to R5). -/
theorem exec_recognition_nothing {m : MeterNo} {a b : Option Bool} (hm : s.mainSupply = true)
    (h : (s.meter m).decode a b = .nothing) :
    ∃ t, exec (.recognitionInstant m a b) s = .next t ∧ s.Recognises t m a b 0 0 ∧ (t.meter m).faulted = (s.meter m).faulted := by
  by_cases hr : (s.meter m).recognises a b = true
  · refine ⟨_, exec_recognition hm hr, ?_⟩
    rw [State.recognition_nothing h]
    refine ⟨(State.recognised_recognises s m a b).event, ?_⟩
    rw [publish_meter, (State.react_meter _ m).faulted, State.recognised_meter]; rfl
  · have hr' : (s.meter m).recognises a b = false := by simpa using hr
    have hs := Meter.recognise_same hr'
    exact ⟨s, exec_recognition_same hr', ⟨(congrArg Meter.phaseA hs).symm, (congrArg Meter.phaseB hs).symm, by simp, rfl, rfl, rfl, rfl⟩,
      rfl⟩

/-- A count moves lifetime and tally while the meters count (R7, R9, R23). -/
theorem exec_recognition_count {m : MeterNo} {a b : Option Bool} {f : Bool} (hm : s.mainSupply = true) (hc : s.miu.counting = true)
    (hr : (s.meter m).recognises a b = true) (h : (s.meter m).decode a b = .count f) :
    ∃ t, exec (.recognitionInstant m a b) s = .next t ∧ s.Recognises t m a b (BitVec.ofInt 48 (signOf f)) 1
      ∧ (t.meter m).faulted = (s.meter m).faulted := by
  refine ⟨_, exec_recognition hm hr, ?_⟩
  rw [State.recognition_count h]
  refine ⟨(State.countMeter_recognises hc m a b f).event, ?_⟩
  rw [publish_meter, (State.react_meter _ m).faulted, (State.countMeter_meter (s := s.recognised m a b) hc m f).faulted,
    State.recognised_meter]; rfl

/-- A phase error moves the levels and no count (R6). -/
theorem exec_recognition_phaseError {m : MeterNo} {a b : Option Bool} (hm : s.mainSupply = true)
    (hr : (s.meter m).recognises a b = true) (h : (s.meter m).decode a b = .phaseError) :
    exec (.recognitionInstant m a b) s = .next (publish s ((s.recognised m a b).phaseError m).react)
      ∧ s.Recognises (publish s ((s.recognised m a b).phaseError m).react) m a b 0 0 := by
  rw [exec_recognition hm hr, State.recognition_phaseError h]
  exact ⟨rfl, (State.phaseError_recognises s m a b).event⟩

/-- Operations on meters and notices that leave the routes let nothing go on that waits. -/
theorem Acts.calm_meters (h : Acts s t [.notices, .meters]) (hr : t.miu.routes = s.miu.routes) (hc : s.calm) : t.calm := by
  have hd : t.dlc = s.dlc := h.frame .displays (by decide)
  have hb (x : Side) : t.board x = s.board x := by simp only [State.board, hd]
  have hs : t.ssu = s.ssu := h.frame .site (by decide)
  exact h.calm hc (by decide) (by decide) (by decide) (fun x => h.pos_eq (by decide) x)
    (State.panelsStand_congr (by rw [hs]) hr (h.frame .prices (by decide)) (fun x => by rw [hb]) fun x _ => .inl (by rw [hb]))

theorem State.recognised_calm (h : s.calm) (m : MeterNo) (a b : Option Bool) : (s.recognised m a b).calm :=
  ((Acts.recognised s m a b).mono (by decide)).calm_meters rfl h

/-- An instant that is no count and no phase error, when nothing else waits: the levels, and what the boards are sent. -/
theorem recognition_nothing_frame {m : MeterNo} {a b : Option Bool} (hc : s.calm) (h : (s.meter m).decode a b = .nothing)
    (ht : exec (.recognitionInstant m a b) s = .next t) (hm : s.mainSupply = true) :
    t.meter m = { s.meter m with phaseA := a.or (s.meter m).phaseA, phaseB := b.or (s.meter m).phaseB }
      ∧ s.changesOnly t [.meters, .displays] := by
  by_cases hr : (s.meter m).recognises a b = true
  · rw [exec_recognition hm hr, State.recognition_nothing h] at ht
    obtain rfl := Host.Outcome.next.inj ht
    have hc' := State.recognised_calm hc m a b
    have ha : Acts (s.recognised m a b) (s.recognised m a b).react [.displays] := Acts.react_calm (.refl _ _) hc' (by decide)
    refine ⟨?_, changesOnly_of_acts (f := fun s => s.recognised m a b) ((Acts.recognised s m a b).mono (by decide)) hc' (by decide)⟩
    rw [publish_meter, ha.meter_eq (by decide), State.recognised_meter]; rfl
  · have hr' : (s.meter m).recognises a b = false := by simpa using hr
    rw [exec_recognition_same hr'] at ht
    obtain rfl := Host.Outcome.next.inj ht
    exact ⟨(Meter.recognise_same hr').symm, (Acts.refl s _).changesOnly⟩

/-- A cause that stands at the end of a command's effect stands at the end of its event. -/
theorem State.reports.event {u : State} {c : Cause} {d : Nat} (h : s.reports u c d) : s.reports (publish s u.react) c d :=
  Ntc.Grows.reports (t := u) (u := publish s u.react) (by rw [publish_ntc]; exact (Acts.reactAll u).notices) h

/-- An unclaimed meter that is OK reports its phase error (R6). -/
theorem State.phaseError_reports {m : MeterNo} {a b : Option Bool} (hf : (s.meter m).faulted = false) (ho : (s.meter m).owner = none) :
    s.reports ((s.recognised m a b).phaseError m) .phaseError (m.val + 1) := by
  have e : (s.recognised m a b).phaseError m = (s.recognised m a b).raise .phaseError (meterDetail m) := by
    unfold State.phaseError
    simp [Meter.recognise, hf, ho]
  rw [e]
  exact State.reports_raise (meterDetail m) rfl (Cause.bit_lt _)

/-! ## The obligations -/

theorem recognises_left {x : Meter} {v w : Bool} {b : Option Bool} (h : x.phaseA = some v) (hv : w ≠ v) :
    x.recognises (some w) b = true := by simp [Meter.recognises, h, hv]

/-- Phase A alone changes under QUADRATURE: to high it counts by phase B's level, to low it does not (R4). -/
theorem quadrature_phaseA {m : MeterNo} {a b : Bool} (hm : s.mainSupply = true) (hc : s.miu.counting = true)
    (hq : (s.meter m).config.decoding = .quadrature) (ha : (s.meter m).phaseA = some a) (hb : (s.meter m).phaseB = some b) :
    ∃ t, exec (.recognitionInstant m (some !a) none) s = .next t
      ∧ s.Recognises t m (some !a) none (if a then 0 else if b then -1 else 1) (if a then 0 else 1) := by
  cases a with
  | true =>
    obtain ⟨t, ht, hr, -⟩ := exec_recognition_nothing hm (Meter.decode_fall hq none (edge_none_right _))
    exact ⟨t, ht, hr⟩
  | false =>
    obtain ⟨t, ht, hr, -⟩ := exec_recognition_count hm hc (recognises_left ha (by decide)) (Meter.decode_rise hq ha hb)
    exact ⟨t, ht, by cases b <;> exact hr⟩

/-- Phase B alone changes under QUADRATURE: no count (R4). -/
theorem quadrature_phaseB {m : MeterNo} (b : Bool) (hm : s.mainSupply = true)
    (hq : (s.meter m).config.decoding = .quadrature) :
    ∃ t, exec (.recognitionInstant m none (some b)) s = .next t ∧ s.Recognises t m none (some b) 0 0 := by
  obtain ⟨t, ht, hr, -⟩ := exec_recognition_nothing hm (Meter.decode_noEdge hq (edge_none_right _) (some b))
  exact ⟨t, ht, hr⟩

/-- A powered, counting meter under QUADRATURE with these levels and this lifetime count. -/
structure State.InPhase (s : State) (m : MeterNo) (a b : Bool) (n : BitVec 48) : Prop where
  mainSupply : s.mainSupply = true
  counting : s.miu.counting = true
  decoding : (s.meter m).config.decoding = .quadrature
  phaseA : (s.meter m).phaseA = some a
  phaseB : (s.meter m).phaseB = some b
  lifetime : (s.meter m).lifetime = n

theorem State.InPhase.changeA {m : MeterNo} {a b : Bool} {n : BitVec 48} (h : s.InPhase m a b n) :
    ∃ t, exec (.recognitionInstant m (some !a) none) s = .next t
      ∧ t.InPhase m (!a) b (n + if a then 0 else if b then -1 else 1) := by
  obtain ⟨t, ht, hr⟩ := quadrature_phaseA h.mainSupply h.counting h.decoding h.phaseA h.phaseB
  exact ⟨t, ht, hr.mainSupply.trans h.mainSupply, hr.counting.trans h.counting, by rw [hr.config]; exact h.decoding, hr.phaseA,
    hr.phaseB.trans h.phaseB, by rw [hr.lifetime, h.lifetime]⟩

theorem State.InPhase.changeB {m : MeterNo} {a b : Bool} {n : BitVec 48} (h : s.InPhase m a b n) :
    ∃ t, exec (.recognitionInstant m none (some !b)) s = .next t ∧ t.InPhase m a (!b) n := by
  obtain ⟨t, ht, hr⟩ := quadrature_phaseB (m := m) (!b) h.mainSupply h.decoding
  exact ⟨t, ht, hr.mainSupply.trans h.mainSupply, hr.counting.trans h.counting, by rw [hr.config]; exact h.decoding,
    hr.phaseA.trans h.phaseA, hr.phaseB, by rw [hr.lifetime, h.lifetime]; simp⟩

/-- Settles O13: each row of R4's table is one of the three kinds of instant, and a cycle is a chain of four rows. -/
theorem quadratureDecoding : Obligations.QuadratureDecoding := by
  unfold Obligations.QuadratureDecoding
  refine ⟨fun s m a b hm hc hq ha hb => ⟨?_, ?_, ?_⟩, fun s m hm hc hq ha hb => ?_, fun s m a b hm hq ha hb => ?_⟩
  · obtain ⟨t, ht, hr⟩ := quadrature_phaseA hm hc hq ha hb
    exact ⟨t, ht, hr.phaseA, by rw [hr.phaseB, hb]; rfl, hr.lifetime, hr.tally⟩
  · obtain ⟨t, ht, hr⟩ := quadrature_phaseB (m := m) (!b) hm hq
    exact ⟨t, ht, by rw [hr.phaseA, ha]; rfl, hr.phaseB, by simpa using hr.lifetime, hr.tally⟩
  · obtain ⟨ht, hr⟩ := exec_recognition_phaseError hm (recognises_left ha (by cases a <;> decide)) (Meter.decode_both hq ha hb)
    exact ⟨_, ht, hr.phaseA, hr.phaseB, by simpa using hr.lifetime, hr.tally, fun hf ho => (State.phaseError_reports hf ho).event⟩
  · have h0 : s.InPhase m false false (s.meter m).lifetime := ⟨hm, hc, hq, ha, hb, rfl⟩
    constructor
    · obtain ⟨t1, e1, h1⟩ := h0.changeA
      obtain ⟨t2, e2, h2⟩ := h1.changeB
      obtain ⟨t3, e3, h3⟩ := h2.changeA
      obtain ⟨t4, e4, h4⟩ := h3.changeB
      exact ⟨t1, e1, t2, e2, t3, e3, t4, e4, by simpa using h4.lifetime, h4.phaseA, h4.phaseB⟩
    · obtain ⟨t1, e1, h1⟩ := h0.changeB
      obtain ⟨t2, e2, h2⟩ := h1.changeA
      obtain ⟨t3, e3, h3⟩ := h2.changeB
      obtain ⟨t4, e4, h4⟩ := h3.changeA
      exact ⟨t1, e1, t2, e2, t3, e3, t4, e4, by simpa using h4.lifetime, h4.phaseA, h4.phaseB⟩
  · have he : edge (s.meter m).phaseA a = false := by
      cases a with
      | none => exact edge_none_right _
      | some v => rw [ha rfl]; rfl
    have hn : (s.meter m).decode a b = .nothing := Meter.decode_noEdge hq he b
    obtain ⟨t, ht, hr, hf⟩ := exec_recognition_nothing hm hn
    exact ⟨t, ht, hr.phaseA, hr.phaseB, by simpa using hr.lifetime, hr.tally, hf, fun hc => recognition_nothing_frame hc hn ht hm⟩

theorem State.unclaimedCount_calm (hc : s.calm) (m : MeterNo) (f : Bool) : (s.unclaimedCount m f).calm := by
  refine Acts.calm_meters (Acts.unclaimedCount (.refl s _) m f (List.Subset.refl _)) ?_ hc
  unfold State.unclaimedCount; dsimp only; split <;> rfl

/-- A count of a meter without owner, the meters counting (R7). -/
theorem State.countMeter_unclaimed {m : MeterNo} (f : Bool) (hcnt : s.miu.counting = true) (ho : (s.meter m).owner = none) :
    s.countMeter m f = (s.modMeter m fun x =>
      { x with lifetime := x.lifetime + BitVec.ofInt 48 (signOf f), tally := x.tally + 1 }).unclaimedCount m f := by
  unfold State.countMeter
  rw [if_pos hcnt]
  simp [ho]

/-- An unclaimed count, when nothing else waits, leaves the phase errors. -/
theorem unclaimedCount_phaseErrors {m : MeterNo} {a b : Option Bool} (f : Bool) (hcnt : s.miu.counting = true) (hc : s.calm)
    (ho : (s.meter m).owner = none) :
    ((publish s ((s.recognised m a b).countMeter m f).react).meter m).phaseErrors = (s.meter m).phaseErrors := by
  rw [State.countMeter_unclaimed (s := s.recognised m a b) f hcnt (by simpa [Meter.recognise] using ho)]
  generalize hv : (s.recognised m a b).modMeter m _ = v
  have hvc : v.calm := hv ▸ Acts.calm_meters (s := s.recognised m a b) (Acts.modMeter (.refl _ _) _ _ (by decide)) rfl
    (State.recognised_calm hc m a b)
  have hp : (v.meter m).phaseErrors = (s.meter m).phaseErrors := by rw [← hv]; simp [Meter.recognise]
  have hr : Acts (v.unclaimedCount m f) (v.unclaimedCount m f).react [.displays] :=
    Acts.react_calm (.refl _ _) (State.unclaimedCount_calm hvc m f) (by decide)
  obtain ⟨u, n, e⟩ := State.unclaimedCount_meter v m f
  rw [publish_meter, hr.meter_eq (by decide), e, ← hp]

/-- A configuration accepted changes configuration, fault state and error count (R17). -/
theorem decideConfigureMeter_accepts {off : Nat} {c : Card} {m : MeterNo} {g : MeterConfig} (hm : c.meter = some m)
    (hw : 2 ≤ c.words.toNat) (hg : c.meterConfig = some g) (hs : s.storeClosed = false) (hcal : s.iwu.calSeal = some true)
    (ho : (s.meter m).owner = none) :
    decideConfigureMeter off c s = ((s.modMeter m fun x => { x with config := g, faulted := false, phaseErrors := 0 }).touch .meterState
      (4 * m.val)).finishOnConfig .site off := by
  have hshort : c.short .configureMeter = false := decide_eq_false (Nat.not_lt.mpr hw)
  simp [decideConfigureMeter, hm, hshort, hg, hs, hcal, ho]

/-- Settles O14. -/
theorem singleDecoding : Obligations.SingleDecoding := by
  unfold Obligations.SingleDecoding
  refine ⟨fun s m b hm hc hd ha => ?_, fun s m a b hm hd ha => ?_, ?_⟩
  · have hn := Meter.decode_single_rise hd ha b
    have hr := recognises_left (w := true) (b := b) ha (by decide)
    obtain ⟨t, ht, hr', hf⟩ := exec_recognition_count hm hc hr hn
    refine ⟨t, ht, hr'.phaseA, hr'.phaseB, hr'.lifetime, hr'.tally, hf, fun hcalm ho => ?_⟩
    rw [exec_recognition hm hr, State.recognition_count hn] at ht
    obtain rfl := Host.Outcome.next.inj ht
    exact unclaimedCount_phaseErrors true hc hcalm ho
  · have hn := Meter.decode_single_other hd ha b
    obtain ⟨t, ht, hr, hf⟩ := exec_recognition_nothing hm hn
    exact ⟨t, ht, by simpa using hr.lifetime, hr.tally, hf, fun hc => recognition_nothing_frame hc hn ht hm⟩
  · intro s off c m g hh hm hw hg hs hcal ho
    have hd := decideConfigureMeter_accepts (off := off) hm hw hg hs hcal ho
    generalize hv : (s.modMeter m _).touch _ _ = v at hd
    have ha : Acts v (v.finishOnConfig .site off) [.lanes, .store] := Acts.finishOnConfig (.refl v _) _ _ (List.Subset.refl _)
    have hl := State.react_meter (v.finishOnConfig .site off) m
    rw [ha.meter_eq (by decide), ← hv, State.touch_meter, State.modMeter_meter, hv, ← hd] at hl
    refine ⟨_, cardEvent_on hh decideConfigureMeter, ?_⟩
    rw [publish_meter]
    exact ⟨congrArg MeterConfig.decoding hl.config, hl.phaseA, hl.phaseB, hl.lifetime, hl.tally⟩

end Sys2Proof.Machine
end

section
/-! PROOFS. The meter mirror and CLEAR METER FAULT (R20, R22). -/
namespace Sys2Proof.Machine

variable {s t u : State} {P : List Part}

/-! ## The meter mirror (R22, R194) -/

/-- Merging into a mirror that showed every entry shows every entry. -/
theorem mergeEntries_mirrored (names : Nat → Bool) (i : Nat) (old new : List (List Nat)) :
    mergeEntries names i (old.map some) old new = new.map some := by
  induction new generalizing old i with
  | nil => rfl
  | cons n ns ih =>
    rw [mergeEntries, ← List.map_tail, ih, List.map_cons]
    split
    · rename_i h
      cases old with
      | nil => simp at h
      | cons o os => simp_all
    · rfl

/-- A part that showed its entries shows them after the event (R194). -/
theorem updatePart_mirrored (old new : List (List Nat)) (named : List Nat) (whole : Bool) :
    (updatePart (old.map some) old new named whole).1 = new.map some := by
  unfold updatePart
  split
  · rfl
  · split
    · rename_i h; rw [h.1]
    · exact mergeEntries_mirrored ..

/-- A part whose entries have changed is written. -/
theorem updatePart_changed {old new : List (List Nat)} (h : old ≠ new) (mirror : MirrorEntries) (named : List Nat) (whole : Bool) :
    (updatePart mirror old new named whole).2 = true := by
  unfold updatePart
  split
  · rfl
  · rw [if_neg fun k => h k.1]

theorem flag_inj {a b : Bool} (h : flag a = flag b) : a = b := by revert h; cases a <;> cases b <;> decide

/-- The meter mirror's entries tell the fault states (R22). -/
theorem faulted_of_meterImage {l k : List Meter} (h : l.flatMap meterImage = k.flatMap meterImage) :
    l.map Meter.faulted = k.map Meter.faulted := by
  induction l generalizing k with
  | nil => cases k with
    | nil => rfl
    | cons y k => simp [meterImage] at h
  | cons x l ih => cases k with
    | nil => simp [meterImage] at h
    | cons y k =>
      simp only [List.flatMap_cons, meterImage, List.cons_append, List.nil_append, List.cons.injEq] at h
      obtain ⟨-, hf, -, -, hk⟩ := h
      rw [List.map_cons, List.map_cons, ih hk, flag_inj hf.1]

/-- A meter whose fault state changes changes the meter mirror's entries (R22). -/
theorem State.meterStateImage_ne {m : MeterNo} (h : (t.meter m).faulted ≠ (s.meter m).faulted) :
    s.image .meterState ≠ t.image .meterState := by
  intro e
  have hl := congrArg (fun l : List Bool => l[m.val]?) (faulted_of_meterImage (l := s.miu.meters.toList) (k := t.miu.meters.toList) e)
  exact h (by simpa [State.meter] using hl.symm)

/-- What publishing writes into the meter mirror (R22, R194). -/
theorem publish_meterState_mirrored (h : s.mirrored .meterState) (hm : t.mirrors.settled = s.mirrors.settled) :
    (publish s t).mirrored .meterState := by
  have e : t.mirrors.settled.meterState = s.mirrors.settled.meterState := by rw [hm]
  show (State.partUpdate s t .meterState t.mirrors.meterState).1 = (t.image .meterState).map some
  rw [show t.mirrors.meterState = s.mirrors.meterState from e, show s.mirrors.meterState = (s.image .meterState).map some from h]
  exact updatePart_mirrored ..

theorem publish_genMeter (h : s.image .meterState ≠ t.image .meterState) (hm : t.mirrors.settled = s.mirrors.settled) :
    (publish s t).mirrors.genMeter = s.mirrors.genMeter + 2 := by
  have e : t.mirrors.settled.genMeter = s.mirrors.settled.genMeter := by rw [hm]
  have hu : (State.partUpdate s t .meterState t.mirrors.meterState).2 = true := updatePart_changed h ..
  show stepGeneration t.mirrors.genMeter ((State.partUpdate s t .meterState t.mirrors.meterState).2 || _) = _
  rw [hu, show t.mirrors.genMeter = s.mirrors.genMeter from e]; rfl

/-! ## CLEAR METER FAULT (R20) -/

theorem Card.meter_eq {c : Card} {m : MeterNo} (h : c.to = m.val + 1) : c.meter = some m := by
  simp [Card.meter, meterOfNumber, h]

theorem Card.meter_none {c : Card} (h : c.to < 1 ∨ 8 < c.to) : c.meter = none := by
  simp only [Card.meter, meterOfNumber, dif_neg (show ¬ (1 ≤ c.to ∧ c.to ≤ 8) by omega)]

/-- The meter's fault is cleared (R20): nothing on a meter that is OK. -/
def State.clearFault (s : State) (m : MeterNo) : State :=
  if (s.meter m).faulted then
    (s.modMeter m fun x => { x with faulted := false, phaseErrors := 0 }).touch .meterState (4 * m.val + 1)
  else s

theorem State.clearFault_ok {m : MeterNo} (h : (s.meter m).faulted = false) : s.clearFault m = s := by
  simp [State.clearFault, h]

theorem Acts.clearFault (s : State) (m : MeterNo) : Acts s (s.clearFault m) [.notices, .meters] := by
  simp (maxDischargeDepth := 6) [State.clearFault]

theorem State.clearFault_meter (s : State) (m : MeterNo) : (s.clearFault m).meter m =
    if (s.meter m).faulted then { s.meter m with faulted := false, phaseErrors := 0 } else s.meter m := by
  unfold State.clearFault
  split <;> simp

theorem State.clearFault_meter_ne (s : State) {m x : MeterNo} (h : x ≠ m) : (s.clearFault m).meter x = s.meter x := by
  unfold State.clearFault
  split
  · rw [State.touch_meter, State.modMeter_meter_eq, if_neg h]
  · rfl

theorem State.clearFault_calm (h : s.calm) (m : MeterNo) : (s.clearFault m).calm := by
  refine (Acts.clearFault s m).calm_meters ?_ h
  unfold State.clearFault; split <;> rfl

theorem decideClearMeterFault_eq {off : Nat} {c : Card} {m : MeterNo} (h : c.to = m.val + 1) :
    decideClearMeterFault off c s = (s.clearFault m).finishCard .site [] .ok := by
  simp only [decideClearMeterFault, Card.meter_eq h]; rfl

theorem decideClearMeterFault_badTarget {off : Nat} {c : Card} (h : c.to < 1 ∨ 8 < c.to) :
    decideClearMeterFault off c s = s.refuseCard .site .badTarget := by
  simp only [decideClearMeterFault, Card.meter_none h]

/-- Settles O21: the fault cleared, then a card finished; the mirror's generation steps because the fault entry changes. -/
theorem clearMeterFaultClearsTheFault : Obligations.ClearMeterFaultClearsTheFault := by
  unfold Obligations.ClearMeterFaultClearsTheFault
  intro s off c hh
  refine ⟨_, cardEvent_on hh decideClearMeterFault, fun hbad => ?_, fun m hto => ?_⟩
  · rw [decideClearMeterFault_badTarget hbad]
    refine ⟨State.endsCard_refuse hh .badTarget, fun hc => ?_⟩
    have ha : Acts s (s.refuseCard .site .badTarget).react (.displays :: cardParts) :=
      Acts.react_calm ((Acts.refuse s _ _).mono (by decide)) (State.refuseCard_calm hc _ _) (by decide)
    generalize (s.refuseCard .site .badTarget).react = u at ha
    exact ⟨ha.frame .meters (by decide), ha.frame .store (by decide)⟩
  · rw [decideClearMeterFault_eq hto]
    have hf : Acts (s.clearFault m) ((s.clearFault m).finishCard .site [] .ok) cardParts := Acts.finish _ _ _ _
    have hcalm (hc : s.calm) : ((s.clearFault m).finishCard .site [] .ok).calm := State.finishCard_calm (State.clearFault_calm hc m) _ _ _
    refine ⟨State.endsCard_finish hh (Acts.clearFault s m) (by decide) (by decide) (by decide) (fun hc => State.clearFault_calm hc m) _ _,
      ?_, fun hc => ?_⟩
    · rw [publish_meter, (State.react_meter _ m).faulted, hf.meter_eq (by decide), State.clearFault_meter]
      split
      · rfl
      · rename_i h; simpa using h
    have hr : Acts (s.clearFault m) ((s.clearFault m).finishCard .site [] .ok).react (.displays :: cardParts) :=
      Acts.react_calm (hf.mono (by decide)) (hcalm hc) (by decide)
    have hall := ((Acts.clearFault s m).mono (Q := [.memory, .parity, .lanes, .notices, .meters, .displays]) (by decide)).trans
      (hr.mono (by decide))
    generalize hu : ((s.clearFault m).finishCard .site [] .ok).react = u at *
    have hmeter : u.meter m = if (s.meter m).faulted then { s.meter m with faulted := false, phaseErrors := 0 } else s.meter m := by
      rw [hr.meter_eq (by decide), State.clearFault_meter]
    refine ⟨hmeter, fun x hx => ?_, hall.frame .store (by decide), fun hfault => ⟨?_, fun hmir => ?_⟩, fun _ => ⟨?_, fun hok => ?_⟩⟩
    · rw [publish_meter, hr.meter_eq (by decide), State.clearFault_meter_ne s hx]
    · exact publish_genMeter (State.meterStateImage_ne (m := m) (by simp [hmeter, hfault])) hall.mirrors
    · exact publish_meterState_mirrored hmir hall.mirrors
    · exact fun p hp => Part.kept_same (Part.kept_trans (hall.frame p hp) (publish_kept _ _ p))
    · rw [State.clearFault_ok hok] at hr
      exact fun p hp => Part.kept_same (Part.kept_trans ((hr.mono (Q := [.memory, .parity, .lanes, .notices, .displays]) (by decide)).frame p hp)
        (publish_kept _ _ p))

end Sys2Proof.Machine
end

section
/-! PROOFS. A sale after a count: the model's computation is the one that the statements write out (R24 to R31, R37, R40). -/
namespace Sys2Proof.Machine

variable {s t u : State} {P : List Part}

/-! ## The count -/

/-- The sale after a count, as the statements say it. -/
theorem Sale.count_eq_afterCount (x : Sale) (m : MeterNo) (d : Int) : x.count m d = x.afterCount m d := by
  have hi (a n : Nat) : decide (a ≠ n) = (a != n) := decide_not
  cases hl : x.lock with
  | none => simp only [Sale.count, Sale.recompute, Sale.afterCount, hl]; rfl
  | some l => simp only [Sale.count, Sale.recompute, Sale.afterCount, hl, hi]; rfl

/-- A count leaves of a sale what the blend check, the targets and the panels ask for. -/
theorem Sale.afterCount_keeps (x : Sale) (m : MeterNo) (d : Int) :
    (x.afterCount m d).lock = x.lock ∧ (x.afterCount m d).grade = x.grade ∧ (x.afterCount m d).held = x.held
      ∧ (x.afterCount m d).deviationStart = x.deviationStart ∧ (x.afterCount m d).flags.blend = x.flags.blend := by
  unfold Sale.afterCount
  split <;> exact ⟨rfl, rfl, rfl, rfl, rfl⟩

/-- The claims keep their meters. -/
theorem Sale.afterCount_meters (x : Sale) (m : MeterNo) (d : Int) : (x.afterCount m d).claims.map Claim.meter = x.claims.map Claim.meter := by
  have hc : (x.afterCount m d).claims = x.claims.map fun c => if c.meter = m then { c with n := c.n + d, h := max c.h (c.n + d) } else c := by
    unfold Sale.afterCount; cases x.lock <;> rfl
  rw [hc, List.map_map]
  refine List.map_congr_left fun c _ => ?_
  simp only [Function.comp]
  split <;> rfl

theorem Sale.excursion_iff (y : Sale) (m : MeterNo) (n : Nat) :
    y.excursion m n = true ↔ ∃ c ∈ y.claims, c.meter = m ∧ (n : Int) < c.h - c.n := by
  simp [Sale.excursion]

/-! ## The blend check (R37) -/

/-- Whether the blend fraction is out of tolerance, as the statements say it. -/
theorem Sale.deviates_eq (y : Sale) (b : BlendValues) :
    y.deviates b = decide (b.tolerance < ((100 * y.secondaryVolume / y.v : Nat) - (b.ratio : Int)).natAbs) := by
  unfold Sale.deviates
  dsimp only
  generalize 100 * y.secondaryVolume / y.v = f
  rw [← Bool.decide_or]
  refine decide_eq_decide.mpr ?_
  omega

theorem Sale.offBlend_eq (y : Sale) : y.offBlend =
    y.blend.bind fun b => if b.settleVolume ≤ y.v ∧ 1 ≤ y.v then some (y.deviates b) else none := by
  simp only [Sale.deviates_eq]; rfl

/-- The three outcomes of the blend check. -/
theorem Sale.blendCheck_eq (y : Sale) : y.blendCheck =
    match y.offBlend with
    | none => (y, false)
    | some false => ({ y with deviationStart := none }, false)
    | some true =>
      match y.deviationStart with
      | none => ({ y with deviationStart := some y.v, flags := { y.flags with blend := true } }, false)
      | some v => (y, decide (v + 1000 ≤ y.v)) := by
  rw [Sale.offBlend_eq]
  unfold Sale.blendCheck
  cases y.blend with
  | none => rfl
  | some b =>
    by_cases h : b.settleVolume ≤ y.v ∧ 1 ≤ y.v
    · have h' : ¬ (y.v < b.settleVolume ∨ y.v < 1) := by omega
      simp only [Option.bind_some, if_pos h, if_neg h']
      cases y.deviates b <;> cases y.deviationStart <;> rfl
    · have h' : y.v < b.settleVolume ∨ y.v < 1 := by omega
      simp only [Option.bind_some, if_neg h, if_pos h']

/-- The sale after the blend check, as the statements say it. -/
theorem Sale.blendCheck_fst {x y : Sale} (hd : y.deviationStart = x.deviationStart) (hb : y.flags.blend = x.flags.blend) :
    y.blendCheck.1 = x.blendChecked y := by
  rw [Sale.blendCheck_eq, Sale.blendChecked, ← hd, ← hb]
  obtain ⟨_, _, _, _, _, _, _, _, _, _, _, _, _, dev, ⟨_, _, _, _, _, _, _, _⟩, _, _⟩ := y
  generalize Sale.offBlend _ = o
  match o, dev with
  | none, _ => simp
  | some false, _ => simp
  | some true, none => simp
  | some true, some v => simp

/-- The blend check ends the sale for a deviation that has lasted (R37). -/
theorem Sale.blendCheck_snd (y : Sale) :
    y.blendCheck.2 = true ↔ y.offBlend = some true ∧ ∃ v, y.deviationStart = some v ∧ v + 1000 ≤ y.v := by
  rw [Sale.blendCheck_eq]
  match y.offBlend, y.deviationStart with
  | none, _ => simp
  | some false, _ => simp
  | some true, none => simp
  | some true, some v => simp

/-- The blend check leaves lock, grade, V and the accrued flags. -/
theorem Sale.blendChecked_keeps (x y : Sale) :
    (x.blendChecked y).lock = y.lock ∧ (x.blendChecked y).grade = y.grade ∧ (x.blendChecked y).v = y.v
      ∧ ∀ a : Accrued, a.gain y.flags (x.blendChecked y).flags = a :=
  ⟨rfl, rfl, rfl, fun a => by cases a; simp [Accrued.gain, Sale.blendChecked]⟩

/-! ## Targets (R34, R35) -/

theorem Sale.targetStop_iff (z : Sale) (r : StopReason) :
    z.targetStop = some r ↔ ∃ l, z.lock = some l ∧ l.vt ≤ z.v ∧ r = l.source.stop := by
  unfold Sale.targetStop
  cases z.lock with
  | none => simp
  | some l =>
    by_cases h : l.vt ≤ z.v
    · cases hs : l.source <;> simp [TargetSource.stop, h, hs, eq_comm]
    · simp [h]

theorem Sale.slowed_iff (z : Sale) : z.slowed = true ↔ ∃ l, z.lock = some l ∧ ∃ vs, l.vs = some vs ∧ vs ≤ z.v := by
  unfold Sale.slowed Lock.slowed
  cases z.lock with
  | none => simp
  | some l => cases hv : l.vs <;> simp [hv]

end Sys2Proof.Machine
end

section
/-! PROOFS. A count delivered to a claiming position (R7): the branches by its state, and what each leaves. -/
namespace Sys2Proof.Machine

variable {s t u v : State} {P : List Part}

/-! ## One of several stop reasons (log 10) -/

@[simp] theorem State.pickStop_pos (s : State) (l : List StopReason) (x : Side) : (s.pickStop l).1.pos x = s.pos x :=
  ((Acts.pickStop (.refl s _) l (by decide : Part.free ∈ [Part.free])).pos_eq (by decide) x)
theorem State.pickStop_pru (s : State) (l : List StopReason) : (s.pickStop l).1.pru = s.pru :=
  (Acts.pickStop (.refl s _) l (by decide : Part.free ∈ [Part.free])).frame .prices (by decide)

theorem State.pickStop_mem (s : State) {l : List StopReason} (h : l ≠ []) : ∃ r ∈ l, (s.pickStop l).2 = some r := by
  match l with
  | [r] => exact ⟨r, by simp, rfl⟩
  | r :: q :: rs =>
    have hlt : Config.stopChoice s.free % ((q :: rs).length + 1) < (r :: q :: rs).length := Nat.mod_lt _ (Nat.succ_pos _)
    exact ⟨_, List.getElem_mem hlt, List.getElem?_eq_getElem hlt⟩

/-! ## The sale of a side -/

theorem State.modSale_pru_eq {side : Side} {x : Sale} (h : (s.pos side).sale = some x) (f : Sale → Sale) :
    (s.modSale side f).pru = { s.pru with accrued := s.pru.accrued.gain x.flags (f x).flags } := by
  unfold State.modSale
  rw [h]; rfl

theorem State.modSale_pos_some {side : Side} {x : Sale} (h : (s.pos side).sale = some x) (f : Sale → Sale) :
    (s.modSale side f).pos side = { s.pos side with sale := some (f x) } := by rw [State.modSale_pos, h]; rfl

theorem State.reversed_eq {side : Side} {y : Sale} (h : (s.pos side).sale = some y) (m : MeterNo) :
    s.reversed side m = y.excursion m (s.meter m).config.reverseAllowance := by
  unfold State.reversed
  rw [h]

/-! ## A dispensing sale (R26, R37, R58, R60) -/

/-- The stop reasons that a count meets: the sale `y` as counted, `z` after the blend check. -/
def stopsMet (reverse lasting : Bool) (flowing : Bool) (z : Sale) : List StopReason :=
  (if reverse then [StopReason.reverse] else []) ++ (if lasting then [StopReason.blend] else [])
    ++ (if flowing then z.targetStop else none).toList

theorem mem_stopsMet {a b c : Bool} {z : Sale} {r : StopReason} :
    r ∈ stopsMet a b c z ↔ r = .reverse ∧ a = true ∨ r = .blend ∧ b = true ∨ c = true ∧ z.targetStop = some r := by
  cases a <;> cases b <;> cases c <;> simp [stopsMet]

/-- A position in FUELLING or SLOWING. -/
def PosState.flows (st : PosState) : Bool := st == .fuelling || st == .slowing

/-- The flow timer after a count (R60). -/
def Position.flowTimerAfter (p : Position) (forward : Bool) : Option Nat :=
  if forward && p.st.flows then some (p.config.noFlow * 1000) else p.flowTimer

/-- The flow timer restarted by a forward count (R60). -/
def State.restartFlow (s : State) (side : Side) (forward : Bool) : State :=
  if forward && (s.pos side).st.flows then s.modPos side fun p => { p with flowTimer := some (p.config.noFlow * 1000) } else s

/-- The end of `State.dispensed`: a stop, a slow-down or neither. -/
def State.stopOrSlow (s : State) (side : Side) (st : PosState) (stops : List StopReason) : State :=
  let c := s.pickStop stops
  match c.2 with
  | some r => c.1.endSale side r
  | none =>
    match (c.1.pos side).sale with
    | some sl => if st == .fuelling && sl.slowed then c.1.modPos side fun p => p.enter .slowing else c.1
    | none => c.1

theorem State.restartFlow_pos (s : State) (side : Side) (forward : Bool) :
    (s.restartFlow side forward).pos side = { s.pos side with flowTimer := (s.pos side).flowTimerAfter forward } := by
  unfold State.restartFlow Position.flowTimerAfter
  split <;> simp

theorem Acts.restartFlow (s : State) (side : Side) (forward : Bool) : Acts s (s.restartFlow side forward) [.positions] := by
  simp (maxDischargeDepth := 6) [State.restartFlow]

theorem State.restartFlow_pos_ne (s : State) {side x : Side} (forward : Bool) (h : x ≠ side) :
    (s.restartFlow side forward).pos x = s.pos x := by
  unfold State.restartFlow
  split <;> simp [State.modPos_pos_ne _ _ h]

theorem State.stopOrSlow_pos {side : Side} {z : Sale} (h : (s.pos side).sale = some z) (st : PosState) (stops : List StopReason) :
    (stops = [] → (s.stopOrSlow side st stops).pos side =
        if st == .fuelling && z.slowed then (s.pos side).enter .slowing else s.pos side)
      ∧ (stops ≠ [] → ∃ r ∈ stops, (s.stopOrSlow side st stops).pos side = (s.pos side).endingWith z r) := by
  refine ⟨fun he => ?_, fun hne => ?_⟩
  · subst he
    simp only [State.stopOrSlow, State.pickStop, h]
    split <;> simp
  · obtain ⟨r, hr, hp⟩ := s.pickStop_mem hne
    refine ⟨r, hr, ?_⟩
    simp only [State.stopOrSlow, hp]
    rw [State.endSale_endingWith (x := z) (by rw [State.pickStop_pos, h]), State.pickStop_pos]

theorem State.stopOrSlow_pos_ne (s : State) {side x : Side} (st : PosState) (stops : List StopReason) (h : x ≠ side) :
    (s.stopOrSlow side st stops).pos x = s.pos x := by
  unfold State.stopOrSlow
  dsimp only
  (repeat' split) <;> simp [State.endSale_pos_ne _ _ h, State.modPos_pos_ne _ _ h]

theorem State.stopOrSlow_pru (s : State) (side : Side) (st : PosState) (stops : List StopReason) :
    (s.stopOrSlow side st stops).pru = s.pru := by
  unfold State.stopOrSlow
  dsimp only
  (repeat' split) <;> simp [State.pickStop_pru]

/-- The target that the position's sale has reached while it flows (R58). -/
def Position.targetMet (p : Position) (flowing : Bool) : Option StopReason :=
  match p.sale with
  | some sl => if flowing then sl.targetStop else none
  | none => none

theorem State.dispensed_def (s : State) (side : Side) (m : MeterNo) (forward : Bool) :
    s.dispensed side m forward =
      (let u := s.restartFlow side forward
       let b := u.checkBlend side
       b.1.stopOrSlow side (s.pos side).st ((if u.reversed side m then [StopReason.reverse] else []) ++ (if b.2 then [StopReason.blend] else [])
         ++ ((b.1.pos side).targetMet (s.pos side).st.flows).toList)) := rfl

/-- What a count does to a dispensing sale: flow timer, blend check, then the end of the sale, its slow-down, or neither. -/
theorem State.dispensed_eq {side : Side} {m : MeterNo} {forward : Bool} {y : Sale} (h : (s.pos side).sale = some y) :
    s.dispensed side m forward =
      ((s.restartFlow side forward).modSale side fun x => x.blendCheck.1).stopOrSlow side (s.pos side).st
        (stopsMet (s.reversed side m) y.blendCheck.2 (s.pos side).st.flows y.blendCheck.1) := by
  have hu : ((s.restartFlow side forward).pos side).sale = some y := by rw [State.restartFlow_pos]; exact h
  have hr : (s.restartFlow side forward).reversed side m = s.reversed side m := by
    rw [State.reversed_eq hu, State.reversed_eq h, (Acts.restartFlow s side forward).meter_eq (by decide)]
  have hb : (s.restartFlow side forward).checkBlend side =
      ((s.restartFlow side forward).modSale side fun x => x.blendCheck.1, y.blendCheck.2) := by
    unfold State.checkBlend; rw [hu]
  have ht (f : Bool) : (((s.restartFlow side forward).modSale side fun x => x.blendCheck.1).pos side).targetMet f =
      if f then y.blendCheck.1.targetStop else none := by
    unfold Position.targetMet; rw [State.modSale_pos_some hu]
  rw [State.dispensed_def]
  dsimp only
  rw [hb, hr]
  dsimp only
  rw [ht]
  rfl

/-- The position of a dispensing sale after a count. -/
theorem State.dispensed_pos {side : Side} {m : MeterNo} {forward : Bool} {y : Sale} (h : (s.pos side).sale = some y) :
    let p := s.pos side
    let z := y.blendCheck.1
    let q := { p with sale := some z, flowTimer := p.flowTimerAfter forward }
    let stops := stopsMet (s.reversed side m) y.blendCheck.2 p.st.flows z
    (stops = [] → (s.dispensed side m forward).pos side = if p.st == .fuelling && z.slowed then q.enter .slowing else q)
      ∧ (stops ≠ [] → ∃ r ∈ stops, (s.dispensed side m forward).pos side = p.endingWith z r) := by
  intro p z q stops
  have hq : ((s.restartFlow side forward).modSale side fun x => x.blendCheck.1).pos side = q := by
    rw [State.modSale_pos_some (x := y) (by rw [State.restartFlow_pos]; exact h), State.restartFlow_pos]
  rw [State.dispensed_eq h]
  have hp := State.stopOrSlow_pos (z := z) (by rw [hq]) p.st stops
  rw [hq] at hp
  exact hp

theorem State.dispensed_pos_ne (s : State) {side x : Side} (m : MeterNo) (forward : Bool) (hx : x ≠ side) :
    (s.dispensed side m forward).pos x = s.pos x := by
  cases h : (s.pos side).sale with
  | none =>
    have hu : (s.restartFlow side forward).checkBlend side = (s.restartFlow side forward, false) := by
      unfold State.checkBlend; rw [State.restartFlow_pos, h]
    rw [State.dispensed_def]; dsimp only; rw [hu, State.stopOrSlow_pos_ne _ _ _ hx, State.restartFlow_pos_ne _ _ hx]
  | some y => rw [State.dispensed_eq h, State.stopOrSlow_pos_ne _ _ _ hx, State.modSale_pos_ne _ _ hx, State.restartFlow_pos_ne _ _ hx]

theorem State.dispensed_pru {side : Side} {m : MeterNo} {forward : Bool} {y : Sale} (h : (s.pos side).sale = some y) :
    (s.dispensed side m forward).pru = { s.pru with accrued := s.pru.accrued.gain y.flags y.blendCheck.1.flags } := by
  rw [State.dispensed_eq h, State.stopOrSlow_pru, State.modSale_pru_eq (x := y) (by rw [State.restartFlow_pos]; exact h),
    (Acts.restartFlow s side forward).frame .prices (by decide)]

/-! ## What goes on waiting after a count -/

/-- A position after an event that lets nothing go on: it has not newly closed nor come to the price gate, and its sale is still of the
same grade, locked or not. -/
def Position.carriesOn (p q : Position) : Prop :=
  (q.st = p.st ∨ q.st.isClosed = false ∧ q.st ≠ .starting .gate)
    ∧ q.sale.map (fun x => (x.grade, x.lock.isSome)) = p.sale.map fun x => (x.grade, x.lock.isSome)

theorem Position.carriesOn_refl (p : Position) : p.carriesOn p := ⟨.inl rfl, rfl⟩

theorem Position.carriesOn.closed {p q : Position} (h : p.carriesOn q) (hp : p.st.isClosed = false) : q.st.isClosed = false :=
  h.1.elim (fun e => by rw [e]; exact hp) And.left

/-- Whether a position's sale is locked on a grade (R83). -/
theorem State.lockedOn_eq (s : State) (g : Fin 8) : s.lockedOn g = bothSides.any fun side =>
    ((s.pos side).sale.map fun x => (x.grade, x.lock.isSome)).any fun e => e.1 == g && e.2 := by
  unfold State.lockedOn
  congr 1
  funext side
  cases (s.pos side).sale <;> rfl

/-- A count that changes of the prices the accrued flags alone, and lets its position carry on, lets nothing go on that waits. -/
theorem calm_carriesOn (h : Acts s t [.meters, .positions, .prices, .free]) (hr : t.miu.routes = s.miu.routes) {a : Accrued}
    (hg : t.pru = { s.pru with accrued := a }) (hp : ∀ side, (s.pos side).carriesOn (t.pos side)) (hc : s.calm) : t.calm := by
  have e1 : t.ssu = s.ssu := h.frame .site (by decide)
  have e2 : t.rsc = s.rsc := h.frame .store (by decide)
  have e3 : t.dlc = s.dlc := h.frame .displays (by decide)
  have eg (g : Fin 8) : t.grade g = s.grade g := by simp only [State.grade, hg]
  have eb (x : Side) : t.board x = s.board x := by simp only [State.board, e3]
  have el (g : Fin 8) : t.lockedOn g = s.lockedOn g := by
    rw [State.lockedOn_eq, State.lockedOn_eq]; simp only [(hp _).2]
  obtain ⟨hpan, hclo, hpri, hload, hstep, hgate, hst⟩ := hc
  refine ⟨?_, fun h1 h2 => ?_, fun h1 g hd => ?_, fun h1 l hl => ?_, ?_, fun side hs x hx => ?_, ?_⟩
  · unfold State.panelsWait at *; simpa only [e1, eg] using hpan
  · obtain ⟨x, hx⟩ := hclo (by rw [← e1]; exact h1) (by rw [← e1]; exact h2)
    exact ⟨x, (hp x).closed hx⟩
  · rw [el]; exact hpri (by rw [← e1]; exact h1) g (by rw [← eg]; exact hd)
  · have := hload (by rw [← e1]; exact h1) l (by rw [hg] at hl; exact hl)
    simpa only [State.updating, eg] using this
  · unfold State.stepsWait at *; rw [e2]; exact hstep
  · obtain ⟨he, hm⟩ := hp side
    have hs' : (s.pos side).st = .starting .gate := he.elim (fun e => e ▸ hs) fun k => absurd hs k.2
    rw [hx] at hm
    obtain ⟨y, hy, hyx⟩ := Option.map_eq_some_iff.mp hm.symm
    rw [eg, ← (Prod.mk.inj hyx).1]
    exact hgate side hs' y hy
  · exact fun h1 x g => by
      have hps : t.panelState g x = s.panelState g x := State.panelState_congr hr (by rw [eb]) fun k => by rw [eb]; exact ⟨.rfl, .rfl⟩
      rw [hps, eg]
      exact hst (by rw [← e1]; exact h1) x g

/-! ## The branches of a delivery (R7, R181) -/

/-- The sale has taken a count, and nothing more has come of it. -/
def State.saleCounted (s : State) (side : Side) (m : MeterNo) (forward : Bool) : State :=
  s.modSale side fun x => x.count m (signOf forward)

theorem State.deliver_def (s : State) (side : Side) (m : MeterNo) (forward : Bool) :
    s.deliver side m forward =
      (let u := s.saleCounted side m forward
       if u.powerDown then u
       else if (u.pos side).st.isStarting then (if u.reversed side m then u.fallBack side .reverse (meterDetail m) else u)
       else if (u.pos side).st.isDispensing then u.dispensed side m forward
       else u) := rfl

/-- The meter of a count, its levels taken: lifetime and tally have moved (R7, R9). -/
def State.meterCounted (s : State) (m : MeterNo) (a b : Option Bool) (f : Bool) : State :=
  (s.recognised m a b).modMeter m fun x => { x with lifetime := x.lifetime + BitVec.ofInt 48 (signOf f), tally := x.tally + 1 }

theorem State.meterCounted_meter (s : State) (m : MeterNo) (a b : Option Bool) (f : Bool) :
    (s.meterCounted m a b f).meter m = { s.meter m with
      phaseA := a.or (s.meter m).phaseA, phaseB := b.or (s.meter m).phaseB,
      lifetime := (s.meter m).lifetime + BitVec.ofInt 48 (signOf f), tally := (s.meter m).tally + 1 } := by
  rw [State.meterCounted, State.modMeter_meter, State.recognised_meter]; rfl

theorem State.meterCounted_meter_ne (s : State) {m x : MeterNo} (a b : Option Bool) (f : Bool) (h : x ≠ m) :
    (s.meterCounted m a b f).meter x = s.meter x := by
  rw [State.meterCounted, State.modMeter_meter_eq, if_neg h, State.recognised_meter_ne _ _ _ h]

theorem Acts.meterCounted (s : State) (m : MeterNo) (a b : Option Bool) (f : Bool) : Acts s (s.meterCounted m a b f) [.meters] :=
  (Acts.recognised s m a b).modMeter _ _ (by decide)

/-- A count of a claimed meter, the meters counting, is delivered to its side (R7). -/
theorem State.countMeter_claimed {m : MeterNo} {side : Side} {role : Role} (a b : Option Bool) (f : Bool) (hc : s.miu.counting = true)
    (ho : (s.meter m).owner = some (side, role)) :
    (s.recognised m a b).countMeter m f = (s.meterCounted m a b f).deliver side m f := by
  have ho' : ((s.meterCounted m a b f).meter m).owner = some (side, role) := by rw [State.meterCounted_meter]; exact ho
  unfold State.countMeter
  rw [if_pos (show (s.recognised m a b).miu.counting = true from hc)]
  change (match ((s.meterCounted m a b f).meter m).owner with
    | some (side, _) => (s.meterCounted m a b f).deliver side m f
    | none => _) = _
  rw [ho']

/-- From `s` to `w` a count of the meter has reached the side's sale, which goes on, and nothing else has come of it: `x` before, `y` after. -/
structure State.Follows (s w : State) (side : Side) (m : MeterNo) (x y : Sale) : Prop where
  acts : Acts s w [.meters, .positions, .prices, .free]
  routes : w.miu.routes = s.miu.routes
  pru : w.pru = { s.pru with accrued := s.pru.accrued.gain x.flags y.flags }
  pos_other : w.pos (other side) = s.pos (other side)
  carries : (s.pos side).carriesOn (w.pos side)
  owner : (w.meter m).owner = (s.meter m).owner
  unclaimed : (w.meter m).unclaimed = (s.meter m).unclaimed
  meter_ne : ∀ q, q ≠ m → w.meter q = s.meter q

theorem State.Follows.calm {w : State} {side : Side} {m : MeterNo} {x y : Sale} (h : s.Follows w side m x y) (hc : s.calm) : w.calm :=
  calm_carriesOn h.acts h.routes h.pru (fun q => by
    rcases eq_or_other side q with rfl | rfl
    · exact h.carries
    · rw [h.pos_other]; exact Position.carriesOn_refl _) hc

/-- The meter's count and the sale's: what a frozen sale and one in ENDING come to (R181). -/
theorem State.saleCounted_follows {side : Side} {x : Sale} (hx : (s.pos side).sale = some x) (m : MeterNo) (a b : Option Bool) (f : Bool) :
    s.Follows ((s.meterCounted m a b f).saleCounted side m f) side m x (x.afterCount m (signOf f))
      ∧ ((s.meterCounted m a b f).saleCounted side m f).pos side = { s.pos side with sale := some (x.afterCount m (signOf f)) } := by
  have hx' : ((s.meterCounted m a b f).pos side).sale = some x := hx
  have ha : Acts (s.meterCounted m a b f) ((s.meterCounted m a b f).saleCounted side m f) [.positions, .prices] :=
    Acts.modSale (.refl _ _) _ _ (List.Subset.refl _)
  have hp : ((s.meterCounted m a b f).saleCounted side m f).pos side = { s.pos side with sale := some (x.afterCount m (signOf f)) } := by
    rw [State.saleCounted, State.modSale_pos_some hx', Sale.count_eq_afterCount]; rfl
  have hmiu : ((s.meterCounted m a b f).saleCounted side m f).miu = (s.meterCounted m a b f).miu := ha.frame .meters (by decide)
  obtain ⟨hl, hg, -⟩ := x.afterCount_keeps m (signOf f)
  refine ⟨⟨((Acts.meterCounted s m a b f).mono (by decide)).trans (ha.mono (by decide)), by rw [hmiu]; rfl, ?_, ?_, ?_, ?_, ?_,
    fun q hq => ?_⟩, hp⟩
  · rw [State.saleCounted, State.modSale_pru_eq hx', Sale.count_eq_afterCount]; rfl
  · rw [State.saleCounted, State.modSale_pos_ne _ _ (other_ne side)]; rfl
  · rw [hp]; exact ⟨.inl rfl, by simp [hx, hl, hg]⟩
  · rw [ha.meter_eq (by decide), State.meterCounted_meter]
  · rw [ha.meter_eq (by decide), State.meterCounted_meter]
  · rw [ha.meter_eq (by decide), State.meterCounted_meter_ne _ _ _ _ hq]

/-- What follows a count of a dispensing sale lets nothing else go on. -/
theorem State.Follows.dispensed {u : State} {side : Side} {m : MeterNo} {x y : Sale} (h : s.Follows u side m x y)
    (hy : (u.pos side).sale = some y) (f : Bool) : s.Follows (u.dispensed side m f) side m x y := by
  have ha : Acts u (u.dispensed side m f) [.positions, .prices, .free] := Acts.dispensed (.refl _ _) _ _ _ (List.Subset.refl _)
  have hm : (u.dispensed side m f).miu = u.miu := ha.frame .meters (by decide)
  have hz := Sale.blendCheck_fst (x := y) (y := y) rfl rfl
  obtain ⟨hl, hg, -, hacc⟩ := y.blendChecked_keeps y
  refine ⟨h.acts.trans (ha.mono (by decide)), by rw [hm, h.routes], ?_, ?_, ?_, ?_, ?_, fun q hq => ?_⟩
  · rw [State.dispensed_pru hy, hz, hacc]; exact h.pru
  · rw [State.dispensed_pos_ne _ _ _ (other_ne side), h.pos_other]
  · obtain ⟨h0, h1⟩ := State.dispensed_pos (m := m) (forward := f) hy
    obtain ⟨hst, hsale⟩ := h.carries
    rw [hy] at hsale
    by_cases he : stopsMet (u.reversed side m) y.blendCheck.2 (u.pos side).st.flows y.blendCheck.1 = []
    · rw [h0 he, hz]
      split
      · exact ⟨.inr ⟨rfl, by simp [Position.enter]⟩, by rw [← hsale]; simp [Position.enter, hl, hg]⟩
      · exact ⟨hst, by rw [← hsale]; simp [hl, hg]⟩
    · obtain ⟨r, -, e⟩ := h1 he
      rw [e, hz]
      exact ⟨.inr ⟨rfl, by simp [Position.endingWith, Position.enter]⟩, by rw [← hsale]; simp [Position.endingWith, hl, hg]⟩
  · rw [ha.meter_eq (by decide), h.owner]
  · rw [ha.meter_eq (by decide), h.unclaimed]
  · rw [ha.meter_eq (by decide), h.meter_ne q hq]

end Sys2Proof.Machine
end

section
/-! PROOFS. The end of an event after a start has fallen back: what was locked on its grade may be applied and a closing may go on, but the
other side's start goes on waiting at its gate (R52, R81, R83, R161). -/
namespace Sys2Proof.Machine

variable {s t u v w : State} {P : List Part}

/-! ## No grade field turns FAULT -/

/-- Every grade field in FAULT was so before. -/
def State.noNewFaults (s t : State) : Prop :=
  ∀ side h, ((t.board side).field (.grade h)).st = .fault → ((s.board side).field (.grade h)).st = .fault

theorem State.noNewFaults_refl (s : State) : s.noNewFaults s := fun _ _ => id

/-- A change of one board's grade fields that turns none FAULT. -/
theorem State.modBoard_noNewFaults (s : State) (side : Side) {f : Board → Board}
    (h : ∀ b n, ((f b).field (.grade n)).st = .fault → (b.field (.grade n)).st = .fault) : s.noNewFaults (s.modBoard side f) := by
  intro x n hx
  rw [State.modBoard_board_eq] at hx
  split at hx
  · subst_vars; exact h _ _ hx
  · exact hx

theorem Board.modField_noFault {b : Board} {k : FieldId} {f : FieldRec → FieldRec} (h : ∀ r, (f r).st = .fault → r.st = .fault) (n : HoseNo) :
    ((b.modField k f).field (.grade n)).st = .fault → (b.field (.grade n)).st = .fault := by
  by_cases e : FieldId.grade n = k
  · subst e
    simp only [Board.field, Board.modField, Fields.get_set_same]
    exact h _
  · simp only [Board.field, Board.modField, Fields.get_set_ne _ e]
    exact id

theorem FieldRec.post_noFault (r : FieldRec) (c : Content) (n : Nat) (b : Bool) : (r.post c n b).st ≠ .fault := by
  unfold FieldRec.post
  dsimp only
  split <;> simp

theorem State.postGrade_noNewFaults (s : State) (side : Side) (h : HoseNo) : s.noNewFaults (s.postGrade side h) := by
  unfold State.postGrade
  split
  · exact State.modBoard_noNewFaults s side fun b n =>
      Board.modField_noFault (f := fun r => { r with heldPost := true }) (fun _ hr => hr) n
  · exact State.modBoard_noNewFaults s side fun b n =>
      Board.modField_noFault (fun r hr => absurd hr (FieldRec.post_noFault r _ _ _)) n

theorem State.serve_noNewFaults (s : State) (side : Side) : s.noNewFaults (s.serve side) := by
  intro x n hx
  rcases (s.serve_fields side x).2 (.grade n) with e | ⟨-, -, e⟩
  · rw [← e]; exact hx
  · rw [e] at hx; cases hx

/-! ## A panel that a start waits for (R81) -/

/-- The grade has a price, and its panel on the side is UPDATING, not blocked, and no member of it is in FAULT. -/
structure State.PanelUpdates (s : State) (g : Fin 8) (side : Side) : Prop where
  price : (s.grade g).price.isSome = true
  state : ((s.grade g).panels.get side).state = .updating
  blocked : ((s.grade g).panels.get side).blocked = false
  noFault : ∀ h ∈ s.members g side, ((s.board side).field (.grade h)).st ≠ .fault

theorem State.members_congr (hr : t.miu.routes = s.miu.routes) (g : Fin 8) (side : Side) : t.members g side = s.members g side := by
  simp only [State.members, State.route, hr]

/-- Such a panel stays so where the routes, the grades and the faults stay. -/
theorem State.PanelUpdates.congr {g : Fin 8} {side : Side} (h : s.PanelUpdates g side) (hr : t.miu.routes = s.miu.routes)
    (hg : t.grade g = s.grade g) (hf : s.noNewFaults t) : t.PanelUpdates g side :=
  ⟨by rw [hg]; exact h.price, by rw [hg]; exact h.state, by rw [hg]; exact h.blocked,
    fun n hn e => h.noFault n (by rw [← State.members_congr hr]; exact hn) (hf side n e)⟩

/-- A change of a panel that keeps UPDATING and the blocked flag. -/
theorem State.PanelUpdates.modPanel {g k : Fin 8} {side x : Side} {f : Panel → Panel} (h : s.PanelUpdates g side)
    (hf : ∀ p : Panel, k = g → x = side → p.state = .updating → p.blocked = false → (f p).state = .updating ∧ (f p).blocked = false) :
    (s.modPanel k x f).PanelUpdates g side := by
  have hgr : (s.modPanel k x f).grade g =
      if g = k then { s.grade k with panels := (s.grade k).panels.set x (f ((s.grade k).panels.get x)) } else s.grade g :=
    State.modGrade_grade_eq ..
  by_cases e : g = k
  · subst e
    rw [if_pos rfl] at hgr
    by_cases ex : side = x
    · subst ex
      obtain ⟨h1, h2⟩ := hf _ rfl rfl h.state h.blocked
      exact ⟨by rw [hgr]; exact h.price, by rw [hgr]; simpa using h1, by rw [hgr]; simpa using h2, h.noFault⟩
    · have hs : ((s.grade g).panels.set x (f ((s.grade g).panels.get x))).get side = (s.grade g).panels.get side := by
        rw [Sides.get_set, if_neg ex]
      exact ⟨by rw [hgr]; exact h.price, by rw [hgr, hs]; exact h.state, by rw [hgr, hs]; exact h.blocked, h.noFault⟩
  · rw [if_neg e] at hgr
    exact ⟨by rw [hgr]; exact h.price, by rw [hgr]; exact h.state, by rw [hgr]; exact h.blocked, h.noFault⟩

theorem State.PanelUpdates.postGrade {g : Fin 8} {side : Side} (h : s.PanelUpdates g side) (x : Side) (n : HoseNo) :
    (s.postGrade x n).PanelUpdates g side := by
  have ha : Acts s (s.postGrade x n) [.displays] := by simp
  have hm : (s.postGrade x n).miu = s.miu := ha.frame .meters (by decide)
  have hp : (s.postGrade x n).pru = s.pru := ha.frame .prices (by decide)
  exact h.congr (by rw [hm]) (by simp only [State.grade, hp]) (s.postGrade_noNewFaults x n)

/-- A posting of R80 leaves a panel that is UPDATING so. -/
theorem State.PanelUpdates.postPanels {g : Fin 8} {side : Side} (h : s.PanelUpdates g side) (k : Fin 8) :
    (s.postPanels k).PanelUpdates g side := by
  unfold State.postPanels
  generalize bothSides = l
  induction l generalizing s with
  | nil => exact h
  | cons x l ih =>
    rw [List.foldl_cons]
    refine ih (State.PanelUpdates.modPanel ?_ fun p _ _ hp hb => ?_)
    · generalize s.members k x = ms
      induction ms generalizing s with
      | nil => exact h
      | cons n ms ihm => exact ihm (h.postGrade x n)
    · rw [Panel.post_used p _ (by rw [hp]; decide)]; exact ⟨rfl, hb⟩

/-- The steps of an apply: the price, the postings, the store step that it asks for, the LOAD PRICE card's note of it (R84, R87). -/
theorem State.applyPrice_steps (s : State) (k : Fin 8) (p : Nat) (c : RoundCode) :
    ∃ (q : List Requester) (f : Option LoadPrice → Option LoadPrice), (∀ r ∈ q, r = .loadPrice)
      ∧ s.applyPrice k p c = ((((s.modGrade k fun e => { e with price := some p, code := c, pending := none }).postPanels k).requestStep
          [.prices] q).modPru fun u => { u with loading := f u.loading }).touch .price k.val := by
  refine ⟨_, _, fun r hr => ?_, rfl⟩
  split at hr
  · exact List.mem_singleton.mp hr
  · cases hr

/-- A price applied, of the grade or another, leaves the panel UPDATING (R84). -/
theorem State.PanelUpdates.applyPrice {g : Fin 8} {side : Side} (h : s.PanelUpdates g side) (k : Fin 8) (p : Nat) (c : RoundCode) :
    (s.applyPrice k p c).PanelUpdates g side := by
  have h0 : (s.modGrade k fun e => { e with price := some p, code := c, pending := none }).PanelUpdates g side := by
    have hgr := State.modGrade_grade_eq s k g fun e => { e with price := some p, code := c, pending := none }
    by_cases e : g = k
    · subst e
      rw [if_pos rfl] at hgr
      exact ⟨by rw [hgr]; rfl, by rw [hgr]; exact h.state, by rw [hgr]; exact h.blocked, h.noFault⟩
    · rw [if_neg e] at hgr
      exact h.congr rfl hgr (State.noNewFaults_refl s)
  obtain ⟨q, f, -, e⟩ := s.applyPrice_steps k p c
  rw [e]
  have h1 := h0.postPanels k
  generalize (s.modGrade k _).postPanels k = v at h1
  have ha : Acts v (v.requestStep [.prices] q) [.store] := by simp
  have hm : (v.requestStep [.prices] q).miu = v.miu := ha.frame .meters (by decide)
  have hp : (v.requestStep [.prices] q).pru = v.pru := ha.frame .prices (by decide)
  have hd : (v.requestStep [.prices] q).dlc = v.dlc := ha.frame .displays (by decide)
  have h2 : (v.requestStep [.prices] q).PanelUpdates g side :=
    h1.congr (by rw [hm]) (by simp only [State.grade, hp]) fun x n e => by simpa only [State.board, hd] using e
  exact h2.congr rfl rfl (State.noNewFaults_refl _)

theorem State.postPanels_accrued (s : State) (k : Fin 8) : (s.postPanels k).pru.accrued = s.pru.accrued := by
  have hg (v : State) (x : Side) (n : HoseNo) : (v.postGrade x n).pru = v.pru :=
    (show Acts v (v.postGrade x n) [.displays] by simp).frame .prices (by decide)
  unfold State.postPanels
  generalize bothSides = l
  induction l generalizing s with
  | nil => rfl
  | cons x l ih =>
    rw [List.foldl_cons, ih]
    show (List.foldl _ s (s.members k x)).pru.accrued = _
    generalize s.members k x = ms
    induction ms generalizing s with
    | nil => rfl
    | cons n ms ihm => rw [List.foldl_cons, ihm, hg]

theorem State.applyPrice_accrued (s : State) (k : Fin 8) (p : Nat) (c : RoundCode) :
    (s.applyPrice k p c).pru.accrued = s.pru.accrued := by
  have hq (v : State) (q : List Requester) : (v.requestStep [.prices] q).pru = v.pru :=
    (show Acts v (v.requestStep [.prices] q) [.store] by simp).frame .prices (by decide)
  obtain ⟨q, f, -, e⟩ := s.applyPrice_steps k p c
  rw [e, State.touch_pru, State.modPru_pru, hq, State.postPanels_accrued]
  rfl

/-- The report of a field that has turned WRITING leaves the panel UPDATING (R79). -/
theorem State.PanelUpdates.refreshPanel {g : Fin 8} {side : Side} (h : s.PanelUpdates g side) (x : Side) (k : Fin 8)
    (hw : k = g → x = side → ∃ n ∈ s.members g side, ((s.board side).field (.grade n)).st ≠ .current) :
    (s.refreshPanel x k).PanelUpdates g side := by
  refine h.modPanel fun p hk hx hp hb => ?_
  obtain ⟨n, hn, hc⟩ := hw hk hx
  subst hk; subst hx
  have e : s.panelState k x = .updating := by
    unfold State.panelState
    dsimp only
    have h1 : (s.members k x).isEmpty = false := by
      cases hms : s.members k x with
      | nil => rw [hms] at hn; cases hn
      | cons _ _ => rfl
    have h2 : ((s.members k x).any fun n => ((s.board x).field (.grade n)).st == .fault) = false := by
      simpa [List.any_eq_false] using h.noFault
    have h3 : ((s.members k x).any fun n => ((s.board x).field (.grade n)).st != .current) = true :=
      List.any_eq_true.mpr ⟨n, hn, by simpa using hc⟩
    simp [h1, h2, h3]
  rw [e]
  exact ⟨rfl, hb⟩

/-- Serving a link leaves a panel that is UPDATING so: the field it reports has turned WRITING (R79, R98). -/
theorem State.PanelUpdates.serveLink {g : Fin 8} {side : Side} (h : s.PanelUpdates g side) (x : Side) :
    (s.serveLink x).PanelUpdates g side := by
  have ha : Acts s (s.serve x) [.displays] := by simp
  have hm : (s.serve x).miu = s.miu := ha.frame .meters (by decide)
  have hp : (s.serve x).pru = s.pru := ha.frame .prices (by decide)
  have h0 : (s.serve x).PanelUpdates g side := h.congr (by rw [hm]) (by simp only [State.grade, hp]) (s.serve_noNewFaults x)
  have hw (n : HoseNo) (hne : ((s.board side).field (.grade n)).st ≠ (((s.serve x).board side).field (.grade n)).st) :
      (((s.serve x).board side).field (.grade n)).st ≠ .current := by
    rcases (s.serve_fields x side).2 (.grade n) with e | ⟨-, -, e⟩
    · exact absurd e.symm hne
    · rw [e]; decide
  unfold State.serveLink State.reportFields
  generalize List.finRange 8 = l
  generalize s.serve x = v at h0 hw
  -- the reports change panels alone, so that each of them sees the fields as the served link left them
  suffices H : ∀ u : State, u.PanelUpdates g side → u.dlc = v.dlc → (l.foldl (fun u k =>
      if (u.members k x).any fun n => ((s.board x).fields.get (.grade n)).st != ((u.board x).field (.grade n)).st then u.refreshPanel x k
      else u) u).PanelUpdates g side from H v h0 rfl
  induction l with
  | nil => exact fun u hu _ => hu
  | cons k l ih =>
    intro u hu hd
    rw [List.foldl_cons]
    split
    · rename_i hany
      refine ih _ (hu.refreshPanel x k fun hk hx => ?_) hd
      subst hk; subst hx
      obtain ⟨n, hn, hne⟩ := List.any_eq_true.mp hany
      have hb : u.board x = v.board x := by simp only [State.board, hd]
      rw [hb] at hne ⊢
      exact ⟨n, hn, hw n (by simpa [Board.field] using hne)⟩
    · exact ih _ hu hd

/-! ## The end of an event that changes no price -/

/-- Meters, positions and prices stand, the LOAD PRICE card apart, and so do the grade fields. -/
structure State.PricesLike (s t : State) : Prop where
  miu : t.miu = s.miu
  psc : t.psc = s.psc
  pru : ∃ l, t.pru = { s.pru with loading := l }
  boards : ∀ x, (s.board x).gradesLike (t.board x)

theorem State.PricesLike.trans (h : s.PricesLike t) (k : t.PricesLike u) : s.PricesLike u := by
  obtain ⟨_, h3⟩ := h.pru
  obtain ⟨l, k3⟩ := k.pru
  exact ⟨k.miu.trans h.miu, k.psc.trans h.psc, ⟨l, by rw [k3, h3]⟩, fun x => (h.boards x).trans (k.boards x)⟩

/-- Operations on meters, positions, prices and displays apart. -/
theorem Acts.pricesLike (h : Acts s t [.memory, .parity, .lanes, .notices, .inputs, .reader, .site, .store, .free]) : s.PricesLike t := by
  have hd : t.dlc = s.dlc := h.frame .displays (by decide)
  exact ⟨h.frame .meters (by decide), h.frame .positions (by decide), ⟨s.pru.loading, h.frame .prices (by decide)⟩,
    fun x => by simp only [State.board, hd]; exact ⟨rfl, fun _ => rfl⟩⟩

theorem State.PricesLike.panelUpdates {g : Fin 8} {side : Side} (h : s.PricesLike t) (hp : s.PanelUpdates g side) : t.PanelUpdates g side := by
  obtain ⟨l, hl⟩ := h.pru
  exact hp.congr (by rw [h.miu]) (by simp only [State.grade, hl]) fun x n e => by rw [← (h.boards x).2 n]; exact e

theorem State.PricesLike.pos (h : s.PricesLike t) (x : Side) : t.pos x = s.pos x := by simp only [State.pos, h.psc]

theorem State.setPace_pricesLike (s : State) (side : Side) : s.PricesLike (s.setPace side) := by
  refine ⟨rfl, rfl, ⟨_, rfl⟩, fun x => ?_⟩
  unfold State.setPace
  rw [State.modBoard_board_eq]
  split
  · subst_vars; exact ⟨rfl, fun _ => rfl⟩
  · exact ⟨rfl, fun _ => rfl⟩

theorem State.finishLoad_pricesLike (s : State) : s.PricesLike s.finishLoad := by
  have h0 : s.PricesLike (s.modPru fun u => { u with loading := none }) := ⟨rfl, rfl, ⟨_, rfl⟩, fun _ => ⟨rfl, fun _ => rfl⟩⟩
  have hs : s.PricesLike s := ⟨rfl, rfl, ⟨_, rfl⟩, fun _ => ⟨rfl, fun _ => rfl⟩⟩
  unfold State.finishLoad
  split
  · exact hs
  · split
    · exact h0.trans (Acts.pricesLike (by simp (maxDischargeDepth := 6)))
    · exact hs

theorem State.sendAll_pricesLike (s : State) : s.PricesLike s.sendAll := by
  have ha : Acts s s.sendAll [.displays] := by simp
  exact ⟨ha.frame .meters (by decide), ha.frame .positions (by decide), ⟨_, ha.frame .prices (by decide)⟩, s.sendAll_gradesLike⟩

theorem State.enterNight_pricesLike (s : State) : s.PricesLike s.enterNight := by
  unfold State.enterNight
  split
  · dsimp only
    generalize hv : s.readerToOff.endWaiting .readerOn [] .closed = v
    have h1 : s.PricesLike v := hv ▸ Acts.pricesLike (by simp (maxDischargeDepth := 6))
    have h2 : v.PricesLike (v.setSite .night) :=
      (Acts.pricesLike (t := v.modSsu fun u => { u with site := .night }) (by simp)).trans
        ((State.setPace_pricesLike _ .a).trans (State.setPace_pricesLike _ .b))
    exact h1.trans (h2.trans (Acts.pricesLike (by simp (maxDischargeDepth := 6))))
  · exact Acts.pricesLike (.refl _ _)

/-! ## The store's queue at the end of an event -/

/-- The requesters that the end of an event may itself put into the queue: an apply's and a night entry's (R84, R161). -/
def Requester.isLate : Requester → Bool
  | .loadPrice | .nightReader | .nightMeters => true
  | _ => false

/-- No step can begin but those that answer requesters of a kind alone. -/
def State.queueOnly (s : State) (p : Requester → Bool) : Prop :=
  s.rsc.active.isSome = true ∨ s.rsc.check = .running ∨ ∀ st ∈ s.rsc.queue, ∀ q ∈ st.requesters, p q = true

theorem State.stepsWait.queueOnly (h : s.stepsWait) (p : Requester → Bool) : s.queueOnly p := by
  rcases h with h | h | h
  · exact .inr (.inr (by simp [h]))
  · exact .inl h
  · exact .inr (.inl h)

theorem State.queueOnly_congr {p : Requester → Bool} (h : t.rsc = s.rsc) (hq : s.queueOnly p) : t.queueOnly p := by
  unfold State.queueOnly; rw [h]; exact hq

theorem joinQueue_only {p : Requester → Bool} {rs : List RecordId} {who : List Requester} {l : List StoreStep}
    (hw : ∀ q ∈ who, p q = true) (h : ∀ st ∈ l, ∀ q ∈ st.requesters, p q = true) :
    ∀ st ∈ joinQueue rs who l, ∀ q ∈ st.requesters, p q = true := by
  induction l with
  | nil => simpa [joinQueue] using hw
  | cons x l ih =>
    have hx := h x (List.mem_cons_self ..)
    have hl := fun st hst => h st (List.mem_cons_of_mem x hst)
    unfold joinQueue
    split
    · intro st hst q hq
      rcases List.mem_cons.mp hst with rfl | hst
      · exact (List.mem_append.mp hq).elim (hx q) (hw q)
      · exact hl st hst q hq
    · intro st hst q hq
      rcases List.mem_cons.mp hst with rfl | hst
      · exact hx q hq
      · exact ih hl st hst q hq

theorem State.requestStep_queueOnly {p : Requester → Bool} (rs : List RecordId) {who : List Requester} (hw : ∀ q ∈ who, p q = true)
    (h : s.queueOnly p) : (s.requestStep rs who).queueOnly p := by
  unfold State.requestStep
  split
  · exact h
  · rcases h with h | h | h
    · exact .inl h
    · exact .inr (.inl h)
    · exact .inr (.inr (joinQueue_only hw h))

/-- A step that begins is in progress, or its requesters are answered at once. -/
theorem State.beginStep_queueOnly {p : Requester → Bool} (hb : s.rsc.canBegin = true) (h : s.queueOnly p) :
    s.beginStep.1.queueOnly p ∧ ∀ q ∈ s.beginStep.2, p q = true := by
  simp only [Rsc.canBegin, Bool.and_eq_true, Option.isNone_iff_eq_none, bne_iff_ne] at hb
  have hq : ∀ st ∈ s.rsc.queue, ∀ q ∈ st.requesters, p q = true := by
    rcases h with h | h | h
    · simp [hb.1.1] at h
    · exact absurd h hb.2
    · exact h
  unfold State.beginStep
  split
  · exact ⟨h, by simp⟩
  · rename_i st l hl
    rw [hl] at hq
    split
    · exact ⟨.inl rfl, by simp⟩
    · split
      · exact ⟨.inr (.inr fun st hst => hq st (List.mem_cons_of_mem _ hst)), hq st (List.mem_cons_self ..)⟩
      · exact ⟨.inl rfl, by simp⟩

/-- What every beginning of a step and every answer to a requester of the kind keeps, the store's run keeps. -/
theorem State.runStore_induction {p : Requester → Bool} {R : State → Prop} (n : Nat) (hs : R s) (hq : s.queueOnly p)
    (hb : ∀ u, R u → R u.beginStep.1) (ha : ∀ u q, p q = true → R u → R (u.answer q))
    (hk : ∀ (u : State) q, p q = true → u.queueOnly p → (u.answer q).queueOnly p) :
    R (State.runStore n s) ∧ (State.runStore n s).queueOnly p := by
  have hall (qs : List Requester) (u : State) (hp : ∀ q ∈ qs, p q = true) (hu : R u) (hq : u.queueOnly p) :
      R (u.answerAll qs) ∧ (u.answerAll qs).queueOnly p := by
    induction qs generalizing u with
    | nil => exact ⟨hu, hq⟩
    | cons q qs ih =>
      have hp' := hp q (List.mem_cons_self ..)
      exact ih _ (fun r hr => hp r (List.mem_cons_of_mem _ hr)) (ha u q hp' hu) (hk u q hp' hq)
  induction n generalizing s with
  | zero => exact ⟨hs, hq⟩
  | succ n ih =>
    unfold State.runStore
    split
    · rename_i hc
      obtain ⟨h1, h2⟩ := State.beginStep_queueOnly hc hq
      obtain ⟨h3, h4⟩ := hall _ _ h2 (hb s hs) h1
      exact ih h3 h4
    · exact ⟨hs, hq⟩

theorem State.answer_queueOnly {p : Requester → Bool} (hn : p .nightMeters = true) (hp : ∀ q, p q = true → q.isLate = true) (u : State)
    (q : Requester) (hq : p q = true) (h : u.queueOnly p) : (u.answer q).queueOnly p := by
  have hl := hp q hq
  cases q <;> simp only [Requester.isLate, Bool.false_eq_true] at hl
  case loadPrice =>
    have ha : Acts (u.modPru fun u => { u with loading := u.loading.map fun (l : LoadPrice) => { l with stored := true } }) (u.answer .loadPrice)
        [.memory, .parity, .lanes, .notices, .prices] := Acts.finishLoad (.refl _ _) (List.Subset.refl _)
    have e : (u.answer .loadPrice).rsc = u.rsc := ha.frame .store (by decide)
    exact State.queueOnly_congr e h
  case nightReader =>
    show u.nightReaderDone.queueOnly p
    unfold State.nightReaderDone
    split
    · exact State.requestStep_queueOnly _ (by simpa using hn) h
    · exact h
  case nightMeters =>
    have e : u.enterNight.rsc = u.rsc :=
      (show Acts u u.enterNight [.memory, .parity, .lanes, .notices, .displays, .reader, .site] by simp).frame .store (by decide)
    exact State.queueOnly_congr e h

theorem State.answer_pricesLike (u : State) {q : Requester} (hl : q.isLate = true) : u.PricesLike (u.answer q) := by
  cases q <;> simp only [Requester.isLate, Bool.false_eq_true] at hl
  case loadPrice =>
    have h0 : u.PricesLike (u.modPru fun u => { u with loading := u.loading.map fun (l : LoadPrice) => { l with stored := true } }) :=
      ⟨rfl, rfl, ⟨_, rfl⟩, fun _ => ⟨rfl, fun _ => rfl⟩⟩
    exact h0.trans (State.finishLoad_pricesLike _)
  case nightReader => exact Acts.pricesLike (t := u.nightReaderDone) (by simp)
  case nightMeters => exact u.enterNight_pricesLike

theorem State.examinePositions_queueOnly {p : Requester → Bool} (hn : p .nightReader = true) (h : s.queueOnly p) :
    s.examinePositions.queueOnly p := by
  unfold State.examinePositions
  split
  · generalize hu : s.modSsu (fun u => { u with closingPhase := some .readerDown }) = u
    have h0 : u.queueOnly p := State.queueOnly_congr (by rw [← hu]; rfl) h
    have h1 : (u.readerToOff.endWaiting .readerOn [] .closed).queueOnly p := by
      have ha : Acts u (u.readerToOff.endWaiting .readerOn [] .closed) [.memory, .parity, .lanes, .notices, .reader] := by
        simp (maxDischargeDepth := 6)
      exact State.queueOnly_congr (ha.frame .store (by decide)) h0
    exact State.requestStep_queueOnly _ (by simpa using hn) h1
  · exact h

/-! ## One examination -/

/-- What follows the price applies and the gates when the conditions are examined. -/
def State.eventEnd (s : State) : State := (State.runStore storeFuel s.examinePanels.examinePositions).finishLoad.sendAll

theorem State.examine_def (s : State) : s.examine = ((s.applyPrices.gate .a).gate .b).eventEnd := rfl

theorem State.finishLoad_queueOnly {p : Requester → Bool} (h : s.queueOnly p) : s.finishLoad.queueOnly p :=
  State.queueOnly_congr ((show Acts s s.finishLoad [.memory, .parity, .lanes, .notices, .prices] by simp).frame .store (by decide)) h

theorem State.sendAll_queueOnly {p : Requester → Bool} (h : s.queueOnly p) : s.sendAll.queueOnly p :=
  State.queueOnly_congr ((show Acts s s.sendAll [.displays] by simp).frame .store (by decide)) h

/-- Stage 3, the closing's phase POSITIONS and the store's late steps leave prices and grade fields. -/
theorem State.eventEnd_pricesLike (h : s.queueOnly Requester.isLate) :
    s.PricesLike s.eventEnd ∧ s.eventEnd.queueOnly Requester.isLate := by
  have h1 : s.PricesLike s.examinePanels.examinePositions := Acts.pricesLike (by simp)
  have hp : Acts s s.examinePanels [.notices, .site] := by simp
  have h2 : s.examinePanels.examinePositions.queueOnly Requester.isLate :=
    State.examinePositions_queueOnly rfl (State.queueOnly_congr (hp.frame .store (by decide)) h)
  obtain ⟨h3, h4⟩ := State.runStore_induction (R := s.PricesLike) storeFuel h1 h2
    (fun u hu => hu.trans (Acts.pricesLike (by simp)))
    (fun u q hq hu => hu.trans (u.answer_pricesLike hq)) (State.answer_queueOnly rfl fun _ => id)
  exact ⟨(h3.trans (State.finishLoad_pricesLike _)).trans (State.sendAll_pricesLike _), State.sendAll_queueOnly (State.finishLoad_queueOnly h4)⟩

/-! ## The whole end of the event -/

/-- What the end of the event keeps of `w`: meters, positions and accrued flags; a start at its gate goes on waiting, and the store holds
late steps only. -/
structure State.SettlesFrom (w u : State) : Prop where
  miu : u.miu = w.miu
  psc : u.psc = w.psc
  accrued : u.pru.accrued = w.pru.accrued
  gates : ∀ side, (u.pos side).st = .starting .gate → ∀ x, (u.pos side).sale = some x → u.PanelUpdates x.grade side
  queue : u.queueOnly Requester.isLate

theorem State.PanelUpdates.gateWaits {side : Side}
    (h : (s.pos side).st = .starting .gate → ∀ x, (s.pos side).sale = some x → s.PanelUpdates x.grade side) : s.gateWaits side :=
  fun hg x hx => ⟨(h hg x hx).price, (h hg x hx).state, (h hg x hx).blocked⟩

theorem State.SettlesFrom.applyPrice (h : w.SettlesFrom u) (g : Fin 8) (p : Nat) (c : RoundCode) : w.SettlesFrom (u.applyPrice g p c) := by
  have ha : Acts u (u.applyPrice g p c) [.prices, .displays, .store] := by simp
  have hpos (x : Side) : (u.applyPrice g p c).pos x = u.pos x := ha.pos_eq (by decide) x
  refine ⟨(ha.frame .meters (by decide)).trans h.miu, (ha.frame .positions (by decide)).trans h.psc,
    (State.applyPrice_accrued ..).trans h.accrued, fun side hs x hx => ?_, ?_⟩
  · rw [hpos] at hs hx; exact (h.gates side hs x hx).applyPrice g p c
  · obtain ⟨q, f, hq, e⟩ := u.applyPrice_steps g p c
    rw [e]
    have hp : Acts u ((u.modGrade g fun e => { e with price := some p, code := c, pending := none }).postPanels g) [.prices, .displays] := by
      simp (maxDischargeDepth := 6)
    have hr := State.requestStep_queueOnly (who := q) [.prices] (fun r hr => by rw [hq r hr]; rfl)
      (State.queueOnly_congr (hp.frame .store (by decide)) h.queue)
    generalize State.requestStep _ _ _ = v at hr ⊢
    exact State.queueOnly_congr rfl hr

theorem State.SettlesFrom.applyPrices (h : w.SettlesFrom u) : w.SettlesFrom u.applyPrices := by
  unfold State.applyPrices
  generalize List.finRange 8 = l
  induction l generalizing u with
  | nil => exact h
  | cons g l ih =>
    rw [List.foldl_cons]
    refine ih ?_
    split
    · split
      · exact h
      · exact h.applyPrice g _ _
    · exact h

theorem State.SettlesFrom.eventEnd (h : w.SettlesFrom u) : w.SettlesFrom u.eventEnd := by
  obtain ⟨he, hq⟩ := State.eventEnd_pricesLike h.queue
  generalize u.eventEnd = v at he hq
  obtain ⟨l, hl⟩ := he.pru
  refine ⟨he.miu.trans h.miu, he.psc.trans h.psc, by rw [hl]; exact h.accrued, fun side hs x hx => ?_, hq⟩
  rw [he.pos] at hs hx
  exact he.panelUpdates (h.gates side hs x hx)

theorem State.SettlesFrom.examine (h : w.SettlesFrom u) : w.SettlesFrom u.examine := by
  have ha := h.applyPrices
  have hg (x : Side) : u.applyPrices.gate x = u.applyPrices := State.gate_idle (State.PanelUpdates.gateWaits (ha.gates x))
  rw [State.examine_def, hg, hg]
  exact ha.eventEnd

theorem State.serveLink_accrued (s : State) (x : Side) : (s.serveLink x).pru.accrued = s.pru.accrued := by
  have h0 : (s.serve x).pru = s.pru := (show Acts s (s.serve x) [.displays] by simp).frame .prices (by decide)
  rw [← h0]
  unfold State.serveLink State.reportFields
  generalize s.serve x = v
  generalize List.finRange 8 = l
  induction l generalizing v with
  | nil => rfl
  | cons g l ih =>
    rw [List.foldl_cons, ih]
    split <;> rfl

theorem State.SettlesFrom.serveLink (h : w.SettlesFrom u) (y : Side) : w.SettlesFrom (u.serveLink y) := by
  have ha : Acts u (u.serveLink y) [.prices, .displays] := Acts.serveLink (.refl _ _) y (by simp)
  refine ⟨(ha.frame .meters (by decide)).trans h.miu, (ha.frame .positions (by decide)).trans h.psc,
    (State.serveLink_accrued ..).trans h.accrued, fun side hs x hx => ?_, State.queueOnly_congr (ha.frame .store (by decide)) h.queue⟩
  rw [ha.pos_eq (by decide)] at hs hx
  exact (h.gates side hs x hx).serveLink y

/-- The end of the event keeps all this. -/
theorem State.SettlesFrom.react (h : w.SettlesFrom w) : w.SettlesFrom w.react :=
  State.react_induction (R := w.SettlesFrom) h (fun _ => State.SettlesFrom.examine) fun _ hu => (hu.serveLink .a).serveLink .b

/-! ## The end of the event with no price pending -/

/-- The panels stand in POWER DOWN too. -/
def State.panelsStandAll (s : State) : Prop := ∀ side g, s.panelState g side = .fault ∨ s.panelState g side = .updating →
  ((s.grade g).panels.get side).state = s.panelState g side
    ∧ (((s.grade g).panels.get side).state = .fault → ((s.grade g).panels.get side).posted = false)

theorem State.panelsStandAll_congr (hr : t.miu.routes = s.miu.routes) (hg : t.pru = s.pru)
    (hs : ∀ side, (t.board side).segment = (s.board side).segment)
    (hf : ∀ side h, ((t.board side).field (.grade h)).st = ((s.board side).field (.grade h)).st
      ∨ ((s.board side).field (.grade h)).st = .pending ∧ ((t.board side).field (.grade h)).st = .writing)
    (h : s.panelsStandAll) : t.panelsStandAll :=
  -- a site state other than POWER DOWN, put in for both, makes this the lemma about `State.panelsStand`
  State.panelsStand_congr (s := s.modSsu fun u => { u with site := .opened }) (t := t.modSsu fun u => { u with site := .opened })
    rfl hr hg hs hf (fun _ => h) (by simp)

/-- Stage 3 is not in progress, no price is pending, no LOAD PRICE can finish, no start can pass its gate, the panels stand, and the
store answers a night entry alone. -/
structure State.NightOnly (s : State) : Prop where
  waking : s.ssu.site ≠ .waking
  pending : s.noPending
  load : ∀ l, s.pru.loading = some l → l.applied = true → l.stored = true → s.updating l.grade = true
  gates : ∀ side, s.gateWaits side
  panels : s.panelsStandAll
  queue : s.queueOnly Requester.isNight

/-- Where prices, positions, routes and grade fields stay, this stays. -/
theorem State.NightOnly.like (h : s.NightOnly) (hl : s.PricesLike t) (hp : t.pru = s.pru) (hw : t.ssu.site ≠ .waking)
    (hq : t.queueOnly Requester.isNight) : t.NightOnly := by
  have hg (g : Fin 8) : t.grade g = s.grade g := by simp only [State.grade, hp]
  refine ⟨hw, fun g => by rw [hg]; exact h.pending g, fun l e => ?_, fun x => State.gateWaits_congr (hl.pos x) hp (h.gates x),
    State.panelsStandAll_congr (by rw [hl.miu]) hp (fun x => (hl.boards x).1) (fun x n => .inl (by rw [(hl.boards x).2 n])) h.panels, hq⟩
  simpa only [State.updating, hg] using h.load l (by rw [← hp]; exact e)

end Sys2Proof.Machine
end

section
/-! PROOFS. A night entry that follows in an event changes no price; a start that has fallen back, its position, its claims and its notices
(R16, R48, R56, R161). -/
namespace Sys2Proof.Machine

variable {s t u v w : State} {P : List Part}

/-! ## The end of an event in which a night entry alone can go on -/

theorem State.examinePositions_site (s : State) : s.examinePositions.ssu.site = s.ssu.site := by
  unfold State.examinePositions
  split
  · generalize hu : s.modSsu (fun u => { u with closingPhase := some .readerDown }) = u
    have e : u.readerDown.ssu = u.ssu :=
      (show Acts u u.readerDown [.memory, .parity, .lanes, .notices, .reader, .store] by simp).frame .site (by decide)
    rw [e, ← hu]; rfl
  · rfl

/-- A night entry takes the site to NIGHT (R161). -/
theorem State.enterNight_site (s : State) : s.enterNight.ssu.site = .night ∨ s.enterNight.ssu.site = s.ssu.site := by
  unfold State.enterNight
  split
  · refine .inl ?_
    dsimp only
    generalize hu : ((s.readerToOff.endWaiting .readerOn [] .closed).setSite .night).modSsu (fun u => { u with closingPhase := none }) = u
    have e : ((u.endWaiting .nightNow [] .ok).raise .night 0).ssu = u.ssu :=
      (show Acts u ((u.endWaiting .nightNow [] .ok).raise .night 0) [.memory, .parity, .lanes, .notices] by
        simp (maxDischargeDepth := 6)).frame .site (by decide)
    rw [e, ← hu]; rfl
  · exact .inr rfl

theorem State.nightReaderDone_site (s : State) : s.nightReaderDone.ssu.site = s.ssu.site := by
  unfold State.nightReaderDone
  split
  · generalize hu : s.modSsu (fun u => { u with closingPhase := some .meters }) = u
    have e : (u.requestStep [.meters] [.nightMeters]).ssu = u.ssu :=
      (show Acts u (u.requestStep [.meters] [.nightMeters]) [.store] by simp).frame .site (by decide)
    rw [e, ← hu]; rfl
  · rfl

/-- The answers of a night entry wake no site and change no price. -/
theorem State.answer_night (s : State) {q : Requester} (hq : q.isNight = true) :
    (s.ssu.site ≠ .waking → (s.answer q).ssu.site ≠ .waking) ∧ (s.answer q).pru = s.pru := by
  cases q <;> simp only [Requester.isNight, Bool.false_eq_true] at hq
  case nightReader =>
    have ha : Acts s s.nightReaderDone [.site, .store] := by simp
    refine ⟨fun h => ?_, ha.frame .prices (by decide)⟩
    show s.nightReaderDone.ssu.site ≠ _
    rw [State.nightReaderDone_site]; exact h
  case nightMeters =>
    have ha : Acts s s.enterNight [.memory, .parity, .lanes, .notices, .displays, .reader, .site] := by simp
    refine ⟨fun h => ?_, ha.frame .prices (by decide)⟩
    show s.enterNight.ssu.site ≠ _
    rcases s.enterNight_site with e | e <;> rw [e]
    · decide
    · exact h

theorem Requester.isLate_of_isNight {q : Requester} (h : q.isNight = true) : q.isLate = true := by
  cases q <;> first | rfl | cases h

theorem State.NightOnly.eventEnd (h : s.NightOnly) : s.eventEnd.NightOnly ∧ s.eventEnd.pru = s.pru := by
  have hp : Acts s s.examinePositions [.memory, .parity, .lanes, .notices, .reader, .site, .store] := by simp
  have e0 : s.examinePanels = s := if_neg fun k => h.waking k.1
  have h1 : s.PricesLike s.examinePositions ∧ s.examinePositions.pru = s.pru ∧ s.examinePositions.ssu.site ≠ .waking :=
    ⟨Acts.pricesLike (by simp), hp.frame .prices (by decide), by rw [State.examinePositions_site]; exact h.waking⟩
  obtain ⟨⟨h2, h3, h4⟩, h5⟩ := State.runStore_induction
    (R := fun u => s.PricesLike u ∧ u.pru = s.pru ∧ u.ssu.site ≠ .waking) storeFuel h1
    (State.examinePositions_queueOnly rfl h.queue)
    (fun u hu => by
      have hb : Acts u u.beginStep.1 [.store] := by simp
      exact ⟨hu.1.trans (Acts.pricesLike (by simp)), (hb.frame .prices (by decide)).trans hu.2.1,
        by rw [show u.beginStep.1.ssu = u.ssu from hb.frame .site (by decide)]; exact hu.2.2⟩)
    (fun u q hq hu => ⟨hu.1.trans (u.answer_pricesLike (Requester.isLate_of_isNight hq)), (u.answer_night hq).2.trans hu.2.1,
      (u.answer_night hq).1 hu.2.2⟩)
    (State.answer_queueOnly rfl fun _ => Requester.isLate_of_isNight)
  have hn := h.like h2 h3 h4 h5
  rw [State.eventEnd, e0, State.finishLoad_idle fun _ => hn.load]
  generalize State.runStore storeFuel s.examinePositions = v at h2 h3 h4 h5 hn
  have ha : Acts v v.sendAll [.displays] := by simp
  have ep : v.sendAll.pru = v.pru := ha.frame .prices (by decide)
  exact ⟨hn.like v.sendAll_pricesLike ep (by rw [show v.sendAll.ssu = v.ssu from ha.frame .site (by decide)]; exact h4)
    (State.sendAll_queueOnly h5), ep.trans h3⟩

theorem State.NightOnly.examine (h : s.NightOnly) : s.examine.NightOnly ∧ s.examine.pru = s.pru := by
  have hp : s.applyPrices = s := State.applyPrices_idle fun _ g hg => by rw [h.pending g] at hg; cases hg
  rw [State.examine_def, hp, State.gate_idle (h.gates .a), State.gate_idle (h.gates .b)]
  exact h.eventEnd

theorem State.NightOnly.serve (h : s.NightOnly) (x : Side) : (s.serve x).NightOnly ∧ (s.serve x).pru = s.pru := by
  have ha : Acts s (s.serve x) [.displays] := by simp
  have em : (s.serve x).miu = s.miu := ha.frame .meters (by decide)
  have ep : (s.serve x).pru = s.pru := ha.frame .prices (by decide)
  have es : (s.serve x).ssu = s.ssu := ha.frame .site (by decide)
  have eg (g : Fin 8) : (s.serve x).grade g = s.grade g := by simp only [State.grade, ep]
  refine ⟨⟨by rw [es]; exact h.waking, fun g => by rw [eg]; exact h.pending g, fun l hl => ?_,
    fun y => State.gateWaits_congr (ha.pos_eq (by decide) y) ep (h.gates y),
    State.panelsStandAll_congr (by rw [em]) ep (fun y => (s.serve_fields x y).1)
      (fun y n => ((s.serve_fields x y).2 (.grade n)).imp id And.right) h.panels,
    State.queueOnly_congr (ha.frame .store (by decide)) h.queue⟩, ep⟩
  simpa only [State.updating, eg] using h.load l (by rw [← ep]; exact hl)

theorem State.NightOnly.serveLinks (h : s.NightOnly) : s.serveLinks.NightOnly ∧ s.serveLinks.pru = s.pru := by
  rw [State.serveLinks_stand fun _ => h.panels]
  obtain ⟨h1, e1⟩ := h.serve .a
  obtain ⟨h2, e2⟩ := h1.serve .b
  exact ⟨h2, e2.trans e1⟩

/-- The end of such an event changes no price. -/
theorem State.NightOnly.react_pru (h : s.NightOnly) : s.react.pru = s.pru :=
  (State.react_induction (R := fun u => u.NightOnly ∧ u.pru = s.pru) ⟨h, rfl⟩
    (fun _ hu => ⟨hu.1.examine.1, hu.1.examine.2.trans hu.2⟩) fun _ hu => ⟨hu.1.serveLinks.1, hu.1.serveLinks.2.trans hu.2⟩).2

/-! ## A start that falls back (R56) -/

theorem State.abandonStart_acts (s : State) (side : Side) : Acts s (s.abandonStart side) [.meters, .positions, .displays] := by
  simp (maxDischargeDepth := 8)

theorem State.fallBack_acts (s : State) (side : Side) (r : StartResult) (d : Nat) :
    Acts (s.abandonStart side) (s.fallBack side r d) [.positions, .notices] := by
  unfold State.fallBack; dsimp only; split <;> simp (maxDischargeDepth := 6)

theorem State.fallBack_miu (s : State) (side : Side) (r : StartResult) (d : Nat) :
    (s.fallBack side r d).miu = ((s.withdrawCheck side).releaseClaims side true).miu :=
  (s.fallBack_acts side r d).frame .meters (by decide)

/-- The claims released one after the other, their counts returned (R16). -/
def State.returnClaims (s : State) (l : List Claim) : State :=
  l.foldl (fun s c => s.modMeter c.meter fun x =>
    { x with owner := none, phaseErrors := 0, unclaimed := x.unclaimed + BitVec.ofInt 32 c.n }) s

theorem State.returnClaims_cons (s : State) (c : Claim) (l : List Claim) :
    s.returnClaims (c :: l) = (s.modMeter c.meter fun x =>
      { x with owner := none, phaseErrors := 0, unclaimed := x.unclaimed + BitVec.ofInt 32 c.n }).returnClaims l := rfl

theorem State.releaseClaims_miu {side : Side} {x : Sale} (h : (s.pos side).sale = some x) :
    (s.releaseClaims side true).miu = (s.returnClaims x.claims).miu := by
  unfold State.releaseClaims
  rw [h]; rfl

theorem State.returnClaims_routes (s : State) (l : List Claim) : (s.returnClaims l).miu.routes = s.miu.routes := by
  induction l generalizing s with
  | nil => rfl
  | cons c l ih => exact (ih _).trans rfl

theorem State.returnClaims_meter_other (s : State) {l : List Claim} {m : MeterNo} (h : ∀ c ∈ l, c.meter ≠ m) :
    (s.returnClaims l).meter m = s.meter m := by
  induction l generalizing s with
  | nil => rfl
  | cons c l ih =>
    refine (ih _ fun k hk => h k (List.mem_cons_of_mem _ hk)).trans ?_
    rw [State.modMeter_meter_eq, if_neg (h c (List.mem_cons_self ..)).symm]

theorem State.returnClaims_owner (s : State) {l : List Claim} {m : MeterNo}
    (h : (s.meter m).owner = none ∨ ∃ c ∈ l, c.meter = m) : ((s.returnClaims l).meter m).owner = none := by
  induction l generalizing s with
  | nil => exact h.resolve_right (by simp)
  | cons c l ih =>
    refine ih _ ?_
    rw [State.modMeter_meter_eq]
    split
    · exact .inl rfl
    · rename_i hne
      refine h.imp id fun ⟨k, hk, e⟩ => ⟨k, (List.mem_cons.mp hk).resolve_left fun e' => hne (by rw [← e, e']), e⟩

theorem State.returnClaims_meter (s : State) {l : List Claim} (hn : (l.map Claim.meter).Nodup) {c : Claim} (hc : c ∈ l) :
    (s.returnClaims l).meter c.meter = { s.meter c.meter with
      owner := none, phaseErrors := 0, unclaimed := (s.meter c.meter).unclaimed + BitVec.ofInt 32 c.n } := by
  induction l generalizing s with
  | nil => cases hc
  | cons k l ih =>
    obtain ⟨hk, hl⟩ := List.nodup_cons.mp hn
    rcases List.mem_cons.mp hc with rfl | hc
    · rw [State.returnClaims_cons, State.returnClaims_meter_other _ fun q (hq : q ∈ l) e => hk (by rw [← e]; exact List.mem_map_of_mem hq),
        State.modMeter_meter]
    · rw [State.returnClaims_cons, ih _ hl hc, State.modMeter_meter_eq, if_neg fun e => hk (by rw [← e]; exact List.mem_map_of_mem hc)]

/-- The claims of a sale whose start falls back return their counts (R16, R56). -/
theorem State.fallBack_claimsReturned {side : Side} {x : Sale} (h : (s.pos side).sale = some x) (r : StartResult) (d : Nat) :
    s.claimsReturned (s.fallBack side r d) x := by
  have hw : (s.withdrawCheck side).miu = s.miu := (show Acts s (s.withdrawCheck side) [.displays] by simp).frame .meters (by decide)
  have hm (m : MeterNo) : (s.fallBack side r d).meter m = ((s.withdrawCheck side).returnClaims x.claims).meter m := by
    have e := State.releaseClaims_miu (s := s.withdrawCheck side) (x := x) (by rw [State.withdrawCheck_pos]; exact h)
    simp only [State.meter, State.fallBack_miu, e]
  have h0 (m : MeterNo) : (s.withdrawCheck side).meter m = s.meter m := by simp only [State.meter, hw]
  refine ⟨fun c hc => ?_, fun hn c hc => ?_, fun m hne => ?_⟩ <;> rw [hm]
  · exact State.returnClaims_owner _ (.inr ⟨c, hc, rfl⟩)
  · rw [State.returnClaims_meter _ hn hc, h0]
  · rw [State.returnClaims_meter_other _ hne, h0]

theorem State.fallBack_routes (s : State) (side : Side) (r : StartResult) (d : Nat) : (s.fallBack side r d).miu.routes = s.miu.routes := by
  have hw : (s.withdrawCheck side).miu = s.miu := (show Acts s (s.withdrawCheck side) [.displays] by simp).frame .meters (by decide)
  rw [State.fallBack_miu]
  cases h : ((s.withdrawCheck side).pos side).sale with
  | none => unfold State.releaseClaims; rw [h]; exact congrArg _ hw
  | some x => rw [State.releaseClaims_miu h, State.returnClaims_routes, hw]

/-- A segment test and the grade fields stand (R109). -/
theorem State.fallBack_gradesLike (s : State) (side x : Side) (r : StartResult) (d : Nat) :
    (s.board x).gradesLike ((s.fallBack side r d).board x) := by
  have e1 : (s.fallBack side r d).dlc = (s.abandonStart side).dlc := (s.fallBack_acts side r d).frame .displays (by decide)
  have e2 : (s.abandonStart side).dlc = (s.withdrawCheck side).dlc :=
    (show Acts (s.withdrawCheck side) (s.abandonStart side) [.meters, .positions] by
      unfold State.abandonStart; simp (maxDischargeDepth := 8)).frame .displays (by decide)
  have hb : (s.fallBack side r d).board x = (s.withdrawCheck side).board x := by simp only [State.board, e1, e2]
  rw [hb]
  unfold State.withdrawCheck
  split
  · rename_i ph ht
    rw [State.dropTest, State.modBoard_board_eq]
    split
    · subst_vars
      refine ⟨?_, fun _ => rfl⟩
      simp only [Board.segment, ht]
    · exact ⟨rfl, fun _ => rfl⟩
  · exact ⟨rfl, fun _ => rfl⟩

end Sys2Proof.Machine
end

section
/-! PROOFS. The event of a start that falls back: its position, its notices, and what the end of the event leaves. -/
namespace Sys2Proof.Machine

variable {s t u v w : State} {P : List Part}

/-! ## The position and its notices (R48, R56) -/

theorem State.fallBack_eq {side : Side} {a : Authorization} (h : ((s.pos side).sale.bind Sale.held).or (s.pos side).auth = some a)
    (r : StartResult) (d : Nat) :
    s.fallBack side r d =
      (((s.abandonStart side).arriveAuthorized side a).modPos side fun p => { p with startResult := r }).raisePos side .startFailed d := by
  unfold State.fallBack
  cases hx : (s.pos side).sale <;> simp only [hx, Option.bind_none, Option.bind_some] at h <;> simp only [hx, h]

theorem State.abandonStart_ntc (s : State) (side : Side) : (s.abandonStart side).ntc = s.ntc :=
  (s.abandonStart_acts side).frame .notices (by decide)
theorem State.abandonStart_ssu (s : State) (side : Side) : (s.abandonStart side).ssu = s.ssu :=
  (s.abandonStart_acts side).frame .site (by decide)

/-- The fall-back to AUTHORIZED, and while the site is CLOSING the close at once (R48, R56; log 47). -/
theorem State.fallBack_fallsBack {side : Side} {a : Authorization} (h : ((s.pos side).sale.bind Sale.held).or (s.pos side).auth = some a)
    (r : StartResult) (d : Nat) : s.fallsBack (s.fallBack side r d) side (s.pos side) a r d := by
  have hbit (c : PosCause) := Cause.bit_lt (.position side c)
  refine ⟨?_, fun hc => ⟨State.fallBack_fallenBack hc h r d, ?_⟩, fun hc => ⟨?_, ?_⟩⟩ <;> rw [State.fallBack_eq h]
  · exact (State.reports_raise d rfl (hbit _)).1
  · refine State.reports_raise d ?_ (hbit _)
    rw [State.modPos_ntc, State.arriveAuthorized, State.closeIfClosing, if_neg (by simpa [State.abandonStart_ssu] using hc),
      State.modPos_ntc, State.abandonStart_ntc]
  · simp [State.arriveAuthorized_pos, State.abandonStart_pos, State.abandonStart_ssu, hc, Position.fallenBack, Position.closedFor,
      Position.closedForNight, Position.enter]
  · refine Ntc.Grows.reports (Ntc.grows_raise _ _ _) ?_
    rw [State.arriveAuthorized, State.closeIfClosing, if_pos (by simpa [State.abandonStart_ssu] using hc)]
    exact State.reports_raise (s := s) 0 (by simp [State.abandonStart_ntc]) (hbit .closed)

/-- No start stands where one has fallen back. -/
theorem State.fallBack_not_gate (s : State) (side : Side) (r : StartResult) (d : Nat) :
    ((s.fallBack side r d).pos side).st ≠ .starting .gate := by
  unfold State.fallBack
  dsimp only
  rw [State.raisePos_pos, State.modPos_pos]
  split
  · rw [State.arriveAuthorized_pos]
    dsimp only
    split <;> simp [Position.closedForNight, Position.enter]
  · rw [State.arriveOpen_pos]
    dsimp only
    split <;> split <;> simp [Position.closedForNight, Position.enter, Position.clearFlags]

/-! ## What goes on waiting after a start has fallen back -/

theorem State.fallBack_allActs (s : State) (side : Side) (r : StartResult) (d : Nat) :
    Acts s (s.fallBack side r d) [.notices, .meters, .positions, .displays] := Acts.fallBack (.refl _ _) _ _ _ (List.Subset.refl _)
theorem State.fallBack_pru (s : State) (side : Side) (r : StartResult) (d : Nat) : (s.fallBack side r d).pru = s.pru :=
  (s.fallBack_allActs side r d).frame .prices (by decide)
theorem State.fallBack_ssu (s : State) (side : Side) (r : StartResult) (d : Nat) : (s.fallBack side r d).ssu = s.ssu :=
  (s.fallBack_allActs side r d).frame .site (by decide)
theorem State.fallBack_rsc (s : State) (side : Side) (r : StartResult) (d : Nat) : (s.fallBack side r d).rsc = s.rsc :=
  (s.fallBack_allActs side r d).frame .store (by decide)
theorem State.fallBack_grade (s : State) (side : Side) (r : StartResult) (d : Nat) (g : Fin 8) :
    (s.fallBack side r d).grade g = s.grade g := by simp only [State.grade, State.fallBack_pru]

/-- A start that goes on waiting at its gate, the panels standing, waits for a panel without a member in FAULT. -/
theorem State.PanelUpdates.of_waits {side : Side} {x : Sale} (hw : s.gateWaits side) (hp : s.panelsStand) (hd : s.ssu.site ≠ .powerDown)
    (hg : (s.pos side).st = .starting .gate) (hx : (s.pos side).sale = some x) : s.PanelUpdates x.grade side := by
  obtain ⟨h1, h2, h3⟩ := hw hg x hx
  refine ⟨h1, h2, h3, fun n hn hf => ?_⟩
  have e : s.panelState x.grade side = .fault := by
    have hne : (s.members x.grade side).isEmpty = false := by
      cases hm : s.members x.grade side with
      | nil => rw [hm] at hn; cases hn
      | cons _ _ => rfl
    have ha : ((s.members x.grade side).any fun n => ((s.board side).field (.grade n)).st == .fault) = true :=
      List.any_eq_true.mpr ⟨n, hn, by simp [hf]⟩
    unfold State.panelState
    simp [hne, ha]
  have := (hp hd side x.grade (.inl e)).1
  rw [h2, e] at this
  cases this

theorem State.fallBack_settlesFrom (hc : s.calm) (hd : s.ssu.site ≠ .powerDown) (side : Side) (r : StartResult) (d : Nat) :
    (s.fallBack side r d).SettlesFrom (s.fallBack side r d) := by
  obtain ⟨-, -, -, -, hstep, hgate, hst⟩ := hc
  refine ⟨rfl, rfl, rfl, fun x hs y hy => ?_, State.queueOnly_congr (s.fallBack_rsc side r d) (hstep.queueOnly _)⟩
  by_cases e : x = side
  · subst e; exact absurd hs (s.fallBack_not_gate x r d)
  · rw [State.fallBack_pos_ne _ _ _ e] at hs hy
    exact (State.PanelUpdates.of_waits (hgate x) hst hd hs hy).congr (s.fallBack_routes side r d) (s.fallBack_grade side r d _)
      fun z n hz => by rw [← (s.fallBack_gradesLike side z r d).2 n]; exact hz

/-- With no price pending, a start that has fallen back on a site that is not CLOSING lets nothing else go on. -/
theorem State.fallBack_calm (hc : s.calm) (hd : s.ssu.site ≠ .powerDown) (hn : s.ssu.site ≠ .closing) (hp : s.noPending) (side : Side)
    (r : StartResult) (d : Nat) : (s.fallBack side r d).calm := by
  have hs := State.fallBack_settlesFrom hc hd side r d
  have es := s.fallBack_ssu side r d
  obtain ⟨hpan, -, -, hload, hstep, -, hst⟩ := hc
  refine ⟨State.panelsWait_congr es (s.fallBack_pru side r d) hpan, fun h => absurd (by rw [← es]; exact h) hn, fun _ g hg => ?_,
    State.loadWaits_congr es (s.fallBack_pru side r d) hload, ?_, fun x => State.PanelUpdates.gateWaits (hs.gates x), ?_⟩
  · rw [State.fallBack_grade, hp g] at hg; cases hg
  · unfold State.stepsWait; rw [State.fallBack_rsc]; exact hstep
  · exact State.panelsStand_congr (by rw [es]) (s.fallBack_routes side r d) (s.fallBack_pru side r d)
      (fun x => (s.fallBack_gradesLike side x r d).1) (fun x n => .inl (by rw [(s.fallBack_gradesLike side x r d).2 n])) hst

/-- With no price pending, a start that has fallen back on a CLOSING site lets the night entry alone go on. -/
theorem State.fallBack_nightOnly (hc : s.calm) (hn : s.ssu.site = .closing) (hp : s.noPending) (side : Side) (r : StartResult) (d : Nat) :
    (s.fallBack side r d).NightOnly := by
  have hd : s.ssu.site ≠ .powerDown := by rw [hn]; decide
  have hs := State.fallBack_settlesFrom hc hd side r d
  obtain ⟨-, -, -, hload, hstep, -, hst⟩ := hc
  refine ⟨by rw [State.fallBack_ssu, hn]; decide, fun g => by rw [State.fallBack_grade]; exact hp g, fun l hl => ?_,
    fun x => State.PanelUpdates.gateWaits (hs.gates x), ?_, State.queueOnly_congr (s.fallBack_rsc side r d) (hstep.queueOnly _)⟩
  · simpa only [State.updating, State.fallBack_grade] using hload hd l (by rw [← s.fallBack_pru side r d]; exact hl)
  · exact State.panelsStandAll_congr (s.fallBack_routes side r d) (s.fallBack_pru side r d) (fun x => (s.fallBack_gradesLike side x r d).1)
      (fun x n => .inl (by rw [(s.fallBack_gradesLike side x r d).2 n])) (hst hd)

/-- With no price pending, the event of a start that falls back changes no price. -/
theorem State.fallBack_react_pru (hc : s.calm) (hd : s.ssu.site ≠ .powerDown) (hp : s.noPending) (side : Side) (r : StartResult) (d : Nat) :
    (s.fallBack side r d).react.pru = s.pru := by
  by_cases hn : s.ssu.site = .closing
  · rw [(State.fallBack_nightOnly hc hn hp side r d).react_pru, State.fallBack_pru]
  · have ha : Acts (s.fallBack side r d) (s.fallBack side r d).react [.displays] :=
      Acts.react_calm (.refl _ _) (State.fallBack_calm hc hd hn hp side r d) (by decide)
    rw [show _ = _ from ha.frame .prices (by decide), State.fallBack_pru]

/-- With no price pending, the event of a start that falls back touches the night entry besides (R161). -/
theorem State.fallBack_react_acts (hc : s.calm) (hd : s.ssu.site ≠ .powerDown) (hp : s.noPending) (side : Side) (r : StartResult) (d : Nat) :
    Acts s (s.fallBack side r d).react ([.meters, .positions, .prices, .notices, .displays, .free] ++ s.nightEntry) := by
  have ha := s.fallBack_allActs side r d
  unfold State.nightEntry
  split
  · exact (ha.mono (by decide)).trans ((Acts.reactAll _).mono (by decide))
  · rename_i hn
    exact Acts.react_calm (ha.mono (by decide)) (State.fallBack_calm hc hd hn hp side r d) (by decide)

/-- What has fallen back is so after the event. -/
theorem State.fallsBack.event {side : Side} {p : Position} {a : Authorization} {r : StartResult} {d : Nat}
    (h : s.fallsBack w side p a r d) (hp : (w.pos side).st ≠ .starting .gate) : s.fallsBack (publish s w.react) side p a r d := by
  obtain ⟨h0, h1, h2⟩ := h
  have hg : w.ntc.Grows (publish s w.react).ntc := by rw [publish_ntc]; exact (Acts.reactAll w).notices
  rw [State.fallsBack, publish_react_pos hp]
  exact ⟨hg.notified h0, fun hc => ⟨(h1 hc).1, hg.reports (h1 hc).2⟩, fun hc => ⟨(h2 hc).1, hg.reports (h2 hc).2⟩⟩

end Sys2Proof.Machine
end

section
/-! PROOFS. A count of a claimed meter reaches its sale (R7, R24 to R37, R56, R58 to R60): the event by the position's state. -/
namespace Sys2Proof.Machine

variable {s t u v w : State} {P : List Part}

/-! ## The instant -/

/-- A recognition instant that is a count is decoded as one, and its levels are new (R4, R5). -/
theorem State.countsBy.decoded {m : MeterNo} {a b : Option Bool} {d : Int} (h : s.countsBy m a b d) :
    ∃ f, d = signOf f ∧ (s.meter m).decode a b = .count f ∧ (s.meter m).recognises a b = true := by
  obtain ⟨ha, rfl, h⟩ := h
  have hr : (s.meter m).recognises (some true) b = true := recognises_left ha (by decide)
  rcases h with ⟨hd, rfl⟩ | ⟨hd, rfl, ⟨hb, rfl⟩ | ⟨hb, rfl⟩⟩
  · exact ⟨true, rfl, Meter.decode_single_rise hd ha b, hr⟩
  · exact ⟨true, rfl, Meter.decode_rise hd ha hb, hr⟩
  · exact ⟨false, rfl, Meter.decode_rise hd ha hb, hr⟩

/-- The event of a count of a claimed meter. -/
theorem exec_claimed_count {m : MeterNo} {a b : Option Bool} {f : Bool} {side : Side} {role : Role} (hm : s.mainSupply = true)
    (hc : s.miu.counting = true) (hd : (s.meter m).decode a b = .count f) (hr : (s.meter m).recognises a b = true)
    (ho : (s.meter m).owner = some (side, role)) :
    exec (.recognitionInstant m a b) s = .next (publish s ((s.meterCounted m a b f).deliver side m f).react) := by
  rw [exec_recognition hm hr, State.recognition_count hd, State.countMeter_claimed a b f hc ho]

/-- The meter's own counts after the event (R7, R9). -/
theorem counted_meter (s : State) (side : Side) (m : MeterNo) (a b : Option Bool) (f : Bool) :
    let t := publish s ((s.meterCounted m a b f).deliver side m f).react
    (t.meter m).lifetime = (s.meter m).lifetime + BitVec.ofInt 48 (signOf f) ∧ (t.meter m).tally = (s.meter m).tally + 1
      ∧ (t.meter m).sinceReport = (s.meter m).sinceReport := by
  intro t
  have h : ((s.meterCounted m a b f).meter m).like (t.meter m) := by
    rw [publish_meter]
    exact Meter.like_trans (State.deliver_meter _ side m f m) (State.react_meter _ m)
  rw [h.lifetime, h.tally, h.sinceReport, State.meterCounted_meter]
  exact ⟨rfl, rfl, rfl⟩

/-! ## The delivery by the position's state -/

/-- Where the count of the sale leaves the claimed meter's configuration. -/
theorem State.saleCounted_config (s : State) (side : Side) (m : MeterNo) (a b : Option Bool) (f : Bool) :
    (((s.meterCounted m a b f).saleCounted side m f).meter m).config = (s.meter m).config := by
  have ha : Acts (s.meterCounted m a b f) ((s.meterCounted m a b f).saleCounted side m f) [.positions, .prices] :=
    Acts.modSale (.refl _ _) _ _ (List.Subset.refl _)
  rw [ha.meter_eq (by decide), State.meterCounted_meter]

/-- A count of a claimed meter by the position's state: frozen, in a start with or without a reverse excursion, dispensing, and no more than
counted otherwise. -/
theorem State.deliver_counted {side : Side} {m : MeterNo} {x y : Sale} {a b : Option Bool} {f : Bool}
    (hu : u = (s.meterCounted m a b f).saleCounted side m f) (h : s.Follows u side m x y)
    (hp : u.pos side = { s.pos side with sale := some y }) :
    (s.meterCounted m a b f).deliver side m f =
      if s.ssu.site = .powerDown then u
      else if (s.pos side).st.isStarting then
        if y.excursion m (s.meter m).config.reverseAllowance then u.fallBack side .reverse (m.val + 1) else u
      else if (s.pos side).st.isDispensing then u.dispensed side m f
      else u := by
  have hs : u.ssu = s.ssu := h.acts.frame .site (by decide)
  have hst : (u.pos side).st = (s.pos side).st := by rw [hp]
  have hr : u.reversed side m = y.excursion m (s.meter m).config.reverseAllowance := by
    rw [State.reversed_eq (y := y) (by rw [hp])]
    rw [hu, State.saleCounted_config]
  rw [State.deliver_def]
  dsimp only
  rw [← hu, hst, hr]
  simp only [State.powerDown, hs, beq_iff_eq]
  rfl

/-! ## A count that its position only follows, or that stops or slows it -/

/-- What the event leaves besides the position, when the position carries on. -/
theorem State.Follows.event {side : Side} {m : MeterNo} {x y : Sale} (h : s.Follows w side m x y) (hc : s.calm) :
    let t := publish s w.react
    s.accrues t x y ∧ t.pru = { s.pru with accrued := t.pru.accrued } ∧ t.pos (other side) = s.pos (other side)
      ∧ s.changesOnly t [.meters, .positions, .prices, .displays, .free] ∧ t.ntc = s.ntc ∧ (t.meter m).owner = (s.meter m).owner
      ∧ (t.meter m).unclaimed = (s.meter m).unclaimed ∧ ∀ q, q ≠ m → t.meter q = s.meter q := by
  intro t
  have hr : Acts w w.react [.displays] := Acts.react_calm (.refl _ _) (h.calm hc) (by decide)
  have hpru : t.pru = { s.pru with accrued := s.pru.accrued.gain x.flags y.flags } := by
    rw [publish_pru, ← h.pru]; exact hr.frame .prices (by decide)
  have hntc : t.ntc = s.ntc := by
    rw [publish_ntc, show w.react.ntc = w.ntc from hr.frame .notices (by decide)]; exact h.acts.frame .notices (by decide)
  have hmet (q : MeterNo) : t.meter q = w.meter q := by rw [publish_meter, hr.meter_eq (by decide)]
  refine ⟨?_, by rw [hpru], ?_, fun p hp => ?_, hntc, by rw [hmet, h.owner], by rw [hmet, h.unclaimed],
    fun q hq => by rw [hmet, h.meter_ne q hq]⟩
  · show t.pru.accrued = _
    rw [hpru]; rfl
  · rw [publish_pos, hr.pos_eq (by decide), h.pos_other]
  · exact Part.kept_same (Part.kept_trans (((h.acts.mono (by decide)).trans (hr.mono (by decide))).frame p hp) (publish_kept _ _ p))

/-! ## A start that falls back -/

/-- What the event of a start that falls back leaves besides its position and its claims. -/
theorem State.Follows.fallBack_event {side : Side} {m : MeterNo} {x y : Sale} (h : s.Follows u side m x y) (hc : s.calm)
    (hd : s.ssu.site ≠ .powerDown) (r : StartResult) (d : Nat) :
    let t := publish s (u.fallBack side r d).react
    s.accrues t x y ∧ (s.noPending → t.pru = { s.pru with accrued := t.pru.accrued }) ∧ t.pos (other side) = s.pos (other side)
      ∧ (s.noPending → s.changesOnly t ([.meters, .positions, .prices, .notices, .displays, .free] ++ s.nightEntry)) := by
  intro t
  have hu := h.calm hc
  have es : u.ssu = s.ssu := h.acts.frame .site (by decide)
  have hdu : u.ssu.site ≠ .powerDown := by rw [es]; exact hd
  have hs := (State.fallBack_settlesFrom hu hdu side r d).react
  have hp (hn : s.noPending) : u.noPending := fun g => by
    have e : u.grade g = s.grade g := by simp only [State.grade, h.pru]
    rw [e]; exact hn g
  have hacc : t.pru.accrued = s.pru.accrued.gain x.flags y.flags := by
    rw [publish_pru, hs.accrued, State.fallBack_pru, h.pru]
  refine ⟨hacc, fun hn => ?_, ?_, fun hn p hpp => ?_⟩
  · rw [publish_pru, State.fallBack_react_pru hu hdu (hp hn), h.pru]
  · have e : (u.fallBack side r d).react.pos (other side) = (u.fallBack side r d).pos (other side) := by simp only [State.pos, hs.psc]
    rw [publish_pos, e, State.fallBack_pos_ne _ _ _ (other_ne side), h.pos_other]
  · have en : u.nightEntry = s.nightEntry := by simp only [State.nightEntry, es]
    have ha := State.fallBack_react_acts hu hdu (hp hn) side r d
    rw [en] at ha
    exact Part.kept_same (Part.kept_trans (((h.acts.mono (List.Subset.trans (by decide) (List.subset_append_left _ _))).trans ha).frame p hpp)
      (publish_kept _ _ p))

/-- The start has fallen back, its claims returned (R16, R56). -/
theorem State.Follows.fallBack_returns {side : Side} {m : MeterNo} {x y : Sale} {a : Authorization} (h : s.Follows u side m x y)
    (hp : u.pos side = { s.pos side with sale := some y }) (hc : s.calm) (hd : s.ssu.site ≠ .powerDown)
    (ha : y.held.or (s.pos side).auth = some a) (r : StartResult) (d : Nat) :
    let t := publish s (u.fallBack side r d).react
    s.fallsBack t side (s.pos side) a r d ∧ (∀ c ∈ y.claims, (t.meter c.meter).owner = none)
      ∧ ((y.claims.map Claim.meter).Nodup → ∀ c ∈ y.claims,
          (t.meter c.meter).unclaimed = (s.meter c.meter).unclaimed + BitVec.ofInt 32 c.n) := by
  intro t
  have hs : (u.pos side).sale = some y := by rw [hp]
  have es : u.ssu = s.ssu := h.acts.frame .site (by decide)
  have en : u.ntc = s.ntc := h.acts.frame .notices (by decide)
  have hfall : s.fallsBack (u.fallBack side r d) side (s.pos side) a r d := by
    have hf := State.fallBack_fallsBack (s := u) (side := side) (a := a) (by rw [hp]; exact ha) r d
    have hsale : Position.fallenBack { s.pos side with sale := some y } a r = (s.pos side).fallenBack a r := rfl
    rw [State.fallsBack, hp, hsale] at hf
    simpa only [State.fallsBack, State.reports, es, en] using hf
  have hmet (q : MeterNo) : t.meter q = (u.fallBack side r d).meter q := by
    have e := ((State.fallBack_settlesFrom (h.calm hc) (by rw [es]; exact hd) side r d).react).miu
    rw [publish_meter]; simp only [State.meter, e]
  have hunc (q : MeterNo) : (u.meter q).unclaimed = (s.meter q).unclaimed := by
    by_cases e : q = m
    · rw [e, h.unclaimed]
    · rw [h.meter_ne q e]
  obtain ⟨hown, hret, -⟩ := State.fallBack_claimsReturned hs r d
  refine ⟨hfall.event (State.fallBack_not_gate u side r d), fun c hc => by rw [hmet]; exact hown c hc, fun hn c hc => ?_⟩
  rw [hmet, hret hn c hc, hunc]

/-! ## A dispensing sale (R26, R34, R35, R37, R58, R60) -/

theorem PosState.flows_iff {st : PosState} (hd : st.isDispensing = true) : st.flows = true ↔ st ≠ .paused := by
  cases st <;> simp [PosState.flows, PosState.isDispensing] at hd ⊢

/-- The stop reasons that a dispensing sale meets, as the statements say them. -/
theorem mem_stopsMet_of_dispensing {x y : Sale} {st : PosState} (hl : y.lock = x.lock) (hv : y.deviationStart = x.deviationStart)
    (hd : st.isDispensing = true) (m : MeterNo) (n : Nat) (r : StopReason) :
    r ∈ stopsMet (y.excursion m n) y.blendCheck.2 st.flows (x.blendChecked y) ↔
      r = .reverse ∧ (∃ c ∈ y.claims, c.meter = m ∧ (n : Int) < c.h - c.n)
      ∨ r = .blend ∧ y.offBlend = some true ∧ (∃ v, x.deviationStart = some v ∧ v + 1000 ≤ y.v)
      ∨ st ≠ .paused ∧ ∃ l, x.lock = some l ∧ l.vt ≤ y.v ∧ r = l.source.stop := by
  obtain ⟨zl, -, zv, -⟩ := x.blendChecked_keeps y
  rw [mem_stopsMet, Sale.excursion_iff, Sale.blendCheck_snd, Sale.targetStop_iff, zl, zv, hl, hv, PosState.flows_iff hd]

/-- The position of a dispensing sale after the event. -/
theorem State.Follows.dispensed_event {side : Side} {m : MeterNo} {x y : Sale} {f : Bool} (h : s.Follows u side m x y)
    (hp : u.pos side = { s.pos side with sale := some y }) (hd : (s.pos side).st.isDispensing = true)
    (hv : y.deviationStart = x.deviationStart) (hb : y.flags.blend = x.flags.blend)
    (hm : (u.meter m).config = (s.meter m).config) :
    let t := publish s (u.dispensed side m f).react
    let p := s.pos side
    let z := x.blendChecked y
    let q := { p with sale := some z, flowTimer := p.flowTimerAfter f }
    let stops := stopsMet (y.excursion m (s.meter m).config.reverseAllowance) y.blendCheck.2 p.st.flows z
    (stops = [] → t.pos side = if p.st == .fuelling && z.slowed then q.enter .slowing else q)
      ∧ (stops ≠ [] → ∃ r ∈ stops, t.pos side = p.endingWith z r) := by
  intro t p z q stops
  have hy : (u.pos side).sale = some y := by rw [hp]
  have hne : ((u.dispensed side m f).pos side).st ≠ .starting .gate := by
    refine ((h.dispensed hy f).carries.1).elim (fun e => ?_) And.right
    rw [e]; intro k; rw [k] at hd; cases hd
  have hr : u.reversed side m = y.excursion m (s.meter m).config.reverseAllowance := by rw [State.reversed_eq hy, hm]
  have ht : t.pos side = (u.dispensed side m f).pos side := publish_react_pos hne
  have hdp := State.dispensed_pos (m := m) (forward := f) hy
  rw [Sale.blendCheck_fst hv hb, hp, hr] at hdp
  rw [ht]
  exact hdp

/-! ## The statement -/

/-- The last clause of the statement, in the branches in which the position carries on. -/
theorem State.Follows.leaves {side : Side} {m : MeterNo} {x y : Sale} (h : s.Follows w side m x y) (hc : s.calm) :
    let t := publish s w.react
    s.accrues t x y ∧ (s.noPending → t.pru = { s.pru with accrued := t.pru.accrued }) ∧ t.pos (other side) = s.pos (other side)
      ∧ (((s.pos side).st.isStarting = false ∨ s.noPending) →
          s.changesOnly t ([.meters, .positions, .prices, .notices, .displays, .free] ++ s.nightEntry))
      ∧ ((s.pos side).st.isStarting = false → t.ntc = s.ntc ∧ (t.meter m).owner = (s.meter m).owner
          ∧ (t.meter m).unclaimed = (s.meter m).unclaimed ∧ ∀ q, q ≠ m → t.meter q = s.meter q) := by
  intro t
  obtain ⟨hacc, hpru, hpos, hch, hrest⟩ := h.event hc
  exact ⟨hacc, fun _ => hpru, hpos,
    fun _ q hq => hch q fun k => hq (List.mem_append_left _ ((by decide : [Part.meters, .positions, .prices, .displays, .free] ⊆
      [.meters, .positions, .prices, .notices, .displays, .free]) k)), fun _ => hrest⟩

theorem PosState.not_dispensing_of_starting {st : PosState} (h : st.isStarting = true) : st.isDispensing = false := by
  cases st <;> first | rfl | cases h

theorem PosState.ne_gate {st : PosState} (h : st.isStarting = false) : st ≠ .starting .gate := by
  rintro rfl; cases h

/-- A fuelling sale after its blend check slows down, as the statements say it (R35). -/
theorem Sale.slows_iff (x : Sale) {y : Sale} (hl : y.lock = x.lock) (st : PosState) :
    (st == .fuelling && (x.blendChecked y).slowed) = true ↔
      st = .fuelling ∧ ∃ l, x.lock = some l ∧ ∃ vs, l.vs = some vs ∧ vs ≤ y.v := by
  obtain ⟨zl, -, zv, -⟩ := x.blendChecked_keeps y
  rw [Bool.and_eq_true, beq_iff_eq, Sale.slowed_iff, zl, zv, hl]

/-- The flow timer of a dispensing position after a count, as the statements say it (R60). -/
theorem Position.flowTimerAfter_eq (p : Position) (hd : p.st.isDispensing = true) (f : Bool) :
    p.flowTimerAfter f = if signOf f = 1 ∧ p.st ≠ .paused then some (p.config.noFlow * 1000) else p.flowTimer := by
  have hs : signOf f = 1 ↔ f = true := by cases f <;> decide
  unfold Position.flowTimerAfter
  refine if_congr ?_ rfl rfl
  rw [Bool.and_eq_true, PosState.flows_iff hd, hs]

/-- Settles O16: the delivery by the position's state, each branch by what it leaves of the position and of all else. -/
theorem claimedCountReachesTheSale : Obligations.ClaimedCountReachesTheSale := by
  unfold Obligations.ClaimedCountReachesTheSale
  intro s m a b d side role x hm hc hcount ho hx p y z frozen excursion cause slows timer
  obtain ⟨f, rfl, hd, hr⟩ := hcount.decoded
  obtain ⟨hF, hp⟩ := State.saleCounted_follows hx m a b f
  have hcfg := s.saleCounted_config side m a b f
  generalize hu : (s.meterCounted m a b f).saleCounted side m f = u at hF hp hcfg
  obtain ⟨hlife, htally, hsince⟩ := counted_meter s side m a b f
  refine ⟨_, exec_claimed_count hm hc hd hr ho, hlife, htally, hsince, ?_⟩
  rw [State.deliver_counted hu.symm hF hp]
  obtain ⟨yl, -, yheld, yd, yb⟩ := x.afterCount_keeps m (signOf f)
  have hstay (h : (u.pos side).st ≠ .starting .gate) : (publish s u.react).pos side = { p with sale := some y } := by
    rw [publish_react_pos h, hp]
  by_cases hfr : s.ssu.site = .powerDown
  · rw [if_pos hfr]
    exact ⟨fun hs _ => hstay (by rw [hp]; exact PosState.ne_gate hs), fun _ h => absurd hfr h, fun _ h => absurd hfr h, hF.leaves⟩
  rw [if_neg hfr]
  by_cases hs : (s.pos side).st.isStarting = true
  · have hrun : (s.pos side).st.isStarting ≠ false := by rw [hs]; decide
    have hnd : (s.pos side).st.isDispensing ≠ true := by rw [PosState.not_dispensing_of_starting hs]; decide
    rw [if_pos hs]
    by_cases he : y.excursion m (s.meter m).config.reverseAllowance = true
    · rw [if_pos he]
      have hex : excursion := (Sale.excursion_iff ..).mp he
      refine ⟨fun h => absurd h hrun, fun h => absurd h hnd,
        fun _ _ hcalm => ⟨fun h => absurd hex h, fun _ g hg => ?_⟩, fun hcalm => ?_⟩
      · obtain ⟨hfall, hown, hret⟩ := hF.fallBack_returns (a := g) hp hcalm hfr (by rw [yheld]; exact hg) .reverse (m.val + 1)
        have hmet := x.afterCount_meters m (signOf f)
        refine ⟨hfall, fun c hcm => ?_, fun hn => hret (by rw [hmet]; exact hn)⟩
        obtain ⟨k, hk, e⟩ := List.mem_map.mp (hmet ▸ List.mem_map_of_mem (f := Claim.meter) hcm)
        rw [← e]; exact hown k hk
      · obtain ⟨hacc, hpru, hpos, hch⟩ := hF.fallBack_event hcalm hfr .reverse (m.val + 1)
        exact ⟨hacc, hpru, hpos, fun h => hch (h.resolve_left hrun), fun h => absurd h hrun⟩
    · rw [if_neg he]
      refine ⟨fun h => absurd h hrun, fun h => absurd h hnd, fun _ _ hcalm => ⟨fun _ => ?_, fun h => ?_⟩, hF.leaves⟩
      · have ha : Acts u u.react [.displays] := Acts.react_calm (.refl _ _) (hF.calm hcalm) (by decide)
        rw [publish_pos, ha.pos_eq (by decide), hp]
      · exact absurd ((Sale.excursion_iff ..).mpr h) he
  rw [if_neg hs]
  by_cases hdi : (s.pos side).st.isDispensing = true
  · rw [if_pos hdi]
    obtain ⟨hgo, hstop⟩ := hF.dispensed_event hp hdi yd yb hcfg (f := f)
    have hslow := x.slows_iff (y := y) yl (s.pos side).st
    have htimer := (s.pos side).flowTimerAfter_eq hdi f
    have hcause (r : StopReason) := mem_stopsMet_of_dispensing yl yd hdi m (s.meter m).config.reverseAllowance r
    have hnil (h : ∀ r, ¬ cause r) :
        stopsMet (y.excursion m (s.meter m).config.reverseAllowance) y.blendCheck.2 (s.pos side).st.flows z = [] :=
      List.eq_nil_iff_forall_not_mem.mpr fun r hr => h r ((hcause r).mp hr)
    refine ⟨fun _ h => ?_, fun _ _ => ⟨?_, fun hno hsl => ?_, fun hno hsl => ?_⟩, fun h => absurd h hs,
      (hF.dispensed (by rw [hp]) f).leaves⟩
    · exact absurd (h.resolve_right hfr) (Bool.not_eq_false _ ▸ hdi)
    · rintro ⟨r, h⟩
      obtain ⟨q, hq, e⟩ := hstop (List.ne_nil_of_mem ((hcause r).mpr h))
      exact ⟨q, (hcause q).mp hq, e⟩
    · rw [hgo (hnil hno), if_pos (hslow.mpr hsl), htimer]; rfl
    · rw [hgo (hnil hno), if_neg (mt hslow.mp hsl), htimer]
  · rw [if_neg hdi]
    exact ⟨fun hs _ => hstay (by rw [hp]; exact PosState.ne_gate hs), fun h => absurd h hdi, fun h => absurd h hs, hF.leaves⟩

end Sys2Proof.Machine
end

section
/-! PROOFS. A nozzle's change as an event (R49, R117): the level it sets, and what the end of the event leaves where nothing else goes
on. -/
namespace Sys2Proof.Machine

variable {s t u v w : State} {P : List Part}

/-! ## The level (R117) -/

theorem State.setNozzle_same (s : State) (side : Side) (h : HoseNo) (b : Bool) :
    ((s.setNozzle side h b).iwu.nozzles.get side)[h] = some b := by
  simp [State.setNozzle]

theorem State.setNozzle_ne (s : State) (side : Side) {h k : HoseNo} (b : Bool) (hk : k ≠ h) :
    ((s.setNozzle side h b).iwu.nozzles.get side)[k] = (s.iwu.nozzles.get side)[k] := by
  have hv : h.val ≠ k.val := fun e => hk (Fin.ext e.symm)
  simp [State.setNozzle, hv]

theorem State.setNozzle_acts (s : State) (side : Side) (h : HoseNo) (b : Bool) : Acts s (s.setNozzle side h b) [.inputs] :=
  Acts.setNozzle (.refl s _) side h b (by decide)

/-- A level lets nothing go on that waits. -/
theorem State.setNozzle_calm (hc : s.calm) (side : Side) (h : HoseNo) (b : Bool) : (s.setNozzle side h b).calm :=
  (s.setNozzle_acts side h b).calm hc (by decide) (by decide) (by decide) (fun _ => rfl)
    ((s.setNozzle_acts side h b).panelsStand (by decide) (by decide) (by decide) (by decide))

theorem State.isLifted_setNozzle_same (s : State) (side : Side) (h : HoseNo) (b : Bool) :
    (s.setNozzle side h b).isLifted side h = ((s.route side h).fitted && b) := by
  have hr : (s.setNozzle side h b).route side h = s.route side h := rfl
  rw [State.isLifted, hr, State.setNozzle_same]
  cases b <;> rfl

theorem State.isLifted_setNozzle_ne (s : State) (side : Side) {h k : HoseNo} (b : Bool) (hk : k ≠ h) :
    (s.setNozzle side h b).isLifted side k = s.isLifted side k := by
  have hr : (s.setNozzle side h b).route side k = s.route side k := rfl
  rw [State.isLifted, hr, State.setNozzle_ne s side b hk]; rfl

theorem State.mem_lifted {side : Side} {h : HoseNo} : h ∈ s.lifted side ↔ s.isLifted side h = true := by
  simp [State.lifted]

/-! ## The events (R49) -/

/-- The event of a fitted hose's lift (R49). -/
theorem exec_lift_fitted {side : Side} {h : HoseNo} (hm : s.mainSupply = true) (hn : (s.iwu.nozzles.get side)[h] ≠ some true)
    (hf : (s.route side h).fitted = true) :
    exec (.nozzleLift side h) s = .next (publish s ((s.setNozzle side h true).lift side h).react) := by
  have hf' : ((s.setNozzle side h true).route side h).fitted = true := hf
  show execNozzleLift side h s = _
  rw [execNozzleLift, eventWhen_on hm (bne_iff_ne.mpr hn), if_pos hf']

/-- The event of a fitted hose's hang that is not its first recognition (R49, R117). -/
theorem exec_hang_fitted {side : Side} {h : HoseNo} (hm : s.mainSupply = true) (hn : (s.iwu.nozzles.get side)[h] = some true)
    (hf : (s.route side h).fitted = true) :
    exec (.nozzleHang side h) s = .next (publish s ((s.setNozzle side h false).hang side h).react) := by
  have hf' : ((s.setNozzle side h false).route side h).fitted = true := hf
  show execNozzleHang side h s = _
  rw [execNozzleHang, hn, eventWhen_on hm (by decide)]
  dsimp only
  rw [hf', if_pos (by decide)]

/-- The event of a hang that is not delivered: an unfitted hose's, and a first recognition (R49, R117). -/
theorem exec_hang_level {side : Side} {h : HoseNo} (hm : s.mainSupply = true) (hn : (s.iwu.nozzles.get side)[h] ≠ some false)
    (hf : (s.route side h).fitted = false ∨ (s.iwu.nozzles.get side)[h] = none) :
    exec (.nozzleHang side h) s = .next (publish s (s.setNozzle side h false).react) := by
  have hd : ¬ (((s.setNozzle side h false).route side h).fitted && !((s.iwu.nozzles.get side)[h] == none)) = true := by
    have hr : (s.setNozzle side h false).route side h = s.route side h := rfl
    rw [hr]
    rcases hf with e | e <;> rw [e] <;> simp
  show execNozzleHang side h s = _
  rw [execNozzleHang, eventWhen_on hm (bne_iff_ne.mpr hn), if_neg hd]

/-! ## The end of the event where the positions alone have changed -/

/-- What a chain of operations leaves alone, the mirrors published. -/
theorem Acts.published (h : Acts s u P) : s.changesOnly (publish s u) P :=
  fun p hp => Part.kept_same (Part.kept_trans (h.frame p hp) (publish_kept s u p))

/-- Where one side's position carries on and nothing but it has changed, the boards alone follow. -/
theorem Acts.react_carriesOn {side : Side} (ha : Acts v w [.positions]) (hc : v.calm) (ho : w.pos (other side) = v.pos (other side))
    (hp : (v.pos side).carriesOn (w.pos side)) : Acts w w.react [.displays] := by
  have hm : w.miu = v.miu := ha.frame .meters (by decide)
  have hg : w.pru = v.pru := ha.frame .prices (by decide)
  refine Acts.react_calm (.refl _ _) (calm_carriesOn (a := v.pru.accrued) (ha.mono (by decide)) (by rw [hm]) hg (fun x => ?_) hc) (by decide)
  rcases eq_or_other side x with rfl | rfl
  · exact hp
  · rw [ho]; exact Position.carriesOn_refl _

theorem State.enterIdle_acts (s : State) (side : Side) : Acts s (s.enterIdle side) [.positions] := by simp

theorem State.endSale_acts (s : State) (side : Side) (r : StopReason) : Acts s (s.endSale side r) [.positions] := by
  have ha : Acts s (s.endSale side r) [.positions, .prices] := Acts.endSale (.refl s _) side r (List.Subset.refl _)
  refine ⟨fun p hp => ?_, ha.memory, ha.mirrors, ha.notices⟩
  by_cases e : p = .prices
  · subst e; exact State.endSale_pru s side r
  · exact ha.frame p (by simp_all)

/-- A position that enters IDLE without a start under way carries on (R49). -/
theorem Position.carriesOn_idle (p : Position) : p.carriesOn (p.enter .idle).clearFlags :=
  ⟨.inr ⟨rfl, by simp [Position.enter, Position.clearFlags]⟩, rfl⟩

/-- A position whose sale ends carries on: the sale stays locked on its grade (R59). -/
theorem Position.carriesOn_ending {p : Position} {x : Sale} (hx : p.sale = some x) (r : StopReason) : p.carriesOn (p.endingWith x r) :=
  ⟨.inr ⟨rfl, by simp [Position.endingWith, Position.enter]⟩, by rw [hx]; rfl⟩

/-! ## The end of the event after a start has fallen back, in POWER DOWN too -/

/-- In POWER DOWN a start that falls back lets nothing else go on. -/
theorem State.fallBack_calm_powerDown (hc : s.calm) (hd : s.ssu.site = .powerDown) (side : Side) (r : StartResult) (d : Nat) :
    (s.fallBack side r d).calm := by
  have es : (s.fallBack side r d).ssu.site = .powerDown := by rw [State.fallBack_ssu, hd]
  obtain ⟨-, -, -, -, hstep, hgate, -⟩ := hc
  refine ⟨fun h => absurd (es ▸ h) (by decide), fun h => absurd (es ▸ h) (by decide), fun h => absurd es h, fun h => absurd es h, ?_,
    fun x => ?_, fun h => absurd es h⟩
  · unfold State.stepsWait; rw [State.fallBack_rsc]; exact hstep
  · by_cases e : x = side
    · subst e; exact fun h => absurd h (s.fallBack_not_gate x r d)
    · exact State.gateWaits_congr (State.fallBack_pos_ne s r d e) (s.fallBack_pru side r d) (hgate x)

/-- The event of a start that falls back leaves meters and positions as the fall-back leaves them. -/
theorem State.fallBack_react_keeps (hc : s.calm) (side : Side) (r : StartResult) (d : Nat) :
    (s.fallBack side r d).react.miu = (s.fallBack side r d).miu ∧ (s.fallBack side r d).react.psc = (s.fallBack side r d).psc := by
  by_cases hd : s.ssu.site = .powerDown
  · have ha : Acts (s.fallBack side r d) (s.fallBack side r d).react [.displays] :=
      Acts.react_calm (.refl _ _) (State.fallBack_calm_powerDown hc hd side r d) (by decide)
    exact ⟨ha.frame .meters (by decide), ha.frame .positions (by decide)⟩
  · have hs := (State.fallBack_settlesFrom hc hd side r d).react
    exact ⟨hs.miu, hs.psc⟩

/-- With no price pending, the event of a start that falls back touches no price and no free value. -/
theorem State.fallBack_react_frame (hc : s.calm) (hp : s.noPending) (side : Side) (r : StartResult) (d : Nat) :
    Acts s (s.fallBack side r d).react ([.meters, .positions, .notices, .displays] ++ s.nightEntry) := by
  have hf := s.fallBack_allActs side r d
  by_cases hd : s.ssu.site = .powerDown
  · exact Acts.react_calm (hf.mono (List.Subset.trans (by decide) (List.subset_append_left _ _)))
      (State.fallBack_calm_powerDown hc hd side r d) (List.mem_append_left _ (by decide))
  · have ha := State.fallBack_react_acts hc hd hp side r d
    refine ⟨fun p hn => ?_, ha.memory, ha.mirrors, ha.notices⟩
    by_cases e1 : p = .prices
    · subst e1; exact State.fallBack_react_pru hc hd hp side r d
    by_cases e2 : p = .free
    · subst e2; exact Part.kept_trans (hf.frame .free (by decide)) ((Acts.reactAll _).frame .free (by decide))
    · exact ha.frame p (by simp_all)

end Sys2Proof.Machine
end

section
/-! PROOFS. A nozzle hang by the position's state (R49, R50, R56, R59, R181). -/
namespace Sys2Proof.Machine

variable {s t u v w : State} {P : List Part}

/-! ## What a hang does -/

/-- In CALLING: IDLE when no hose is up (R49). -/
theorem State.hang_calling {side : Side} {h : HoseNo} (hst : (s.pos side).st = .calling) :
    s.hang side h = if s.lifted side = [] then s.enterIdle side else s := by
  simp only [State.hang, hst, List.isEmpty_iff]

/-- No effect on a position at rest or in ENDING, nor on a start or a sale of another hose (R49). -/
theorem State.hang_noEffect {side : Side} {h : HoseNo} (hc : (s.pos side).st ≠ .calling) (ha : (s.pos side).st ≠ .authorized)
    (hx : (s.pos side).st.atRest = true ∨ (s.pos side).st = .ending ∨ ∀ x, (s.pos side).sale = some x → x.hose ≠ h) :
    s.hang side h = s := by
  rcases hx with hx | hx | hx
  · cases e : (s.pos side).st <;> simp_all [State.hang, PosState.atRest]
  · simp only [State.hang, hx]
  · cases e : (s.pos side).st <;> cases hs : (s.pos side).sale <;> simp_all [State.hang]

/-- The start's own hose makes it fall back (R56). -/
theorem State.hang_starting {side : Side} {h : HoseNo} {x : Sale} (hst : (s.pos side).st.isStarting = true)
    (hx : (s.pos side).sale = some x) (hh : x.hose = h) : s.hang side h = s.fallBack side .hung 0 := by
  cases e : (s.pos side).st <;> simp_all [PosState.isStarting, State.hang]

/-- The sale's own hose ends it, a frozen sale apart (R59, R181). -/
theorem State.hang_dispensing {side : Side} {h : HoseNo} {x : Sale} (hst : (s.pos side).st.isDispensing = true)
    (hx : (s.pos side).sale = some x) (hh : x.hose = h) :
    s.hang side h = if s.ssu.site = .powerDown then s else s.endSale side .hung := by
  cases e : (s.pos side).st <;> simp_all [PosState.isDispensing, State.hang, State.powerDown]

/-- In AUTHORIZED a hang fires no start that leaves no allowed hose alone up, or with the emergency stop asserted (R50). -/
theorem State.hang_authorized {side : Side} {h : HoseNo} {a : Authorization} (hst : (s.pos side).st = .authorized)
    (ha : (s.pos side).auth = some a)
    (hn : s.iwu.emergency = some true ∨ ∀ k, k ≠ h → s.lifted side = [k] → a.allowed.getLsbD k.val = false) : s.hang side h = s := by
  simp only [State.hang, hst, State.trigger, ha]
  match hl : s.lifted side with
  | [] => simp
  | [g] =>
    have hno : (allows a.allowed g && g != h && s.iwu.emergency != some true) = false := by
      rcases hn with he | hn
      · simp [he]
      by_cases e : g = h
      · simp [e]
      · have hb : allows a.allowed g = false := hn g e hl
        simp [hb]
    simp [hno]
  | g :: k :: l => simp

/-- The four things a hang does to a position that is not AUTHORIZED. -/
theorem State.hang_cases {side : Side} (h : HoseNo) (ha : (s.pos side).st ≠ .authorized) :
    s.hang side h = s
      ∨ (s.pos side).st = .calling ∧ s.hang side h = s.enterIdle side
      ∨ s.hang side h = s.fallBack side .hung 0
      ∨ ∃ x, (s.pos side).sale = some x ∧ s.hang side h = s.endSale side .hung := by
  by_cases hc : (s.pos side).st = .calling
  · rw [State.hang_calling hc]
    split
    · exact .inr (.inl ⟨hc, rfl⟩)
    · exact .inl rfl
  by_cases hown : ∃ x, (s.pos side).sale = some x ∧ x.hose = h
  · obtain ⟨x, hx, hh⟩ := hown
    by_cases hs : (s.pos side).st.isStarting = true
    · exact .inr (.inr (.inl (State.hang_starting hs hx hh)))
    by_cases hd : (s.pos side).st.isDispensing = true
    · rw [State.hang_dispensing hd hx hh]
      split
      · exact .inl rfl
      · exact .inr (.inr (.inr ⟨x, hx, rfl⟩))
    · refine .inl (State.hang_noEffect hc ha ?_)
      revert hc ha hs hd
      cases (s.pos side).st <;> simp [PosState.isStarting, PosState.isDispensing, PosState.atRest]
  · exact .inl (State.hang_noEffect hc ha (.inr (.inr fun x hx hh => hown ⟨x, hx, hh⟩)))

/-! ## The event -/

/-- The level at the end of an event whose effect sets it and no other input. -/
theorem publish_react_nozzles {side : Side} {h : HoseNo} {b : Bool}
    (ha : Acts (s.setNozzle side h b) w [.notices, .meters, .positions, .prices, .displays]) :
    let t := publish s w.react
    (t.iwu.nozzles.get side)[h] = some b ∧ ∀ k, k ≠ h → (t.iwu.nozzles.get side)[k] = (s.iwu.nozzles.get side)[k] := by
  intro t
  have hw : w.iwu = (s.setNozzle side h b).iwu := ha.frame .inputs (by decide)
  have hr : w.react.iwu = w.iwu := (Acts.reactAll w).frame .inputs (by decide)
  have e : t.iwu = (s.setNozzle side h b).iwu := by rw [publish_iwu, hr, hw]
  rw [e]
  exact ⟨State.setNozzle_same .., fun k hk => State.setNozzle_ne s side b hk⟩

/-- A hang that does no more than set its level. -/
theorem hang_level_event (hc : s.calm) (side : Side) (h : HoseNo) :
    let t := publish s (s.setNozzle side h false).react
    (t.iwu.nozzles.get side)[h] = some false ∧ (∀ k, k ≠ h → (t.iwu.nozzles.get side)[k] = (s.iwu.nozzles.get side)[k])
      ∧ s.changesOnly t [.inputs, .displays] := by
  obtain ⟨h1, h2⟩ := publish_react_nozzles (Acts.refl (s.setNozzle side h false) _)
  exact ⟨h1, h2, (Acts.react_calm ((s.setNozzle_acts side h false).mono (by decide)) (State.setNozzle_calm hc side h false)
    (by decide)).published⟩

/-- A hang without effect leaves positions and meters (R49). -/
theorem hang_stays_event {side : Side} {h : HoseNo} (hc : s.calm)
    (e : (s.setNozzle side h false).hang side h = s.setNozzle side h false) :
    let t := publish s ((s.setNozzle side h false).hang side h).react
    t.pos side = s.pos side ∧ t.miu = s.miu ∧ s.changesOnly t [.inputs, .displays] := by
  obtain ⟨-, -, hquiet⟩ := hang_level_event hc side h
  have hpsc := hquiet .positions (by decide)
  rw [e]
  exact ⟨congrArg (·.get side) hpsc, hquiet .meters (by decide), hquiet⟩

/-- A hang that leaves no allowed hose alone up, or under the emergency stop, is no trigger (R50). -/
theorem State.setNozzle_hang_authorized {side : Side} {h : HoseNo} {a : Authorization} (hst : (s.pos side).st = .authorized)
    (ha : (s.pos side).auth = some a)
    (hn : s.iwu.emergency = some true ∨ ∀ k, k ≠ h → s.isLifted side k = true → a.allowed.getLsbD k.val = true →
      ∃ j, j ≠ h ∧ j ≠ k ∧ s.isLifted side j = true) :
    (s.setNozzle side h false).hang side h = s.setNozzle side h false := by
  refine State.hang_authorized (s := s.setNozzle side h false) hst ha (hn.imp_right fun hup k hk hl => ?_)
  have hmem (j : HoseNo) (hj : j ≠ h) : s.isLifted side j = true ↔ j = k := by
    rw [← State.isLifted_setNozzle_ne s side false hj, ← State.mem_lifted, hl, List.mem_singleton]
  refine Bool.eq_false_iff.mpr fun hallowed => ?_
  obtain ⟨j, hjh, hjk, hj⟩ := hup k hk ((hmem k hk).mpr rfl) hallowed
  exact hjk ((hmem j hjh).mp hj)

/-- What the event of a hang leaves of the other side and of all else, by what the hang does. -/
theorem hang_event_frame {side : Side} (h : HoseNo) (hc : s.calm) (ha : (s.pos side).st ≠ .authorized) :
    let t := publish s ((s.setNozzle side h false).hang side h).react
    t.pos (other side) = s.pos (other side)
      ∧ (s.noPending → s.changesOnly t ([.inputs, .meters, .positions, .notices, .displays] ++ s.nightEntry)) := by
  intro t
  have hv := State.setNozzle_calm hc side h false
  have hn := s.setNozzle_acts side h false
  have hcarry (w : State) (hw : Acts (s.setNozzle side h false) w [.positions])
      (hr : Acts w w.react [.displays]) (ho : w.pos (other side) = s.pos (other side)) :
      (publish s w.react).pos (other side) = s.pos (other side)
        ∧ (s.noPending → s.changesOnly (publish s w.react) ([.inputs, .meters, .positions, .notices, .displays] ++ s.nightEntry)) := by
    refine ⟨by rw [publish_pos, hr.pos_eq (by decide), ho], fun _ => Acts.published ?_⟩
    have hall : Acts s w.react [.inputs, .meters, .positions, .notices, .displays] :=
      ((hn.mono (by decide)).trans (hw.mono (by decide))).trans (hr.mono (by decide))
    exact hall.mono (List.subset_append_left _ _)
  rcases State.hang_cases (s := s.setNozzle side h false) h ha with e | ⟨hst, e⟩ | e | ⟨x, hx, e⟩ <;>
    simp only [t, e]
  · exact hcarry _ (.refl _ _) (Acts.react_calm (.refl _ _) hv (by decide)) rfl
  · have ho := State.enterIdle_pos_ne (s.setNozzle side h false) (other_ne side)
    refine hcarry _ (State.enterIdle_acts _ side) (Acts.react_carriesOn (State.enterIdle_acts _ side) hv ho ?_) ho
    rw [State.enterIdle_pos]; exact Position.carriesOn_idle _
  · refine ⟨?_, fun hp => Acts.published ?_⟩
    · have hk := (State.fallBack_react_keeps hv side .hung 0).2
      rw [publish_pos, State.pos, hk]
      exact State.fallBack_pos_ne (s.setNozzle side h false) .hung 0 (other_ne side)
    · have hb := State.fallBack_react_frame hv hp side .hung 0
      exact (hn.mono (List.Subset.trans (by decide) (List.subset_append_left _ _))).trans
        (hb.mono (List.subset_cons_self _ _))
  · have ho := State.endSale_pos_ne (s.setNozzle side h false) .hung (other_ne side)
    refine hcarry _ (State.endSale_acts _ side _) (Acts.react_carriesOn (State.endSale_acts _ side _) hv ho ?_) ho
    rw [State.endSale_endingWith hx]; exact Position.carriesOn_ending hx _

/-- In CALLING the event leaves the position, and idle when no hose is up (R49). -/
theorem State.hang_calling_react {side : Side} (h : HoseNo) (hc : v.calm) (hst : (v.pos side).st = .calling) :
    (v.hang side h).react.miu = v.miu ∧ (v.hang side h).react.iwu = v.iwu
      ∧ (v.hang side h).react.pos side = if v.lifted side = [] then ((v.pos side).enter .idle).clearFlags else v.pos side := by
  rw [State.hang_calling hst]
  split
  · have hw := v.enterIdle_acts side
    have hp := v.enterIdle_pos side
    have hr := Acts.react_carriesOn hw hc (v.enterIdle_pos_ne (other_ne side)) (by rw [hp]; exact Position.carriesOn_idle _)
    exact ⟨(hr.frame .meters (by decide)).trans (hw.frame .meters (by decide)),
      (hr.frame .inputs (by decide)).trans (hw.frame .inputs (by decide)), (hr.pos_eq (by decide) side).trans hp⟩
  · have hr : Acts v v.react [.displays] := Acts.react_calm (.refl _ _) hc (by decide)
    exact ⟨hr.frame .meters (by decide), hr.frame .inputs (by decide), hr.pos_eq (by decide) side⟩

theorem hang_calling_event {side : Side} (h : HoseNo) (hc : s.calm) (hst : (s.pos side).st = .calling) :
    let t := publish s ((s.setNozzle side h false).hang side h).react
    t.miu = s.miu ∧ t.pos side = if t.lifted side = [] then ((s.pos side).enter .idle).clearFlags else s.pos side := by
  intro t
  obtain ⟨hm, hi, hp⟩ := State.hang_calling_react h (State.setNozzle_calm hc side h false) hst
  have hm' : t.miu = (s.setNozzle side h false).miu := (publish_miu _ _).trans hm
  have hl : t.lifted side = (s.setNozzle side h false).lifted side := State.lifted_congr hm' ((publish_iwu _ _).trans hi) side
  rw [publish_pos, hp, hl]
  exact ⟨hm', rfl⟩

/-- A start that falls back by its own hose (R56, R16). -/
theorem hang_starting_event {side : Side} {h : HoseNo} {x : Sale} {a : Authorization} (hc : s.calm)
    (hst : (s.pos side).st.isStarting = true) (hx : (s.pos side).sale = some x) (hh : x.hose = h) (ha : x.held.or (s.pos side).auth = some a) :
    let t := publish s ((s.setNozzle side h false).hang side h).react
    s.fallsBack t side (s.pos side) a .hung 0 ∧ s.claimsReturned t x := by
  intro t
  have hv := State.setNozzle_calm hc side h false
  have e : (s.setNozzle side h false).hang side h = (s.setNozzle side h false).fallBack side .hung 0 := State.hang_starting hst hx hh
  have hfall : s.fallsBack ((s.setNozzle side h false).fallBack side .hung 0) side (s.pos side) a .hung 0 :=
    State.fallBack_fallsBack (s := s.setNozzle side h false) (by
      show ((s.pos side).sale.bind Sale.held).or (s.pos side).auth = some a
      rw [hx]; exact ha) .hung 0
  have hret : s.claimsReturned ((s.setNozzle side h false).fallBack side .hung 0) x :=
    State.fallBack_claimsReturned (s := s.setNozzle side h false) hx .hung 0
  have hm (m : MeterNo) : t.meter m = ((s.setNozzle side h false).fallBack side .hung 0).meter m := by
    rw [publish_meter, e, State.meter, (State.fallBack_react_keeps hv side .hung 0).1]; rfl
  refine ⟨?_, ?_⟩
  · simp only [t, e]
    exact hfall.event (State.fallBack_not_gate _ side .hung 0)
  · simpa only [State.claimsReturned, hm] using hret

/-- A sale that its own hose ends (R59). -/
theorem hang_dispensing_event {side : Side} {h : HoseNo} {x : Sale} (hc : s.calm) (hst : (s.pos side).st.isDispensing = true)
    (hx : (s.pos side).sale = some x) (hh : x.hose = h) (hd : s.ssu.site ≠ .powerDown) :
    let t := publish s ((s.setNozzle side h false).hang side h).react
    t.pos side = (s.pos side).endingWith x .hung ∧ t.miu = s.miu := by
  intro t
  have hv := State.setNozzle_calm hc side h false
  have e : (s.setNozzle side h false).hang side h = (s.setNozzle side h false).endSale side .hung :=
    (State.hang_dispensing (s := s.setNozzle side h false) hst hx hh).trans (if_neg hd)
  have hw := State.endSale_acts (s.setNozzle side h false) side .hung
  have hpos := State.endSale_endingWith (s := s.setNozzle side h false) hx .hung
  have hr := Acts.react_carriesOn hw hv (State.endSale_pos_ne _ _ (other_ne side)) (by rw [hpos]; exact Position.carriesOn_ending hx _)
  simp only [t, e]
  refine ⟨?_, ?_⟩
  · rw [publish_pos, hr.pos_eq (by decide), hpos]; rfl
  · rw [publish_miu, hr.frame .meters (by decide), hw.frame .meters (by decide)]; rfl

/-- Settles O25, by what a hang does in each position state: IDLE from CALLING, the fall-back of a start, the end of a sale, or nothing. -/
theorem nozzleHangActsByState : Obligations.NozzleHangActsByState := by
  unfold Obligations.NozzleHangActsByState
  refine ⟨fun s side h hm hc hn hf ha => ?_, fun s side h a hm hc hst ha hn hf htrigger => ?_, fun s side h hm hc hn hf => ?_⟩
  · obtain ⟨hlevel, hothers⟩ := publish_react_nozzles (Acts.hang (.refl (s.setNozzle side h false) _) side h (List.Subset.refl _))
    obtain ⟨hother, hframe⟩ := hang_event_frame h hc ha
    refine ⟨_, exec_hang_fitted hm hn hf, hlevel, hothers, hother, hframe, hang_calling_event h hc, fun hx hst => ?_,
      fun x a hx hh hauth hst => hang_starting_event hc hst hx hh hauth, fun x hx hh hst hd => hang_dispensing_event hc hst hx hh hd,
      fun x hx hh hst hd => ?_⟩
    · have hne : (∃ x, (s.pos side).sale = some x ∧ x.hose ≠ h) → ∀ y, (s.pos side).sale = some y → y.hose ≠ h := by
        rintro ⟨x, hx, hxh⟩ y hy
        obtain rfl := Option.some.inj (hx.symm.trans hy)
        exact hxh
      have hstays := State.hang_noEffect (s := s.setNozzle side h false) hst ha (hx.imp_right (Or.imp_right hne))
      obtain ⟨hpos, hmiu, -⟩ := hang_stays_event hc hstays
      exact ⟨hpos, hmiu⟩
    · exact hang_stays_event hc ((State.hang_dispensing (s := s.setNozzle side h false) hst hx hh).trans (if_pos hd))
  · refine ⟨_, exec_hang_fitted hm hn hf, ?_⟩
    rw [State.setNozzle_hang_authorized hst ha htrigger]
    exact hang_level_event hc side h
  · exact ⟨_, exec_hang_level hm hn hf, hang_level_event hc side h⟩

end Sys2Proof.Machine
end

section
/-! PROOFS. Two statements of chapter 03 that fail in states which no premise of theirs rules out: OPEN POSITION over a LOAD PRICE that a
panel without members holds up (R74, R87, R110), and a start trigger over a sale that stands in AUTHORIZED (R50, R83). -/
namespace Sys2Proof.Machine

variable {s t : State}

/-! ## Calm states without a closing, a wake, a start at the gate, a store step -/

/-- What is left to show of a calm state while the site is OPEN, no position waits at the price gate and no store step is queued. -/
theorem State.calm_of_open (hs : s.ssu.site = .opened) (hq : s.rsc.queue = []) (hg : ∀ side, (s.pos side).st ≠ .starting .gate)
    (hp : s.pricesWait) (hl : s.loadWaits) (hst : s.panelsStand) : s.calm :=
  ⟨fun h => absurd (hs ▸ h) (by decide), fun h => absurd (hs ▸ h) (by decide), hp, hl, .inl hq, fun side h => absurd h (hg side), hst⟩

/-! ## OPEN POSITION: the premises let a panel be UPDATING without members -/

/-- OPEN POSITION's card for position A. -/
def openCard : Card := { kind := 0x08, flags := 0, target := 0, words := 0, hostReference := 0, body := [] }
/-- LOAD PRICE's card for grade 1. -/
def loadCard : Card := { kind := 0x28, flags := 0, target := 1, words := 3, hostReference := 0, body := [] }

/-- An OPEN site, A closed for HOST, its OPEN POSITION taken at 0900h. The LOAD PRICE at 08ECh, whose body reaches over 0900h, waits for
grade 1's panel on side A alone, which is UPDATING although no hose is fitted. -/
def strandedLoad : State :=
  { State.reset with
    ssu := { State.reset.ssu with site := .opened },
    psc := { a := Position.default.enter (.closed .host), b := Position.default },
    pru := { Pru.default with
      grades := Pru.default.grades.set 1 { Grade.default with panels := { a := { Panel.default with state := .updating }, b := .default } },
      loading := some { grade := 1, applied := true, stored := true } },
    lanes :=
      { dispense := { Lane.default with held := some { offset := 0x900, card := openCard, phase := .undecided } },
        site := { Lane.default with st := .waiting, held := some { offset := 0x8EC, card := loadCard, phase := .waiting } },
        reader := .default },
    xm := [(0x8EE, 1), (0x902, 1)] }

theorem strandedLoad_panelState (g : Fin 8) (side : Side) : strandedLoad.panelState g side = .unused := by
  cases side <;> revert g <;> decide

theorem strandedLoad_calm : strandedLoad.calm := by
  refine State.calm_of_open rfl rfl (fun side => by cases side <;> decide) (fun _ g hg => ?_) (fun _ l hl _ _ => ?_) fun _ side g hw => ?_
  · revert g; decide
  · obtain rfl := Option.some.inj hl; decide
  · rw [strandedLoad_panelState] at hw; rcases hw with h | h <;> cases h

/-- The segment test sets the panels again: grade 1's is UNUSED on both sides, and LOAD PRICE finishes in the event (R79, R87). Its two
result bytes fall on the state of OPEN POSITION's card. -/
theorem strandedLoad_overwritten :
    (publish strandedLoad (decideOpenPosition 0x900 openCard strandedLoad).react).half 0x904 = 0x0303 := by
  decide +kernel

/-- Refutes O35: a calm state does not tie the panels to their members, nor the cards of two lanes to places apart, so that the card of an
OPEN POSITION which the position accepts need not be left FINISHED. The clauses about CLOSE POSITION are not in question. -/
theorem not_closingAndOpeningAPosition : ¬ Obligations.ClosingAndOpeningAPosition := by
  unfold Obligations.ClosingAndOpeningAPosition
  rintro ⟨-, hopen⟩
  have hh : strandedLoad.holds .openPosition 0x900 openCard := ⟨rfl, rfl, by decide⟩
  have hl : strandedLoad.readLink 0x900 = .atEnd := by decide
  obtain ⟨t, ht, -, -, -, hok⟩ := hopen strandedLoad 0x900 openCard .a hh rfl strandedLoad_calm hl
  obtain rfl : publish strandedLoad (decideOpenPosition 0x900 openCard strandedLoad).react = t :=
    Host.Outcome.next.inj ((cardEvent_on hh decideOpenPosition).symm.trans ht)
  obtain ⟨hend, -⟩ := hok rfl (.inl rfl) rfl
  obtain ⟨-, hstate, -⟩ := hend strandedLoad_calm ⟨by decide, by decide⟩ hl
  rw [strandedLoad_overwritten] at hstate
  exact absurd hstate (by decide)

/-! ## The start trigger: the premises let a sale stand in AUTHORIZED -/

/-- An authorization for hose 1. -/
def hoseOneAuth : Authorization := { tag := 1, allowed := 1, preset := .none, origin := .attendant, discount := 0, timeout := 0 }

/-- A sale locked on grade 1. -/
def lockedSale : Sale :=
  { newSale hoseOneAuth 0 (HoseRoute.default 0) { day := 0, second := 0 } with
    grade := 1, lock := some (makeLock 1000 0 .halfEven .none 1000000 0) }

/-- An OPEN site, A AUTHORIZED for hose A1, a hose of grade 0 whose price stands; a sale stands with the position, locked on grade 1, which
has a price pending. -/
def lockedInAuthorized : State :=
  { State.reset with
    ssu := { State.reset.ssu with site := .opened },
    psc := { a := { Position.default.enter .authorized with auth := some hoseOneAuth, sale := some lockedSale }, b := Position.default },
    miu := { State.reset.miu with
      routes := { defaultRoutes with a := defaultRoutes.a.set 0 { HoseRoute.default 0 with fitted := true } } },
    pru := { Pru.default with
      grades := (Pru.default.grades.set 0
        { Grade.default with price := some 1000, panels := { a := { Panel.default with state := .updating }, b := .default } }).set 1
        { Grade.default with pending := some (2000, .site) } } }

theorem lockedInAuthorized_panels (side : Side) (g : Fin 8) :
    lockedInAuthorized.panelState g side = ((lockedInAuthorized.grade g).panels.get side).state
      ∧ ((lockedInAuthorized.grade g).panels.get side).posted = false := by
  cases side <;> revert g <;> decide

theorem lockedInAuthorized_calm : lockedInAuthorized.calm := by
  refine State.calm_of_open rfl rfl (fun side => by cases side <;> decide) (fun _ g hg => ?_) (fun _ _ hl => by cases hl)
    fun _ side g _ => ⟨(lockedInAuthorized_panels side g).1.symm, fun _ => (lockedInAuthorized_panels side g).2⟩
  revert g; decide

theorem lockedInAuthorized_canClaim : lockedInAuthorized.canClaim .a 0 :=
  ⟨⟨fun _ => rfl, fun h => absurd rfl h, fun _ => rfl, by decide, by decide⟩, [(0, .primary)], rfl, by decide⟩

/-- The start replaces the sale, no sale is locked on grade 1 any more, and its pending price is applied in the event (R83). -/
theorem lockedInAuthorized_applies :
    ((publish lockedInAuthorized ((lockedInAuthorized.setNozzle .a 0 true).lift .a 0).react).grade 1).pending = none := by
  decide +kernel

/-- Refutes O26: a calm state may hold a sale in AUTHORIZED, where R43 has none, so that the trigger which replaces it need not leave the
price table alone. The clauses about a start that already waits at the gate are not in question. -/
theorem not_startTriggerStartsTheSale : ¬ Obligations.StartTriggerStartsTheSale := by
  unfold Obligations.StartTriggerStartsTheSale
  rintro ⟨htrigger, -⟩
  obtain ⟨t, ht, -, -, -, -, -, hgrades⟩ := htrigger lockedInAuthorized .a 0 rfl lockedInAuthorized_calm rfl (by decide) rfl
    lockedInAuthorized_canClaim hoseOneAuth rfl (by decide) (.nozzleLift .a 0) (.inl ⟨rfl, by decide, by decide⟩) rfl rfl (.inr rfl)
  rw [exec_lift_fitted rfl (by decide) rfl] at ht
  have happlied := lockedInAuthorized_applies
  rw [Host.Outcome.next.inj ht, State.grade, hgrades] at happlied
  exact absurd happlied (by decide)

end Sys2Proof.Machine
end

section
/-! PROOFS. The statement about LOAD PRICE, which fails in a state that no premise of it rules out: the event that finishes LOAD PRICE lets
the night entry go on, and the armed receive that this withdraws was armed from the place where LOAD PRICE's card stands (R52, R87, R161,
R202). -/
namespace Sys2Proof.Machine

variable {s : State}

/-! ## ANSWER_TIMEOUT as an event (R96) -/

/-- The event of an answer timeout while an attempt is in flight (R96). -/
theorem exec_answerTimeout_inFlight {side : Side} {a : Attempt} (hm : s.mainSupply = true) (ha : (s.board side).attempt = some a) :
    exec (.answerTimeout side) s = .next (publish s (s.attemptEnds side false).react) := by
  show execAnswerTimeout side s = _
  rw [execAnswerTimeout, eventWhen_on hm (by rw [ha]; rfl)]

/-! ## The state -/

/-- Hose A1 fitted for grade 1. -/
def gradeOneHose : HoseRoute := { HoseRoute.default 0 with fitted := true, grade := 1 }

/-- The attempt in flight on A1's grade field. -/
def lastAttempt : Attempt := { field := .grade 0, number := 0, sent := priceValue 2000 }

/-- A1's grade field, written by its last attempt. -/
def lastAttemptField : FieldRec := { FieldRec.default (priceValue 2000) with st := .writing, retries := 0 }

/-- Grade 1, its new price applied, with its panel on side A UPDATING. -/
def updatingGrade : Grade :=
  { Grade.default with price := some 2000, panels := { a := { Panel.default with state := .updating }, b := .default } }

/-- An OPEN site with A AUTHORIZED, B IDLE, and the reader's gate closed over an armed receive of the card at 0900h. The host has since
given the place to the LOAD PRICE that waits on the site lane, its price applied and stored, for grade 1's panel on side A. -/
def loadOverReceive : State :=
  { State.reset with
    ssu := { State.reset.ssu with site := .opened },
    rsc := { State.reset.rsc with generation := some 1, check := .none },
    riu := { Riu.default with domain := .gated, armed := [{ card := 0x900, buffer := 0, note := false, toEnd := true }] },
    miu := { State.reset.miu with routes := { defaultRoutes with a := defaultRoutes.a.set 0 gradeOneHose } },
    psc := { a := { Position.default.enter .authorized with auth := some hoseOneAuth }, b := Position.default.enter .idle },
    pru := { Pru.default with
      grades := Pru.default.grades.set 1 updatingGrade, loading := some { grade := 1, applied := true, stored := true } },
    dlc := { State.reset.dlc with boards :=
      { a := { Board.default with
          fields := { Fields.default with grades := Fields.default.grades.set 0 lastAttemptField }, attempt := some lastAttempt },
        b := Board.default } },
    lanes :=
      { dispense := .default, reader := .default,
        site := { Lane.default with st := .waiting, held := some { offset := 0x900, card := loadCard, phase := .waiting } } },
    xm := [(0x902, 1), (0x904, 1)] }

/-- The same after A's start has begun, which waits at the price gate for the panel that LOAD PRICE waits for (R51, R52, R81), and the
site has entered CLOSING, which closes B and waits for A (R48, R160, R161). -/
def gateOverLoad : State := (loadOverReceive.start .a 0 hoseOneAuth).enterClosing .schedule

theorem gateOverLoad_gateWaits (side : Side) : gateOverLoad.gateWaits side := by
  cases side with
  | a =>
    intro _ x hx
    obtain rfl : _ = x := Option.some.inj hx
    exact ⟨rfl, rfl, rfl⟩
  | b => exact fun h => absurd h (by decide)

theorem gateOverLoad_panels (side : Side) (g : Fin 8) :
    gateOverLoad.panelState g side = ((gateOverLoad.grade g).panels.get side).state
      ∧ ((gateOverLoad.grade g).panels.get side).posted = false := by
  cases side <;> revert g <;> decide

theorem gateOverLoad_calm : gateOverLoad.calm := by
  refine ⟨fun h => absurd h (by decide), fun _ _ => ⟨.a, by decide⟩, fun _ g hg => ?_, fun _ l hl _ _ => ?_, .inl rfl,
    gateOverLoad_gateWaits, fun _ side g _ => ⟨(gateOverLoad_panels side g).1.symm, fun _ => (gateOverLoad_panels side g).2⟩⟩
  · revert g; decide
  · obtain rfl := Option.some.inj hl; decide

/-! ## The event -/

/-- The last attempt fails: grade 1's panel is FAULT, and LOAD PRICE finishes BLOCKED (R79, R87). The gate then refuses A's start, the
CLOSING site closes A, and the reader is taken down for the night (R48, R52, R161): the armed receive finishes WITHDRAWN, on the outcome of
LOAD PRICE's card (R136, R202). -/
theorem gateOverLoad_outcomes :
    (gateOverLoad.attemptEnds .a false).half 0x906 = BitVec.ofNat 16 CardOutcome.blocked.code
      ∧ (publish gateOverLoad (gateOverLoad.attemptEnds .a false).react).half 0x906 = BitVec.ofNat 16 CardOutcome.withdrawn.code := by
  constructor <;> decide +kernel

/-! ## The statement -/

/-- Refutes O38: a calm state does not keep the card that waits on the site lane apart from that of an armed receive, so that the event
which finishes LOAD PRICE need not leave BLOCKED in its card. The clauses about the decision of LOAD PRICE are not in question. -/
theorem not_loadPriceAppliesOrWaits : ¬ Obligations.LoadPriceAppliesOrWaits := by
  unfold Obligations.LoadPriceAppliesOrWaits
  rintro ⟨-, hattempt⟩
  have ha : (gateOverLoad.board .a).attempt = some lastAttempt := rfl
  obtain ⟨-, t, ht, hends, -⟩ := hattempt gateOverLoad .a 0 rfl gateOverLoad_calm (by decide) ⟨by decide, by decide⟩ rfl _ rfl rfl rfl
    0x900 loadCard rfl rfl (by decide) rfl rfl (by decide) lastAttempt ha rfl
  obtain rfl : publish gateOverLoad (gateOverLoad.attemptEnds .a false).react = t :=
    Host.Outcome.next.inj ((exec_answerTimeout_inFlight rfl ha).symm.trans ht)
  obtain ⟨-, -, ⟨houtcome, -⟩, -⟩ := hends (by decide) rfl
  rw [gateOverLoad_outcomes.2] at houtcome
  exact absurd houtcome (by decide)

end Sys2Proof.Machine
end

section
/-! PROOFS. The statement about the ends of display attempts, which fails in a state that no premise of it rules out: in POWER DOWN a start
stands at the price gate, where R180 leaves none, and waits for a panel that has a member in FAULT (R52, R79, R81). -/
namespace Sys2Proof.Machine

variable {s : State}

/-! ## Calm states in POWER DOWN -/

/-- In POWER DOWN a state is calm as soon as no store step is queued and every start at the price gate goes on waiting: prices, LOAD PRICE
and panels are held to nothing there. -/
theorem State.calm_of_powerDown (hs : s.ssu.site = .powerDown) (hq : s.rsc.queue = []) (hg : ∀ side, s.gateWaits side) : s.calm :=
  ⟨fun h => absurd (hs ▸ h) (by decide), fun h => absurd (hs ▸ h) (by decide), fun h => absurd hs h, fun h => absurd hs h, .inl hq, hg,
    fun h => absurd hs h⟩

/-! ## The state -/

/-- A1's grade field, written by the first of its last two attempts. -/
def retriedField : FieldRec := { lastAttemptField with retries := 1 }

/-- A2's grade field, in FAULT. -/
def faultedField : FieldRec := { lastAttemptField with st := .fault }

/-- A start on side A at the price gate. -/
def gatedStart : Position :=
  { Position.default.enter (.starting .gate) with
    auth := some hoseOneAuth, sale := some (newSale hoseOneAuth 0 gradeOneHose { day := 0, second := 0 }) }

/-- A site in POWER DOWN, A's start at the price gate, hoses A1 and A2 both of grade 1, whose panel on side A is UPDATING. An attempt on A1's
grade field is in flight; A2's is in FAULT. -/
def gateInPowerDown : State :=
  { State.reset with
    ssu := { State.reset.ssu with site := .powerDown },
    psc := { a := gatedStart, b := Position.default },
    miu := { State.reset.miu with routes := { defaultRoutes with a := (defaultRoutes.a.set 0 gradeOneHose).set 1 gradeOneHose } },
    pru := { Pru.default with grades := Pru.default.grades.set 1 updatingGrade },
    dlc := { State.reset.dlc with boards :=
      { a := { Board.default with
          fields := { Fields.default with grades := (Fields.default.grades.set 0 retriedField).set 1 faultedField },
          attempt := some lastAttempt },
        b := Board.default } } }

theorem gateInPowerDown_gateWaits (side : Side) : gateInPowerDown.gateWaits side := by
  cases side with
  | a =>
    intro _ x hx
    obtain rfl : _ = x := Option.some.inj hx
    exact ⟨rfl, rfl, rfl⟩
  | b => exact fun h => absurd h (by decide)

theorem gateInPowerDown_calm : gateInPowerDown.calm := State.calm_of_powerDown rfl rfl gateInPowerDown_gateWaits

/-! ## The event -/

/-- The failed attempt leaves A1's field PENDING with its last retry used, and the report of it sets grade 1's panel from its members: FAULT,
for A2's field (R79, R97, R103). The gate, examined at the end of the event, refuses the start, which falls back to AUTHORIZED (R52, R56). -/
theorem gateInPowerDown_outcomes :
    (let w := gateInPowerDown.attemptEnds .a false;
      ((w.board .a).field (.grade 0)).st = .pending ∧ ((w.board .a).field (.grade 0)).retries = 0
        ∧ ((w.grade 1).panels.get .a).state = .fault ∧ w.psc = gateInPowerDown.psc)
      ∧ ((publish gateInPowerDown (gateInPowerDown.attemptEnds .a false).react).pos .a).st = .authorized := by
  constructor <;> decide +kernel

/-! ## The statement -/

/-- Refutes O39: a calm state may have a start at the price gate in POWER DOWN, where the panels need not stand as their members set them, so
that a failed attempt with a retry left, no test running, need not leave everything but prices and displays alone. Nothing is said here of
the other clauses. -/
theorem not_attemptsEndVerifiedOrFailed : ¬ Obligations.AttemptsEndVerifiedOrFailed := by
  unfold Obligations.AttemptsEndVerifiedOrFailed
  rintro ⟨-, hends, -⟩
  have ha : (gateInPowerDown.board .a).attempt = some lastAttempt := rfl
  obtain ⟨-, hfailed⟩ := hends gateInPowerDown .a rfl gateInPowerDown_calm rfl lastAttempt ha
  obtain ⟨t, ht, -, hretry, -⟩ := hfailed (.answerTimeout .a) (.inl rfl)
  obtain ⟨-, -, -, hframe⟩ := hretry (by decide)
  obtain rfl : publish gateInPowerDown (gateInPowerDown.attemptEnds .a false).react = t :=
    Host.Outcome.next.inj ((exec_answerTimeout_inFlight rfl ha).symm.trans ht)
  have hpos : (publish gateInPowerDown (gateInPowerDown.attemptEnds .a false).react).psc = gateInPowerDown.psc :=
    hframe rfl .positions (by decide)
  obtain ⟨-, hback⟩ := gateInPowerDown_outcomes
  rw [State.pos, hpos] at hback
  exact absurd hback (by decide)

end Sys2Proof.Machine
end

section
/-! PROOFS. Armed receives that finish WITHDRAWN, and a card of the reader's lane decided in an event (R136, R200, R202). -/
namespace Sys2Proof.Machine

variable {s t u w : State}

/-! ## A finished card's outcome and state (R200) -/

/-- Outcome and state are the one thing written. -/
theorem State.markFinished_xm (s : State) (l : LaneId) (off : Nat) (note : Bool) (o : CardOutcome) (st : CardState) :
    (s.markFinished l off note o st).xm = ((s.writeHalf (off + 6) (BitVec.ofNat 16 o.code)).writeHalf (off + 4) st.code).xm := by
  unfold State.markFinished
  split <;> simp [State.raiseLane]

theorem State.markFinished_upset (s : State) (l : LaneId) (off : Nat) (note : Bool) (o : CardOutcome) (st : CardState) :
    (s.markFinished l off note o st).upset = ((s.writeHalf (off + 6) (BitVec.ofNat 16 o.code)).writeHalf (off + 4) st.code).upset := by
  unfold State.markFinished
  split <;> simp [State.raiseLane]

theorem State.markFinished_half {l : LaneId} {off : Nat} {note : Bool} {o : CardOutcome} {st : CardState} (hm : s.memoryOk) :
    (s.markFinished l off note o st).half (off + 6) = BitVec.ofNat 16 o.code
      ∧ (s.markFinished l off note o st).half (off + 4) = st.code := by
  have e (x : Nat) : (s.markFinished l off note o st).half x =
      ((s.writeHalf (off + 6) (BitVec.ofNat 16 o.code)).writeHalf (off + 4) st.code).half x := by
    simp only [State.half, State.markFinished_xm]
  rw [e, e, State.half_writeHalf_other _ _ (by omega), State.half_writeHalf_same hm.1,
    State.half_writeHalf_same (State.memoryOk_writeHalf hm _ _).1]
  exact ⟨rfl, rfl⟩

theorem State.markFinished_half_other (s : State) {l : LaneId} {off x : Nat} {note : Bool} {o : CardOutcome} {st : CardState}
    (h : x + 2 ≤ off + 4 ∨ off + 8 ≤ x) : (s.markFinished l off note o st).half x = s.half x := by
  have e : (s.markFinished l off note o st).half x =
      ((s.writeHalf (off + 6) (BitVec.ofNat 16 o.code)).writeHalf (off + 4) st.code).half x := by
    simp only [State.half, State.markFinished_xm]
  rw [e, State.half_writeHalf_other _ _ (by omega), State.half_writeHalf_other _ _ (by omega)]

theorem State.markFinished_parityGood {l : LaneId} {off a n : Nat} {note : Bool} {o : CardOutcome} {st : CardState}
    (h : s.parityGood a n = true) : (s.markFinished l off note o st).parityGood a n = true := by
  have e : (s.markFinished l off note o st).parityGood a n =
      ((s.writeHalf (off + 6) (BitVec.ofNat 16 o.code)).writeHalf (off + 4) st.code).parityGood a n := by
    simp only [State.parityGood, State.markFinished_upset]
  rw [e]
  exact State.parityGood_writeHalf _ _ _ (State.parityGood_writeHalf _ _ _ h)

/-- The lanes go on holding what they hold. -/
theorem State.markFinished_held (s : State) (l k : LaneId) (off : Nat) (note : Bool) (o : CardOutcome) (st : CardState) :
    ((s.markFinished l off note o st).lane k).held = (s.lane k).held := by
  unfold State.markFinished
  split <;> (simp only [State.raiseLane, State.raise_lane, State.modLane_lane_eq]; split <;> simp_all [State.lane])

theorem State.markFinished_notified (s : State) (l : LaneId) (off : Nat) (o : CardOutcome) (st : CardState) :
    (s.markFinished l off true o st).notified (.lane l .noteCardFinished) :=
  (State.reports_raise off rfl (Cause.bit_lt _)).1

/-! ## Armed receives withdrawn (R136) -/

/-- These armed receives finish WITHDRAWN, one after the other. -/
def State.withdraw (s : State) (l : List Armed) : State := l.foldl (fun s e => s.finishArmed e [] .withdrawn) s

theorem State.withdrawArmed_eq (s : State) : s.withdrawArmed = (s.modRiu fun r => { r with armed := [] }).withdraw s.riu.armed := rfl

theorem State.withdraw_cons (s : State) (e : Armed) (l : List Armed) : s.withdraw (e :: l) =
    (s.markFinished .reader e.card e.note .withdrawn (if e.toEnd then .finishedEnd else .finishedLink)).withdraw l := rfl

theorem Acts.withdraw (s : State) (l : List Armed) : Acts s (s.withdraw l) cardParts :=
  Acts.foldl (fun _ e ha => ha.finishArmed e [] .withdrawn (by decide)) (.refl s _) l

theorem State.withdraw_held (s : State) (l : List Armed) (k : LaneId) : ((s.withdraw l).lane k).held = (s.lane k).held := by
  induction l generalizing s with
  | nil => rfl
  | cons e l ih => rw [State.withdraw_cons, ih, State.markFinished_held]

theorem State.withdraw_half_other (s : State) {l : List Armed} {x : Nat} (h : ∀ e ∈ l, x + 2 ≤ e.card + 4 ∨ e.card + 8 ≤ x) :
    (s.withdraw l).half x = s.half x := by
  induction l generalizing s with
  | nil => rfl
  | cons e l ih =>
    obtain ⟨he, hl⟩ := List.forall_mem_cons.mp h
    rw [State.withdraw_cons, ih _ hl, State.markFinished_half_other _ he]

theorem State.withdraw_parityGood (l : List Armed) {a n : Nat} (h : s.parityGood a n = true) :
    (s.withdraw l).parityGood a n = true := by
  induction l generalizing s with
  | nil => exact h
  | cons e l ih => exact ih (State.markFinished_parityGood h)

/-- A link that no withdrawn card lies over goes on showing END. -/
theorem State.withdraw_readLink {l : List Armed} {off : Nat} (hl : s.readLink off = .atEnd)
    (h : ∀ e ∈ l, e.card + 8 ≤ off ∨ off + 64 ≤ e.card) : (s.withdraw l).readLink off = .atEnd := by
  rw [State.readLink_atEnd] at hl ⊢
  rw [State.withdraw_half_other s fun e he => by have := h e he; omega]
  exact ⟨State.withdraw_parityGood l hl.1, hl.2⟩

theorem State.withdraw_notified (s : State) {l : List Armed} {e : Armed} (he : e ∈ l) (hn : e.note = true) :
    (s.withdraw l).notified (.lane .reader .noteCardFinished) := by
  induction l generalizing s with
  | nil => nomatch he
  | cons f l ih =>
    rw [State.withdraw_cons]
    rcases List.mem_cons.mp he with rfl | he
    · rw [hn]
      exact (Acts.withdraw _ l).notices.notified (State.markFinished_notified ..)
    · exact ih _ he

/-- Cards that lie apart keep the outcome and the state that each was given. -/
theorem State.withdraw_half {l : List Armed} (hm : s.memoryOk)
    (h : l.Pairwise fun e f => e.card + 8 ≤ f.card ∨ f.card + 8 ≤ e.card) {e : Armed} (he : e ∈ l) :
    (s.withdraw l).half (e.card + 6) = BitVec.ofNat 16 CardOutcome.withdrawn.code
      ∧ (s.withdraw l).half (e.card + 4) = if e.toEnd then CardState.finishedEnd.code else CardState.finishedLink.code := by
  induction l generalizing s with
  | nil => nomatch he
  | cons f l ih =>
    obtain ⟨hf, hl⟩ := List.pairwise_cons.mp h
    rw [State.withdraw_cons]
    rcases List.mem_cons.mp he with rfl | he
    · obtain ⟨h6, h4⟩ := State.markFinished_half (s := s) (l := .reader) (off := e.card) (note := e.note) (o := .withdrawn)
        (st := if e.toEnd then .finishedEnd else .finishedLink) hm
      rw [State.withdraw_half_other _ fun f hx => by have := hf f hx; omega,
        State.withdraw_half_other _ fun f hx => by have := hf f hx; omega, h6, h4]
      exact ⟨rfl, apply_ite CardState.code ..⟩
    · exact ih ((Acts.refl s _).markFinished .reader f.card f.note .withdrawn _ (List.Subset.refl _) |>.memory hm) hl he

/-! ## Cards of the reader's lane in an event -/

/-- What finishing a card, a change of the reader's record and the end of armed receives touch. -/
def readerParts : List Part := .reader :: cardParts

/-- The same with what the end of an event sends to the boards. -/
def readerEventParts : List Part := [.memory, .parity, .lanes, .notices, .reader, .displays]

theorem Acts.calm_reader (h : Acts s w readerParts) (hc : s.calm) : w.calm :=
  h.calm hc (by decide) (by decide) (by decide) (fun x => h.pos_eq (by decide) x)
    (h.panelsStand (by decide) (by decide) (by decide) (by decide))

/-- The event of a decision about the reader touches nothing else than the decision and the boards. -/
theorem Acts.reader_event (h : Acts s w readerParts) (hc : s.calm) : s.changesOnly (publish s w.react) readerEventParts :=
  ((h.mono (by decide)).react_calm (h.calm_reader hc) (by decide)).published

/-- The end of an event in which nothing waits leaves all but the boards and the mirrors. -/
theorem State.calm.event_kept (h : w.calm) (s0 : State) {p : Part} (hp : p ≠ .displays) : p.kept w (publish s0 w.react) :=
  Part.kept_trans (((Acts.refl w [.displays]).react_calm h (by decide)).frame p (by simpa using hp)) (publish_kept _ _ p)

theorem State.calm.event_riu (h : w.calm) (s0 : State) : (publish s0 w.react).riu = w.riu := h.event_kept s0 (p := .reader) (by decide)

/-- Finishing a card leaves the reader's record. -/
theorem State.finishCard_riu (s : State) (l : LaneId) (r : List (Nat × Byte)) (o : CardOutcome) : (s.finishCard l r o).riu = s.riu :=
  (Acts.finish s l r o).frame .reader (by decide)

/-- A card that its lane still holds, its link still showing END, finishes at once. -/
theorem State.endsCard_finishHeld {l : LaneId} {h : Held} (hh : (u.lane l).held = some h) (hc : s.calm → u.calm)
    (hm : s.memoryOk → u.memoryOk) (hl : s.readLink h.offset = .atEnd → u.readLink h.offset = .atEnd) (o : CardOutcome) :
    s.endsCard (publish s (u.finishCard l [] o).react) l h.offset o := fun hs hok hlink =>
  State.cardEnded_event (State.finishCard_calm (hc hs) _ _ _) (State.finishCard_atEnd (hm hok) hh (hl hlink) [] o).1

/-- The card of the reader's lane is refused: the reader's record stays. -/
theorem reader_refuse_event {k : Kind} {off : Nat} {c : Card} (h : s.holds k off c) (hk : k.lane = .reader) (hc : s.calm)
    (o : CardOutcome) :
    let t := publish s (s.refuseCard .reader o).react
    s.endsCard t .reader off o ∧ t.riu = s.riu := by
  have he := State.endsCard_refuse h o
  rw [hk] at he
  exact ⟨he, ((State.refuseCard_calm hc _ _).event_riu s).trans ((Acts.refuse s _ _).frame .reader (by decide))⟩

/-- The card of the reader's lane finishes after a change of the reader's record alone. -/
theorem reader_finish_event {h : Held} (hh : s.lanes.reader.held = some h) (hc : s.calm) (f : Riu → Riu) (o : CardOutcome) :
    let t := publish s ((s.modRiu f).finishCard .reader [] o).react
    s.endsCard t .reader h.offset o ∧ t.riu = f s.riu := by
  have ha : Acts s (s.modRiu f) readerParts := (Acts.refl s _).modRiu f (by decide)
  have hw : (s.modRiu f).calm := ha.calm_reader hc
  exact ⟨State.endsCard_finishHeld (l := .reader) (u := s.modRiu f) hh (fun _ => hw) ha.memory (fun hl => hl) o,
    ((State.finishCard_calm hw _ _ _).event_riu s).trans (State.finishCard_riu ..)⟩

/-- The card of the reader's lane finishes OK and nothing else happens. -/
theorem reader_done_event {h : Held} (hh : s.lanes.reader.held = some h) (hc : s.calm) (o : CardOutcome) :
    let t := publish s (s.finishCard .reader [] o).react
    s.endsCard t .reader h.offset o ∧ t.riu = s.riu := reader_finish_event hh hc id o

/-- The armed receives of a state have finished WITHDRAWN in a later one, where the reader's lane holds what it held. -/
structure State.Withdraws (s u : State) : Prop where
  acts : Acts s u readerParts
  held : u.lanes.reader.held = s.lanes.reader.held
  link {off : Nat} : s.readLink off = .atEnd → (∀ e ∈ s.riu.armed, e.card + 8 ≤ off ∨ off + 64 ≤ e.card) → u.readLink off = .atEnd
  armed : s.armedWithdrawn u

theorem State.withdraws_modRiu (s : State) (f : Riu → Riu) : s.Withdraws ((s.modRiu f).withdraw s.riu.armed) where
  acts := ((Acts.refl s readerParts).modRiu f (by decide)).trans ((Acts.withdraw (s.modRiu f) _).mono (by decide))
  held := (s.modRiu f).withdraw_held s.riu.armed .reader
  link hl ha := State.withdraw_readLink (s := s.modRiu f) hl ha
  armed := ⟨fun _ he hn => State.withdraw_notified _ he hn,
    fun hm hapart _ he => State.withdraw_half (s := s.modRiu f) hm hapart.1 he⟩

/-- A later change of the reader's record takes nothing of it back. -/
theorem State.Withdraws.modRiu (h : s.Withdraws u) (f : Riu → Riu) : s.Withdraws (u.modRiu f) :=
  ⟨h.acts.modRiu f (by decide), h.held, h.link, h.armed⟩

/-- Nor does the end of the card that the lane holds, which lies apart from theirs. -/
theorem State.Withdraws.finishCard (h : s.Withdraws u) {x : Held} (hx : s.lanes.reader.held = some x) (o : CardOutcome) :
    s.armedWithdrawn (u.finishCard .reader [] o) := by
  obtain ⟨hnote, hhalf⟩ := h.armed
  refine ⟨fun e he hn => (Acts.finish u _ _ _).notices.notified (hnote e he hn), fun hm hapart e he => ?_⟩
  obtain ⟨hlink, hfar⟩ := hapart.2 x hx
  obtain ⟨-, hxm⟩ := State.finishCard_atEnd (l := .reader) (h.acts.memory hm) (h.held.trans hx) (h.link hlink hfar) [] o
  have hkept {a : Nat} (ha : a + 2 ≤ x.offset + 4 ∨ x.offset + 8 ≤ a) : (u.finishCard .reader [] o).half a = u.half a := by
    have hxm' : (u.finishCard .reader [] o).half a =
        ((u.writeHalf (x.offset + 6) (BitVec.ofNat 16 o.code)).writeHalf (x.offset + 4) CardState.finishedEnd.code).half a := by
      simp only [State.half, hxm, State.writeAt]
    rw [hxm', State.half_writeHalf_other _ _ (by omega), State.half_writeHalf_other _ _ (by omega)]
  have hfar := hfar e he
  rw [hkept (by omega), hkept (by omega)]
  exact hhalf hm hapart e he

theorem State.armedWithdrawn_congr (hx : t.xm = u.xm) (hn : t.ntc = u.ntc) (h : s.armedWithdrawn u) : s.armedWithdrawn t := by
  simpa only [State.armedWithdrawn, State.notified, State.half, hx, hn] using h

/-- The card of the reader's lane finishes in the event that withdraws the armed receives. -/
theorem State.Withdraws.finish_event (h : s.Withdraws u) {x : Held} (hx : s.lanes.reader.held = some x) (hc : s.calm)
    (o : CardOutcome) :
    let t := publish s (u.finishCard .reader [] o).react
    (s.readerCardsApart → s.endsCard t .reader x.offset o) ∧ s.armedWithdrawn t ∧ t.riu = u.riu := by
  have hu : u.calm := h.acts.calm_reader hc
  have hw := State.finishCard_calm hu .reader [] o
  refine ⟨fun hapart => ?_, State.armedWithdrawn_congr (hw.event_kept s (p := .memory) (by decide))
    (hw.event_kept s (p := .notices) (by decide)) (h.finishCard hx o), (hw.event_riu s).trans (State.finishCard_riu ..)⟩
  obtain ⟨-, hfar⟩ := hapart.2 x hx
  exact State.endsCard_finishHeld (l := .reader) (h.held.trans hx) (fun _ => hu) h.acts.memory (fun hl => h.link hl hfar) o

end Sys2Proof.Machine
end

section
/-! PROOFS. The reader's supply and link by the state of the domain (R144 to R149). -/
namespace Sys2Proof.Machine

variable {s : State} {off : Nat} {c : Card}

/-! ## The conditions -/

theorem State.loopsNormal_iff : s.loopsNormal = true ↔ s.iwu.enclosure = some true ∧ s.iwu.cable = some true := by
  simp [State.loopsNormal]

theorem State.readerShut_iff : s.readerShut = true ↔ s.ssu.site = .night ∨ s.ssu.site = .powerDown := by
  simp [State.readerShut]

theorem State.reader_held {k : Kind} (h : s.holds k off c) (hk : k.lane = .reader) :
    s.lanes.reader.held = some { offset := off, card := c, phase := .undecided } := by
  obtain ⟨-, hheld, -⟩ := h
  rwa [hk] at hheld

/-- A lane whose owner has not decided is not waiting. -/
theorem State.waitingKind_of_holds {k : Kind} (h : s.holds k off c) : s.waitingKind k.lane = none := by
  obtain ⟨-, hheld, -⟩ := h
  simp [State.waitingKind, hheld]

/-- Without stop requested the card waits (R199). -/
theorem State.waitCard_eq {l : LaneId} (h : (s.lane l).stopRequested = false) (undo : State → State) :
    s.waitCard l undo = s.modLane l fun x => { x with st := .waiting, held := x.held.map fun h => { h with phase := .waiting } } := by
  simp [State.waitCard, h]

theorem State.reportResume_eq (h : s.riu.resuming = false) (code : Nat) : s.reportResume code = s := by
  simp [State.reportResume, h]

theorem State.modRiu_id (s : State) : s.modRiu id = s := rfl

theorem State.setDomain_powering (s : State) :
    s.setDomain .powering = s.modRiu fun r => { r with domain := .powering, settleTimer := some 500 } := rfl

theorem State.setDomain_of_ne {d : Domain} (h : d ≠ .powering) (s : State) :
    s.setDomain d = s.modRiu fun r => { r with domain := d, settleTimer := none } := by
  simp [State.setDomain, h]

/-! ## The link closed and the supply turned off (R136, R146, R147) -/

/-- A Send whose card the lane does not hold waiting only leaves the reader's record. -/
theorem State.cutSend_eq (h : s.waitingKind .reader = none) : s.cutSend = s.modRiu fun r => { r with send := none } := by
  unfold State.cutSend
  cases hx : s.riu.send with
  | none =>
    show s = s.modRiu _
    rw [State.modRiu, ← hx]
  | some x => exact if_neg (by rw [show (s.modRiu _).waitingKind Kind.send.lane = none from h]; simp)

/-- The reader's record after the link has been closed (R146). -/
def Riu.linkClosed (r : Riu) : Riu :=
  { r with domain := .gated, settleTimer := none, answers := [], receiver := .outside, orphan := false, send := none, armed := [] }

theorem State.closeReaderLink_eq (h : s.waitingKind .reader = none) :
    s.closeReaderLink = (s.modRiu Riu.linkClosed).withdraw s.riu.armed := by
  rw [State.closeReaderLink, State.cutSend_eq (s := (s.setDomain .gated).shutGate) h]
  rfl

/-- Withdrawing cards leaves the reader's record. -/
theorem State.withdraw_riu (s : State) (l : List Armed) : (s.withdraw l).riu = s.riu := (Acts.withdraw s l).frame .reader (by decide)

theorem State.closeReaderLink_withdraws (h : s.waitingKind .reader = none) :
    s.Withdraws s.closeReaderLink ∧ s.closeReaderLink.riu = s.riu.linkClosed := by
  rw [State.closeReaderLink_eq h]
  exact ⟨s.withdraws_modRiu _, State.withdraw_riu ..⟩

theorem State.withdrawArmed_withdraws (s : State) :
    s.Withdraws s.withdrawArmed ∧ s.withdrawArmed.riu = { s.riu with armed := [] } :=
  ⟨s.withdraws_modRiu _, State.withdraw_riu ..⟩

/-- The way to OFF from GATED and OPEN. -/
theorem State.readerToOff_withdraws (h : s.waitingKind .reader = none) :
    (s.riu.domain = .gated →
        s.Withdraws s.readerToOff ∧ s.readerToOff.riu = { s.riu with domain := .off, settleTimer := none, armed := [] })
      ∧ (s.riu.domain = .opened →
        s.Withdraws s.readerToOff ∧ s.readerToOff.riu = { s.riu.linkClosed with domain := .off }) := by
  constructor
  · intro hd
    obtain ⟨hw, hr⟩ := s.withdrawArmed_withdraws
    simp only [State.readerToOff, hd]
    exact ⟨hw.modRiu _, by rw [State.setDomain, State.modRiu_riu, hr]; rfl⟩
  · intro hd
    obtain ⟨hw, hr⟩ := State.closeReaderLink_withdraws h
    simp only [State.readerToOff, hd]
    exact ⟨hw.modRiu _, by rw [State.setDomain, State.modRiu_riu, hr]; rfl⟩

theorem State.readerToOff_powering (hd : s.riu.domain = .powering) :
    s.readerToOff = s.modRiu fun r => { r with domain := .off, settleTimer := none } := by
  simp only [State.readerToOff, hd]
  exact State.setDomain_of_ne (by decide) s

/-- A resume in progress is not the way's to end. -/
theorem State.readerToOff_resuming (h : s.waitingKind .reader = none) : s.readerToOff.riu.resuming = s.riu.resuming := by
  obtain ⟨hgated, hopened⟩ := State.readerToOff_withdraws h
  cases hd : s.riu.domain with
  | off | quarantine => simp only [State.readerToOff, hd]
  | powering => rw [State.readerToOff_powering hd]; rfl
  | gated => rw [(hgated hd).2]
  | opened => rw [(hopened hd).2]; rfl

/-! ## READER ON and the settle timer (R130, R144) -/

theorem decideReaderOn_storeClosed (h : s.storeClosed = true) : decideReaderOn off c s = s.refuseCard .reader .busy := if_pos h

theorem decideReaderOn_quarantine (h : s.storeClosed = false) (hd : s.riu.domain = .quarantine) :
    decideReaderOn off c s = s.refuseCard .reader .blocked := by
  simp [decideReaderOn, h, hd]

theorem decideReaderOn_shut (h : s.storeClosed = false) (hd : s.riu.domain ≠ .quarantine) (hs : s.readerShut = true) :
    decideReaderOn off c s = s.refuseCard .reader .closed := by
  simp [decideReaderOn, h, hd, hs]

theorem decideReaderOn_on (h1 : s.storeClosed = false) (h2 : s.readerShut = false) (hd : s.riu.domain = .gated ∨ s.riu.domain = .opened) :
    decideReaderOn off c s = s.finishCard .reader [] .ok := by
  rcases hd with hd | hd <;> simp [decideReaderOn, h1, h2, hd]

theorem decideReaderOn_off (h1 : s.storeClosed = false) (h2 : s.readerShut = false) (hd : s.riu.domain = .off) :
    decideReaderOn off c s = (s.setDomain .powering).waitCard .reader State.undoReaderOn := by
  simp [decideReaderOn, h1, h2, hd]

theorem decideReaderOn_powering (h1 : s.storeClosed = false) (h2 : s.readerShut = false) (hd : s.riu.domain = .powering) :
    decideReaderOn off c s = s.waitCard .reader State.undoReaderOn := by
  simp [decideReaderOn, h1, h2, hd]

/-- A change of the reader's record, the card of its lane then waiting. -/
theorem reader_wait_event (hh : s.lanes.reader.held = some { offset := off, card := c, phase := .undecided }) (hc : s.calm)
    (hs : s.lanes.reader.stopRequested = false) (f : Riu → Riu) (undo : State → State) :
    let t := publish s ((s.modRiu f).waitCard .reader undo).react
    t.lanes.reader = { s.lanes.reader with st := .waiting, held := some { offset := off, card := c, phase := .waiting } }
      ∧ t.riu = f s.riu ∧ s.changesOnly t [.lanes, .reader, .displays] := by
  rw [State.waitCard_eq (s := s.modRiu f) (l := .reader) hs]
  generalize hw : (s.modRiu f).modLane .reader _ = w
  have ha : Acts s w [.lanes, .reader] := by
    rw [← hw]
    exact ((Acts.refl s _).modRiu f (by decide)).modLane _ _ (by decide)
  have hcalm : w.calm := (ha.mono (by decide)).calm_reader hc
  refine ⟨?_, ?_, ((ha.mono (by decide)).react_calm hcalm (by decide)).published⟩
  · have hl : (publish s w.react).lanes = w.lanes := hcalm.event_kept s (p := .lanes) (by decide)
    rw [hl, ← hw]
    simp [State.modLane, hh]
  · rw [hcalm.event_riu, ← hw]
    simp

/-- Finishing a waiting card leaves the reader's record. -/
theorem State.endWaiting_riu (s : State) (k : Kind) (r : List (Nat × Byte)) (o : CardOutcome) : (s.endWaiting k r o).riu = s.riu :=
  ((Acts.refl s cardParts).endWaiting k r o (by decide)).frame .reader (by decide)

/-- The settle timer's expiry, no resume in progress (R130). -/
theorem exec_settleTimerExpiry (hm : s.mainSupply = true) (hd : s.riu.domain = .powering) (ht : s.riu.settleTimer.isSome = true)
    (hr : s.riu.resuming = false) :
    exec .settleTimerExpiry s = .next (publish s ((s.setDomain .gated).endWaiting .readerOn [] .ok).react) := by
  have hr' : ((s.setDomain .gated).endWaiting .readerOn [] .ok).riu.resuming = false := by rw [State.endWaiting_riu]; exact hr
  refine (eventWhen_on hm (by simp [hd, ht]) _).trans ?_
  simp only [hr']
  rfl

/-- A waiting READER ON finishes. -/
theorem State.endWaiting_readerOn (hh : s.lanes.reader.held = some { offset := off, card := c, phase := .waiting }) (hk : c.kind = 0x40)
    (r : List (Nat × Byte)) (o : CardOutcome) : s.endWaiting .readerOn r o = s.finishCard .reader r o := by
  have hkind : Kind.ofByte c.kind = some .readerOn := by rw [hk]; rfl
  exact if_pos (by simp [State.waitingKind, State.lane, Kind.lane, hh, hkind])

/-! ## READER OFF and RELEASE QUARANTINE (R147, R149) -/

theorem decideReaderOff_quarantine (hd : s.riu.domain = .quarantine) : decideReaderOff off c s = s.refuseCard .reader .blocked := by
  simp only [decideReaderOff, hd]

theorem decideReaderOff_off (hd : s.riu.domain = .off) : decideReaderOff off c s = s.finishCard .reader [] .ok := by
  simp only [decideReaderOff, hd]

/-- From every domain with the supply on, the way to OFF, then the card. -/
theorem decideReaderOff_supply (h : s.waitingKind .reader = none) (hd : s.riu.domain.supply = true) (hr : s.riu.resuming = false) :
    decideReaderOff off c s = s.readerToOff.finishCard .reader [] .ok := by
  have e : (s.readerToOff.finishCard .reader [] .ok).riu.resuming = false := by
    rw [State.finishCard_riu, State.readerToOff_resuming h, hr]
  cases hs : s.riu.domain with
  | quarantine | off => rw [hs] at hd; nomatch hd
  | powering | gated | opened => simp only [decideReaderOff, hs]; exact State.reportResume_eq e 2

theorem decideReaderOff_acts (h : s.waitingKind .reader = none) (hr : s.riu.domain ≠ .off → s.riu.resuming = false) :
    Acts s (decideReaderOff off c s) readerParts := by
  have hrefuse (o : CardOutcome) : Acts s (s.refuseCard .reader o) readerParts := (Acts.refuse s _ o).mono (by decide)
  have hdone : Acts s (s.finishCard .reader [] .ok) readerParts := (Acts.finish s _ _ _).mono (by decide)
  have hoff : Acts s (s.readerToOff.finishCard .reader [] .ok) readerParts :=
    ((Acts.refl s _).readerToOff (by decide)).finishCard _ _ _ (by decide)
  cases hd : s.riu.domain with
  | quarantine => rw [decideReaderOff_quarantine hd]; exact hrefuse _
  | off => rw [decideReaderOff_off hd]; exact hdone
  | powering | gated | opened => rw [decideReaderOff_supply h (by rw [hd]; rfl) (hr (by simp [hd]))]; exact hoff

theorem decideReleaseQuarantine_eq : decideReleaseQuarantine off c s =
    if s.riu.domain ≠ .quarantine then s.refuseCard .reader .busy
    else if ¬ (s.iwu.enclosure = some true ∧ s.iwu.cable = some true) then s.refuseCard .reader .blocked
    else (s.setDomain .off).finishCard .reader [] .ok := by
  simp only [decideReleaseQuarantine, ← State.loopsNormal_iff, Bool.not_eq_true', Bool.not_eq_true]

/-! ## OPEN LINK and CLOSE LINK (R145, R146) -/

/-- The reader's record after the link has been opened (R145). -/
def Riu.linkOpened (r : Riu) : Riu :=
  { r with domain := .opened, settleTimer := none, badRun := 0, receiver := .outside, answers := [] }

theorem State.openReaderLink_eq (s : State) : s.openReaderLink = s.modRiu Riu.linkOpened := rfl

/-- Why OPEN LINK is refused, in the order of its checks. -/
def State.openLinkRefusal (s : State) : Option CardOutcome :=
  if s.storeClosed then some .busy else if s.riu.domain = .quarantine then some .blocked
  else if s.ssu.site = .night ∨ s.ssu.site = .powerDown then some .closed
  else if s.riu.domain = .off ∨ s.riu.domain = .powering then some .busy
  else if ¬ (s.iwu.enclosure = some true ∧ s.iwu.cable = some true) then some .blocked else none

theorem decideOpenLink_eq : decideOpenLink off c s = match s.openLinkRefusal with
    | some o => s.refuseCard .reader o
    | none => (if s.riu.domain = .gated then s.openReaderLink else s).finishCard .reader [] .ok := by
  simp only [decideOpenLink, State.openLinkRefusal, ← State.readerShut_iff, ← State.loopsNormal_iff, Bool.not_eq_true', Bool.not_eq_true]
  split_ifs <;> rfl

theorem decideCloseLink_refused (hd : s.riu.domain = .off ∨ s.riu.domain = .powering ∨ s.riu.domain = .quarantine) :
    decideCloseLink off c s = s.refuseCard .reader .busy := by
  rcases hd with hd | hd | hd <;> simp only [decideCloseLink, hd]

theorem decideCloseLink_gated (hd : s.riu.domain = .gated) : decideCloseLink off c s = s.finishCard .reader [] .ok := by
  simp only [decideCloseLink, hd]

theorem decideCloseLink_opened (hd : s.riu.domain = .opened) :
    decideCloseLink off c s = s.closeReaderLink.finishCard .reader [] .ok := by
  simp only [decideCloseLink, hd]

/-! ## The statement -/

/-- Settles O44, by the domain's state: each card is refused, or it finishes after a change of the reader's record, the armed receives
withdrawn before it where the link closes or the supply goes off. -/
theorem readerSupplyAndLink : Obligations.ReaderSupplyAndLink := by
  unfold Obligations.ReaderSupplyAndLink
  refine ⟨fun s off c h hc hl => ?readerOn, fun s hm hc hd ht hr => ?settle, fun s off c h hc hr => ?readerOff,
    fun s off c h hc => ?release, fun s off c h hc hl => ?openLink, fun s off c h hc => ?closeLink⟩
  case readerOn =>
    have hheld := State.reader_held h rfl
    refine ⟨_, cardEvent_on h decideReaderOn, fun h1 => ?_, fun h1 hd => ?_, fun h1 hd h2 => ?_,
      fun h1 hn hp => ⟨fun hd => ?_, fun hd hs => ?_⟩⟩
    · rw [decideReaderOn_storeClosed h1]
      exact (reader_refuse_event h rfl hc _).1
    · rw [decideReaderOn_quarantine h1 hd]
      exact (reader_refuse_event h rfl hc _).1
    · rw [decideReaderOn_shut h1 hd (State.readerShut_iff.mpr h2)]
      exact (reader_refuse_event h rfl hc _).1
    all_goals have h2 : s.readerShut = false := by simpa [State.readerShut] using ⟨hn, hp⟩
    · rw [decideReaderOn_on h1 h2 hd]
      exact reader_done_event hheld hc _
    rcases hd with hd | hd
    · rw [decideReaderOn_off h1 h2 hd, State.setDomain_powering]
      obtain ⟨hlane, hriu, hframe⟩ := reader_wait_event hheld hc hs
        (fun r => { r with domain := .powering, settleTimer := some 500 }) State.undoReaderOn
      exact ⟨hlane, fun _ => hriu, fun hd' => (nomatch hd.symm.trans hd'), hframe⟩
    · rw [decideReaderOn_powering h1 h2 hd]
      obtain ⟨hlane, hriu, hframe⟩ := reader_wait_event hheld hc hs id State.undoReaderOn
      rw [State.modRiu_id] at hlane hriu hframe
      exact ⟨hlane, fun hd' => (nomatch hd.symm.trans hd'), fun _ => hriu, hframe⟩
  case settle =>
    rw [exec_settleTimerExpiry hm hd ht hr, State.setDomain_of_ne (by decide)]
    have ha : Acts s ((s.modRiu fun r => { r with domain := .gated, settleTimer := none }).endWaiting .readerOn [] .ok) readerParts :=
      ((Acts.refl s _).modRiu _ (by decide)).endWaiting _ _ _ (by decide)
    refine ⟨_, rfl, ?_, fun off c hheld hk => ?_, ha.reader_event hc⟩
    · rw [(ha.calm_reader hc).event_riu, State.endWaiting_riu, State.modRiu_riu]
    · rw [State.endWaiting_readerOn (s := s.modRiu _) hheld hk]
      exact (reader_finish_event hheld hc _ _).1
  case readerOff =>
    have hheld := State.reader_held h rfl
    have hk : s.waitingKind .reader = none := State.waitingKind_of_holds h
    obtain ⟨hgated, hopened⟩ := State.readerToOff_withdraws hk
    refine ⟨_, cardEvent_on h decideReaderOff, fun hd => ?_, fun hd => ?_, fun hd => ?_, fun hd hapart => ?_, fun hd hapart => ?_,
      fun _ => (decideReaderOff_acts hk hr).reader_event hc⟩
    · rw [decideReaderOff_quarantine hd]
      exact reader_refuse_event h rfl hc _
    · rw [decideReaderOff_off hd]
      exact reader_done_event hheld hc _
    all_goals rw [decideReaderOff_supply hk (by rw [hd]; rfl) (hr (by simp [hd]))]
    · rw [State.readerToOff_powering hd]
      exact reader_finish_event hheld hc _ _
    · obtain ⟨hw, hriu⟩ := hgated hd
      obtain ⟨hend, harmed, ht⟩ := hw.finish_event hheld hc .ok
      exact ⟨hend hapart, harmed, ht.trans hriu⟩
    · obtain ⟨hw, hriu⟩ := hopened hd
      obtain ⟨hend, harmed, ht⟩ := hw.finish_event hheld hc .ok
      exact ⟨hend hapart, harmed, ht.trans hriu⟩
  case release =>
    have hheld := State.reader_held h rfl
    refine ⟨_, cardEvent_on h decideReleaseQuarantine, fun hd => ?_, fun hd hn => ?_, fun hd hn => ?_,
      fun _ => ((Acts.refl s readerParts).decideReleaseQuarantine off c (by decide)).reader_event hc⟩
    · rw [decideReleaseQuarantine_eq, if_pos hd]
      exact reader_refuse_event h rfl hc _
    · rw [decideReleaseQuarantine_eq, if_neg (not_not_intro hd), if_pos hn]
      exact reader_refuse_event h rfl hc _
    · rw [decideReleaseQuarantine_eq, if_neg (not_not_intro hd), if_neg (not_not_intro hn), State.setDomain_of_ne (by decide)]
      exact reader_finish_event hheld hc _ _
  case openLink =>
    have hheld := State.reader_held h rfl
    refine ⟨_, cardEvent_on h decideOpenLink, ((Acts.refl s readerParts).decideOpenLink off c (by decide)).reader_event hc,
      fun o ho => ?_, fun hn => ?_⟩
    · simp only [decideOpenLink_eq, show s.openLinkRefusal = some o from ho]
      exact reader_refuse_event h rfl hc _
    simp only [decideOpenLink_eq, show s.openLinkRefusal = none from hn]
    by_cases hd : s.riu.domain = .gated
    · rw [if_pos hd, State.openReaderLink_eq]
      obtain ⟨hend, hriu⟩ := reader_finish_event hheld hc Riu.linkOpened .ok
      exact ⟨hend, fun hd' => (nomatch hd.symm.trans hd'), fun _ => hriu⟩
    · rw [if_neg hd]
      obtain ⟨hend, hriu⟩ := reader_done_event hheld hc .ok
      exact ⟨hend, fun _ => hriu, fun hd' => absurd hd' hd⟩
  case closeLink =>
    have hheld := State.reader_held h rfl
    refine ⟨_, cardEvent_on h decideCloseLink, fun hd => ?_, fun hd => ?_, fun hd => ?_⟩
    · rw [decideCloseLink_refused hd]
      exact reader_refuse_event h rfl hc _
    · rw [decideCloseLink_gated hd]
      exact reader_done_event hheld hc _
    · rw [decideCloseLink_opened hd]
      obtain ⟨hw, hriu⟩ := State.closeReaderLink_withdraws (State.waitingKind_of_holds h)
      obtain ⟨hend, harmed, ht⟩ := hw.finish_event hheld hc .ok
      exact ⟨ht.trans hriu, harmed, hend⟩

end Sys2Proof.Machine
end

section
/-! PROOFS. Two statements of chapter 08 that fail in states which no premise of theirs rules out: a night over whose store a check still
stands as running (R161, R178, R184), and a wake that ends in a closing with the WAKE NOW card next to that of an armed receive (R136, R169,
R202). -/
namespace Sys2Proof.Machine

variable {s : State}

/-! ## Calm states in which nothing waits for a panel, a price or a position -/

/-- What is left to show of a calm state in which nothing but store steps can wait: no closing in phase POSITIONS, no stage 3, no pending
price, no LOAD PRICE, both positions CLOSED. -/
theorem State.calm_of_closed (hw : s.ssu.site = .waking → s.ssu.wake.stage ≠ 3) (hs : s.ssu.site ≠ .closing)
    (hp : ∀ g, (s.grade g).pending = none) (hl : s.pru.loading = none) (hq : s.stepsWait) (hg : ∀ side, (s.pos side).st.isClosed = true)
    (hst : ∀ side g, s.panelState g side = .unused) : s.calm := by
  refine ⟨fun h h3 => absurd h3 (hw h), fun h => absurd h hs, fun _ g h => ?_, fun _ l h => ?_, hq, fun side h => ?_, fun _ side g h => ?_⟩
  · rw [hp g] at h; cases h
  · rw [hl] at h; cases h
  · have hc := hg side
    rw [h] at hc; cases hc
  · rw [hst side g] at h; rcases h with h | h <;> cases h

/-! ## The opening time: the premises let a store check run in NIGHT -/

/-- The event of a clock count while main supply is present (R156). -/
theorem exec_clockCount_on (hm : s.mainSupply = true) : exec .clockCount s = .next (publish s s.countClock.react) := if_pos hm

/-- A site in NIGHT one second before its opening time, both positions closed for NIGHT, whose store is not readable. A store check stands
as running, and behind it waits the HEADER step of a check that restores. -/
def checkedNight : State :=
  { State.reset with
    ssu := { State.reset.ssu with
      site := .night, stageTimer := none, clock := { day := 0, second := 21599, lost := false },
      schedule := some { closing := 0, opening := 21600 } },
    psc := { a := Position.default.enter (.closed .night), b := Position.default.enter (.closed .night) },
    rsc := { State.reset.rsc with check := .running, queue := [{ records := [.header], requesters := [.header] }] } }

theorem checkedNight_calm : checkedNight.calm :=
  State.calm_of_closed (fun h => absurd h (by decide)) (by decide) (by decide) rfl (.inr (.inr rfl)) (fun side => by cases side <;> rfl)
    fun side g => by cases side <;> revert g <;> decide

/-- The wake asks for a check of its own and so takes away what held the queue back (R164, R178): the HEADER step begins, completes at once
for want of a live generation, and its requester reports RESTORED to the stage 1 that has just begun (R184, R188). -/
theorem checkedNight_restored :
    checkedNight.countClock.rsc.check = .requested ∧ checkedNight.countClock.rsc.canBegin = true
      ∧ (publish checkedNight checkedNight.countClock.react).rsc.check = .none := by
  refine ⟨?_, ?_, ?_⟩ <;> decide +kernel

/-- Refutes O50: a calm state does not tie a running store check to stage 1 of a wake, so that a wake which the opening time begins need not
stand in stage 1, its check requested, when the event is over. Nothing is said here of the other site states, nor of the cards. -/
theorem not_clockCountsAndJudgesTheSchedule : ¬ Obligations.ClockCountsAndJudgesTheSchedule := by
  unfold Obligations.ClockCountsAndJudgesTheSchedule
  rintro ⟨hcount, -⟩
  obtain ⟨t, ht, -, -, -, hjudge⟩ := hcount checkedNight checkedNight_calm
  obtain ⟨-, -, -, -, -, -, -, -, hnight⟩ := hjudge { closing := 0, opening := 21600 } rfl rfl rfl
  obtain ⟨-, -, -, -, hcheck, -⟩ := hnight rfl (by decide) rfl
  rw [exec_clockCount_on rfl] at ht
  have hrestored := checkedNight_restored.2.2
  rw [Host.Outcome.next.inj ht, hcheck] at hrestored
  exact absurd hrestored (by decide)

/-! ## The end of a wake: the premises let the site lane's card lie over that of an armed receive -/

/-- The event of stage 4's window (R167). -/
theorem exec_meterSettleExpiry_on (hm : s.mainSupply = true) (hs : s.ssu.site = .waking) (ht : s.ssu.stageTimer.isSome = true)
    (h4 : s.ssu.wake.stage = 4) : exec .meterSettleExpiry s = .next (publish s ((s.endStage 3 0).beginReaderResume).react) :=
  eventWhen_on hm (by simp [hs, ht, h4]) _

/-- The WAKE NOW card at 0900h. -/
def wakeNowCard : Card := { kind := 0x2F, flags := 0, target := 0, words := 1, hostReference := 0, body := List.replicate 4 0 }

/-- A wake in METER SETTLE with a closing held over, a WAKE NOW waiting at 0900h, its link showing END. The reader is GATED, nothing is to be
resumed, and a receive is armed from the card at 08FCh, over whose later fields the host has since written the WAKE NOW card. -/
def wakeOverReceive : State :=
  { State.reset with
    ssu := { State.reset.ssu with
      heldOver := true, wake := { origin := .card, stage := 4, outcomes := Vector.replicate 6 none }, stageTimer := some 2000 },
    rsc := { State.reset.rsc with generation := some 1, check := .none },
    riu := { Riu.default with domain := .gated, armed := [{ card := 0x8FC, buffer := 0, note := false, toEnd := true }] },
    lanes :=
      { dispense := .default, reader := .default,
        site := { Lane.default with st := .waiting, held := some { offset := 0x900, card := wakeNowCard, phase := .waiting } } },
    xm := [(0x900, 0x2F), (0x902, 1), (0x904, 1), (0x90A, 1)] }

theorem wakeOverReceive_calm : wakeOverReceive.calm :=
  State.calm_of_closed (fun _ => by decide) (by decide) (by decide) rfl (.inl rfl) (fun side => by cases side <;> rfl)
    fun side g => by cases side <;> revert g <;> decide

theorem wakeOverReceive_allClosed : wakeOverReceive.allClosed := fun side => by cases side <;> exact ⟨rfl, rfl⟩

/-- The one card that a lane holds lies in the pool and its link shows END; so does the armed receive's lie in the pool. -/
theorem wakeOverReceive_cardsEnd : wakeOverReceive.cardsEnd := by
  refine ⟨fun l h hh => ?_, by decide⟩
  cases l with
  | dispense | reader => cases hh
  | site =>
    obtain rfl := Option.some.inj hh
    refine ⟨by decide, by decide, fun k g hg hk => ?_⟩
    cases k with
    | dispense | reader => cases hg
    | site => exact absurd rfl hk

/-- Stage 6 enters CLOSING and takes the reader down: the armed receive finishes WITHDRAWN, its outcome on the link of WAKE NOW's card (R136,
R161, R202). That card then follows it: FINISHED-LINK, and the lane halts (R198, R200). -/
theorem wakeOverReceive_overwritten :
    wakeOverReceive.withdrawArmed.readLink 0x900 = .next CardOutcome.withdrawn.code
      ∧ (publish wakeOverReceive ((wakeOverReceive.endStage 3 0).beginReaderResume).react).half 0x904 = CardState.finishedLink.code := by
  constructor <;> decide +kernel

/-- Refutes O52: no premise keeps the card that waits on the site lane apart from that of an armed receive, so that a WAKE NOW which ends
with the wake need not be left FINISHED-END. Nothing is said here of the stages before, nor of what else ends a wake. -/
theorem not_wakeStageTimers : ¬ Obligations.WakeStageTimers := by
  unfold Obligations.WakeStageTimers
  rintro ⟨-, -, hsettle, -⟩
  obtain ⟨t, ht, -, -, hoff, -⟩ := hsettle wakeOverReceive rfl wakeOverReceive_calm rfl wakeOverReceive_allClosed rfl rfl
  obtain ⟨-, -, -, -, hwake, -⟩ := hoff rfl
  obtain ⟨-, hstate, -⟩ := hwake ⟨by decide, by decide⟩ wakeOverReceive_cardsEnd 0x900 wakeNowCard rfl (by decide)
  obtain rfl : publish wakeOverReceive ((wakeOverReceive.endStage 3 0).beginReaderResume).react = t :=
    Host.Outcome.next.inj ((exec_meterSettleExpiry_on rfl rfl rfl rfl).symm.trans ht)
  rw [wakeOverReceive_overwritten.2] at hstate
  exact absurd hstate (by decide)

end Sys2Proof.Machine
end

section
/-! PROOFS. The statement about store steps and the rebuild, which fails in a state that no premise of it rules out: the night entry's METERS
step completes with the NIGHT NOW card next to that of an armed receive (R136, R161, R178, R202). -/
namespace Sys2Proof.Machine

variable {s : State}

/-! ## STORE_STEP_COMPLETION as an event (R178) -/

theorem exec_storeStepCompletion_on (hm : s.mainSupply = true) (ha : s.rsc.active.isSome = true) :
    exec .storeStepCompletion s = .next (publish s s.completeStep.react) :=
  eventWhen_on hm ha _

/-- The completion of the METERS step of a night entry has its requester enter NIGHT (R161, R178). -/
theorem State.completeStep_nightMeters {a : ActiveStep} (ha : s.rsc.active = some a) (hw : a.step.requesters = [.nightMeters]) :
    s.completeStep = s.endStep.1.enterNight := by
  have hwho : s.endStep.2 = [.nightMeters] := by simp [State.endStep, ha, hw]
  simp [State.completeStep, hwho, State.answerAll, State.answer]

/-! ## The state -/

/-- Of the cards of the lanes only the site lane's can lie too low or lead on, when the other lanes hold none. -/
theorem State.cardsEnd_of_site {h : Held} (hd : s.lanes.dispense.held = none) (hr : s.lanes.reader.held = none)
    (hs : s.lanes.site.held = some h) (hpool : 0x800 ≤ h.offset) (hend : s.readLink h.offset = .atEnd)
    (harmed : ∀ e ∈ s.riu.armed, 0x800 ≤ e.card) : s.cardsEnd := by
  have hnone (l : LaneId) (hl : l ≠ .site) : (s.lane l).held = none := by
    cases l with
    | dispense => exact hd
    | site => exact absurd rfl hl
    | reader => exact hr
  refine ⟨fun l g hg => ?_, harmed⟩
  by_cases hl : l = .site
  · subst hl
    obtain rfl : h = g := Option.some.inj (hs.symm.trans hg)
    exact ⟨hpool, hend, fun k f hf hk => by rw [hnone k hk] at hf; cases hf⟩
  · rw [hnone l hl] at hg; cases hg

/-- The NIGHT NOW card at 0900h. -/
def nightNowCard : Card := { kind := 0x2E, flags := 0, target := 0, words := 0, hostReference := 0, body := [] }

/-- A closing in phase METERS, both positions closed for NIGHT, its store step in progress and the NIGHT NOW that began it waiting at 0900h,
its link showing END. The reader has been powered again since phase READER DOWN and is GATED (log 42), and a receive is armed from the card
at 08FCh, over whose later fields the NIGHT NOW card lies. -/
def nightOverReceive : State :=
  { State.reset with
    ssu := { State.reset.ssu with
      site := .closing, closingOrigin := some .card, closingPhase := some .meters, stageTimer := none },
    psc := { a := Position.default.enter (.closed .night), b := Position.default.enter (.closed .night) },
    rsc := { State.reset.rsc with
      generation := some 1, check := .none,
      active := some {
        step := { records := [.meters], requesters := [.nightMeters] }, generation := 1, contents := Contents.default 0 } },
    riu := { Riu.default with domain := .gated, armed := [{ card := 0x8FC, buffer := 0, note := false, toEnd := true }] },
    lanes :=
      { dispense := .default, reader := .default,
        site := { Lane.default with st := .waiting, held := some { offset := 0x900, card := nightNowCard, phase := .waiting } } },
    xm := [(0x900, 0x2E), (0x902, 1), (0x904, 1)] }

theorem nightOverReceive_calm : nightOverReceive.calm := by
  have hunused : ∀ side g, nightOverReceive.panelState g side = .unused := fun side g => by cases side <;> revert g <;> decide
  refine State.quiet.calm ⟨⟨fun h => absurd h (by decide), fun _ => by decide, by decide, rfl, rfl, fun side => ?_⟩, fun _ side g h => ?_⟩
  · cases side <;> decide
  · rw [hunused side g] at h; rcases h with h | h <;> cases h

theorem nightOverReceive_cardsEnd : nightOverReceive.cardsEnd :=
  State.cardsEnd_of_site rfl rfl rfl (by decide) (by decide) (by decide)

/-! ## The event -/

/-- The entry to NIGHT takes the reader down: the armed receive finishes WITHDRAWN, its outcome on the link of NIGHT NOW's card (R136, R150,
R202). That card is then finished with the link so read: FINISHED-LINK (R200). -/
theorem nightOverReceive_overwritten :
    nightOverReceive.endStep.1.readerToOff.readLink 0x900 = .next CardOutcome.withdrawn.code
      ∧ (publish nightOverReceive nightOverReceive.endStep.1.enterNight.react).half 0x904 = CardState.finishedLink.code := by
  constructor <;> decide +kernel

/-! ## The statement -/

/-- Refutes O57: no premise keeps the NIGHT NOW card that waits on the site lane apart from that of an armed receive, so that at the
completion of the night entry's METERS step it need not be left FINISHED-END. Nothing is said here of what else a completion leaves, nor of
REBUILD STORE. -/
theorem not_storeStepsAndRebuild : ¬ Obligations.StoreStepsAndRebuild := by
  unfold Obligations.StoreStepsAndRebuild
  rintro ⟨hcomplete, -⟩
  obtain ⟨t, ht, -, -, -, -, -, -, -, -, -, hnight, -⟩ := hcomplete nightOverReceive rfl nightOverReceive_calm _ rfl (.inl rfl)
  obtain ⟨-, -, hcard, -, -⟩ := hnight rfl (.inl rfl) rfl rfl
  obtain ⟨-, hstate, -⟩ := hcard ⟨by decide, by decide⟩ nightOverReceive_cardsEnd 0x900 nightNowCard rfl (by decide)
  rw [exec_storeStepCompletion_on rfl rfl, State.completeStep_nightMeters rfl rfl] at ht
  have hlink := nightOverReceive_overwritten.2
  rw [Host.Outcome.next.inj ht, hstate] at hlink
  exact absurd hlink (by decide)

end Sys2Proof.Machine
end

section
/-! PROOFS. The statement about GO starts and aborts, which fails in a state that no premise of it rules out: the lane whose waiting card is
aborted need not be the lane of the card's kind, and the undo of a NIGHT NOW finishes the card that waits on the site lane (R173, R197,
R201). -/
namespace Sys2Proof.Machine

variable {s : State} {l : LaneId}

/-! ## GO_ABORT as an event (R197) -/

theorem exec_goAbort_on (hm : s.mainSupply = true) (hr : s.hostReset = false) (value : BitVec 15) :
    exec (.goAbort l value) s = .next (publish s (s.abortLane l).react) :=
  hostEvent_on hm hr _

/-- The abort of a waiting card finishes it ABORTED and then undoes what its kind has set going, whichever lane waits with it (R197, R201). -/
theorem State.abortLane_waiting {k : Kind} (hs : (s.lane l).st = .waiting) (hk : s.waitingKind l = some k) :
    s.abortLane l = k.undo (s.abortCard l) := by
  simp only [State.abortLane, hs, hk]

/-! ## The state -/

/-- The closing of `nightOverReceive`, of origin CARD, without its armed receive: both the site lane and the reader lane wait with the NIGHT
NOW card at 0900h, its link showing END. -/
def nightOnTwoLanes : State :=
  { nightOverReceive with
    riu := Riu.default
    lanes := { nightOverReceive.lanes with reader := nightOverReceive.lanes.site } }

/-- What waits for an event does not look at the lanes, nor at the reader. -/
theorem nightOnTwoLanes_calm : nightOnTwoLanes.calm := nightOverReceive_calm

/-! ## The event -/

/-- The abort of the reader lane writes ABORTED; its undo then withdraws the closing, and with it the NIGHT NOW of the site lane finishes
WITHDRAWN, on the same card (R162, R173). -/
theorem nightOnTwoLanes_overwritten :
    (nightOnTwoLanes.abortCard .reader).half 0x906 = BitVec.ofNat 16 CardOutcome.aborted.code
      ∧ (publish nightOnTwoLanes (Kind.nightNow.undo (nightOnTwoLanes.abortCard .reader)).react).half 0x906
          = BitVec.ofNat 16 CardOutcome.withdrawn.code := by
  constructor <;> decide +kernel

/-! ## The statement -/

/-- Refutes O59: its last clause asks of an aborted card only that it has a kind, not that the kind is of the lane that waits with it, nor
that the cards of two lanes lie apart, so that a NIGHT NOW aborted on a lane other than the site's need not keep the outcome ABORTED.
Nothing is said here of the starts and of the chain, nor of the aborts of other kinds. -/
theorem not_goStartsAndAborts : ¬ Obligations.GoStartsAndAborts := by
  unfold Obligations.GoStartsAndAborts
  rintro ⟨-, -, habort⟩
  obtain ⟨t, ht, -, -, -, hwaiting⟩ := habort nightOnTwoLanes .reader 0 rfl rfl
  obtain ⟨hends, -⟩ := hwaiting 0x900 nightNowCard rfl rfl .nightNow (by decide)
  obtain ⟨houtcome, -⟩ := hends nightOnTwoLanes_calm ⟨by decide, by decide⟩ (by decide)
  rw [exec_goAbort_on rfl rfl, State.abortLane_waiting rfl (k := .nightNow) (by decide)] at ht
  have hwithdrawn := nightOnTwoLanes_overwritten.2
  rw [Host.Outcome.next.inj ht, houtcome] at hwithdrawn
  exact absurd hwithdrawn (by decide)

end Sys2Proof.Machine
end

section
/-! PROOFS. The step (R197's front command), and the invariants that follow from what an event leaves alone: the form of memory, the mirrors
(R190, R192, R194). -/
namespace Sys2Proof.Machine

variable {s t u : State}

/-! ## The step -/

/-- Settles O1, by the two cases of the queue. -/
theorem stepRunsTheFrontCommand : Obligations.StepRunsTheFrontCommand := by
  refine ⟨fun c rest s h => ?_, fun s h => ?_⟩ <;> simp only [step, h]

/-- A step idles, or runs a command on the state with the queue's rest. -/
theorem step_cases (h : step s = .next t) : t = s ∨ ∃ c rest, exec c { s with pending := rest } = .next t := by
  unfold step at h
  split at h
  · exact .inl (Host.Outcome.next.inj h).symm
  · exact .inr ⟨_, _, h⟩

/-- What every command keeps, and the queue does not bear on, every step keeps. -/
theorem step_keeps {I : State → Prop} (hq : ∀ (s : State) (q : List Instr), I s → I { s with pending := q })
    (he : ∀ (c : Instr) (s t : State), I s → exec c s = .next t → I t) {s t : State} (hs : I s) (h : step s = .next t) : I t := by
  rcases step_cases h with rfl | ⟨c, rest, hc⟩
  · exact hs
  · exact he c _ t (hq s rest hs) hc

/-! ## What every command leaves of memory and mirrors -/

/-- From `s` to `u` exchange memory keeps its form and no mirror moves. -/
def State.holdsStill (s u : State) : Prop := (s.memoryOk → u.memoryOk) ∧ u.mirrors.settled = s.mirrors.settled

theorem Acts.holdsStill {P : List Part} (h : Acts s u P) : s.holdsStill u := ⟨h.memory, h.mirrors⟩

/-- An event is made, by an effect that leaves memory's form and the mirrors. -/
def State.makesEvent (s t : State) : Prop := ∃ u, s.holdsStill u ∧ t = publish s u.react

/-- Neither memory nor a mirror has changed: the level of HRESET_N, the battery's, and with main supply off the clock (R156, R185, R191). -/
def State.linesChange (s t : State) : Prop :=
  ∃ (r : Bool) (k : Clock) (low cut : Bool), (k = s.ssu.clock ∨ s.mainSupply = false ∧ k = s.ssu.clock.tick) ∧
    t = { s with hostReset := r, ssu := { s.ssu with clock := k }, rsc := { s.rsc with batteryLow := low, batteryCut := cut } }

theorem State.linesChange.refl (s : State) : s.linesChange s := ⟨_, _, _, _, .inl rfl, rfl⟩

theorem State.linesChange.image (h : s.linesChange t) (hs : s.mainSupply = true) : t.image = s.image := by
  obtain ⟨r, k, low, cut, rfl | ⟨hk, -⟩, rfl⟩ := h
  · exact funext fun p => by cases p <;> rfl
  · simp [hs] at hk

theorem hostEvent_still {f : State → State} (h : hostEvent s f = .next t) (hf : s.holdsStill (f s)) : s.linesChange t ∨ s.makesEvent t := by
  rcases hostEvent_cases s f with k | k <;> obtain rfl := Host.Outcome.next.inj (k.symm.trans h)
  · exact .inl (.refl s)
  · exact .inr ⟨_, hf, rfl⟩

theorem State.present_holdsStill (s : State) (i : Fin 13) : s.holdsStill (s.present i) :=
  ⟨fun h => State.memoryOk_writeBytes h _ _, by simp [State.present]⟩

theorem State.failParity_holdsStill (s : State) (a : Nat) (c : Cause) (d : Nat) : s.holdsStill ((s.failParity a).raise c d) := by
  unfold State.failParity
  split
  · exact ⟨fun h => ⟨h.1, rising_insertRising a h.2⟩, rfl⟩
  · exact ⟨id, rfl⟩

theorem State.resetHost_holdsStill (s : State) : s.holdsStill s.resetHost := by
  have ha : Acts s ((((((s.modLane .dispense Lane.hostReset).modLane .site Lane.hostReset).modLane .reader Lane.hostReset).undoSend.modRiu
      fun r => { r with armed := [] }).modPru fun u => { u with loading := none }).dismiss Requester.ofHost) every := by
    simp (maxDischargeDepth := 12) [mem_every]
  exact ⟨ha.memory, ha.mirrors⟩

/-- What power returning and a cold start do: nothing, or a power-on. -/
theorem exec_power {c : Instr} (hc : c = .powerOn ∨ c = .coldStart) (h : exec c s = .next t) :
    t = s ∨ t = publish s.powerOnBase s.powerOnBase.powerOnEffects.react := by
  rcases hc with rfl | rfl <;> simp only [exec, execPowerOn, execColdStart] at h <;> split at h <;>
    obtain rfl := Host.Outcome.next.inj h <;> simp

/-- What a fall of the supply does (R179, R183): the store alone may have changed. -/
theorem exec_fall (h : exec .supplyFall s = .next t) :
    t = s ∨ t = { s with mainSupply := false, free := s.free + 1, rsc := { s.rsc with
      store := match s.rsc.active with
        | some a => s.rsc.store.cut a (s.rsc.lost && a.step.records != allRecords) s.free
        | none => s.rsc.store
      active := none, batteryCut := s.rsc.batteryLow } } := by
  simp only [exec, execSupplyFall] at h
  split at h <;> obtain rfl := Host.Outcome.next.inj h
  · exact .inr (by cases s.rsc.active <;> rfl)
  · exact .inl rfl

/-- Every command but a power-on and the fall of the supply changes lines and clock alone, or makes an event. -/
theorem exec_still {c : Instr} (hc : c ≠ .supplyFall ∧ c ≠ .powerOn ∧ c ≠ .coldStart) (h : exec c s = .next t) :
    s.linesChange t ∨ s.makesEvent t := by
  by_cases hp : special c = true
  · cases c <;> simp only [special, Bool.false_eq_true, reduceCtorEq, ne_eq, not_true, not_false_eq_true, and_true,
      and_false] at hp hc
    case batteryLoss =>
      simp only [exec, execBatteryLoss] at h
      split at h
      · split at h <;> obtain rfl := Host.Outcome.next.inj h
        · exact .inl (.refl s)
        · exact .inr ⟨_, (Acts.loseBattery (Acts.refl s every) (by simp [mem_every])).holdsStill, rfl⟩
      · exact .inl (Host.Outcome.next.inj h ▸ ⟨_, _, _, _, .inl rfl, rfl⟩)
    case batteryReturn => exact .inl (Host.Outcome.next.inj h ▸ ⟨_, _, _, _, .inl rfl, rfl⟩)
    case hostReset =>
      simp only [exec, execHostReset] at h
      split at h
      · exact .inl (Host.Outcome.next.inj h ▸ .refl s)
      · split at h <;> obtain rfl := Host.Outcome.next.inj h
        · exact .inr ⟨_, s.resetHost_holdsStill, rfl⟩
        · exact .inl ⟨_, _, _, _, .inl rfl, rfl⟩
    case hostResetRelease => exact .inl (Host.Outcome.next.inj h ▸ ⟨_, _, _, _, .inl rfl, rfl⟩)
    case clockCount =>
      simp only [exec, execClockCount] at h
      split at h <;> obtain rfl := Host.Outcome.next.inj h
      · exact .inr ⟨_, (Acts.countClock (Acts.refl s every) (by simp [mem_every])).holdsStill, rfl⟩
      · rename_i hs
        exact .inl ⟨_, _, _, _, .inr ⟨by simpa using hs, rfl⟩, rfl⟩
    case noticeRead =>
      simp only [exec, execNoticeRead] at h
      refine hostEvent_still h ?_
      split
      · exact s.present_holdsStill _
      · exact ⟨id, rfl⟩
    case noticeDone v =>
      simp only [exec, execNoticeDone] at h
      exact hostEvent_still h ⟨id, rfl⟩
    case overrunWrite v =>
      simp only [exec, execOverrunWrite] at h
      exact hostEvent_still h ⟨id, rfl⟩
    case enableWrite v =>
      simp only [exec, execEnableWrite] at h
      exact hostEvent_still h ⟨id, rfl⟩
    case hostParity offset =>
      simp only [exec, execHostParity] at h
      exact hostEvent_still h (s.failParity_holdsStill _ _ _)
  · rcases exec_event (Bool.eq_false_iff.mpr hp) h with rfl | ⟨u, hu, rfl⟩
    · exact .inl (.refl _)
    · exact .inr ⟨u, hu.holdsStill, rfl⟩

/-! ## The form of memory (R190) -/

theorem State.react_holdsStill (s : State) : s.holdsStill s.react := (Acts.reactAll s).holdsStill

theorem State.holdsStill.trans (h : s.holdsStill t) (k : t.holdsStill u) : s.holdsStill u := ⟨k.1 ∘ h.1, k.2.trans h.2⟩

theorem State.powerOnEffects_holdsStill (s : State) : s.holdsStill s.powerOnEffects :=
  Acts.holdsStill (P := every) (by simp (maxDischargeDepth := 12) [mem_every])

theorem exec_memoryOk {c : Instr} (hs : s.memoryOk) (h : exec c s = .next t) : t.memoryOk := by
  by_cases hp : c = .powerOn ∨ c = .coldStart
  · rcases exec_power hp h with rfl | rfl
    · exact hs
    · have hb : s.powerOnBase.memoryOk := ⟨rfl, rfl⟩
      exact memoryOk_publish _ (((State.powerOnEffects_holdsStill _).trans (State.react_holdsStill _)).1 hb)
  · by_cases hf : c = .supplyFall
    · subst hf
      rcases exec_fall h with rfl | rfl <;> exact hs
    · obtain ⟨h1, h2⟩ := not_or.mp hp
      rcases exec_still ⟨hf, h1, h2⟩ h with ⟨r, k, low, cut, -, rfl⟩ | ⟨u, hu, rfl⟩
      · exact hs
      · exact memoryOk_publish _ ((hu.trans (State.react_holdsStill u)).1 hs)

/-- Settles O3: a store keeps the canonical form, and memory changes by stores alone. -/
theorem memoryKeepsItsForm : Obligations.MemoryKeepsItsForm :=
  fun _ _ hs h => step_keeps (fun _ _ h => h) (fun _ _ _ hs h => exec_memoryOk hs h) hs h

/-! ## The mirrors (R194) -/

theorem exec_generationsEven {c : Instr} (hs : s.generationsEven) (h : exec c s = .next t) : t.generationsEven := by
  by_cases hp : c = .powerOn ∨ c = .coldStart
  · rcases exec_power hp h with rfl | rfl
    · exact hs
    · refine generationsEven_publish _ (generationsEven_congr
        ((State.powerOnEffects_holdsStill s.powerOnBase).trans (State.react_holdsStill _)).2 ?_)
      exact ⟨rfl, rfl, rfl, rfl, rfl, rfl⟩
  · by_cases hf : c = .supplyFall
    · subst hf
      rcases exec_fall h with rfl | rfl <;> exact hs
    · obtain ⟨h1, h2⟩ := not_or.mp hp
      rcases exec_still ⟨hf, h1, h2⟩ h with ⟨r, k, low, cut, -, rfl⟩ | ⟨u, hu, rfl⟩
      · exact hs
      · exact generationsEven_publish s (generationsEven_congr (hu.trans (State.react_holdsStill u)).2 hs)

/-- An event's end leaves a mirror part that showed its fields showing them; the count fields are no part of it (R22). -/
theorem publish_mirrored {p : MirrorPart} (hp : p ≠ .meterCounts) (h : s.mirrored p) (hm : u.mirrors.settled = s.mirrors.settled) :
    (publish s u).mirrored p := by
  have hf : u.mirrors.fields p = s.mirrors.fields p :=
    show u.mirrors.settled.fields p = s.mirrors.settled.fields p from by rw [hm]
  have hpub : (publish s u).mirrors.fields p = (State.partUpdate s u p (u.mirrors.fields p)).1 := by
    cases p <;> first | rfl | exact absurd rfl hp
  have himage : (publish s u).image p = u.image p := by cases p <;> rfl
  unfold State.mirrored at h ⊢
  rw [hpub, himage, hf, h]
  exact updatePart_mirrored ..

/-- Settles O11: every event publishes what has changed, and what makes no event changes nothing that a mirror shows. -/
theorem mirrorsFollowTheirOwners : Obligations.MirrorsFollowTheirOwners := by
  refine ⟨fun s t hs h => step_keeps (fun _ _ h => h) (fun _ _ _ hs h => exec_generationsEven hs h) hs h,
    fun c s t p hs hf hc hp h hm => ?_⟩
  by_cases hpow : c = .powerOn
  · subst hpow
    simp only [exec, execPowerOn, hs, if_true] at h
    exact Host.Outcome.next.inj h ▸ hm
  · rcases exec_still ⟨hf, hpow, hc⟩ h with hl | ⟨u, hu, rfl⟩
    · have hi := hl.image hs
      obtain ⟨r, k, low, cut, -, rfl⟩ := hl
      unfold State.mirrored at hm ⊢
      rw [hi]; exact hm
    · exact publish_mirrored hp hm (hu.trans (State.react_holdsStill u)).2

end Sys2Proof.Machine
end

section
/-! PROOFS. The arithmetic of amounts and targets (R27, R29, R31 to R35). -/
namespace Sys2Proof.Machine

/-! ## The rounded amount (R29) -/

/-- A rounded amount reaches an amount of 1 or more exactly at that amount's threshold (R32). -/
theorem le_roundAmount_iff {mode : RoundMode} {n x : Nat} (hx : 1 ≤ x) : x ≤ roundAmount mode n ↔ threshold mode x ≤ n := by
  cases mode with
  | halfEven =>
    unfold roundAmount threshold
    dsimp only
    (repeat' split) <;> omega
  | truncate => unfold roundAmount threshold; dsimp only; omega
  | halfUp =>
    unfold roundAmount threshold
    dsimp only
    split <;> omega
  | ceiling =>
    unfold roundAmount threshold
    dsimp only
    split <;> omega
  | fiveCent =>
    unfold roundAmount threshold nextFive
    dsimp only
    split <;> omega

theorem roundAmount_zero (mode : RoundMode) : roundAmount mode 0 = 0 := by cases mode <;> rfl

theorem roundAmount_mono (mode : RoundMode) {n k : Nat} (h : n ≤ k) : roundAmount mode n ≤ roundAmount mode k := by
  rcases Nat.eq_zero_or_pos (roundAmount mode n) with h0 | h0
  · omega
  · exact (le_roundAmount_iff h0).mpr (((le_roundAmount_iff h0).mp (le_refl _)).trans h)

theorem RoundMode.ofCode_eq (mode : RoundMode) (code : Nat) : RoundMode.ofCode code = some mode ↔ code = mode.code := by
  constructor
  · intro h
    unfold RoundMode.ofCode at h
    split at h <;> cases h <;> rfl
  · rintro rfl
    cases mode <;> rfl

/-! ## Targets (R32 to R35) -/

/-- The volumes of 1 or more whose rounded amount reaches an amount are those from the least volume on (R32). -/
theorem leastVolume_le_iff {mode : RoundMode} {e x w : Nat} (he : 1 ≤ e) (hw : 1 ≤ w) :
    leastVolume mode e x ≤ w ↔ x ≤ roundAmount mode (w * e) := by
  unfold leastVolume
  split
  · rename_i h; simp [h, hw]
  · rename_i h
    rw [le_roundAmount_iff (by omega), Nat.max_le, Nat.div_le_iff_le_mul (by omega)]
    omega

theorem one_le_leastVolume (mode : RoundMode) (e x : Nat) : 1 ≤ leastVolume mode e x := by
  unfold leastVolume; split <;> omega

theorem effectivePrice_eq (p d : Nat) : effectivePrice p d = if p < d + 1 then 1 else p - d := by
  unfold effectivePrice
  split
  · exact Nat.max_eq_left (by omega)
  · exact Nat.max_eq_right (by omega)

theorem adjustPreset_eq (mode : RoundMode) (preset : Preset) :
    adjustPreset mode preset = (match preset with
      | .amount x => .amount (if mode = .fiveCent then x - x % 5 else x)
      | q => q) := by
  cases preset with
  | amount x =>
    have h : x / 5 * 5 = x - x % 5 := by omega
    simp only [adjustPreset, h]
    split <;> rfl
  | _ => rfl

theorem slowDownPoint_eq (dist vt : Nat) : slowDownPoint dist vt = if dist = 0 then none else some (vt - dist) := by
  unfold slowDownPoint
  split
  · rfl
  · split <;> simp; omega

theorem effectiveTarget_fst (o : Option Nat) (l c : Nat) :
    (effectiveTarget o l c).1 = (match o with
      | none => min l c
      | some v => min v (min l c)) := by
  unfold effectiveTarget
  cases o with
  | none => rfl
  | some v => dsimp only; split <;> simp <;> omega

theorem effectiveTarget_snd (o : Option Nat) (l c : Nat) :
    (effectiveTarget o l c).2 = if o = some (effectiveTarget o l c).1 then .preset else .limit := by
  unfold effectiveTarget
  cases o with
  | none => rfl
  | some v =>
    dsimp only
    split
    · simp
    · rename_i h
      rw [if_neg]
      rintro ⟨rfl⟩
      exact h (le_refl _)

/-- Settles O23. -/
theorem targetsOfALock : Obligations.TargetsOfALock := by
  refine ⟨fun mode e x he => ⟨one_le_leastVolume mode e x, ?_, fun w hw h => (leastVolume_le_iff he hw).mpr h⟩,
    fun p d mode preset vl dist => ⟨rfl, rfl, effectivePrice_eq p d, rfl, adjustPreset_eq mode preset, ?_, slowDownPoint_eq dist _⟩⟩
  · exact (leastVolume_le_iff he (one_le_leastVolume mode e x)).mp (le_refl _)
  · have hvt := effectiveTarget_fst (presetTarget mode (effectivePrice p d) (adjustPreset mode preset)) vl
      (ceilingTarget mode (effectivePrice p d))
    have hsource := effectiveTarget_snd (presetTarget mode (effectivePrice p d) (adjustPreset mode preset)) vl
      (ceilingTarget mode (effectivePrice p d))
    exact ⟨hvt, hsource⟩

end Sys2Proof.Machine
end

section
/-! PROOFS. What a command does when it does anything, said once for all commands: the condition under which its row describes an event, and
the event's own effect (R183, R191, log 1). -/
namespace Sys2Proof.Machine

variable {s t : State}

/-- The owner's decision of a card of each kind (R199). -/
def Kind.decision : Kind → Nat → Card → State → State
  | .authorize => decideAuthorize
  | .cancel => decideCancel
  | .stop => decideStop
  | .resume => decideResume
  | .closeSale => decideCloseSale
  | .readSale => decideReadSale
  | .closePosition => decideClosePosition
  | .openPosition => decideOpenPosition
  | .configureMeter => decideConfigureMeter
  | .configureHose => decideConfigureHose
  | .setRouting => decideSetRouting
  | .clearMeterFault => decideClearMeterFault
  | .readMeters => decideReadMeters
  | .setPricing => decideSetPricing
  | .clearSiteFlags => decideClearSiteFlags
  | .configurePosition => decideConfigurePosition
  | .loadPrice => decideLoadPrice
  | .setDisplayPolicy => decideSetDisplayPolicy
  | .setWatch => decideSetWatch
  | .setRelayFloor => decideSetRelayFloor
  | .setSchedule => decideSetSchedule
  | .setClock => decideSetClock
  | .nightNow => decideNightNow
  | .wakeNow => decideWakeNow
  | .readTotals => decideReadTotals
  | .rebuildStore => decideRebuildStore
  | .readerOn => decideReaderOn
  | .readerOff => decideReaderOff
  | .openLink => decideOpenLink
  | .closeLink => decideCloseLink
  | .send => decideSend
  | .armReceive => decideArmReceive
  | .disarmReceive => decideDisarmReceive
  | .releaseQuarantine => decideReleaseQuarantine

/-- The condition under which a command makes an event of the powered part. -/
def firesOn (s : State) : Instr → Bool
  | .recognitionInstant m a b => (s.meter m).recognises a b
  | .nozzleLift side h => (s.iwu.nozzles.get side)[h] != some true
  | .nozzleHang side h => (s.iwu.nozzles.get side)[h] != some false
  | .motorSettleExpiry side => (s.pos side).st == .starting .motor && (s.pos side).motorTimer.isSome
  | .satelliteNozzleLift side => s.iwu.satellites.get side != some true
  | .satelliteNozzleHang side => s.iwu.satellites.get side != some false
  | .emergencyStopAssertion => s.iwu.emergency != some true
  | .emergencyStopRelease => s.iwu.emergency != some false
  | .loopDeparted l => s.iwu.loop l != some false
  | .loopReturned l => s.iwu.loop l != some true
  | .sealChange isOpen => s.iwu.calSeal != some isOpen
  | .doorChange d isOpen => s.iwu.door d != some isOpen
  | .generalInputChange which levels => s.iwu.takeGeneral which levels != s.iwu
  | .settleWindowExpiry side => (s.pos side).st == .ending && (s.pos side).settleTimer.isSome
  | .flowTimerExpiry side => ((s.pos side).st == .fuelling || (s.pos side).st == .slowing) && (s.pos side).flowTimer.isSome
  | .authTimerExpiry side => (s.pos side).st == .authorized && (s.pos side).authTimer.isSome
  | .litFrame board f => (s.board board).attempt.any fun (a : Attempt) => a.number == f.number
  | .answerTimeout board => (s.board board).attempt.isSome
  | .refreshInstant _ => !s.powerDown
  | .settleTimerExpiry => s.riu.domain == .powering && s.riu.settleTimer.isSome
  | .inboundFrameStart => s.riu.domain == .opened && s.riu.receiver == .outside
  | .lineSilence => s.riu.receiver == .discarding
  | .inboundFrame f => s.riu.domain == .opened && s.riu.receiver == .inside && f.wellFormed
  | .inboundFrameTimeout => s.riu.domain == .opened && s.riu.receiver == .inside
  | .answerByteSent => s.riu.domain == .opened && !s.riu.answers.isEmpty && !s.riu.sending
  | .sendFrameEnd => s.riu.domain == .opened && s.riu.sending
  | .readerAnswer _ => s.riu.domain == .opened && s.riu.receiver == .outside && s.riu.awaits .awaiting
  | .sendAnswerExpiry => s.riu.awaits .awaiting
  | .holdDelayExpiry => s.riu.awaits .holding
  | .stageTimerExpiry => s.ssu.site == .waking && s.ssu.stageTimer.isSome && s.ssu.wake.stage != 4
  | .meterSettleExpiry => s.ssu.site == .waking && s.ssu.stageTimer.isSome && s.ssu.wake.stage == 4
  | .supplyWarning => s.rsc.supplyWarn != some true
  | .freezeWindowExpiry => s.powerDown && s.rsc.freeze == .window
  | .supplyWarnRelease => s.rsc.supplyWarn != some false
  | .storeCheckBegin => s.rsc.check == .requested && s.rsc.active.isNone && s.rsc.queue.isEmpty
  | .storeCheckEnd => s.rsc.check == .running
  | .storeStepCompletion => s.rsc.active.isSome
  | .batteryLoss => !s.rsc.batteryLow
  | .hostReset | .goStart _ _ | .goAbort _ _ | .noticeRead | .noticeDone _ | .overrunWrite _ | .enableWrite _ | .hostWrite _ _
  | .hostParity _ => !s.hostReset
  | .coldStart | .powerOn | .supplyFall | .batteryReturn | .hostResetRelease | .registerWriteOther _ _ => false
  | _ => true

/-- The command's own effect on the part. -/
def effectOf (s : State) : Instr → State
  | .recognitionInstant m a b => s.recognition m a b
  | .oneSecondPeriod => s.endSecond
  | .nozzleLift side h => let u := s.setNozzle side h true; if (u.route side h).fitted then u.lift side h else u
  | .nozzleHang side h =>
    let u := s.setNozzle side h false
    if (u.route side h).fitted && !((s.iwu.nozzles.get side)[h] == none) then u.hang side h else u
  | .motorSettleExpiry side => s.openValves side
  | .satelliteNozzleLift side => (s.setSatellite side true).requestSatellite side
  | .satelliteNozzleHang side => s.setSatellite side false
  | .emergencyStopAssertion =>
    (((s.modIwu fun u => { u with emergency := some true }).emergencyAt .a).emergencyAt .b).raise .emergencyStop 271
  | .emergencyStopRelease =>
    let u := s.modIwu fun u => { u with emergency := some false }
    if s.iwu.emergency == none then u else u.raise .emergencyStop 271
  | .loopDeparted l =>
    let u := (s.modIwu fun u => u.setLoop l false).raise .loopDeparted (loopDetail l)
    if u.riu.domain = .quarantine then u else u.quarantine
  | .loopReturned l =>
    let u := s.modIwu fun u => u.setLoop l true
    if s.iwu.loop l == none then u else u.raise .loopReturned (loopDetail l)
  | .sealChange isOpen =>
    let u := s.modIwu fun u => { u with calSeal := some isOpen }
    if reports s.iwu.calSeal isOpen then u.raise .seal 270 else u
  | .doorChange d isOpen =>
    let u := s.modIwu fun u => u.setDoor d isOpen
    if reports (s.iwu.door d) isOpen then u.raise .door (doorDetail d) else u
  | .generalInputChange which levels => s.judgeGeneral which levels
  | .settleWindowExpiry side => s.completeEnding side
  | .flowTimerExpiry side => s.endSale side .noFlow
  | .authTimerExpiry side => (s.arriveOpen side).raisePos side .authTimeout 0
  | .litFrame board f => s.takeLit board f
  | .answerTimeout board => s.attemptEnds board false
  | .refreshInstant board => s.refreshBoard board
  | .settleTimerExpiry =>
    let u := (s.setDomain .gated).endWaiting .readerOn [] .ok
    if u.riu.resuming then u.openReaderLink.resumeEnds 1 else u
  | .inboundFrameStart => s.modRiu fun r => { r with receiver := .inside }
  | .lineSilence => s.modRiu fun r => { r with receiver := .outside }
  | .inboundFrame f => s.judgeFrame (frameNext f) (frameGood f)
  | .inboundFrameTimeout => s.judgeFrame .outside none
  | .answerByteSent => s.modRiu fun r => { r with answers := r.answers.tail }
  | .sendFrameEnd =>
    if s.riu.orphan then s.modRiu fun r => { r with orphan := false }
    else s.modRiu fun r => { r with send := r.send.map fun x => { x with phase := .awaiting } }
  | .readerAnswer a => match s.riu.send with
    | some x => s.sendAnswered x a
    | none => s
  | .sendAnswerExpiry => match s.riu.send with
    | some x => s.attemptUsed x x.last
    | none => s
  | .holdDelayExpiry => s.modRiu fun r => { r with send := r.send.map fun x => { x with phase := .sending } }
  | .clockCount => s.countClock
  | .stageTimerExpiry => s.stageTimeout
  | .meterSettleExpiry => (s.endStage 3 0).beginReaderResume
  | .supplyWarning =>
    let u := s.modRsc fun r => { r with supplyWarn := some true }
    if u.powerDown then u.modRsc fun r => { r with coldWait := false } else u.warnSupply
  | .freezeWindowExpiry => s.freezeAll
  | .supplyWarnRelease =>
    s.modRsc fun r => { r with supplyWarn := some false, coldWait := !(s.rsc.supplyWarn == none) && s.powerDown }
  | .storeCheckBegin => s.modRsc fun r => { r with check := .running }
  | .storeCheckEnd => s.storeCheckEnds
  | .storeStepCompletion => s.completeStep
  | .batteryLoss => s.loseBattery
  | .hostReset => s.resetHost
  | .goStart l value => s.startLane l value.toNat
  | .goAbort l _ => s.abortLane l
  | .noticeRead => match s.ntc.presented, s.ntc.lowest with
    | none, some i => s.present i
    | _, _ => s
  | .noticeDone _ => s.modNtc fun n => { n with presented := none }
  | .overrunWrite value => s.modNtc fun n => { n with
    sources := Vector.ofFn fun i => { n.sources[i] with overrun := n.sources[i].overrun && !value.getLsbD i.val } }
  | .enableWrite value => s.modNtc fun n => { n with enable := value.setWidth 13 }
  | .hostWrite offset value =>
    let a := halfOffset offset.toNat
    if a < Config.poolBase then s.raise .writeRefused a else s.writeHalf a value
  | .hostParity offset => (s.failParity offset.toNat).raise .hostParity (halfOffset offset.toNat)
  | .coldStart | .powerOn | .supplyFall | .batteryReturn | .hostResetRelease | .registerWriteOther _ _ => s
  | .authorize => s.withCard .authorize decideAuthorize
  | .cancel => s.withCard .cancel decideCancel
  | .stop => s.withCard .stop decideStop
  | .resume => s.withCard .resume decideResume
  | .closeSale => s.withCard .closeSale decideCloseSale
  | .readSale => s.withCard .readSale decideReadSale
  | .closePosition => s.withCard .closePosition decideClosePosition
  | .openPosition => s.withCard .openPosition decideOpenPosition
  | .configureMeter => s.withCard .configureMeter decideConfigureMeter
  | .configureHose => s.withCard .configureHose decideConfigureHose
  | .setRouting => s.withCard .setRouting decideSetRouting
  | .clearMeterFault => s.withCard .clearMeterFault decideClearMeterFault
  | .readMeters => s.withCard .readMeters decideReadMeters
  | .setPricing => s.withCard .setPricing decideSetPricing
  | .clearSiteFlags => s.withCard .clearSiteFlags decideClearSiteFlags
  | .configurePosition => s.withCard .configurePosition decideConfigurePosition
  | .loadPrice => s.withCard .loadPrice decideLoadPrice
  | .setDisplayPolicy => s.withCard .setDisplayPolicy decideSetDisplayPolicy
  | .setWatch => s.withCard .setWatch decideSetWatch
  | .setRelayFloor => s.withCard .setRelayFloor decideSetRelayFloor
  | .setSchedule => s.withCard .setSchedule decideSetSchedule
  | .setClock => s.withCard .setClock decideSetClock
  | .nightNow => s.withCard .nightNow decideNightNow
  | .wakeNow => s.withCard .wakeNow decideWakeNow
  | .readTotals => s.withCard .readTotals decideReadTotals
  | .rebuildStore => s.withCard .rebuildStore decideRebuildStore
  | .readerOn => s.withCard .readerOn decideReaderOn
  | .readerOff => s.withCard .readerOff decideReaderOff
  | .openLink => s.withCard .openLink decideOpenLink
  | .closeLink => s.withCard .closeLink decideCloseLink
  | .send => s.withCard .send decideSend
  | .armReceive => s.withCard .armReceive decideArmReceive
  | .disarmReceive => s.withCard .disarmReceive decideDisarmReceive
  | .releaseQuarantine => s.withCard .releaseQuarantine decideReleaseQuarantine

/-- The command of a card's kind makes the card's owner decide. -/
theorem effectOf_command (s : State) (k : Kind) : effectOf s k.command = s.withCard k k.decision := by cases k <;> rfl

theorem hostEvent_next {f : State → State} (h : hostEvent s f = .next t) :
    t = s ∨ s.mainSupply = true ∧ (!s.hostReset) = true ∧ t = publish s (f s).react := by
  unfold hostEvent at h
  split at h
  · exact .inl (Host.Outcome.next.inj h).symm
  · rename_i hr
    unfold poweredEvent at h
    split at h
    · exact .inr ⟨‹_›, by simpa using hr, (Host.Outcome.next.inj h).symm⟩
    · exact .inl (Host.Outcome.next.inj h).symm

/-- The command makes its event: main supply is present, its row's condition holds. -/
def State.fires (s t : State) (c : Instr) : Prop := s.mainSupply = true ∧ firesOn s c = true ∧ t = publish s (effectOf s c).react

theorem fires_of_guarded {c : Instr} (h : (if firesOn s c then if s.mainSupply then .next (publish s (effectOf s c).react) else .next s
    else .next s : Host.Outcome State Fault Refusal) = .next t) : s.linesChange t ∨ s.fires t c := by
  split at h
  · split at h <;> obtain rfl := Host.Outcome.next.inj h
    · exact .inr ⟨‹_›, ‹_›, rfl⟩
    · exact .inl (.refl s)
  · exact .inl (Host.Outcome.next.inj h ▸ .refl s)

/-- Every command but a power-on and the fall of the supply changes lines and clock alone, or makes the event of its effect. -/
theorem exec_fires {c : Instr} (hc : c ≠ .supplyFall ∧ c ≠ .powerOn ∧ c ≠ .coldStart) (h : exec c s = .next t) :
    s.linesChange t ∨ s.fires t c := by
  have still : t = s → s.linesChange t := fun e => e ▸ .refl s
  cases c
  case supplyFall => exact absurd rfl hc.1
  case powerOn => exact absurd rfl hc.2.1
  case coldStart => exact absurd rfl hc.2.2
  case registerWriteOther => exact .inl (still (Host.Outcome.next.inj h).symm)
  case batteryReturn => exact .inl (Host.Outcome.next.inj h ▸ ⟨_, _, _, _, .inl rfl, rfl⟩)
  case hostResetRelease => exact .inl (Host.Outcome.next.inj h ▸ ⟨_, _, _, _, .inl rfl, rfl⟩)
  case batteryLoss =>
    simp only [exec, execBatteryLoss] at h
    split at h
    · split at h <;> obtain rfl := Host.Outcome.next.inj h
      · exact .inl (.refl s)
      · exact .inr ⟨‹_›, Bool.not_eq_true' _ ▸ Bool.eq_false_iff.mpr ‹_›, rfl⟩
    · exact .inl (Host.Outcome.next.inj h ▸ ⟨_, _, _, _, .inl rfl, rfl⟩)
  case hostReset =>
    simp only [exec, execHostReset] at h
    split at h
    · exact .inl (Host.Outcome.next.inj h ▸ .refl s)
    · split at h <;> obtain rfl := Host.Outcome.next.inj h
      · exact .inr ⟨‹_›, Bool.not_eq_true' _ ▸ Bool.eq_false_iff.mpr ‹_›, rfl⟩
      · exact .inl ⟨_, _, _, _, .inl rfl, rfl⟩
  case clockCount =>
    simp only [exec, execClockCount] at h
    split at h <;> obtain rfl := Host.Outcome.next.inj h
    · exact .inr ⟨‹_›, rfl, rfl⟩
    · rename_i hs
      exact .inl ⟨_, _, _, _, .inr ⟨by simpa using hs, rfl⟩, rfl⟩
  case goStart | goAbort | noticeRead | noticeDone | overrunWrite | enableWrite | hostWrite | hostParity =>
    exact (hostEvent_next h).imp still fun ⟨hm, hr, ht⟩ => ⟨hm, hr, ht⟩
  all_goals exact fires_of_guarded h

end Sys2Proof.Machine
end

section
/-! PROOFS. The moves of the Position Controller: every change that a command makes of positions, claims and retained sales is a chain of a
few kinds of moves, and each kind keeps the invariants of sales, positions and claims (R13, R14, R25, R31, R43 to R48, R148). -/
namespace Sys2Proof.Machine

/-! ## What the invariants speak of -/

/-- The records that the invariants of sales, positions and claims speak of. -/
structure Ledger where
  psc : Sides Position
  miu : Miu
  store : Contents
  active : Option Contents

def State.ledger (s : State) : Ledger :=
  { psc := s.psc, miu := s.miu, store := s.rsc.store.contents, active := s.rsc.active.map ActiveStep.contents }

namespace Ledger

variable {Q : Prop} {l k : Ledger}

def pos (l : Ledger) (side : Side) : Position := l.psc.get side
def owner (l : Ledger) (m : MeterNo) : Option (Side × Role) := l.miu.meters[m].owner
def route (l : Ledger) (side : Side) (h : HoseNo) : HoseRoute := (l.miu.routes.get side)[h]

/-- The retained contents, and those that a store step in progress writes. -/
def keeps (l : Ledger) (c : Contents) : Prop := c = l.store ∨ l.active = some c

/-- The sale stands in an unpaid list, live or retained. -/
def ended (l : Ledger) (x : EndedSale) : Prop :=
  (∃ side, x ∈ (l.pos side).unpaid) ∨ ∃ c, l.keeps c ∧ (x ∈ c.unpaid.a ∨ x ∈ c.unpaid.b)

/-- The entry stands in a route table, live or retained. -/
def routed (l : Ledger) (e : HoseRoute) : Prop :=
  (∃ side h, l.route side h = e) ∨ ∃ c, l.keeps c ∧ ∃ side, ∃ h : HoseNo, (c.config.routes.get side)[h] = e

def salesLawful (l : Ledger) : Prop := (∀ side x, (l.pos side).sale = some x → x.lawful) ∧ ∀ x, l.ended x → x.lawful

def routesLawful (l : Ledger) : Prop := ∀ e, l.routed e → e.lawful

def claimsAgree (l : Ledger) : Prop :=
  (∀ side x, (l.pos side).sale = some x → ∀ c ∈ x.claims, l.owner c.meter = some (side, c.role))
    ∧ ∀ m side role, l.owner m = some (side, role) → ∃ x, (l.pos side).sale = some x ∧ ∃ c ∈ x.claims, c.meter = m ∧ c.role = role

end Ledger

theorem State.ledger_salesLawful {s : State} : s.ledger.salesLawful ↔ s.salesLawful := by
  unfold Ledger.salesLawful State.salesLawful Contents.lawful
  constructor
  · rintro ⟨h1, h2⟩
    exact ⟨h1, fun side x hx => h2 x (.inl ⟨side, hx⟩),
      ⟨fun x hx => h2 x (.inr ⟨_, .inl rfl, .inl hx⟩), fun x hx => h2 x (.inr ⟨_, .inl rfl, .inr hx⟩)⟩,
      fun a ha => ⟨fun x hx => h2 x (.inr ⟨a.contents, .inr (by simp [State.ledger, ha]), .inl hx⟩),
        fun x hx => h2 x (.inr ⟨a.contents, .inr (by simp [State.ledger, ha]), .inr hx⟩)⟩⟩
  · rintro ⟨h1, h2, ⟨h3, h4⟩, h5⟩
    refine ⟨h1, fun x hx => ?_⟩
    rcases hx with ⟨side, hx⟩ | ⟨c, rfl | hc, hx⟩
    · exact h2 side x hx
    · exact hx.elim (h3 x) (h4 x)
    · obtain ⟨a, ha, rfl⟩ := Option.map_eq_some_iff.mp hc
      exact hx.elim ((h5 a ha).1 x) ((h5 a ha).2 x)

theorem State.ledger_routesLawful {s : State} : s.ledger.routesLawful ↔ s.routesLawful := by
  unfold Ledger.routesLawful State.routesLawful
  constructor
  · intro h
    exact ⟨fun side n => h _ (.inl ⟨side, n, rfl⟩), fun side n => h _ (.inr ⟨_, .inl rfl, side, n, rfl⟩),
      fun a ha side n => h _ (.inr ⟨a.contents, .inr (by simp [State.ledger, ha]), side, n, rfl⟩)⟩
  · rintro ⟨h1, h2, h3⟩ e (⟨side, n, rfl⟩ | ⟨c, rfl | hc, side, n, rfl⟩)
    · exact h1 side n
    · exact h2 side n
    · obtain ⟨a, ha, rfl⟩ := Option.map_eq_some_iff.mp hc
      exact h3 a ha side n

theorem State.ledger_claimsAgree {s : State} : s.ledger.claimsAgree ↔ s.claimsAgree := Iff.rfl

/-! ## The moves -/

/-- A sale in place of another: the same meters claimed in the same roles, the same origin, lawful if the other was. -/
structure Sale.Follows (x y : Sale) : Prop where
  origin : y.origin = x.origin
  claims : y.claims.map (fun c => (c.meter, c.role)) = x.claims.map (fun c => (c.meter, c.role))
  lawful : x.lawful → y.lawful

/-- A position keeps its state, authorization and sale, and opens no valve. -/
structure Position.Alike (p q : Position) : Prop where
  st : q.st = p.st
  auth : q.auth = p.auth
  sale : q.sale = p.sale
  outputs : p.outputsSafe → q.outputsSafe

/-- The position has no sale, by its state or in fact. -/
def Position.free (p : Position) : Prop := p.st.selling = false ∨ p.sale = none

/-- The authorization is one that may be given: under a quarantine not of the reader, unless it stands already. -/
def Position.admits (p : Position) (Q : Prop) (a : Authorization) : Prop := Q → a.origin ≠ .reader ∨ p.auth = some a

/-- The ways in which a position changes that give no claim back. -/
inductive Position.Turns (Q : Prop) (p q : Position) : Prop
  /-- Without a sale it comes to CLOSED, IDLE or CALLING. -/
  | rest (hp : p.free) (hs : q.sale = p.sale) (hq : q.st.selling = false ∧ q.st ≠ .authorized)
      (ha : q.auth = none ∨ q.auth = p.auth ∧ p.st ≠ .authorized)
  /-- Without a sale it is authorized. -/
  | authorize (a : Authorization) (hp : p.free) (hs : q.sale = p.sale) (hq : q.st = .authorized) (ha : q.auth = some a)
      (hQ : p.admits Q a)
  /-- A start begins, its sale without claims. -/
  | start (a : Authorization) (x : Sale) (hp : p.free) (hs : q.sale = some x) (hq : q.st = .starting .gate) (ha : q.auth = some a)
      (hQ : p.admits Q a) (hx : x.origin = a.origin ∧ x.claims = [] ∧ x.lock = none ∧ x.held = none ∧ x.lawful)
  /-- The sale goes on, in the same state or, locked, in another. -/
  | sale (x y : Sale) (hx : p.sale = some x) (hy : q.sale = some y) (hs : x.Follows y) (hl : y.lock.isSome = x.lock.isSome)
      (hh : y.held = x.held ∨ y.held = none) (ha : q.auth = p.auth)
      (hq : q.st = p.st ∨ p.st.selling = true ∧ q.st.selling = true ∧ p.st ≠ .starting .gate ∧ q.st ≠ .starting .gate
        ∧ (q.st.isStarting = true → p.st.isStarting = true))
  /-- A position that ought to have a sale has none, and changes without one. -/
  | empty (hp : p.st.selling = true) (hx : p.sale = none) (hy : q.sale = none)
  /-- The sale locks. -/
  | lock (a : Authorization) (x y : Sale) (hp : p.st = .starting .gate) (hx : p.sale = some x) (hpa : p.auth = some a)
      (hq : q.st = .starting .check) (hy : q.sale = some y) (ha : q.auth = none) (hs : x.Follows y) (hl : y.lock.isSome = true)
      (hh : y.held = some a)

/-- The ways in which a position loses its sale. -/
inductive Position.Drops (p : Position) (x : Sale) (q : Position) : Prop
  /-- It comes to CLOSED, IDLE or CALLING. -/
  | rest (hq : q.st.selling = false ∧ q.st ≠ .authorized) (ha : q.auth = none ∨ q.auth = p.auth ∧ p.st = .ending)
  /-- A start falls back. -/
  | back (a : Authorization) (hp : p.st.isStarting = true) (hq : q.st = .authorized) (ha : q.auth = some a)
      (hh : x.held = some a ∨ x.held = none ∧ p.auth = some a)

/-- Nothing moves: positions alike, claim owners as they are, unpaid lists and routes drawn from those that stand or lawful. -/
structure Ledger.Still (l k : Ledger) : Prop where
  pos : ∀ side, (l.pos side).Alike (k.pos side)
  ended : ∀ x, k.ended x → l.ended x
  routed : ∀ e, k.routed e → l.routed e ∨ e.lawful
  owner : ∀ m, k.owner m = l.owner m

/-- A move; `Q` says that no authorization of the reader may be given. -/
inductive Ledger.Move (Q : Prop) (l k : Ledger) : Prop
  | still (h : l.Still k)
  | turn (side : Side) (q : Position) (hk : k = { l with psc := l.psc.set side q }) (hu : q.unpaid = (l.pos side).unpaid)
      (ho : (l.pos side).outputsSafe → q.outputsSafe) (ht : (l.pos side).Turns Q q)
  | drop (side : Side) (q : Position) (x : Sale) (miu : Miu) (hk : k = { l with psc := l.psc.set side q, miu := miu })
      (hx : (l.pos side).sale = some x) (hq : q.sale = none) (hd : (l.pos side).Drops x q) (hr : miu.routes = l.miu.routes)
      (ho : q.outputsSafe) (hu : ∀ z ∈ q.unpaid, z ∈ (l.pos side).unpaid ∨ (x.lawful → z.lawful))
      (hm : ∀ m, k.owner m = if m ∈ x.claims.map Claim.meter then none else l.owner m)
  | claim (side : Side) (q : Position) (x y : Sale) (c : Claim) (miu : Miu)
      (hk : k = { l with psc := l.psc.set side q, miu := miu }) (hx : (l.pos side).sale = some x) (hq : q.sale = some y)
      (hy : y.claims = x.claims ++ [c] ∧ y.origin = x.origin ∧ y.lock = x.lock ∧ y.held = x.held ∧ (x.lawful → y.lawful))
      (hp : q.st = (l.pos side).st ∧ q.auth = (l.pos side).auth ∧ q.unpaid = (l.pos side).unpaid
        ∧ ((l.pos side).outputsSafe → q.outputsSafe)) (hr : miu.routes = l.miu.routes)
      (hf : l.routesLawful → l.owner c.meter = none)
      (hm : ∀ m, k.owner m = if m = c.meter then some (side, c.role) else l.owner m)

/-- A chain of moves. -/
def Ledger.Moves (Q : Prop) : Ledger → Ledger → Prop := Relation.ReflTransGen (Ledger.Move Q)

/-! ## Each move keeps each invariant -/

namespace Ledger

variable {Q : Prop} {l k : Ledger}

theorem pos_set (l : Ledger) (side : Side) (q : Position) (m : Miu) (y : Side) :
    ({ l with psc := l.psc.set side q, miu := m } : Ledger).pos y = if y = side then q else l.pos y := Sides.get_set ..

/-- An unpaid entry after one side's record has been replaced. -/
theorem ended_set {side : Side} {q : Position} {m : Miu} {x : EndedSale}
    (h : ({ l with psc := l.psc.set side q, miu := m } : Ledger).ended x) : x ∈ q.unpaid ∨ l.ended x := by
  rcases h with ⟨y, hx⟩ | h
  · rw [pos_set] at hx
    split at hx
    · exact .inl hx
    · exact .inr (.inl ⟨y, hx⟩)
  · exact .inr (.inr h)

theorem routed_set {side : Side} {q : Position} {m : Miu} (hm : m.routes = l.miu.routes) {e : HoseRoute} :
    ({ l with psc := l.psc.set side q, miu := m } : Ledger).routed e ↔ l.routed e := by
  simp only [routed, keeps, route, hm]

/-- A property of each position, kept by each move at the side that it moves. -/
theorem pos_induction {R : Position → Prop} {side : Side} {q : Position} {m : Miu} (h : ∀ y, R (l.pos y)) (hq : R q) (y : Side) :
    R (({ l with psc := l.psc.set side q, miu := m } : Ledger).pos y) := by
  rw [pos_set]
  split
  · exact hq
  · exact h y

theorem Move.routesLawful (h : Move Q l k) (hl : l.routesLawful) : k.routesLawful := by
  intro e he
  cases h with
  | still h => exact (h.routed e he).elim (hl e) id
  | turn side q hk hu ho ht => subst hk; exact hl e ((routed_set (m := l.miu) rfl).mp he)
  | drop side q x miu hk hx hq hd hr ho hu hm => subst hk; exact hl e ((routed_set hr).mp he)
  | claim side q x y c miu hk hx hq hy hp hr hf hm => subst hk; exact hl e ((routed_set hr).mp he)

theorem Move.outputsSafe (h : Move Q l k) (hl : ∀ side, (l.pos side).outputsSafe) : ∀ side, (k.pos side).outputsSafe := by
  cases h with
  | still h => exact fun side => (h.pos side).outputs (hl side)
  | turn side q hk hu ho ht => subst hk; exact pos_induction (m := l.miu) hl (ho (hl side))
  | drop side q x miu hk hx hq hd hr ho hu hm => subst hk; exact pos_induction hl ho
  | claim side q x y c miu hk hx hq hy hp hr hf hm => subst hk; exact pos_induction hl (hp.2.2.2 (hl side))

theorem Move.salesLawful (h : Move Q l k) (hl : l.salesLawful) : k.salesLawful := by
  obtain ⟨hs, he⟩ := hl
  cases h with
  | still h => exact ⟨fun side x hx => hs side x (by rw [← (h.pos side).sale]; exact hx), fun x hx => he x (h.ended x hx)⟩
  | turn side q hk hu ho ht =>
    subst hk
    refine ⟨pos_induction (R := fun p => ∀ x, p.sale = some x → x.lawful) (m := l.miu) hs fun z hz => ?_, fun x hx => ?_⟩
    · cases ht with
      | rest hp h hq ha | authorize a hp h hq ha hQ => exact hs side z (h ▸ hz)
      | start a x hp h hq ha hQ hx => exact Option.some.inj (h ▸ hz) ▸ hx.2.2.2.2
      | sale x y hx hy h hl hh ha hq | lock a x y hp hx hpa hq hy ha h hl hh =>
        exact Option.some.inj (hy ▸ hz) ▸ h.lawful (hs side x hx)
      | empty hp hx hy => simp [hy] at hz
    · rcases ended_set (m := l.miu) hx with h | h
      · exact he x (.inl ⟨side, hu ▸ h⟩)
      · exact he x h
  | drop side q x miu hk hx hq hd hr ho hu hm =>
    subst hk
    refine ⟨pos_induction (R := fun p => ∀ x, p.sale = some x → x.lawful) hs (by simp [hq]), fun z hz => ?_⟩
    rcases ended_set hz with h | h
    · exact (hu z h).elim (fun h => he z (.inl ⟨side, h⟩)) fun h => h (hs side x hx)
    · exact he z h
  | claim side q x y c miu hk hx hq hy hp hr hf hm =>
    subst hk
    refine ⟨pos_induction (R := fun p => ∀ x, p.sale = some x → x.lawful) hs fun z hz => ?_, fun z hz => ?_⟩
    · exact Option.some.inj (hq ▸ hz) ▸ hy.2.2.2.2 (hs side x hx)
    · rcases ended_set hz with h | h
      · exact he z (.inl ⟨side, hp.2.2.1 ▸ h⟩)
      · exact he z h

end Ledger

/-! Shape, claims and the reader's authorizations are kept together. -/

theorem PosState.not_selling {st : PosState} (h : st.selling = false) : st ≠ .starting .gate ∧ st.isStarting = false := by
  cases st <;> simp_all [PosState.selling, PosState.isStarting]

theorem PosState.selling_ne {st : PosState} (h : st.selling = true) : st ≠ .authorized := by
  rintro rfl; simp [PosState.selling] at h

/-- A shaped position without a sale, by its state or in fact, is without one in both. -/
theorem Position.shaped.free {p : Position} (h : p.shaped) (hf : p.free) : p.st.selling = false ∧ p.sale = none := by
  have := h.1
  rcases hf with hf | hf <;> simp_all

/-- Without a sale a shaped position has an authorization in AUTHORIZED alone. -/
theorem Position.shaped.auth_none {p : Position} (h : p.shaped) (ha : p.st ≠ .authorized) (hg : p.st ≠ .starting .gate) : p.auth = none := by
  have := h.2.1
  cases e : p.auth <;> simp_all

/-- A position without a sale is shaped when it is authorized exactly in AUTHORIZED. -/
theorem Position.shaped_of_none {q : Position} (hs : q.sale = none) (hq : q.st.selling = false) (ha : q.auth.isSome = true ↔ q.st = .authorized) :
    q.shaped := by
  refine ⟨by simp [hs, hq], ?_, by simp [hs], by simp [hs], by simp [hs]⟩
  simp [ha, (PosState.not_selling hq).1]

theorem Position.Turns.shaped {Q : Prop} {p q : Position} (h : p.Turns Q q) (hp : p.shaped) : q.shaped := by
  obtain ⟨hs, ha, hl, ho, hh⟩ := id hp
  cases h with
  | rest hf he hq hqa =>
    obtain ⟨hst, hsale⟩ := hp.free hf
    refine Position.shaped_of_none (he.trans hsale) hq.1 ⟨fun h => ?_, fun h => absurd h hq.2⟩
    have : q.auth = none := hqa.elim id fun ⟨e, hne⟩ => e.trans (hp.auth_none hne (PosState.not_selling hst).1)
    simp [this] at h
  | authorize a hf he hq hqa hQ =>
    obtain ⟨hst, hsale⟩ := hp.free hf
    exact Position.shaped_of_none (he.trans hsale) (by rw [hq]; rfl) (by simp [hqa, hq])
  | start a x hf he hq hqa hQ hx =>
    exact ⟨by simp [he, hq, PosState.selling], by simp [hqa, hq], by simp [he, hq, hx.2.2.1], by simp [he, hqa, hx.1],
      fun z b hz hb => by obtain rfl := Option.some.inj (he.symm.trans hz); simp [hx.2.2.2.1] at hb⟩
  | sale x y hx hy hf hlock hheld hqa hq =>
    have horigin : ∀ a, y.held = some a → a.origin = y.origin := fun a h =>
      hf.origin ▸ hh x a hx (hheld.elim (fun e => e ▸ h) fun e => by simp [e] at h)
    rcases hq with hst | ⟨hps, hqs, hpg, hqg, -⟩
    · refine ⟨by rw [hst, ← hs]; simp [hx, hy], by rw [hqa, hst]; exact ha, fun z hz => ?_, fun z a hz hza => ?_, fun z a hz hza => ?_⟩ <;>
        obtain rfl := Option.some.inj (hy ▸ hz)
      · rw [hlock, hst]; exact hl x hx
      · exact hf.origin ▸ ho x a hx (hqa ▸ hza)
      · exact horigin a hza
    · have hnone : q.auth = none := hqa.trans (hp.auth_none (PosState.selling_ne hps) hpg)
      refine ⟨by simp [hy, hqs], by simp [hnone, hqg, PosState.selling_ne hqs], fun z hz => ?_, by simp [hnone], fun z a hz hza => ?_⟩ <;>
        obtain rfl := Option.some.inj (hy ▸ hz)
      · simp [hlock, (hl x hx).mpr hpg, hqg]
      · exact horigin a hza
  | empty hsel hx hy => simp [hx, hsel] at hs
  | lock a x y hst hx hpa hq hy hqa hf hlock hheld =>
    refine ⟨by simp [hy, hq, PosState.selling], by simp [hqa, hq], by simp [hy, hlock, hq], by simp [hqa], fun z b hz hb => ?_⟩
    obtain rfl := Option.some.inj (hy ▸ hz)
    obtain rfl := Option.some.inj (hheld ▸ hb)
    exact hf.origin ▸ ho x a hx hpa

theorem Position.Drops.shaped {p q : Position} {x : Sale} (h : p.Drops x q) (hp : p.shaped) (hq : q.sale = none) : q.shaped := by
  cases h with
  | rest hst ha =>
    refine Position.shaped_of_none hq hst.1 ⟨fun h => ?_, fun h => absurd h hst.2⟩
    have : q.auth = none := ha.elim id fun ⟨e, hne⟩ => e.trans (hp.auth_none (by simp [hne]) (by simp [hne]))
    simp [this] at h
  | back a hst hqs ha hh => exact Position.shaped_of_none hq (by rw [hqs]; rfl) (by simp [ha, hqs])

/-- The meters and roles that a position's sale claims. -/
def Position.claimed (p : Position) : List (MeterNo × Role) := (p.sale.elim [] Sale.claims).map fun c => (c.meter, c.role)

theorem Position.claimed_none {p : Position} (h : p.sale = none) : p.claimed = [] := by simp [claimed, h]
theorem Position.claimed_some {p : Position} {x : Sale} (h : p.sale = some x) : p.claimed = x.claims.map fun c => (c.meter, c.role) := by
  simp [claimed, h]

theorem Position.Turns.claimed {Q : Prop} {p q : Position} (h : p.Turns Q q) (hp : p.shaped) : q.claimed = p.claimed := by
  cases h with
  | rest hf he hq hqa | authorize a hf he hq hqa hQ => rw [Position.claimed, he]; rfl
  | start a x hf he hq hqa hQ hx =>
    rw [Position.claimed_some he, hx.2.1, Position.claimed_none (hp.free hf).2, List.map_nil]
  | sale x y hx hy hf hlock hheld hqa hq | lock a x y hst hx hpa hq hy hqa hf hlock hheld =>
    rw [Position.claimed_some hx, Position.claimed_some hy, hf.claims]
  | empty hsel hx hy => rw [Position.claimed_none hx, Position.claimed_none hy]

theorem Position.Turns.noReader {Q : Prop} {p q : Position} (h : p.Turns Q q) (hQ : Q) (hp : p.shaped) (hn : p.noReader) : q.noReader := by
  obtain ⟨hna, hnx⟩ := hn
  have given : ∀ a, p.admits Q a → a.origin ≠ .reader := fun a h => (h hQ).elim id fun h => hna a h
  cases h with
  | rest hf he hq hqa =>
    exact ⟨fun a h => hqa.elim (fun e => by simp [e] at h) fun e => hna a (e.1 ▸ h),
      fun z _ h => by simp [(PosState.not_selling hq.1).2] at h⟩
  | authorize a hf he hq hqa hadm =>
    exact ⟨fun b h => Option.some.inj (hqa ▸ h) ▸ given a hadm, fun z _ h => by simp [hq, PosState.isStarting] at h⟩
  | start a x hf he hq hqa hadm hx =>
    exact ⟨fun b h => Option.some.inj (hqa ▸ h) ▸ given a hadm,
      fun z h _ => by obtain rfl := Option.some.inj (he.symm.trans h); exact hx.1 ▸ given a hadm⟩
  | sale x y hx hy hf hlock hheld hqa hq =>
    refine ⟨fun a h => hna a (hqa ▸ h), fun z h hst => ?_⟩
    obtain rfl := Option.some.inj (hy.symm.trans h)
    rw [hf.origin]
    exact hnx x hx (hq.elim (fun e => e ▸ hst) fun e => e.2.2.2.2 hst)
  | empty hsel hx hy =>
    have := hp.1
    simp [hx, hsel] at this
  | lock a x y hst hx hpa hq hy hqa hf hlock hheld =>
    refine ⟨by simp [hqa], fun z h _ => ?_⟩
    obtain rfl := Option.some.inj (hy.symm.trans h)
    rw [hf.origin]
    exact hnx x hx (by rw [hst]; rfl)

theorem Position.Drops.noReader {p q : Position} {x : Sale} (h : p.Drops x q) (hp : p.shaped) (hx : p.sale = some x) (hq : q.sale = none)
    (hn : p.noReader) : q.noReader := by
  refine ⟨fun b hb => ?_, by simp [hq]⟩
  cases h with
  | rest hst ha => exact ha.elim (fun e => by simp [e] at hb) fun e => hn.1 b (e.1 ▸ hb)
  | back a hst hqs ha hh =>
    obtain rfl := Option.some.inj (ha ▸ hb)
    rcases hh with hh | hh
    · exact hp.2.2.2.2 x a hx hh ▸ hn.2 x hx hst
    · exact hn.1 a hh.2

namespace Ledger

variable {Q : Prop} {l k : Ledger}

theorem Move.shaped (h : Move Q l k) (hl : ∀ side, (l.pos side).shaped) : ∀ side, (k.pos side).shaped := by
  cases h with
  | still h =>
    intro side
    obtain ⟨e1, e2, e3, -⟩ := h.pos side
    unfold Position.shaped
    rw [e1, e2, e3]
    exact hl side
  | turn side q hk hu ho ht => subst hk; exact pos_induction (m := l.miu) hl (ht.shaped (hl side))
  | drop side q x miu hk hx hq hd hr ho hu hm => subst hk; exact pos_induction hl (hd.shaped (hl side) hq)
  | claim side q x y c miu hk hx hq hy hp hr hf hm =>
    subst hk
    refine pos_induction hl ?_
    obtain ⟨h1, h2, h3, h4, h5⟩ := hl side
    obtain ⟨-, ho, hlk, hh, -⟩ := hy
    have same : ∀ z, q.sale = some z → z = y := fun z hz => Option.some.inj (hz.symm.trans hq)
    refine ⟨by rw [hq, hp.1, ← h1, hx]; rfl, by rw [hp.1, hp.2.1]; exact h2, fun z hz => ?_, fun z a hz ha => ?_, fun z a hz ha => ?_⟩ <;>
      obtain rfl := same z hz
    · rw [hp.1, hlk]; exact h3 x hx
    · exact ho ▸ h4 x a hx (hp.2.1 ▸ ha)
    · exact ho ▸ h5 x a hx (hh ▸ ha)

theorem Move.noReader (h : Move Q l k) (hQ : Q) (hl : ∀ side, (l.pos side).shaped) {y : Side} (hn : (l.pos y).noReader) :
    (k.pos y).noReader := by
  cases h with
  | still h =>
    obtain ⟨e1, e2, e3, -⟩ := h.pos y
    unfold Position.noReader
    rw [e1, e2, e3]
    exact hn
  | turn side q hk hu ho ht =>
    subst hk
    rw [show (Ledger.pos _ y) = _ from pos_set l side q l.miu y]
    split
    · subst_vars; exact ht.noReader hQ (hl _) hn
    · exact hn
  | drop side q x miu hk hx hq hd hr ho hu hm =>
    subst hk
    rw [pos_set]
    split
    · subst_vars; exact hd.noReader (hl _) hx hq hn
    · exact hn
  | claim side q x y c miu hk hx hq hy hp hr hf hm =>
    subst hk
    rw [pos_set]
    split
    · subst_vars
      refine ⟨by rw [hp.2.1]; exact hn.1, fun z hz hst => ?_⟩
      obtain rfl := Option.some.inj (hq ▸ hz)
      exact hy.2.1 ▸ hn.2 x hx (hp.1 ▸ hst)
    · exact hn

/-- Owners and claim entries name each other, said of the meters and roles that each position claims. -/
theorem claimsAgree_iff : l.claimsAgree ↔ ∀ side m role, l.owner m = some (side, role) ↔ (m, role) ∈ (l.pos side).claimed := by
  constructor
  · rintro ⟨h1, h2⟩ side m role
    constructor
    · intro h
      obtain ⟨x, hx, c, hc, rfl, rfl⟩ := h2 m side role h
      rw [Position.claimed_some hx]
      exact List.mem_map.mpr ⟨c, hc, rfl⟩
    · intro h
      cases hx : (l.pos side).sale with
      | none => simp [Position.claimed_none hx] at h
      | some x =>
        rw [Position.claimed_some hx] at h
        obtain ⟨c, hc, e⟩ := List.mem_map.mp h
        obtain ⟨rfl, rfl⟩ := Prod.mk.inj e
        exact h1 side x hx c hc
  · intro h
    refine ⟨fun side x hx c hc => ?_, fun m side role ho => ?_⟩
    · rw [h, Position.claimed_some hx]
      exact List.mem_map.mpr ⟨c, hc, rfl⟩
    · rw [h] at ho
      cases hx : (l.pos side).sale with
      | none => simp [Position.claimed_none hx] at ho
      | some x =>
        rw [Position.claimed_some hx] at ho
        obtain ⟨c, hc, e⟩ := List.mem_map.mp ho
        obtain ⟨rfl, rfl⟩ := Prod.mk.inj e
        exact ⟨x, rfl, c, hc, rfl, rfl⟩

theorem Move.claimsAgree (h : Move Q l k) (hr : l.routesLawful) (hs : ∀ side, (l.pos side).shaped) (hl : l.claimsAgree) :
    k.claimsAgree := by
  rw [claimsAgree_iff] at hl ⊢
  cases h with
  | still h =>
    intro y m role
    rw [h.owner, hl, Position.claimed, Position.claimed, (h.pos y).sale]
  | turn side q hk hu ho ht =>
    subst hk
    intro y m role
    rw [show (Ledger.pos _ y) = _ from pos_set l side q l.miu y]
    refine (hl y m role).trans ?_
    split
    · subst_vars; rw [ht.claimed (hs _)]
    · rfl
  | drop side q x miu hk hx hq hd hroutes ho hu hm =>
    subst hk
    have mine : ∀ m, m ∈ x.claims.map Claim.meter ↔ ∃ role, l.owner m = some (side, role) := fun m => by
      simp only [hl, Position.claimed_some hx, List.mem_map, Prod.mk.injEq]
      exact ⟨fun ⟨c, hc, e⟩ => ⟨c.role, c, hc, e, rfl⟩, fun ⟨_, c, hc, e, _⟩ => ⟨c, hc, e⟩⟩
    intro y m role
    rw [hm, pos_set]
    by_cases hc : m ∈ x.claims.map Claim.meter
    · obtain ⟨r, hr⟩ := (mine m).mp hc
      have : y ≠ side → (m, role) ∉ (l.pos y).claimed := fun hy h => by
        rw [← hl, hr] at h
        exact hy (Prod.mk.inj (Option.some.inj h)).1.symm
      by_cases hy : y = side <;> simp [hc, hy, Position.claimed_none hq, this]
    · rw [if_neg hc]
      by_cases hy : y = side
      · subst hy
        simp only [if_true, Position.claimed_none hq, List.not_mem_nil, iff_false]
        exact fun h => hc ((mine m).mpr ⟨role, h⟩)
      · rw [if_neg hy, hl]
  | claim side q x z c miu hk hx hq hy hp hroutes hf hm =>
    subst hk
    have hfree := hf hr
    have hcl : q.claimed = (l.pos side).claimed ++ [(c.meter, c.role)] := by
      rw [Position.claimed_some hx, Position.claimed_some hq, hy.1, List.map_append, List.map_singleton]
    intro y m role
    rw [hm, pos_set]
    have unclaimed : ∀ side role, (c.meter, role) ∉ (l.pos side).claimed := fun side role h => by
      rw [← hl, hfree] at h; simp at h
    by_cases hc : m = c.meter
    · subst hc
      by_cases hy : y = side
      · subst hy
        simp [hcl, unclaimed, eq_comm]
      · simp [hy, unclaimed, Ne.symm hy]
    · rw [if_neg hc, hl]
      by_cases hy : y = side
      · subst hy; simp [hcl, hc]
      · rw [if_neg hy]

/-! ## Chains -/

theorem Moves.keeps {R : Ledger → Prop} (h : Moves Q l k) (hs : ∀ l k, Move Q l k → R l → R k) (hl : R l) : R k := by
  induction h with
  | refl => exact hl
  | tail _ hm ih => exact hs _ _ hm ih

theorem Moves.salesLawful (h : Moves Q l k) : l.salesLawful → k.salesLawful := h.keeps fun _ _ h => h.salesLawful
theorem Moves.outputsSafe (h : Moves Q l k) : (∀ side, (l.pos side).outputsSafe) → ∀ side, (k.pos side).outputsSafe :=
  h.keeps (R := fun l => ∀ side, (l.pos side).outputsSafe) fun _ _ h => h.outputsSafe
theorem Moves.shaped (h : Moves Q l k) : (∀ side, (l.pos side).shaped) → ∀ side, (k.pos side).shaped :=
  h.keeps (R := fun l => ∀ side, (l.pos side).shaped) fun _ _ h => h.shaped
theorem Moves.routesLawful (h : Moves Q l k) : l.routesLawful → k.routesLawful := h.keeps fun _ _ h => h.routesLawful

theorem Moves.claimsAgree (h : Moves Q l k) (hr : l.routesLawful) (hs : ∀ side, (l.pos side).shaped) (hl : l.claimsAgree) :
    k.claimsAgree :=
  (h.keeps (R := fun l => l.routesLawful ∧ (∀ side, (l.pos side).shaped) ∧ l.claimsAgree)
    (fun _ _ h ⟨hr, hs, hl⟩ => ⟨h.routesLawful hr, h.shaped hs, h.claimsAgree hr hs hl⟩) ⟨hr, hs, hl⟩).2.2

theorem Moves.noReader (h : Moves Q l k) (hQ : Q) (hs : ∀ side, (l.pos side).shaped) {y : Side} (hn : (l.pos y).noReader) :
    (k.pos y).noReader :=
  (h.keeps (R := fun l => (∀ side, (l.pos side).shaped) ∧ (l.pos y).noReader)
    (fun _ _ h ⟨hs, hn⟩ => ⟨h.shaped hs, h.noReader hQ hs hn⟩) ⟨hs, hn⟩).2

theorem Still.refl (l : Ledger) : Still l l :=
  ⟨fun _ => ⟨rfl, rfl, rfl, id⟩, fun _ => id, fun _ => .inl, fun _ => rfl⟩

theorem Moves.refl (l : Ledger) : Moves Q l l := Relation.ReflTransGen.refl

theorem Moves.step {j : Ledger} (h : Moves Q l k) (hm : Move Q k j) : Moves Q l j := Relation.ReflTransGen.tail h hm

theorem Moves.still {j : Ledger} (h : Moves Q l k) (hm : k.Still j) : Moves Q l j := h.step (.still hm)

end Ledger

end Sys2Proof.Machine
end

section
/-! PROOFS. The Position Controller's operations as chains of moves (R12 to R16, R47 to R66, R180 to R182). -/
namespace Sys2Proof.Machine

variable {s t u : State} {P : List Part} {Q : Prop} {l : Ledger} {side : Side}

/-! ## A state's ledger -/

theorem State.ledger_of_acts (h : Acts s t P) (hm : Part.meters ∉ P) (hr : Part.store ∉ P) : t.ledger = { s.ledger with psc := t.psc } := by
  have e1 : t.miu = s.miu := h.frame .meters hm
  have e2 : t.rsc = s.rsc := h.frame .store hr
  simp only [State.ledger, e1, e2]

theorem Acts.ledger (h : Acts s t P) (hp : Part.positions ∉ P) (hm : Part.meters ∉ P) (hr : Part.store ∉ P) : t.ledger = s.ledger := by
  have e : t.psc = s.psc := h.frame .positions hp
  rw [State.ledger_of_acts h hm hr, e]
  rfl

theorem psc_of_side (h : ∀ y, y ≠ side → t.pos y = s.pos y) : t.psc = s.psc.set side (t.pos side) := by
  have h' := h (other side) (other_ne side)
  cases side <;> simp only [State.pos, other, Sides.get_a, Sides.get_b, Sides.set] at h' ⊢ <;> rw [← h']

theorem State.ledger_of_side (h : Acts s t P) (hm : Part.meters ∉ P) (hr : Part.store ∉ P) (hne : ∀ y, y ≠ side → t.pos y = s.pos y) :
    t.ledger = { s.ledger with psc := s.ledger.psc.set side (t.pos side) } := by
  rw [State.ledger_of_acts h hm hr, psc_of_side hne]
  rfl

namespace Ledger

/-- A position turns, and nothing else of the ledger changes. -/
theorem Moves.turn (h : Moves Q l s.ledger) (ha : Acts s t P) (hm : Part.meters ∉ P) (hr : Part.store ∉ P)
    (hne : ∀ y, y ≠ side → t.pos y = s.pos y) (hu : (t.pos side).unpaid = (s.pos side).unpaid)
    (ho : (s.pos side).outputsSafe → (t.pos side).outputsSafe) (ht : (s.pos side).Turns Q (t.pos side)) : Moves Q l t.ledger :=
  h.step (.turn side (t.pos side) (State.ledger_of_side ha hm hr hne) hu ho ht)

/-- A position stays alike, and nothing else of the ledger changes. -/
theorem Moves.alike (h : Moves Q l s.ledger) (ha : Acts s t P) (hm : Part.meters ∉ P) (hr : Part.store ∉ P)
    (hne : ∀ y, y ≠ side → t.pos y = s.pos y) (hp : (s.pos side).Alike (t.pos side))
    (hu : ∀ x ∈ (t.pos side).unpaid, x ∈ (s.pos side).unpaid) : Moves Q l t.ledger := by
  have e := State.ledger_of_side ha hm hr hne
  refine h.still ?_
  rw [e]
  refine ⟨fun y => ?_, fun x hx => ?_, fun r hr => .inl ((routed_set (m := s.ledger.miu) rfl).mp hr), fun _ => rfl⟩
  · rw [show (Ledger.pos _ y) = _ from pos_set s.ledger side _ s.ledger.miu y]
    split
    · subst_vars; exact hp
    · exact ⟨rfl, rfl, rfl, id⟩
  · exact (ended_set (m := s.ledger.miu) hx).elim (fun h => .inl ⟨side, hu x h⟩) id

theorem Moves.of_eq (h : Moves Q l s.ledger) (e : t.ledger = s.ledger) : Moves Q l t.ledger := e ▸ h

end Ledger

open Ledger (Moves)

/-! ## States, flags, arrivals (R47 to R50) -/

theorem Position.enter_outputsSafe (p : Position) (st : PosState) : (p.enter st).outputsSafe := by
  unfold Position.outputsSafe Position.enter
  cases st with
  | starting k => cases k <;> simp [PosState.outputs]
  | _ => simp [PosState.outputs]

theorem Ledger.Moves.modPos_alike (h : Moves Q l s.ledger) {f : Position → Position} (hp : (s.pos side).Alike (f (s.pos side)))
    (hu : ∀ x ∈ (f (s.pos side)).unpaid, x ∈ (s.pos side).unpaid) : Moves Q l (s.modPos side f).ledger :=
  h.alike (Acts.modPos (.refl s [.positions]) side f (by decide)) (by decide) (by decide) (fun y hy => State.modPos_pos_ne _ _ hy)
    (by rw [State.modPos_pos]; exact hp) (by rw [State.modPos_pos]; exact hu)

theorem Ledger.Moves.modPos_turn (h : Moves Q l s.ledger) {f : Position → Position} (hu : (f (s.pos side)).unpaid = (s.pos side).unpaid)
    (ho : (s.pos side).outputsSafe → (f (s.pos side)).outputsSafe) (ht : (s.pos side).Turns Q (f (s.pos side))) :
    Moves Q l (s.modPos side f).ledger :=
  h.turn (Acts.modPos (.refl s [.positions]) side f (by decide)) (by decide) (by decide) (fun y hy => State.modPos_pos_ne _ _ hy)
    (by rw [State.modPos_pos]; exact hu) (by rw [State.modPos_pos]; exact ho) (by rw [State.modPos_pos]; exact ht)

@[simp] theorem State.raise_ledger (s : State) (c : Cause) (d : Nat) : (s.raise c d).ledger = s.ledger := rfl
@[simp] theorem State.raisePos_ledger (s : State) (side : Side) (c : PosCause) (d : Nat) : (s.raisePos side c d).ledger = s.ledger := rfl

theorem Ledger.Moves.setFlag (h : Moves Q l s.ledger) (side : Side) (c : PosCause) (n : HoseNo) : Moves Q l (s.setFlag side c n).ledger := by
  obtain ⟨x, y, z, e⟩ := s.setFlag_pos side c n
  exact h.alike (Acts.setFlag (.refl s _) side c n (List.Subset.refl _)) (by decide) (by decide) (fun y hy => s.setFlag_pos_ne c n hy)
    (by rw [e]; exact ⟨rfl, rfl, rfl, id⟩) (by rw [e]; exact fun _ => id)

/-- A position without a sale closes. -/
theorem Ledger.Moves.closePos (h : Moves Q l s.ledger) (r : CloseReason) (hf : (s.pos side).free) : Moves Q l (s.closePos side r).ledger :=
  Moves.of_eq (h.modPos_turn (f := fun p => { p.enter (.closed r) with auth := none, authTimer := none }) rfl
    (fun _ => Position.enter_outputsSafe (s.pos side) (.closed r))
    (.rest hf rfl (by simp [Position.enter, PosState.selling]) (.inl rfl))) rfl

theorem Position.free_of_rest {p : Position} (h : p.st.selling = false) : p.free := .inl h

theorem PosState.isClosed_iff {st : PosState} : st.isClosed = true ↔ ∃ r, st = .closed r := by
  cases st <;> simp [PosState.isClosed]

/-- A CLOSED position's reason changes. -/
theorem Ledger.Moves.setReason (h : Moves Q l s.ledger) (r : CloseReason) (hc : (s.pos side).st.isClosed = true) :
    Moves Q l (s.setReason side r).ledger := by
  obtain ⟨r', hc⟩ := PosState.isClosed_iff.mp hc
  exact h.modPos_turn rfl (fun _ => Position.enter_outputsSafe (s.pos side) (.closed r)) (.rest (.inl (by rw [hc]; rfl)) rfl
    (by simp [Position.enter, PosState.selling]) (.inr ⟨rfl, by simp [hc]⟩))

/-- A position without a sale and not AUTHORIZED enters IDLE. -/
theorem Ledger.Moves.enterIdle (h : Moves Q l s.ledger) (hf : (s.pos side).free) (ha : (s.pos side).st ≠ .authorized) :
    Moves Q l (s.enterIdle side).ledger :=
  h.modPos_turn rfl (fun _ => Position.enter_outputsSafe (s.pos side) .idle)
    (.rest hf rfl (by simp [Position.enter, Position.clearFlags, PosState.selling])
    (.inr ⟨rfl, ha⟩))

theorem Ledger.Moves.closeIfClosing (h : Moves Q l s.ledger) (hf : (s.pos side).free) : Moves Q l (s.closeIfClosing side).ledger := by
  unfold State.closeIfClosing
  split
  · exact h.closePos _ hf
  · exact h

/-- The state in which an arrival leaves a position without an authorization. -/
theorem State.arriveOpen_rests (s : State) (side : Side) :
    let q := (s.arriveOpen side).pos side
    q.st.selling = false ∧ q.st ≠ .authorized ∧ q.auth = none ∧ q.sale = (s.pos side).sale ∧ q.unpaid = (s.pos side).unpaid ∧ q.outputsSafe := by
  dsimp only
  rw [State.arriveOpen_pos]
  dsimp only
  refine ⟨?_, ?_, ?_, ?_, ?_, ?_⟩
  case refine_6 =>
    (repeat' split)
    · exact Position.enter_outputsSafe (s.pos side) (.closed .night)
    · exact Position.enter_outputsSafe (s.pos side) (.closed .night)
    · exact Position.enter_outputsSafe (s.pos side) .calling
    · exact Position.enter_outputsSafe (s.pos side) .idle
  all_goals (repeat' split) <;> simp [Position.enter, Position.clearFlags, Position.closedForNight, PosState.selling]

theorem Ledger.Moves.arriveOpen (h : Moves Q l s.ledger) (hf : (s.pos side).free) : Moves Q l (s.arriveOpen side).ledger := by
  obtain ⟨h1, h2, h3, h4, h5, h6⟩ := s.arriveOpen_rests side
  exact h.turn (Acts.arriveOpen (.refl s _) side (List.Subset.refl _)) (by decide) (by decide) (fun y hy => s.arriveOpen_pos_ne hy) h5
    (fun _ => h6) (.rest hf h4 ⟨h1, h2⟩ (.inl h3))

theorem Ledger.Moves.arriveAuthorized (h : Moves Q l s.ledger) {a : Authorization} (hf : (s.pos side).free) (ha : (s.pos side).admits Q a) :
    Moves Q l (s.arriveAuthorized side a).ledger := by
  refine Moves.closeIfClosing (h.modPos_turn (f := fun p => { p.enter .authorized with auth := some a, authTimer := authTime a }) rfl
    (fun _ => Position.enter_outputsSafe (s.pos side) .authorized) (.authorize a hf rfl rfl rfl ha)) (.inl ?_)
  rw [State.modPos_pos]; rfl

/-! ## Sales (R24 to R31, R37, R46) -/

theorem Sale.Follows.of_claims {x y : Sale} (ho : y.origin = x.origin) (hc : y.claims = x.claims) (hl : x.lawful → y.lawful) : x.Follows y :=
  ⟨ho, by rw [hc], hl⟩

/-- A sale recomputed is lawful, when it has no N and A before its lock. -/
theorem Sale.recompute_lawful {x : Sale} (h : x.lock = none → x.n = 0 ∧ x.amount = 0) : x.recompute.lawful := by
  unfold Sale.recompute Sale.lawful
  cases hl : x.lock with
  | none => simp [h hl]
  | some l => simp

theorem Sale.recompute_follows (x : Sale) :
    x.recompute.origin = x.origin ∧ x.recompute.claims = x.claims ∧ x.recompute.lock = x.lock ∧ x.recompute.held = x.held := by
  unfold Sale.recompute
  dsimp only
  split <;> exact ⟨rfl, rfl, rfl, rfl⟩

theorem Sale.lawful.unlocked {x : Sale} (h : x.lawful) (hl : x.lock = none) : x.n = 0 ∧ x.amount = 0 := by
  obtain ⟨-, h⟩ := h
  rw [hl] at h
  exact h

theorem Sale.count_follows (x : Sale) (m : MeterNo) (d : Int) :
    x.Follows (x.count m d) ∧ (x.count m d).lock = x.lock ∧ (x.count m d).held = x.held := by
  obtain ⟨ho, hc, hl, hh⟩ := Sale.recompute_follows { x with
    claims := countClaims m d x.claims, flags := { x.flags with
      reverse := x.flags.reverse || (countClaims m d x.claims).any fun c => decide (c.meter = m) && decide (c.n < 0) } }
  refine ⟨⟨ho, ?_, fun h => Sale.recompute_lawful fun e => h.unlocked e⟩, hl, hh⟩
  rw [show (x.count m d).claims = _ from hc]
  simp only [countClaims, List.map_map]
  refine List.map_congr_left fun c _ => ?_
  simp only [Function.comp]
  split <;> rfl

theorem Sale.blendCheck_follows (x : Sale) : x.Follows x.blendCheck.1 ∧ x.blendCheck.1.lock = x.lock ∧ x.blendCheck.1.held = x.held := by
  unfold Sale.blendCheck
  (repeat' split) <;> exact ⟨⟨rfl, rfl, id⟩, rfl, rfl⟩

theorem Sale.locked_follows (x : Sale) (a : Authorization) (k : Lock) :
    x.Follows (x.locked a k) ∧ (x.locked a k).lock = some k ∧ (x.locked a k).held = some a := by
  obtain ⟨ho, hc, hl, hh⟩ := Sale.recompute_follows { x with
    lock := some k, held := some a, flags := { x.flags with
      discountClamped := x.flags.discountClamped || discountClamps k.p k.d
      presetAdjusted := x.flags.presetAdjusted || k.preset != a.preset } }
  exact ⟨.of_claims ho hc fun _ => Sale.recompute_lawful (by simp), hl, hh⟩

theorem State.modSale_acts (s : State) (side : Side) (f : Sale → Sale) : Acts s (s.modSale side f) [.positions, .prices] :=
  Acts.modSale (.refl s _) side f (List.Subset.refl _)

/-- A position's sale changes, its state and its authorization stay. -/
theorem Ledger.Moves.modSale (h : Moves Q l s.ledger) (side : Side) {f : Sale → Sale}
    (hf : ∀ x, x.Follows (f x) ∧ (f x).lock = x.lock ∧ ((f x).held = x.held ∨ (f x).held = none)) : Moves Q l (s.modSale side f).ledger := by
  have e := s.modSale_pos side f
  cases hx : (s.pos side).sale with
  | none => unfold State.modSale; rw [hx]; exact h
  | some x =>
    obtain ⟨h1, h2, h3⟩ := hf x
    refine h.turn (s.modSale_acts side f) (by decide) (by decide) (fun y hy => s.modSale_pos_ne f hy) (by rw [e]) (by rw [e]; exact id) ?_
    rw [e]
    exact .sale x (f x) hx (by rw [hx]; rfl) h1 (by rw [h2]) h3 rfl (.inl rfl)

/-! ## Claims (R13 to R16) -/

theorem State.grant_ledger (s : State) (side : Side) (m : MeterNo) (role : Role) :
    (s.grant side m role).ledger = { s.ledger with
      psc := s.ledger.psc.set side ((s.grant side m role).pos side), miu := (s.grant side m role).miu } := by
  have ha : Acts s (s.grant side m role) [.meters, .positions, .prices] := Acts.grant (.refl s _) side m role (List.Subset.refl _)
  have hr : (s.grant side m role).rsc = s.rsc := ha.frame .store (by decide)
  simp only [State.ledger, hr, psc_of_side fun y hy => s.grant_pos_ne m role hy]

theorem State.grant_miu (s : State) (side : Side) (m : MeterNo) (role : Role) :
    (s.grant side m role).miu = (s.modMeter m fun x => { x with owner := some (side, role), phaseErrors := 0 }).miu :=
  (State.modSale_acts _ side _).frame .meters (by decide)

theorem Ledger.Moves.grant (h : Moves Q l s.ledger) {x : Sale} {m : MeterNo} (role : Role) (hx : (s.pos side).sale = some x)
    (hf : s.ledger.routesLawful → (s.meter m).owner = none) : Moves Q l (s.grant side m role).ledger := by
  have e := s.grant_pos side m role
  refine h.step (.claim side _ x { x with claims := x.claims ++ [{ meter := m, role := role, n := 0, h := 0, k := (s.meter m).config.k }] }
    { meter := m, role := role, n := 0, h := 0, k := (s.meter m).config.k } _ (s.grant_ledger side m role) hx (by rw [e, hx]; rfl)
    ⟨rfl, rfl, rfl, rfl, ?_⟩ ?_ (by rw [State.grant_miu]; rfl) hf fun n => ?_)
  · rintro ⟨h1, h2⟩
    exact ⟨by simp [h1, totalVolume, Claim.volume, claimVolume], h2⟩
  · rw [e]; exact ⟨rfl, rfl, rfl, id⟩
  · show ((s.grant side m role).miu.meters[n]).owner = _
    rw [State.grant_miu]
    show ((s.modMeter m _).meter n).owner = _
    rw [State.modMeter_meter_eq]
    split <;> rfl

/-- The owners after claims have been released. -/
theorem foldl_release_owner (b : Bool) (cs : List Claim) (s : State) (m : MeterNo) :
    ((cs.foldl (fun s c => s.modMeter c.meter fun x =>
      { x with owner := none, phaseErrors := 0, unclaimed := if b then x.unclaimed + BitVec.ofInt 32 c.n else x.unclaimed }) s).meter m).owner
      = if m ∈ cs.map Claim.meter then none else (s.meter m).owner := by
  induction cs generalizing s with
  | nil => simp
  | cons c cs ih =>
    rw [List.foldl_cons, ih, State.modMeter_meter_eq]
    by_cases h : m = c.meter <;> simp [h]

theorem State.releaseClaims_acts (s : State) (side : Side) (b : Bool) : Acts s (s.releaseClaims side b) [.meters, .positions] :=
  Acts.releaseClaims (.refl s _) side b (List.Subset.refl _)

theorem State.releaseClaims_owner {x : Sale} (h : (s.pos side).sale = some x) (b : Bool) (m : MeterNo) :
    ((s.releaseClaims side b).meter m).owner = if m ∈ x.claims.map Claim.meter then none else (s.meter m).owner := by
  unfold State.releaseClaims
  rw [h]
  exact foldl_release_owner b x.claims s m

theorem foldl_modMeter_routes (f : Claim → Meter → Meter) (cs : List Claim) (s : State) :
    (cs.foldl (fun s c => s.modMeter c.meter (f c)) s).miu.routes = s.miu.routes := by
  induction cs generalizing s with
  | nil => rfl
  | cons c cs ih => rw [List.foldl_cons, ih]; rfl

theorem State.releaseClaims_routes (s : State) (side : Side) (b : Bool) : (s.releaseClaims side b).miu.routes = s.miu.routes := by
  unfold State.releaseClaims
  cases (s.pos side).sale with
  | none => rfl
  | some x => exact foldl_modMeter_routes (fun c y => { y with
      owner := none, phaseErrors := 0, unclaimed := if b then y.unclaimed + BitVec.ofInt 32 c.n else y.unclaimed }) x.claims s

/-- What is left of a sale that has released its claims: `t` is the state after the release but for positions and other parts. -/
theorem Ledger.Moves.drop (h : Moves Q l s.ledger) {x : Sale} {b : Bool} (hx : (s.pos side).sale = some x)
    (ht : t.ledger = { (s.releaseClaims side b).ledger with psc := t.psc }) (hne : ∀ y, y ≠ side → t.pos y = s.pos y)
    (hq : (t.pos side).sale = none) (hd : (s.pos side).Drops x (t.pos side)) (ho : (t.pos side).outputsSafe)
    (hu : ∀ z ∈ (t.pos side).unpaid, z ∈ (s.pos side).unpaid ∨ (x.lawful → z.lawful)) : Moves Q l t.ledger := by
  have hr : (s.releaseClaims side b).rsc = s.rsc := (s.releaseClaims_acts side b).frame .store (by decide)
  have e : t.ledger = { s.ledger with psc := s.ledger.psc.set side (t.pos side), miu := (s.releaseClaims side b).miu } := by
    rw [ht, psc_of_side hne]
    simp only [State.ledger, hr]
  exact h.step (.drop side _ x _ e hx hq hd (s.releaseClaims_routes side b) ho hu fun m => by rw [e]; exact State.releaseClaims_owner hx b m)

/-! ## A start that ends without flowing (R54, R56, R57) -/

theorem State.withdrawCheck_acts (s : State) (side : Side) : Acts s (s.withdrawCheck side) [.displays] :=
  Acts.withdrawCheck (.refl s _) side (by decide)

@[simp] theorem State.withdrawCheck_ledger (s : State) (side : Side) : (s.withdrawCheck side).ledger = s.ledger :=
  (s.withdrawCheck_acts side).ledger (by decide) (by decide) (by decide)

/-- A start is abandoned, and the position goes on to `t`. -/
theorem Ledger.Moves.abandon (h : Moves Q l s.ledger) {x : Sale} (hx : (s.pos side).sale = some x)
    (ha : Acts (s.abandonStart side) t P) (hm : Part.meters ∉ P) (hr : Part.store ∉ P) (hne : ∀ y, y ≠ side → t.pos y = s.pos y)
    (hq : (t.pos side).sale = none) (hd : (s.pos side).Drops x (t.pos side)) (ho : (t.pos side).outputsSafe)
    (hu : (t.pos side).unpaid = (s.pos side).unpaid) : Moves Q l t.ledger := by
  have hw : (s.withdrawCheck side).pos = s.pos := funext fun y => s.withdrawCheck_pos side y
  refine Moves.drop (s := s.withdrawCheck side) (b := true) (by rw [State.withdrawCheck_ledger]; exact h) (by rw [hw]; exact hx) ?_
    (fun y hy => by rw [hw]; exact hne y hy) hq (by rw [hw]; exact hd) ho (fun z hz => .inl (by rw [hw, ← hu]; exact hz))
  rw [State.ledger_of_acts ha hm hr]
  rfl

theorem State.fallBack_def (s : State) (side : Side) (r : StartResult) (d : Nat) : s.fallBack side r d =
    ((match ((s.pos side).sale.bind Sale.held).or (s.pos side).auth with
      | some a => (s.abandonStart side).arriveAuthorized side a
      | none => (s.abandonStart side).arriveOpen side).modPos side fun p => { p with startResult := r }).raisePos side .startFailed d := by
  unfold State.fallBack
  dsimp only
  cases (s.pos side).sale <;> simp only [Option.bind_none, Option.bind_some] <;> rfl

/-- A fall-back leaves the position without a sale: open, closed, or AUTHORIZED under the authorization that was held. -/
theorem State.fallBack_rests (s : State) (side : Side) (r : StartResult) (d : Nat) :
    let p := s.pos side
    let q := (s.fallBack side r d).pos side
    q.sale = none ∧ q.outputsSafe ∧ q.unpaid = p.unpaid
      ∧ (q.st.selling = false ∧ q.st ≠ .authorized ∧ q.auth = none
        ∨ q.st = .authorized ∧ ∃ a, q.auth = some a ∧ (p.sale.bind Sale.held).or p.auth = some a) := by
  dsimp only
  rw [State.fallBack_def, State.raisePos_pos, State.modPos_pos]
  cases e : ((s.pos side).sale.bind Sale.held).or (s.pos side).auth with
  | none =>
    obtain ⟨h1, h2, h3, h4, h5, h6⟩ := (s.abandonStart side).arriveOpen_rests side
    rw [State.abandonStart_pos] at h4 h5
    exact ⟨h4, h6, h5, .inl ⟨h1, h2, h3⟩⟩
  | some a =>
    dsimp only
    rw [State.arriveAuthorized_pos, State.abandonStart_pos]
    dsimp only
    split
    · exact ⟨rfl, Position.enter_outputsSafe (s.pos side) (.closed .night), rfl, .inl ⟨rfl, by simp [Position.enter, Position.closedForNight], rfl⟩⟩
    · exact ⟨rfl, Position.enter_outputsSafe (s.pos side) .authorized, rfl, .inr ⟨rfl, a, rfl, rfl⟩⟩

theorem PosState.selling_of_starting {st : PosState} (h : st.isStarting = true) : st.selling = true ∧ st ≠ .authorized := by
  cases st <;> simp_all [PosState.selling, PosState.isStarting]

/-- A start falls back (R56). -/
theorem Ledger.Moves.fallBack (h : Moves Q l s.ledger) (hst : (s.pos side).st.isStarting = true) (r : StartResult) (d : Nat) :
    Moves Q l (s.fallBack side r d).ledger := by
  obtain ⟨h1, h2, h3, h4⟩ := s.fallBack_rests side r d
  cases hx : (s.pos side).sale with
  | some x =>
    rw [hx] at h4
    refine h.abandon hx (s.fallBack_acts side r d) (by decide) (by decide) (fun y hy => s.fallBack_pos_ne r d hy) h1 ?_ h2 h3
    rcases h4 with ⟨h4, h5, h6⟩ | ⟨h4, a, h5, h6⟩
    · exact .rest ⟨h4, h5⟩ (.inl h6)
    · refine .back a hst h4 h5 ?_
      cases hh : x.held <;> simp_all
  | none =>
    have ha : Acts s (s.fallBack side r d) [.notices, .meters, .positions, .displays] := Acts.fallBack (.refl s _) side r d (List.Subset.refl _)
    have hmiu : (s.fallBack side r d).miu = s.miu := by
      rw [State.fallBack_miu, State.releaseClaims, State.withdrawCheck_pos, hx]
      exact (s.withdrawCheck_acts side).frame .meters (by decide)
    have hrsc : (s.fallBack side r d).rsc = s.rsc := ha.frame .store (by decide)
    refine h.step (.turn side ((s.fallBack side r d).pos side) ?_ h3 (fun _ => h2) (.empty (PosState.selling_of_starting hst).1 hx h1))
    rw [State.ledger, hmiu, hrsc, psc_of_side fun y hy => s.fallBack_pos_ne r d hy]
    rfl

/-- A start ends without its authorization: the position is open or closed (R54, R57, R180). -/
theorem Ledger.Moves.abandon_rest (h : Moves Q l s.ledger) (hst : (s.pos side).st.isStarting = true)
    (ha : Acts (s.abandonStart side) t P) (hm : Part.meters ∉ P) (hr : Part.store ∉ P) (hne : ∀ y, y ≠ side → t.pos y = s.pos y)
    (hq : (t.pos side).sale = none) (hd : (t.pos side).st.selling = false ∧ (t.pos side).st ≠ .authorized ∧ (t.pos side).auth = none)
    (ho : (t.pos side).outputsSafe) (hu : (t.pos side).unpaid = (s.pos side).unpaid) : Moves Q l t.ledger := by
  cases hx : (s.pos side).sale with
  | some x => exact h.abandon hx ha hm hr hne hq (.rest ⟨hd.1, hd.2.1⟩ (.inl hd.2.2)) ho hu
  | none =>
    refine h.step (.turn side (t.pos side) ?_ hu (fun _ => ho) (.empty (PosState.selling_of_starting hst).1 hx hq))
    have hmiu : (s.abandonStart side).miu = s.miu := by
      show ((s.withdrawCheck side).releaseClaims side true).miu = _
      rw [State.releaseClaims, State.withdrawCheck_pos, hx]
      exact (s.withdrawCheck_acts side).frame .meters (by decide)
    have hrsc : (s.abandonStart side).rsc = s.rsc := (s.abandonStart_acts side).frame .store (by decide)
    rw [State.ledger_of_acts ha hm hr, State.ledger, hmiu, hrsc, psc_of_side hne]
    rfl

theorem Ledger.Moves.startCheckFailed (h : Moves Q l s.ledger) (hst : (s.pos side).st.isStarting = true) :
    Moves Q l (s.startCheckFailed side).ledger := by
  have ha : Acts (s.abandonStart side) (s.startCheckFailed side) [.notices, .positions] :=
    (Acts.closePos (.refl _ _) side .display (List.Subset.refl _)).modPos side _ (by decide)
  have e : (s.startCheckFailed side).pos side = { { (s.pos side).enter (.closed .display) with auth := none, authTimer := none } with
      sale := none, motorTimer := none, startResult := .display } := by
    simp [State.startCheckFailed, State.closePos_pos, State.abandonStart_pos, Position.enter]
  refine h.abandon_rest hst ha (by decide) (by decide) (fun y hy => ?_) (by rw [e])
    (by rw [e]; exact ⟨rfl, by simp [Position.enter], rfl⟩) (by rw [e]; exact Position.enter_outputsSafe (s.pos side) (.closed .display))
    (by rw [e]; rfl)
  simp [State.startCheckFailed, State.modPos_pos_ne _ _ hy, State.closePos_pos_ne _ _ hy, State.abandonStart_pos_ne _ hy]

theorem Ledger.Moves.quarantineAt (h : Moves Q l s.ledger) (side : Side) : Moves Q l (s.quarantineAt side).ledger := by
  unfold State.quarantineAt
  dsimp only
  split
  · rename_i hc
    rw [Bool.and_eq_true] at hc
    obtain ⟨h1, h2, h3, h4, h5, h6⟩ := (s.abandonStart side).arriveOpen_rests side
    rw [State.abandonStart_pos] at h4 h5
    refine Moves.of_eq (s := (s.abandonStart side).arriveOpen side) ?_ (State.raisePos_ledger ..)
    exact h.abandon_rest hc.1 (P := [.notices, .positions]) (Acts.arriveOpen (.refl _ _) side (List.Subset.refl _)) (by decide) (by decide)
      (fun y hy => by rw [State.arriveOpen_pos_ne _ hy, State.abandonStart_pos_ne _ hy]) h4 ⟨h1, h2, h3⟩ h6 h5
  · split
    · rename_i hc
      rw [Bool.and_eq_true, beq_iff_eq] at hc
      exact Moves.of_eq (h.arriveOpen (.inl (by rw [hc.1]; rfl))) (State.raisePos_ledger ..)
    · exact h

end Sys2Proof.Machine
end

section
/-! PROOFS. The starts, sales, nozzles, faults and ends of a position as chains of moves (R12 to R16, R47 to R66, R180 to R182). -/
namespace Sys2Proof.Machine

open Ledger (Moves)

variable {s t u : State} {P : List Part} {Q : Prop} {l : Ledger} {side : Side}

/-! ## Outputs that stay or drop -/

/-- Timers and flags of a position do not bear on its outputs. -/
theorem Position.outputsSafe_congr {p q : Position} (hs : q.st = p.st) (hf : q.fast = p.fast) (hw : q.slow = p.slow) (hp : q.pump = p.pump)
    (h : p.outputsSafe) : q.outputsSafe := by
  unfold Position.outputsSafe at *
  rw [hs, hf, hw, hp]; exact h

theorem Ledger.Moves.powerDownAt (h : Moves Q l s.ledger) (side : Side) : Moves Q l (s.powerDownAt side).ledger := by
  have drop {u : State} (hu : Moves Q l u.ledger) : Moves Q l (u.modPos side fun p =>
      { p with fast := false, slow := false, pump := false, flowTimer := none, settleTimer := none, motorTimer := none,
               authTimer := none }).ledger :=
    hu.modPos_alike ⟨rfl, rfl, rfl, fun _ => by simp [Position.outputsSafe]⟩ fun _ => id
  unfold State.powerDownAt
  dsimp only
  refine drop ?_
  by_cases hst : (s.pos side).st.isStarting = true
  · have hc : ((s.abandonStart side).pos side).st.isClosed = false ∧ ((s.abandonStart side).pos side).st.isDispensing = false
        ∧ ((s.abandonStart side).pos side).st ≠ .ending := by
      rw [State.abandonStart_pos]
      revert hst
      cases (s.pos side).st <;> simp [PosState.isStarting, PosState.isClosed, PosState.isDispensing]
    have hcl : (s.pos side).st.isClosed = false ∧ (s.pos side).st.isDispensing = false ∧ (s.pos side).st ≠ .ending := by
      rwa [State.abandonStart_pos] at hc
    rw [if_pos hst, if_neg (by simp [hcl.1]), if_neg (by simp [hcl.2])]
    refine h.abandon_rest hst (P := [.notices, .positions]) (Acts.closePos (.refl _ _) side .power (List.Subset.refl _)) (by decide) (by decide)
      (fun y hy => by rw [State.closePos_pos_ne _ _ hy, State.abandonStart_pos_ne _ hy]) ?_ ?_ ?_ ?_ <;>
      rw [State.closePos_pos, State.abandonStart_pos]
    · rfl
    · exact ⟨rfl, by simp [Position.enter], rfl⟩
    · exact Position.enter_outputsSafe (s.pos side) (.closed .power)
    · rfl
  · rw [if_neg hst]
    split
    · exact h.setReason _ ‹_›
    · split
      · exact h
      · refine h.closePos _ (.inl ?_)
        revert hst ‹¬ (s.pos side).st.isClosed = true› ‹¬ _›
        cases (s.pos side).st <;> simp [PosState.isStarting, PosState.isClosed, PosState.isDispensing, PosState.selling]

/-! ## Claim requests (R12 to R15) -/

theorem Meter.refuses_none {m : Meter} (h : m.refuses = none) : m.owner = none ∧ m.faulted = false := by
  unfold Meter.refuses at h
  split at h
  · cases h
  · split at h
    · cases h
    · simp_all

theorem State.grant_routesLawful (s : State) (side : Side) (m : MeterNo) (role : Role) :
    (s.grant side m role).ledger.routesLawful ↔ s.ledger.routesLawful := by
  have hr : (s.grant side m role).miu.routes = s.ledger.miu.routes := by rw [State.grant_miu]; rfl
  unfold Ledger.routesLawful
  rw [State.grant_ledger]
  exact forall_congr' fun e => by rw [Ledger.routed_set hr]

theorem State.grant_owner_ne (s : State) (side : Side) {m n : MeterNo} (role : Role) (h : n ≠ m) :
    ((s.grant side m role).meter n).owner = (s.meter n).owner := by
  show ((s.grant side m role).miu.meters[n]).owner = _
  rw [State.grant_miu]
  show ((s.modMeter m _).meter n).owner = _
  rw [State.modMeter_meter_eq, if_neg h]

theorem Ledger.Moves.grants {rs : List (MeterNo × Role)} (h : Moves Q l s.ledger) (hx : (s.pos side).sale.isSome = true)
    (hf : s.ledger.routesLawful → (rs.map Prod.fst).Nodup ∧ ∀ q ∈ rs, (s.meter q.1).owner = none) :
    Moves Q l (rs.foldl (fun s q => s.grant side q.1 q.2) s).ledger := by
  induction rs generalizing s with
  | nil => exact h
  | cons q rs ih =>
    obtain ⟨x, hx⟩ := Option.isSome_iff_exists.mp hx
    refine ih (h.grant q.2 hx fun hl => (hf hl).2 q List.mem_cons_self) (by rw [State.grant_pos, hx]; rfl) fun hl => ?_
    obtain ⟨hd, ho⟩ := hf ((State.grant_routesLawful ..).mp hl)
    obtain ⟨hq, hd⟩ := List.nodup_cons.mp hd
    refine ⟨hd, fun r hr => ?_⟩
    rw [State.grant_owner_ne _ _ _ fun e => hq (by rw [← e]; exact List.mem_map_of_mem hr)]
    exact ho r (List.mem_cons_of_mem _ hr)

theorem Ledger.Moves.requestSatellite (h : Moves Q l s.ledger) (side : Side) : Moves Q l (s.requestSatellite side).ledger := by
  unfold State.requestSatellite
  dsimp only
  split
  · exact h
  · rename_i x hx
    split
    · split
      · exact h
      · rename_i m _
        split
        · exact Moves.of_eq (h.modSale side (f := fun sl => { sl with flags := { sl.flags with satelliteBusy := true } })
            fun x => ⟨⟨rfl, rfl, id⟩, rfl, .inl rfl⟩) (State.raisePos_ledger ..)
        · rename_i hr
          exact h.grant _ hx fun _ => (Meter.refuses_none (by simpa using hr)).1
    · exact h

/-! ## Starting a sale (R51 to R55) -/

theorem newSale_lawful (a : Authorization) (n : HoseNo) (e : HoseRoute) (now : Stamp) : (newSale a n e now).lawful :=
  ⟨rfl, rfl, rfl⟩

theorem State.firstRefusal_none {rs : List (MeterNo × Role)} (h : s.firstRefusal rs = none) : ∀ q ∈ rs, (s.meter q.1).owner = none := by
  induction rs with
  | nil => simp
  | cons q rs ih =>
    obtain ⟨m, r⟩ := q
    unfold State.firstRefusal at h
    split at h
    · cases h
    · rename_i hm
      exact List.forall_mem_cons.mpr ⟨(Meter.refuses_none hm).1, ih h⟩

/-- The meters that a lawful entry requests are different. -/
theorem HoseRoute.resolve_nodup {e : HoseRoute} {en : RouteEnables} {r : Resolution} (he : e.lawful) (h : e.resolve en = some r) :
    (r.requests.map Prod.fst).Nodup := by
  obtain ⟨-, h2, -⟩ := he
  unfold HoseRoute.resolve at h
  split at h
  · cases h; simp
  · cases h; simp
  · rename_i hk
    obtain ⟨m, hm, hne⟩ := h2 (by rw [hk]; decide)
    rw [hm] at h
    dsimp only at h
    (repeat' split at h) <;> cases h <;> simp [Ne.symm hne]

/-- A start (R51), of an authorization that may be given. -/
theorem Ledger.Moves.start (h : Moves Q l s.ledger) {a : Authorization} (n : HoseNo) (hf : (s.pos side).free) (ha : (s.pos side).admits Q a) :
    Moves Q l (s.start side n a).ledger := by
  have h1 : Moves Q l (s.modPos side fun p =>
      { (p.enter (.starting .gate)).clearFlags with authTimer := none, auth := some a, sale := some (newSale a n (s.route side n) s.stamp) }).ledger :=
    h.modPos_turn rfl (fun _ => Position.enter_outputsSafe (s.pos side) (.starting .gate))
      (.start a _ hf rfl rfl rfl ha ⟨rfl, rfl, rfl, rfl, newSale_lawful ..⟩)
  have hst (u : State) : ((u.modPos side fun p =>
      { (p.enter (.starting .gate)).clearFlags with
        authTimer := none, auth := some a, sale := some (newSale a n (s.route side n) s.stamp) }).pos side).st.isStarting = true := by rw [State.modPos_pos]; rfl
  unfold State.start
  dsimp only
  split
  · exact h1.fallBack (hst s) _ _
  · rename_i r hr
    split
    · exact h1.fallBack (hst s) _ _
    · rename_i hfr
      have h2 : Moves Q l (r.requests.foldl (fun s q => s.grant side q.1 q.2) ((s.modPos side fun p =>
          { (p.enter (.starting .gate)).clearFlags with
            authTimer := none, auth := some a, sale := some (newSale a n (s.route side n) s.stamp) }).modSale side fun sl =>
              { sl with satelliteHonoured := r.satellite, blend := r.blend })).ledger := by
        refine (h1.modSale side (f := fun sl => { sl with satelliteHonoured := r.satellite, blend := r.blend })
            fun x => ⟨⟨rfl, rfl, id⟩, rfl, .inl rfl⟩).grants ?_ fun hl => ⟨?_, ?_⟩
        · rw [State.modSale_pos, State.modPos_pos]; rfl
        · refine HoseRoute.resolve_nodup (hl _ (.inl ⟨side, n, ?_⟩)) hr
          rw [State.ledger_of_acts (State.modSale_acts _ side _) (by decide) (by decide)]
          rfl
        · intro q hq
          have := State.firstRefusal_none hfr q hq
          rwa [← Acts.meter_eq (State.modSale_acts _ side fun sl => { sl with satelliteHonoured := r.satellite, blend := r.blend })
            (by decide) q.1] at this
      split
      · exact h2.requestSatellite side
      · exact h2

theorem State.beginStartCheck_ledger (s : State) (side : Side) (e : Nat) : (s.beginStartCheck side e).ledger = s.ledger :=
  (Acts.beginStartCheck (.refl s [.displays]) side e (by decide)).ledger (by decide) (by decide) (by decide)

/-- The lock (R53) at the gate. -/
theorem Ledger.Moves.lockSale (h : Moves Q l s.ledger) (hst : (s.pos side).st = .starting .gate) (price : Nat) :
    Moves Q l (s.lockSale side price).ledger := by
  unfold State.lockSale
  dsimp only
  split
  · rename_i a x ha hx
    refine Moves.of_eq ?_ (State.beginStartCheck_ledger ..)
    obtain ⟨hf, hl, hh⟩ := x.locked_follows a (s.lockFor side a x.hose x.grade price)
    have e : ((s.modSale side fun sl => sl.locked a (s.lockFor side a x.hose x.grade price)).modPos side fun p =>
        { p.enter (.starting .check) with auth := none }).pos side =
        { { s.pos side with sale := some (x.locked a (s.lockFor side a x.hose x.grade price)) }.enter (.starting .check) with auth := none } := by
      rw [State.modPos_pos, State.modSale_pos, hx]; rfl
    refine h.turn (P := [.positions, .prices]) ((s.modSale_acts side _).modPos side _ (by decide)) (by decide) (by decide)
      (fun y hy => by rw [State.modPos_pos_ne _ _ hy, State.modSale_pos_ne _ _ hy]) (by rw [e]; rfl)
      (fun _ => by rw [e]; exact Position.enter_outputsSafe (s.pos side) (.starting .check)) ?_
    rw [e]
    exact .lock a x _ hst hx ha rfl rfl rfl hf (by rw [hl]; rfl) hh
  · exact h

theorem Ledger.Moves.gate (h : Moves Q l s.ledger) (side : Side) : Moves Q l (s.gate side).ledger := by
  unfold State.gate
  dsimp only
  split
  · rename_i x hst hx
    have hs : (s.pos side).st.isStarting = true := by rw [hst]; rfl
    split
    · exact h.fallBack hs _ _
    · split
      · exact h.fallBack hs _ _
      · split
        · exact h.lockSale hst _
        · exact h
  · exact h

/-! ## Dispensing (R55, R58 to R60) -/

/-- A position's sale goes on in another state. -/
theorem Ledger.Moves.goOn (h : Moves Q l s.ledger) {f : Position → Position} (hs : (s.pos side).st.selling = true)
    (hg : (s.pos side).st ≠ .starting .gate) (hq : (f (s.pos side)).st.selling = true ∧ (f (s.pos side)).st ≠ .starting .gate)
    (hst : (f (s.pos side)).st.isStarting = true → (s.pos side).st.isStarting = true)
    (hk : (f (s.pos side)).sale = (s.pos side).sale ∧ (f (s.pos side)).auth = (s.pos side).auth
      ∧ (f (s.pos side)).unpaid = (s.pos side).unpaid ∧ (f (s.pos side)).outputsSafe) :
    Moves Q l (s.modPos side f).ledger := by
  obtain ⟨h1, h2, h3, h4⟩ := hk
  refine h.modPos_turn h3 (fun _ => h4) ?_
  cases hx : (s.pos side).sale with
  | none => exact .empty hs hx (h1.trans hx)
  | some x => exact .sale x x hx (h1.trans hx) ⟨rfl, rfl, id⟩ rfl (.inl rfl) h2 (.inr ⟨hs, hq.1, hg, hq.2, hst⟩)

theorem Ledger.Moves.endSale (h : Moves Q l s.ledger) (hs : (s.pos side).st.selling = true) (hg : (s.pos side).st ≠ .starting .gate)
    (r : StopReason) : Moves Q l (s.endSale side r).ledger := by
  have hp (f : Sale → Sale) : ((s.modSale side f).pos side).st = (s.pos side).st := by rw [State.modSale_pos]
  refine Moves.goOn (f := fun p => { p.enter .ending with
      flowTimer := none, motorTimer := none, settleTimer := some p.config.settleWindow })
    (h.modSale side (f := fun sl => { sl with stop := some r }) fun x => ⟨⟨rfl, rfl, id⟩, rfl, .inl rfl⟩) (by rw [hp]; exact hs)
    (by rw [hp]; exact hg) ⟨rfl, by simp [Position.enter]⟩ (by simp [Position.enter, PosState.isStarting])
    ⟨rfl, rfl, rfl, Position.enter_outputsSafe ((s.modSale side fun sl => { sl with stop := some r }).pos side) .ending⟩

theorem PosState.selling_of_dispensing {st : PosState} (h : st.isDispensing = true) : st.selling = true ∧ st ≠ .starting .gate := by
  cases st <;> simp_all [PosState.selling, PosState.isDispensing]

theorem Ledger.Moves.endSale_of_dispensing (h : Moves Q l s.ledger) (hd : (s.pos side).st.isDispensing = true) (r : StopReason) :
    Moves Q l (s.endSale side r).ledger :=
  h.endSale (PosState.selling_of_dispensing hd).1 (PosState.selling_of_dispensing hd).2 r

theorem Ledger.Moves.openValves (h : Moves Q l s.ledger) (hs : (s.pos side).st.selling = true) (hg : (s.pos side).st ≠ .starting .gate) :
    Moves Q l (s.openValves side).ledger := by
  unfold State.openValves
  split
  · exact h
  · rename_i x hx
    dsimp only
    have hp (f : Sale → Sale) : ((s.modSale side f).pos side).st = (s.pos side).st := by rw [State.modSale_pos]
    have h2 := Moves.goOn (side := side) (f := fun p => { p.enter (if x.slowed then .slowing else .fuelling) with
        motorTimer := none, flowTimer := some (p.config.firstFlow * 1000) })
      (h.modSale side (f := fun sl => { sl with held := none }) fun x => ⟨⟨rfl, rfl, id⟩, rfl, .inr rfl⟩) (by rw [hp]; exact hs)
      (by rw [hp]; exact hg) (by dsimp only [Position.enter]; split <;> exact ⟨rfl, by simp⟩)
      (by dsimp only [Position.enter]; split <;> simp [PosState.isStarting])
      ⟨rfl, rfl, rfl, Position.enter_outputsSafe ((s.modSale side fun sl => { sl with held := none }).pos side) _⟩
    split
    · refine h2.endSale ?_ ?_ _ <;> rw [State.modPos_pos] <;> dsimp only [Position.enter] <;> split
      · rfl
      · rfl
      · simp
      · simp
    · exact h2

theorem Ledger.Moves.checkComplete (h : Moves Q l s.ledger) (side : Side) : Moves Q l (s.checkComplete side).ledger := by
  unfold State.checkComplete
  split
  · exact h
  · rename_i hst
    have hst : (s.pos side).st = .starting .check := by simpa using hst
    have h1 := h.goOn (side := side) (f := fun p => { p.enter (.starting .motor) with motorTimer := some p.config.motorSettle })
      (by rw [hst]; rfl) (by rw [hst]; simp) ⟨rfl, by simp [Position.enter]⟩ (fun _ => by rw [hst]; rfl)
      ⟨rfl, rfl, rfl, Position.enter_outputsSafe (s.pos side) (.starting .motor)⟩
    dsimp only
    split
    · exact h1.openValves (by rw [State.modPos_pos]; rfl) (by rw [State.modPos_pos]; simp [Position.enter])
    · exact h1

/-! ## Nozzles (R49, R50) -/

theorem Ledger.Moves.trigger (h : Moves Q l s.ledger) (hst : (s.pos side).st = .authorized) (n : HoseNo) (lift : Bool) :
    Moves Q l (s.trigger side n lift).ledger := by
  unfold State.trigger
  split
  · exact h
  · rename_i a ha
    dsimp only
    (repeat' split) <;> first
      | exact h.start _ (.inl (by rw [hst]; rfl)) fun _ => .inr ha
      | exact h
      | exact h.setFlag ..
      | exact (h.setFlag ..).setFlag ..

theorem Ledger.Moves.lift (h : Moves Q l s.ledger) (side : Side) (n : HoseNo) : Moves Q l (s.lift side n).ledger := by
  unfold State.lift
  split
  · exact h.setFlag ..
  · rename_i hst
    have h1 : Moves Q l ((s.modPos side fun p => p.enter .calling).raisePos side .calling (hoseDetail n)).ledger :=
      Moves.of_eq (h.modPos_turn (f := fun p => p.enter .calling) rfl (fun _ => Position.enter_outputsSafe (s.pos side) .calling)
        (.rest (.inl (by rw [hst]; rfl)) rfl (by simp [Position.enter, PosState.selling]) (.inr ⟨rfl, by rw [hst]; simp⟩))) (State.raisePos_ledger ..)
    dsimp only
    split
    · exact h1.setFlag ..
    · exact h1
  · exact h.trigger ‹_› ..
  all_goals exact h.setFlag ..

theorem Ledger.Moves.hang (h : Moves Q l s.ledger) (side : Side) (n : HoseNo) : Moves Q l (s.hang side n).ledger := by
  have fall (b : Bool) (hst : (s.pos side).st.isStarting = true) : Moves Q l (if b then s.fallBack side .hung 0 else s).ledger := by
    split
    · exact h.fallBack hst ..
    · exact h
  have stop (b : Bool) (hst : (s.pos side).st.isDispensing = true) : Moves Q l (if b then s.endSale side .hung else s).ledger := by
    split
    · exact h.endSale_of_dispensing hst _
    · exact h
  cases hst : (s.pos side).st <;> simp only [State.hang, hst]
  case calling =>
    split
    · exact h.enterIdle (.inl (by rw [hst]; rfl)) (by rw [hst]; simp)
    · exact h
  case authorized => exact h.trigger hst ..
  case starting k => exact fall _ (by rw [hst]; rfl)
  case fuelling | slowing | paused => exact stop _ (by rw [hst]; rfl)
  case closed | idle | ending => exact h

/-! ## Counts, faults and the emergency stop (R7, R26, R37, R58 to R63) -/

theorem Ledger.Moves.pickStop (h : Moves Q l s.ledger) (rs : List StopReason) : Moves Q l (s.pickStop rs).1.ledger :=
  Moves.of_eq h ((Acts.pickStop (.refl s [.free]) rs (by decide)).ledger (by decide) (by decide) (by decide))

theorem Ledger.Moves.stopOrSlow (h : Moves Q l s.ledger) (hd : (s.pos side).st.isDispensing = true) (rs : List StopReason) :
    Moves Q l (s.stopOrSlow side (s.pos side).st rs).ledger := by
  have hs := PosState.selling_of_dispensing hd
  have hc := h.pickStop rs
  have hp := s.pickStop_pos rs side
  unfold State.stopOrSlow
  dsimp only
  split
  · exact hc.endSale_of_dispensing (by rw [hp]; exact hd) _
  · split
    · split
      · exact hc.goOn (f := fun p => p.enter .slowing) (by rw [hp]; exact hs.1) (by rw [hp]; exact hs.2) ⟨rfl, by simp [Position.enter]⟩
          (by simp [Position.enter, PosState.isStarting]) ⟨rfl, rfl, rfl, Position.enter_outputsSafe _ .slowing⟩
      · exact hc
    · exact hc

theorem Ledger.Moves.dispensed (h : Moves Q l s.ledger) (hd : (s.pos side).st.isDispensing = true) (m : MeterNo) (forward : Bool) :
    Moves Q l (s.dispensed side m forward).ledger := by
  have h1 : Moves Q l (s.restartFlow side forward).ledger := by
    unfold State.restartFlow
    split
    · exact h.modPos_alike ⟨rfl, rfl, rfl, fun h => Position.outputsSafe_congr rfl rfl rfl rfl h⟩ fun _ => id
    · exact h
  have hst : ((s.restartFlow side forward).pos side).st = (s.pos side).st := by rw [State.restartFlow_pos]
  have h2 : Moves Q l ((s.restartFlow side forward).checkBlend side).1.ledger
      ∧ ((((s.restartFlow side forward).checkBlend side).1).pos side).st = (s.pos side).st := by
    unfold State.checkBlend
    split
    · exact ⟨h1.modSale side fun x => ⟨x.blendCheck_follows.1, x.blendCheck_follows.2.1, .inl x.blendCheck_follows.2.2⟩,
        by rw [State.modSale_pos, ← hst]⟩
    · exact ⟨h1, hst⟩
  rw [State.dispensed_def, ← h2.2]
  exact h2.1.stopOrSlow (by rw [h2.2]; exact hd) _

theorem Ledger.Moves.deliver (h : Moves Q l s.ledger) (side : Side) (m : MeterNo) (forward : Bool) :
    Moves Q l (s.deliver side m forward).ledger := by
  have h1 : Moves Q l (s.modSale side fun sl => sl.count m (if forward then 1 else -1)).ledger :=
    h.modSale side fun x => ⟨(x.count_follows m _).1, (x.count_follows m _).2.1, .inl (x.count_follows m _).2.2⟩
  unfold State.deliver
  generalize State.modSale s side _ = u at h1 ⊢
  dsimp only
  split
  · exact h1
  · split
    · split
      · exact h1.fallBack ‹_› ..
      · exact h1
    · split
      · exact h1.dispensed ‹_› ..
      · exact h1

theorem Ledger.Moves.meterFaultReport (h : Moves Q l s.ledger) (side : Side) (m : MeterNo) : Moves Q l (s.meterFaultReport side m).ledger := by
  unfold State.meterFaultReport
  dsimp only
  (repeat' split) <;> first
    | exact h.fallBack ‹_› ..
    | exact h.endSale_of_dispensing ‹_› ..
    | exact h

theorem Ledger.Moves.emergencyAt (h : Moves Q l s.ledger) (side : Side) : Moves Q l (s.emergencyAt side).ledger := by
  unfold State.emergencyAt
  dsimp only
  split
  · exact h.fallBack ‹_› ..
  · split
    · rename_i hd
      rw [Bool.and_eq_true] at hd
      exact h.endSale_of_dispensing hd.1 _
    · exact h

@[simp] theorem State.modBoard_ledger (s : State) (side : Side) (f : Board → Board) : (s.modBoard side f).ledger = s.ledger := rfl
@[simp] theorem State.modBoard_pos' (s : State) (side y : Side) (f : Board → Board) : (s.modBoard side f).pos y = s.pos y := rfl

theorem Ledger.Moves.sideFault (h : Moves Q l s.ledger) (side : Side) : Moves Q l (s.sideFault side).ledger := by
  have h1 : Moves Q l (s.modBoard side fun b => { b with sideFault := true }).ledger := h
  unfold State.sideFault
  dsimp only
  rw [State.raisePos_ledger]
  split
  case h_4 => exact h1
  case h_5 hst => exact h1.startCheckFailed (by rw [hst]; rfl)
  case h_9 hst => exact h1.setReason _ (by rw [hst]; rfl)
  case h_10 => exact h1
  case h_1 hst | h_2 hst | h_3 hst => exact h1.endSale_of_dispensing (by rw [hst]; rfl) _
  case h_6 hst | h_7 hst | h_8 hst => exact h1.closePos _ (.inl (by rw [hst]; rfl))

/-! ## The ends (R64 to R66, R182) -/

/-- An ended sale is lawful, if the sale was. -/
theorem Sale.ended_lawful {x : Sale} (h : x.lawful) (r : StopReason) (o rec : Bool) (now : Stamp) : (x.ended r o rec now).lawful := by
  obtain ⟨-, h⟩ := h
  unfold EndedSale.lawful Sale.ended
  cases hl : x.lock with
  | none => rw [hl] at h; simp [h.2]; rfl
  | some k => rw [hl] at h; simp [h.2]

end Sys2Proof.Machine
end

section
/-! PROOFS. The ends of sales, the site's operations and the store's as chains of moves (R64 to R66, R160 to R169, R177 to R188). -/
namespace Sys2Proof.Machine

open Ledger (Moves)

variable {s t u : State} {P : List Part} {Q : Prop} {l : Ledger} {side : Side}

/-! ## Operations of the other blocks, and of the store's queue -/

/-- The parts of the machine that the ledger does not speak of. -/
def quietParts : List Part :=
  [.queue, .lines, .memory, .parity, .lanes, .notices, .prices, .displays, .inputs, .reader, .site, .free]

theorem Acts.ledger_quiet (h : Acts s t quietParts) : t.ledger = s.ledger := h.ledger (by decide) (by decide) (by decide)

theorem Ledger.Moves.quiet (h : Moves Q l s.ledger) (ha : Acts s t quietParts) : Moves Q l t.ledger := h.of_eq ha.ledger_quiet

@[simp] theorem State.modRiu_ledger (s : State) (f : Riu → Riu) : (s.modRiu f).ledger = s.ledger := rfl
@[simp] theorem State.modSsu_ledger (s : State) (f : Ssu → Ssu) : (s.modSsu f).ledger = s.ledger := rfl
@[simp] theorem State.modIwu_ledger (s : State) (f : Iwu → Iwu) : (s.modIwu f).ledger = s.ledger := rfl
@[simp] theorem State.modDlc_ledger (s : State) (f : Dlc → Dlc) : (s.modDlc f).ledger = s.ledger := rfl
@[simp] theorem State.modPru_ledger (s : State) (f : Pru → Pru) : (s.modPru f).ledger = s.ledger := rfl
@[simp] theorem State.modNtc_ledger (s : State) (f : Ntc → Ntc) : (s.modNtc f).ledger = s.ledger := rfl
@[simp] theorem State.modGrade_ledger (s : State) (g : Fin 8) (f : Grade → Grade) : (s.modGrade g f).ledger = s.ledger := rfl
@[simp] theorem State.modLane_ledger (s : State) (l : LaneId) (f : Lane → Lane) : (s.modLane l f).ledger = s.ledger := by cases l <;> rfl
@[simp] theorem State.tickFree_ledger (s : State) : s.tickFree.ledger = s.ledger := rfl
@[simp] theorem State.touch_ledger (s : State) (p : MirrorPart) (e : Nat) : (s.touch p e).ledger = s.ledger := rfl
@[simp] theorem State.writeWhole_ledger (s : State) (p : MirrorPart) : (s.writeWhole p).ledger = s.ledger := rfl
@[simp] theorem State.setNozzle_ledger (s : State) (side : Side) (h : HoseNo) (v : Bool) : (s.setNozzle side h v).ledger = s.ledger := rfl
@[simp] theorem State.setSatellite_ledger (s : State) (side : Side) (v : Bool) : (s.setSatellite side v).ledger = s.ledger := rfl
@[simp] theorem State.raiseLane_ledger (s : State) (l : LaneId) (c : LaneCause) (detail : Nat) : (s.raiseLane l c detail).ledger = s.ledger :=
  Acts.ledger_quiet (Acts.raiseLane (.refl s _) l c detail (by decide))
@[simp] theorem State.finishCard_ledger (s : State) (l : LaneId) (results : List (Nat × Byte)) (o : CardOutcome) :
    (s.finishCard l results o).ledger = s.ledger :=
  Acts.ledger_quiet (Acts.finishCard (.refl s _) l results o (by decide))
@[simp] theorem State.refuseCard_ledger (s : State) (l : LaneId) (o : CardOutcome) : (s.refuseCard l o).ledger = s.ledger :=
  Acts.ledger_quiet (Acts.refuseCard (.refl s _) l o (by decide))
@[simp] theorem State.abortCard_ledger (s : State) (l : LaneId) : (s.abortCard l).ledger = s.ledger :=
  Acts.ledger_quiet (Acts.abortCard (.refl s _) l (by decide))
@[simp] theorem State.storeCard_ledger (s : State) (l : LaneId) : (s.storeCard l).ledger = s.ledger :=
  Acts.ledger_quiet (Acts.storeCard (.refl s _) l (by decide))
@[simp] theorem State.dropCard_ledger (s : State) (l : LaneId) : (s.dropCard l).ledger = s.ledger :=
  Acts.ledger_quiet (Acts.dropCard (.refl s _) l (by decide))
@[simp] theorem State.endWaiting_ledger (s : State) (k : Kind) (results : List (Nat × Byte)) (o : CardOutcome) :
    (s.endWaiting k results o).ledger = s.ledger :=
  Acts.ledger_quiet (Acts.endWaiting (.refl s _) k results o (by decide))
@[simp] theorem State.endStored_ledger (s : State) (l : LaneId) (off : Nat) : (s.endStored l off).ledger = s.ledger :=
  Acts.ledger_quiet (Acts.endStored (.refl s _) l off (by decide))
@[simp] theorem State.writeHalf_ledger (s : State) (a : Nat) (v : Half) : (s.writeHalf a v).ledger = s.ledger :=
  Acts.ledger_quiet (Acts.writeHalf (.refl s _) a v (by decide))
@[simp] theorem State.writeBytes_ledger (s : State) (a : Nat) (l : List Byte) : (s.writeBytes a l).ledger = s.ledger :=
  Acts.ledger_quiet (Acts.writeBytes (.refl s _) a l (by decide))
@[simp] theorem State.finishArmed_ledger (s : State) (e : Armed) (results : List (Nat × Byte)) (o : CardOutcome) :
    (s.finishArmed e results o).ledger = s.ledger :=
  Acts.ledger_quiet (Acts.finishArmed (.refl s _) e results o (by decide))
@[simp] theorem State.postAll_ledger (s : State) (side : Side) (fs : List FieldId) (c : FieldId → Content) :
    (s.postAll side fs c).ledger = s.ledger :=
  Acts.ledger_quiet (Acts.postAll (.refl s _) side fs c (by decide))
@[simp] theorem State.postSegment_ledger (s : State) (side : Side) (c : FieldId → Content) : (s.postSegment side c).ledger = s.ledger :=
  Acts.ledger_quiet (Acts.postSegment (.refl s _) side c (by decide))
@[simp] theorem State.sendContents_ledger (s : State) (side : Side) : (s.sendContents side).ledger = s.ledger :=
  Acts.ledger_quiet (Acts.sendContents (.refl s _) side (by decide))
@[simp] theorem State.sendAll_ledger (s : State) : (s.sendAll).ledger = s.ledger := Acts.ledger_quiet (Acts.sendAll (.refl s _) (by decide))
@[simp] theorem State.requestSegment_ledger (s : State) (side : Side) (openPosition : Bool) (stage : Bool) :
    (s.requestSegment side openPosition stage).ledger = s.ledger :=
  Acts.ledger_quiet (Acts.requestSegment (.refl s _) side openPosition stage (by decide))
@[simp] theorem State.dropTest_ledger (s : State) (side : Side) : (s.dropTest side).ledger = s.ledger :=
  Acts.ledger_quiet (Acts.dropTest (.refl s _) side (by decide))
@[simp] theorem State.refreshBoard_ledger (s : State) (side : Side) : (s.refreshBoard side).ledger = s.ledger :=
  Acts.ledger_quiet (Acts.refreshBoard (.refl s _) side (by decide))
@[simp] theorem State.setPace_ledger (s : State) (side : Side) : (s.setPace side).ledger = s.ledger :=
  Acts.ledger_quiet (Acts.setPace (.refl s _) side (by decide))
@[simp] theorem State.restoreGrades_ledger (s : State) (side : Side) : (s.restoreGrades side).ledger = s.ledger :=
  Acts.ledger_quiet (Acts.restoreGrades (.refl s _) side (by decide))
@[simp] theorem State.refreshSide_ledger (s : State) (side : Side) : (s.refreshSide side).ledger = s.ledger :=
  Acts.ledger_quiet (Acts.refreshSide (.refl s _) side (by decide))
@[simp] theorem State.refreshPanels_ledger (s : State) : (s.refreshPanels).ledger = s.ledger :=
  Acts.ledger_quiet (Acts.refreshPanels (.refl s _) (by decide))
@[simp] theorem State.reportFields_ledger (s : State) (side : Side) (before : Fields) : (s.reportFields side before).ledger = s.ledger :=
  Acts.ledger_quiet (Acts.reportFields (.refl s _) side before (by decide))
@[simp] theorem State.finishLoad_ledger (s : State) : (s.finishLoad).ledger = s.ledger := Acts.ledger_quiet (Acts.finishLoad (.refl s _) (by decide))
@[simp] theorem State.serveLinks_ledger (s : State) : (s.serveLinks).ledger = s.ledger := Acts.ledger_quiet (Acts.serveLinks (.refl s _) (by decide))
@[simp] theorem State.membershipChange_ledger (s : State) (side : Side) (h : HoseNo) (old : HoseRoute) :
    (s.membershipChange side h old).ledger = s.ledger :=
  Acts.ledger_quiet (Acts.membershipChange (.refl s _) side h old (by decide))
@[simp] theorem State.allMembership_ledger (s : State) (old : Sides (Vector HoseRoute 4)) : (s.allMembership old).ledger = s.ledger :=
  Acts.ledger_quiet (Acts.allMembership (.refl s _) old (by decide))
@[simp] theorem State.setDomain_ledger (s : State) (d : Domain) : (s.setDomain d).ledger = s.ledger :=
  Acts.ledger_quiet (Acts.setDomain (.refl s _) d (by decide))
@[simp] theorem State.withdrawArmed_ledger (s : State) : (s.withdrawArmed).ledger = s.ledger :=
  Acts.ledger_quiet (Acts.withdrawArmed (.refl s _) (by decide))
@[simp] theorem State.closeReaderLink_ledger (s : State) : (s.closeReaderLink).ledger = s.ledger :=
  Acts.ledger_quiet (Acts.closeReaderLink (.refl s _) (by decide))
@[simp] theorem State.openReaderLink_ledger (s : State) : (s.openReaderLink).ledger = s.ledger :=
  Acts.ledger_quiet (Acts.openReaderLink (.refl s _) (by decide))
@[simp] theorem State.readerToOff_ledger (s : State) : (s.readerToOff).ledger = s.ledger :=
  Acts.ledger_quiet (Acts.readerToOff (.refl s _) (by decide))
@[simp] theorem State.enterQuarantine_ledger (s : State) : (s.enterQuarantine).ledger = s.ledger :=
  Acts.ledger_quiet (Acts.enterQuarantine (.refl s _) (by decide))
@[simp] theorem State.setSite_ledger (s : State) (st : SiteState) : (s.setSite st).ledger = s.ledger :=
  Acts.ledger_quiet (Acts.setSite (.refl s _) st (by decide))
@[simp] theorem State.writeWakeResult_ledger (s : State) (n : Nat) : (s.writeWakeResult n).ledger = s.ledger :=
  Acts.ledger_quiet (Acts.writeWakeResult (.refl s _) n (by decide))
@[simp] theorem State.endStage_ledger (s : State) (stage : Fin 6) (code : Nat) : (s.endStage stage code).ledger = s.ledger :=
  Acts.ledger_quiet (Acts.endStage (.refl s _) stage code (by decide))
@[simp] theorem State.beginStage_ledger (s : State) (stage : Nat) (timeout : Option Nat) : (s.beginStage stage timeout).ledger = s.ledger :=
  Acts.ledger_quiet (Acts.beginStage (.refl s _) stage timeout (by decide))
@[simp] theorem State.endFaulted_ledger (s : State) (reason : FaultedReason) (result : Nat) : (s.endFaulted reason result).ledger = s.ledger :=
  Acts.ledger_quiet (Acts.endFaulted (.refl s _) reason result (by decide))
@[simp] theorem State.beginMeterSettle_ledger (s : State) : (s.beginMeterSettle).ledger = s.ledger :=
  Acts.ledger_quiet (Acts.beginMeterSettle (.refl s _) (by decide))
@[simp] theorem State.releasePosts_ledger (s : State) (side : Side) : (s.releasePosts side).ledger = s.ledger :=
  Acts.ledger_quiet (Acts.releasePosts (.refl s _) side (by decide))
@[simp] theorem State.beginDisplayTest_ledger (s : State) : (s.beginDisplayTest).ledger = s.ledger :=
  Acts.ledger_quiet (Acts.beginDisplayTest (.refl s _) (by decide))
@[simp] theorem State.examinePanels_ledger (s : State) : (s.examinePanels).ledger = s.ledger :=
  Acts.ledger_quiet (Acts.examinePanels (.refl s _) (by decide))
@[simp] theorem State.examineResults_ledger (s : State) : (s.examineResults).ledger = s.ledger :=
  Acts.ledger_quiet (Acts.examineResults (.refl s _) (by decide))
@[simp] theorem State.stageOneFails_ledger (s : State) (code : Nat) : (s.stageOneFails code).ledger = s.ledger :=
  Acts.ledger_quiet (Acts.stageOneFails (.refl s _) code (by decide))
@[simp] theorem State.checkFloor_ledger (s : State) (floor : Nat) : (s.checkFloor floor).ledger = s.ledger :=
  Acts.ledger_quiet (Acts.checkFloor (.refl s _) floor (by decide))
@[simp] theorem State.takePrices_ledger (s : State) (p : Vector (Option Nat × RoundCode) 8) : (s.takePrices p).ledger = s.ledger :=
  Acts.ledger_quiet (Acts.takePrices (.refl s _) p (by decide))
@[simp] theorem State.writeCheckMirrors_ledger (s : State) : (s.writeCheckMirrors).ledger = s.ledger :=
  Acts.ledger_quiet (Acts.writeCheckMirrors (.refl s _))
@[simp] theorem State.writeIdentity_ledger (s : State) : (s.writeIdentity).ledger = s.ledger :=
  Acts.ledger_quiet (Acts.writeIdentity (.refl s _) (by decide))

theorem State.modRsc_ledger {f : Rsc → Rsc} (hs : (f s.rsc).store = s.rsc.store) (ha : (f s.rsc).active = s.rsc.active) :
    (s.modRsc f).ledger = s.ledger := by
  show ({ s.ledger with store := (f s.rsc).store.contents, active := (f s.rsc).active.map ActiveStep.contents } : Ledger) = _
  rw [hs, ha]; rfl

@[simp] theorem State.requestStep_ledger (s : State) (r : List RecordId) (who : List Requester) : (s.requestStep r who).ledger = s.ledger := by
  unfold State.requestStep
  split <;> rfl

@[simp] theorem State.dismiss_ledger (s : State) (gone : Requester → Bool) : (s.dismiss gone).ledger = s.ledger := by
  unfold State.dismiss State.ledger
  dsimp only [State.modRsc]
  cases s.rsc.active <;> rfl

namespace Ledger.Moves

theorem modRsc (h : Moves Q l s.ledger) {f : Rsc → Rsc} (hs : (f s.rsc).store = s.rsc.store) (ha : (f s.rsc).active = s.rsc.active) :
    Moves Q l (s.modRsc f).ledger := h.of_eq (State.modRsc_ledger hs ha)

theorem requestStep (h : Moves Q l s.ledger) (r : List RecordId) (who : List Requester) : Moves Q l (s.requestStep r who).ledger :=
  h.of_eq (s.requestStep_ledger r who)

theorem dismiss (h : Moves Q l s.ledger) (gone : Requester → Bool) : Moves Q l (s.dismiss gone).ledger := h.of_eq (s.dismiss_ledger gone)

/-- Each of a list of operations moves. -/
theorem foldl {α : Type} {f : State → α → State} (hf : ∀ s x, Moves Q l s.ledger → Moves Q l (f s x).ledger) (h : Moves Q l s.ledger)
    (xs : List α) : Moves Q l (xs.foldl f s).ledger := by
  induction xs generalizing s with
  | nil => exact h
  | cons x xs ih => exact ih (hf s x h)

end Ledger.Moves

/-! ## The ends of a sale (R64, R182) -/

theorem State.finishSale_acts (s : State) (side : Side) (e : EndedSale) :
    (s.finishSale side e).ledger = { (s.releaseClaims side false).ledger with psc := (s.finishSale side e).psc } := by
  unfold State.finishSale State.addTotals
  rw [State.modRsc_ledger rfl rfl]
  rfl

/-- A sale ends and its position comes to `t`, closed or open. -/
theorem Ledger.Moves.finish (h : Moves Q l s.ledger) {x : Sale} {e : EndedSale} (hx : (s.pos side).sale = some x) (he : x.lawful → e.lawful)
    (ha : Acts (s.finishSale side e) t P) (hm : Part.meters ∉ P) (hr : Part.store ∉ P) (hne : ∀ y, y ≠ side → t.pos y = s.pos y)
    (hq : (t.pos side).sale = none ∧ (t.pos side).unpaid = (s.pos side).unpaid ++ [e]) (ho : (t.pos side).outputsSafe)
    (hd : (t.pos side).st.selling = false ∧ (t.pos side).st ≠ .authorized)
    (hd' : (t.pos side).auth = none ∨ (t.pos side).auth = (s.pos side).auth ∧ (s.pos side).st = .ending) : Moves Q l t.ledger := by
  refine h.drop hx (b := false) ?_ hne hq.1 (.rest hd hd') ho fun z hz => ?_
  · rw [State.ledger_of_acts ha hm hr, State.finishSale_acts]
  · rw [hq.2, List.mem_append, List.mem_singleton] at hz
    exact hz.imp_right fun hz hl => by rw [hz]; exact he hl

/-- The settle window of a position in ENDING ends (R64). -/
theorem Ledger.Moves.completeEnding (h : Moves Q l s.ledger) (hst : (s.pos side).st = .ending) : Moves Q l (s.completeEnding side).ledger := by
  unfold State.completeEnding
  split
  · exact h
  · rename_i x hx
    dsimp only
    rw [State.raisePos_ledger, State.requestStep_ledger]
    generalize he : x.ended (x.stop.getD .host) x.overruns false s.stamp = e
    have hel : x.lawful → e.lawful := fun hl => he ▸ Sale.ended_lawful hl ..
    have hu : Acts (s.finishSale side e) ((s.finishSale side e).modPos side fun p => { p with settleTimer := none }) [.notices, .positions] :=
      (Acts.refl _ _).modPos side _ (by decide)
    have hp : ((s.finishSale side e).modPos side fun p => { p with settleTimer := none }).pos side =
        { s.pos side with sale := none, unpaid := (s.pos side).unpaid ++ [e], lastShown := e.shown, settleTimer := none } := by
      rw [State.modPos_pos, State.finishSale_pos]
    have hne (y : Side) (hy : y ≠ side) : ((s.finishSale side e).modPos side fun p => { p with settleTimer := none }).pos y = s.pos y := by
      rw [State.modPos_pos_ne _ _ hy, State.finishSale_pos_ne _ _ hy]
    generalize ((s.finishSale side e).modPos side fun p => { p with settleTimer := none }) = u at hu hp hne ⊢
    have close (r : CloseReason) : Moves Q l (u.closePos side r).ledger := by
      have hc := u.closePos_pos side r
      rw [hp] at hc
      refine h.finish hx hel (P := [.notices, .positions]) (hu.closePos side r (List.Subset.refl _)) (by decide) (by decide)
        (fun y hy => by rw [State.closePos_pos_ne _ _ hy, hne y hy]) ?_ ?_ ?_ ?_ <;> rw [hc]
      · exact ⟨rfl, rfl⟩
      · exact Position.enter_outputsSafe (s.pos side) (.closed r)
      · exact ⟨rfl, by simp [Position.enter]⟩
      · exact .inl rfl
    split
    · exact close _
    · split
      · exact close _
      · have hc := u.enterIdle_pos side
        rw [hp] at hc
        refine h.finish hx hel (P := [.notices, .positions]) (hu.enterIdle side (by decide)) (by decide) (by decide)
          (fun y hy => by rw [State.enterIdle_pos_ne _ hy, hne y hy]) ?_ ?_ ?_ ?_ <;> rw [hc]
        · exact ⟨rfl, rfl⟩
        · exact Position.enter_outputsSafe (s.pos side) .idle
        · exact ⟨rfl, by simp [Position.enter, Position.clearFlags]⟩
        · exact .inr ⟨rfl, hst⟩

/-- A frozen sale ends (R182). -/
theorem Ledger.Moves.freezePosition (h : Moves Q l s.ledger) (side : Side) : Moves Q l (s.freezePosition side).1.ledger := by
  unfold State.freezePosition
  split
  · exact h
  · rename_i x hx
    dsimp only
    generalize he : x.ended .power false true s.stamp = e
    have hc := (s.finishSale side e).closePos_pos side .power
    rw [State.finishSale_pos] at hc
    refine h.finish hx (fun hl => he ▸ Sale.ended_lawful hl ..) (P := [.notices, .positions])
      (Acts.closePos (.refl _ _) side .power (List.Subset.refl _)) (by decide) (by decide)
      (fun y hy => by rw [State.closePos_pos_ne _ _ hy, State.finishSale_pos_ne _ _ hy]) ?_ ?_ ?_ ?_ <;> rw [hc]
    · exact ⟨rfl, rfl⟩
    · exact Position.enter_outputsSafe (s.pos side) (.closed .power)
    · exact ⟨rfl, by simp [Position.enter]⟩
    · exact .inl rfl

end Sys2Proof.Machine
end

section
/-! PROOFS. The site's stages, the boards' tests and the store as chains of moves (R74, R96 to R111, R160 to R169, R177 to R188). -/
namespace Sys2Proof.Machine

open Ledger (Moves)

variable {s t u : State} {P : List Part} {Q : Prop} {l : Ledger} {side : Side}

namespace Ledger.Moves

/-! ## Requests of the site (R48, R160 to R169) -/

theorem closingAt (h : Moves Q l s.ledger) (side : Side) : Moves Q l (s.closingAt side).ledger := by
  unfold State.closingAt
  split
  case h_1 hst | h_2 hst | h_3 hst => exact h.closePos _ (.inl (by rw [hst]; rfl))
  case h_4 hst => exact h.setReason _ (by rw [hst]; rfl)
  case h_5 => exact h

theorem release (h : Moves Q l s.ledger) (side : Side) (r : CloseReason) : Moves Q l (s.release side r).1.ledger := by
  unfold State.release
  split
  · rename_i hst
    split
    · exact h.setReason _ (by rw [hst]; rfl)
    · exact h.enterIdle (.inl (by rw [hst]; rfl)) (by rw [hst]; simp)
  · exact h

theorem wakingAt (h : Moves Q l s.ledger) (side : Side) : Moves Q l (s.wakingAt side).ledger := by
  unfold State.wakingAt
  split
  case h_1 hst | h_2 hst => exact h.setReason _ (by rw [hst]; rfl)
  case h_3 => exact h

end Ledger.Moves

@[simp] theorem State.readerDown_ledger (s : State) : s.readerDown.ledger = s.ledger := by
  unfold State.readerDown
  dsimp only
  rw [State.requestStep_ledger, State.modRsc_ledger rfl rfl]
  simp

@[simp] theorem State.examinePositions_ledger (s : State) : s.examinePositions.ledger = s.ledger := by
  unfold State.examinePositions
  split <;> simp

@[simp] theorem State.nightReaderDone_ledger (s : State) : s.nightReaderDone.ledger = s.ledger := by
  unfold State.nightReaderDone
  split <;> simp

@[simp] theorem State.enterNight_ledger (s : State) : s.enterNight.ledger = s.ledger := by
  unfold State.enterNight
  split <;> simp

@[simp] theorem State.beginResume_ledger (s : State) : s.beginResume.1.ledger = s.ledger := by
  unfold State.beginResume
  (repeat' split) <;> simp

namespace Ledger.Moves

theorem enterClosing (h : Moves Q l s.ledger) (o : ClosingOrigin) : Moves Q l (s.enterClosing o).ledger := by
  unfold State.enterClosing
  dsimp only
  rw [State.examinePositions_ledger, State.raise_ledger]
  exact closingAt (closingAt (by simpa using h) .a) .b

theorem withdrawClosing (h : Moves Q l s.ledger) (d : Nat) : Moves Q l (s.withdrawClosing d).ledger := by
  unfold State.withdrawClosing
  dsimp only
  rw [State.raise_ledger, State.endWaiting_ledger]
  exact release (release (by simpa using h) .a .night) .b .night

theorem undoNight (h : Moves Q l s.ledger) : Moves Q l s.undoNight.ledger := by
  unfold State.undoNight
  split
  · exact h.withdrawClosing 2
  · exact h

theorem positionsReady (h : Moves Q l s.ledger) : Moves Q l s.positionsReady.ledger := by
  unfold State.positionsReady
  dsimp only
  split
  · rw [State.endWaiting_ledger, State.writeWakeResult_ledger]
    exact enterClosing (by simpa using h) _
  · rw [State.endWaiting_ledger, State.writeWakeResult_ledger, State.raise_ledger, State.endStage_ledger]
    exact release (release (by simpa using h) .a .wake) .b .wake

theorem resumeEnds (h : Moves Q l s.ledger) (code : Nat) : Moves Q l (s.resumeEnds code).ledger := positionsReady (by simpa using h)

theorem reportResume (h : Moves Q l s.ledger) (code : Nat) : Moves Q l (s.reportResume code).ledger := by
  unfold State.reportResume
  split
  · exact h.resumeEnds code
  · exact h

theorem beginReaderResume (h : Moves Q l s.ledger) : Moves Q l s.beginReaderResume.ledger := by
  unfold State.beginReaderResume
  dsimp only
  split
  · exact resumeEnds (by simpa using h) _
  · simpa using h

/-! ## The boards' tests and attempts (R74, R96 to R111, R165) -/

/-- The result of a test that OPEN POSITION asked for reaches a CLOSED position (R74). -/
theorem openResult (h : Moves Q l s.ledger) (side : Side) (passed : Bool) : Moves Q l (s.openResult side passed).ledger := by
  unfold State.openResult
  split
  · exact h
  · rename_i hc
    have hc : (s.pos side).st.isClosed = true := by simpa using hc
    obtain ⟨r, hr⟩ := PosState.isClosed_iff.mp hc
    split
    · dsimp only
      rw [State.raisePos_ledger]
      split
      · exact h.enterIdle (.inl (by rw [hr]; rfl)) (by rw [hr]; simp)
      all_goals exact h.setReason _ hc
    · rw [State.raisePos_ledger]
      exact h.setReason _ hc

theorem displayResult (h : Moves Q l s.ledger) (side : Side) (passed : Bool) : Moves Q l (s.displayResult side passed).ledger := by
  unfold State.displayResult
  split
  · dsimp only
    rw [State.examineResults_ledger]
    split
    · exact h
    · rename_i hc
      exact setReason (by exact h) .display (by simp_all)
  · exact h

theorem segmentEnds (h : Moves Q l s.ledger) (side : Side) (passed : Bool) : Moves Q l (s.segmentEnds side passed).ledger := by
  unfold State.segmentEnds
  split
  · dsimp only
    have h1 : Moves Q l ((s.modBoard side fun b => { b with test := none, sideFault := if passed then false else b.sideFault }).sendContents
        side).ledger := by simpa using h
    generalize ((s.modBoard side fun b => { b with test := none, sideFault := if passed then false else b.sideFault }).sendContents side) = u at h1 ⊢
    split
    · refine displayResult ?_ side passed
      rw [State.finishLoad_ledger, State.refreshSide_ledger, State.releasePosts_ledger, State.restoreGrades_ledger]
      split
      · exact h1.openResult side passed
      · exact h1
    · rw [State.finishLoad_ledger, State.refreshSide_ledger, State.releasePosts_ledger, State.restoreGrades_ledger]
      split
      · exact h1.openResult side passed
      · exact h1
  · exact h

theorem displayTimeout (h : Moves Q l s.ledger) : Moves Q l s.displayTimeout.ledger :=
  foldl (fun _ side hs => (hs.sideFault side).segmentEnds side false) h _

theorem fieldFault (h : Moves Q l s.ledger) (side : Side) (f : FieldId) : Moves Q l (s.fieldFault side f).ledger := by
  unfold State.fieldFault
  have legal : Moves Q l (if (((s.raise .legalFieldFault (fieldDetail side f)).sideFault side).board side).segment
      then ((s.raise .legalFieldFault (fieldDetail side f)).sideFault side).segmentEnds side false
      else (s.raise .legalFieldFault (fieldDetail side f)).sideFault side).ledger := by
    have h1 : Moves Q l ((s.raise .legalFieldFault (fieldDetail side f)).sideFault side).ledger := sideFault (by exact h) side
    split
    · exact h1.segmentEnds side false
    · exact h1
  cases f with
  | amount | volume | price => exact legal
  | grade | status => exact h

theorem advanceTest (h : Moves Q l s.ledger) (side : Side) : Moves Q l (s.advanceTest side).ledger := by
  unfold State.advanceTest
  dsimp only
  split
  case h_1 | h_2 | h_4 =>
    split
    · simpa using h
    · exact h
  case h_3 =>
    split
    · exact checkComplete (by simpa using h) side
    · exact h
  case h_5 =>
    split
    · exact h.segmentEnds side true
    · exact h
  case h_6 => exact h

theorem attemptEnds (h : Moves Q l s.ledger) (side : Side) (verified : Bool) : Moves Q l (s.attemptEnds side verified).ledger := by
  unfold State.attemptEnds
  split
  · exact h
  · rename_i a _
    dsimp only
    generalize hu : State.finishLoad _ = u
    have h1 : Moves Q l u.ledger := by
      rw [← hu, State.finishLoad_ledger, State.reportFields_ledger]
      split <;> exact h
    refine advanceTest ?_ side
    split
    · exact h1.fieldFault side _
    · exact h1

theorem takeLit (h : Moves Q l s.ledger) (side : Side) (f : LitFrame) : Moves Q l (s.takeLit side f).ledger := by
  unfold State.takeLit
  split
  · exact h
  · split
    · exact h
    · exact h.attemptEnds side _

/-! ## Wake and store check (R163 to R169, R184) -/

theorem enterWaking (h : Moves Q l s.ledger) (o : WakeOrigin) : Moves Q l (s.enterWaking o).ledger := by
  unfold State.enterWaking State.beginStoreCheck
  dsimp only
  rw [State.modRsc_ledger rfl rfl, State.beginStage_ledger, State.writeWhole_ledger, State.raise_ledger]
  exact wakingAt (wakingAt (by simpa using h) .a) .b

end Ledger.Moves

theorem defaultRoutes_lawful (side : Side) (h : HoseNo) : ((defaultRoutes.get side)[h]).lawful := by
  have key : ∀ h : HoseNo, let e := (defaultRoutes.get side)[h]; e.kind = .single ∧ e.secondary = none ∧ e.ratio = 0 ∧ e.slowDown = 0 := by
    cases side <;> decide
  obtain ⟨hk, hs, hr, hd⟩ := key h
  exact ⟨fun _ => hs, fun hn => absurd hk hn, fun _ => hr, by rw [hr]; exact Nat.zero_le _, by rw [hd]; exact Nat.zero_le _⟩

/-- The contents that a check puts in force are those retained, or those of power-on. -/
def Ledger.Restores (Q : Prop) (l : Ledger) (c : Contents) (k : Ledger) : Prop := Moves Q l k ∧ (k.store = c ∨ c = Contents.default 0)

namespace Ledger.Restores

variable {c : Contents}

theorem of_eq (h : Restores Q l c s.ledger) (e : t.ledger = s.ledger) : Restores Q l c t.ledger := e ▸ h

/-- What a move that leaves the store makes of it. -/
theorem move (h : Restores Q l c s.ledger) (hm : Moves Q l s.ledger → Moves Q l t.ledger) (e : t.ledger.store = s.ledger.store) :
    Restores Q l c t.ledger := ⟨hm h.1, e ▸ h.2⟩

/-- A routed entry of the contents is routed, or lawful. -/
theorem routed (h : Restores Q l c s.ledger) (side : Side) (n : HoseNo) :
    s.ledger.routed ((c.config.routes.get side)[n]) ∨ ((c.config.routes.get side)[n]).lawful := by
  rcases h.2 with h | h
  · exact .inl (.inr ⟨_, .inl rfl, side, n, by rw [h]⟩)
  · exact .inr (by rw [h]; exact defaultRoutes_lawful side n)

theorem ended (h : Restores Q l c s.ledger) {x : EndedSale} (hx : x ∈ c.unpaid.a ∨ x ∈ c.unpaid.b) : s.ledger.ended x := by
  rcases h.2 with h | h
  · exact .inr ⟨_, .inl rfl, by rwa [h]⟩
  · rw [h] at hx
    simp [Contents.default] at hx

end Ledger.Restores

namespace Ledger.Moves

/-- The Meter Input Unit's record changes, its owners standing. -/
theorem modMiu (h : Moves Q l s.ledger) {f : Miu → Miu} (ho : ∀ m : MeterNo, ((f s.miu).meters[m]).owner = (s.miu.meters[m]).owner)
    (hr : ∀ side (n : HoseNo), s.ledger.routed (((f s.miu).routes.get side)[n]) ∨ (((f s.miu).routes.get side)[n]).lawful) :
    Moves Q l (s.modMiu f).ledger := by
  refine h.still ⟨fun _ => ⟨rfl, rfl, rfl, id⟩, fun x hx => hx, fun e he => ?_, ho⟩
  rcases he with ⟨side, n, rfl⟩ | he
  · exact hr side n
  · exact .inl (.inr he)

/-- The routes stand. -/
theorem modMiu_routes (h : Moves Q l s.ledger) {f : Miu → Miu} (ho : ∀ m : MeterNo, ((f s.miu).meters[m]).owner = (s.miu.meters[m]).owner)
    (hr : (f s.miu).routes = s.miu.routes) : Moves Q l (s.modMiu f).ledger :=
  h.modMiu ho fun side n => .inl (.inl ⟨side, n, by rw [hr]; rfl⟩)

/-- One meter's record changes, its owner standing. -/
theorem modMeter (h : Moves Q l s.ledger) (m : MeterNo) {f : Meter → Meter} (hf : ∀ x, (f x).owner = x.owner) :
    Moves Q l (s.modMeter m f).ledger := by
  refine modMiu_routes (f := fun u => { u with meters := u.meters.set m (f u.meters[m]) }) h (fun n => ?_) rfl
  have e := State.modMeter_meter_eq s m n f
  rw [show ((s.modMeter m f).meter n) = _ from rfl] at e
  refine (congrArg Meter.owner e).trans ?_
  split
  · subst_vars; exact hf _
  · rfl

end Ledger.Moves

theorem Ledger.Restores.takeConfig {c : Contents} (h : Restores Q l c s.ledger) : Restores Q l c (s.takeConfig c.config).ledger := by
  have alike (u : State) (side : Side) (k : PositionConfig) (hu : Restores Q l c u.ledger) :
      Restores Q l c (u.modPos side fun p => { p with config := k }).ledger :=
    hu.move (fun hm => hm.modPos_alike ⟨rfl, rfl, rfl, fun h => Position.outputsSafe_congr rfl rfl rfl rfl h⟩ fun _ => id) rfl
  unfold State.takeConfig
  extract_lets s1 s2 s3 s4 s5
  have h1 : Restores Q l c s1.ledger := h.move (t := s1) (fun hm => hm.modMiu (fun m => by simp) fun side n => h.routed side n) rfl
  have h2 : Restores Q l c s2.ledger := alike _ .b c.config.positions.b (alike _ .a c.config.positions.a h1)
  rw [State.checkFloor_ledger]
  exact h2

theorem Ledger.Restores.takeMeters {c : Contents} (h : Restores Q l c s.ledger) (m : Vector MeterCounts 8) :
    Restores Q l c (s.takeMeters m).ledger :=
  h.move (fun hm => hm.modMiu_routes (fun n => by simp) rfl) rfl

theorem Ledger.Restores.takeUnpaid {c : Contents} (h : Restores Q l c s.ledger) (side : Side) {x : List EndedSale}
    (hx : ∀ e ∈ x, e ∈ c.unpaid.a ∨ e ∈ c.unpaid.b) : Restores Q l c (s.takeUnpaid side x).ledger := by
  refine h.move (fun hm => hm.still ?_) rfl
  have e := State.ledger_of_side (s := s) (t := s.takeUnpaid side x) (side := side)
    (Acts.modPos (.refl s [.positions]) side _ (by decide)) (by decide) (by decide) fun y hy => State.modPos_pos_ne _ _ hy
  have hp : (s.takeUnpaid side x).pos side = _ := State.modPos_pos ..
  rw [e]
  refine ⟨fun y => ?_, fun z hz => ?_, fun r hr => .inl ((Ledger.routed_set (m := s.ledger.miu) rfl).mp hr), fun _ => rfl⟩
  · rw [show (Ledger.pos _ y) = _ from Ledger.pos_set s.ledger side _ s.ledger.miu y]
    split
    · subst_vars; rw [hp]; exact ⟨rfl, rfl, rfl, fun h => Position.outputsSafe_congr rfl rfl rfl rfl h⟩
    · exact ⟨rfl, rfl, rfl, id⟩
  · rcases Ledger.ended_set (m := s.ledger.miu) hz with hz | hz
    · rw [hp] at hz
      exact h.ended (hx z hz)
    · exact hz

theorem Ledger.Restores.modRsc {c : Contents} (h : Restores Q l c s.ledger) {f : Rsc → Rsc} (hs : (f s.rsc).store = s.rsc.store)
    (ha : (f s.rsc).active = s.rsc.active) : Restores Q l c (s.modRsc f).ledger := h.of_eq (State.modRsc_ledger hs ha)

theorem Ledger.Restores.takeContents {c : Contents} (h : Restores Q l c s.ledger) (keep : List RecordId) :
    Restores Q l c (s.takeContents c keep).ledger := by
  have opt {u t : State} (b : Bool) (hu : Restores Q l c u.ledger) (ht : Restores Q l c t.ledger) :
      Restores Q l c (if b then u else t).ledger := by
    cases b
    · exact ht
    · exact hu
  unfold State.takeContents
  extract_lets old s1 s2 s3 s4 s5 s6 s7
  have h1 : Restores Q l c s1.ledger := opt _ h h.takeConfig
  have h2 : Restores Q l c s2.ledger := opt _ h1 (h1.of_eq (State.takePrices_ledger ..))
  have h3 : Restores Q l c s3.ledger := opt _ h2 (h2.modRsc rfl rfl)
  have h4 : Restores Q l c s4.ledger := opt _ h3 (h3.takeMeters _)
  have h5 : Restores Q l c s5.ledger := opt _ h4 (h4.takeUnpaid .a fun _ => .inl)
  have h6 : Restores Q l c s6.ledger := opt _ h5 (h5.takeUnpaid .b fun _ => .inr)
  have h7 : Restores Q l c s7.ledger := opt _ h6 (h6.modRsc rfl rfl)
  rw [State.writeCheckMirrors_ledger, State.allMembership_ledger]
  exact h7.move (fun hm => hm.modMiu_routes (fun _ => rfl) rfl) rfl

@[simp] theorem State.reportRestored_ledger (s : State) : s.reportRestored.ledger = s.ledger := by
  unfold State.reportRestored
  dsimp only
  split
  · rw [State.beginDisplayTest_ledger, State.endStage_ledger, State.modRsc_ledger rfl rfl]
  · exact State.modRsc_ledger rfl rfl

namespace Ledger.Moves

theorem checkPassed (h : Moves Q l s.ledger) : Moves Q l s.checkPassed.ledger := by
  unfold State.checkPassed
  extract_lets st cold keep s1 s2
  have h1 : Moves Q l s1.ledger := by
    show Moves Q l (((s.takeContents st.contents keep).writeWhole .riu).touch .ssu 1).ledger
    rw [State.touch_ledger, State.writeWhole_ledger]
    exact (Ledger.Restores.takeContents ⟨h, .inl rfl⟩ keep).1
  clear_value s1 st cold
  have h2 : Moves Q l s2.ledger := h1.modRsc rfl rfl
  clear_value s2
  split
  · rw [State.requestStep_ledger]
    exact h2.modRsc rfl rfl
  · rw [State.reportRestored_ledger]
    exact h2

theorem checkFails (h : Moves Q l s.ledger) (n : Nat) : Moves Q l (s.checkFails n).ledger := by
  unfold State.checkFails
  have h1 := (Ledger.Restores.takeContents ⟨h, .inr rfl⟩ []).1
  generalize s.takeContents (Contents.default 0) [] = u at h1 ⊢
  rw [State.raise_ledger]
  exact h1.modRsc rfl rfl

theorem storeCheckTimeout (h : Moves Q l s.ledger) : Moves Q l s.storeCheckTimeout.ledger := by
  unfold State.storeCheckTimeout
  dsimp only
  rw [State.stageOneFails_ledger]
  refine checkFails ?_ _
  rw [State.dismiss_ledger]
  refine modRsc ?_ rfl rfl
  split <;> exact h

theorem storeCheckEnds (h : Moves Q l s.ledger) : Moves Q l s.storeCheckEnds.ledger := by
  unfold State.storeCheckEnds
  split
  · exact h.checkPassed
  · rw [State.stageOneFails_ledger]
    exact h.checkFails _

end Ledger.Moves

end Sys2Proof.Machine
end

section
/-! PROOFS. Store steps, the end of an event and every command's own effect as chains of moves (R67 to R75, R177 to R188, R197 to R204). -/
namespace Sys2Proof.Machine

open Ledger (Moves)

variable {s t u : State} {P : List Part} {Q : Prop} {l : Ledger} {side : Side}

/-! ## Store steps (R178) -/

theorem State.liveContents_routes (s : State) : s.liveContents.config.routes = s.miu.routes := rfl
theorem State.liveContents_unpaid (s : State) : s.liveContents.unpaid = s.psc.map Position.unpaid := rfl

/-- A change of the store's records alone: what they hold then was held before, or is lawful. -/
theorem Ledger.Moves.store (h : Moves Q l s.ledger) {f : Rsc → Rsc}
    (hk : ∀ c, (s.modRsc f).ledger.keeps c → (∀ x, x ∈ c.unpaid.a ∨ x ∈ c.unpaid.b → s.ledger.ended x)
      ∧ ∀ side (n : HoseNo), s.ledger.routed ((c.config.routes.get side)[n]) ∨ ((c.config.routes.get side)[n]).lawful) :
    Moves Q l (s.modRsc f).ledger := by
  refine h.still ⟨fun _ => ⟨rfl, rfl, rfl, id⟩, fun x hx => ?_, fun e he => ?_, fun _ => rfl⟩
  · rcases hx with hx | ⟨c, hc, hx⟩
    · exact .inl hx
    · exact (hk c hc).1 x hx
  · rcases he with he | ⟨c, hc, side, n, rfl⟩
    · exact .inl (.inl he)
    · exact (hk c hc).2 side n

/-- The contents that stand are drawn from themselves. -/
theorem Ledger.keeps_drawn {c : Contents} (h : s.ledger.keeps c) : (∀ x, x ∈ c.unpaid.a ∨ x ∈ c.unpaid.b → s.ledger.ended x)
    ∧ ∀ side (n : HoseNo), s.ledger.routed ((c.config.routes.get side)[n]) ∨ ((c.config.routes.get side)[n]).lawful :=
  ⟨fun _ hx => .inr ⟨c, h, hx⟩, fun side n => .inl (.inr ⟨c, h, side, n, rfl⟩)⟩

/-- The default contents hold no sale and lawful routes. -/
theorem Contents.default_drawn (s : State) (n : Nat) :
    (∀ x, x ∈ (Contents.default n).unpaid.a ∨ x ∈ (Contents.default n).unpaid.b → s.ledger.ended x)
      ∧ ∀ side (h : HoseNo), s.ledger.routed (((Contents.default n).config.routes.get side)[h])
        ∨ (((Contents.default n).config.routes.get side)[h]).lawful :=
  ⟨fun x hx => by simp [Contents.default] at hx, fun side h => .inr (defaultRoutes_lawful side h)⟩

/-- The live contents hold the unpaid lists and the routes that stand. -/
theorem State.liveContents_drawn (s : State) : (∀ x, x ∈ s.liveContents.unpaid.a ∨ x ∈ s.liveContents.unpaid.b → s.ledger.ended x)
    ∧ ∀ side (h : HoseNo), s.ledger.routed ((s.liveContents.config.routes.get side)[h])
      ∨ ((s.liveContents.config.routes.get side)[h]).lawful :=
  ⟨fun _ hx => hx.elim (fun h => .inl ⟨.a, h⟩) fun h => .inl ⟨.b, h⟩, fun side h => .inl (.inl ⟨side, h, rfl⟩)⟩

/-- Contents made of parts of two others. -/
structure Contents.Mixes (c d e : Contents) : Prop where
  config : e.config = c.config ∨ e.config = d.config
  a : e.unpaid.a = c.unpaid.a ∨ e.unpaid.a = d.unpaid.a
  b : e.unpaid.b = c.unpaid.b ∨ e.unpaid.b = d.unpaid.b

theorem Contents.Mixes.refl (c d : Contents) : Contents.Mixes c d c := ⟨.inl rfl, .inl rfl, .inl rfl⟩

theorem Contents.Mixes.trans {c d e f : Contents} (h : Contents.Mixes c d e) (k : Contents.Mixes e d f) : Contents.Mixes c d f := by
  refine ⟨?_, ?_, ?_⟩
  · exact k.config.elim (fun e' => h.config.imp e'.trans e'.trans) .inr
  · exact k.a.elim (fun e' => h.a.imp e'.trans e'.trans) .inr
  · exact k.b.elim (fun e' => h.b.imp e'.trans e'.trans) .inr

theorem Store.writeRecord_mixes (st : Store) (r : RecordId) (g : Nat) (c : Contents) (b : Bool) :
    Contents.Mixes st.contents c (st.writeRecord r g c b).contents := by
  rw [Store.writeRecord_contents]
  cases r <;> constructor <;> simp [Contents.put]

/-- Records written, cut or left one after another mix the contents that stood with those written. -/
theorem Store.foldl_mixes {f : Store → RecordId → Store} {c : Contents} (hf : ∀ st r, Contents.Mixes st.contents c (f st r).contents)
    (rs : List RecordId) (st : Store) : Contents.Mixes st.contents c (rs.foldl f st).contents := by
  induction rs generalizing st with
  | nil => exact .refl ..
  | cons r rs ih => exact (hf st r).trans (ih _)

theorem Store.written_mixes (st : Store) (a : ActiveStep) (lost : Bool) : Contents.Mixes st.contents a.contents (st.written a lost).contents :=
  Store.foldl_mixes (fun st r => st.writeRecord_mixes r ..) _ st

theorem Store.cut_mixes (st : Store) (a : ActiveStep) (lost : Bool) (free : Nat) :
    Contents.Mixes st.contents a.contents (st.cut a lost free).contents := by
  refine Store.foldl_mixes (fun st r => ?_) _ st
  split
  · exact .refl ..
  · exact st.writeRecord_mixes r ..
  · exact .refl ..

/-- What two kept contents mix to is drawn from what stood. -/
theorem Ledger.mixes_drawn {c d e : Contents} (hc : s.ledger.keeps c) (hd : s.ledger.keeps d) (h : Contents.Mixes c d e) :
    (∀ x, x ∈ e.unpaid.a ∨ x ∈ e.unpaid.b → s.ledger.ended x)
      ∧ ∀ side (n : HoseNo), s.ledger.routed ((e.config.routes.get side)[n]) ∨ ((e.config.routes.get side)[n]).lawful := by
  refine ⟨fun x hx => hx.elim (fun hx => ?_) fun hx => ?_, fun side n => ?_⟩
  · rcases h.a with h | h <;> rw [h] at hx
    · exact (Ledger.keeps_drawn hc).1 x (.inl hx)
    · exact (Ledger.keeps_drawn hd).1 x (.inl hx)
  · rcases h.b with h | h <;> rw [h] at hx
    · exact (Ledger.keeps_drawn hc).1 x (.inr hx)
    · exact (Ledger.keeps_drawn hd).1 x (.inr hx)
  · rcases h.config with h | h <;> rw [h]
    · exact (Ledger.keeps_drawn hc).2 side n
    · exact (Ledger.keeps_drawn hd).2 side n

namespace Ledger.Moves

theorem beginStep (h : Moves Q l s.ledger) : Moves Q l s.beginStep.1.ledger := by
  unfold State.beginStep
  split
  · exact h
  · split
    · refine h.store fun c hc => ?_
      rcases hc with rfl | hc
      · exact Ledger.keeps_drawn (.inl rfl)
      · exact Option.some.inj hc ▸ Contents.default_drawn s _
    · split
      · exact h.modRsc rfl rfl
      · refine h.store fun c hc => ?_
        rcases hc with rfl | hc
        · exact Ledger.keeps_drawn (.inl rfl)
        · exact Option.some.inj hc ▸ s.liveContents_drawn

theorem endStep (h : Moves Q l s.ledger) : Moves Q l s.endStep.1.ledger := by
  unfold State.endStep
  split
  · exact h
  · rename_i a ha
    refine h.store fun c hc => ?_
    rcases hc with rfl | hc
    · exact Ledger.mixes_drawn (.inl rfl) (.inr (by show s.rsc.active.map _ = _; rw [ha]; rfl)) (Store.written_mixes ..)
    · cases hc

end Ledger.Moves

@[simp] theorem State.finishOnConfig_ledger (s : State) (l : LaneId) (off : Nat) : (s.finishOnConfig l off).ledger = s.ledger := by
  simp [State.finishOnConfig]

@[simp] theorem State.rebuildDone_ledger (s : State) : s.rebuildDone.ledger = s.ledger := by
  unfold State.rebuildDone
  rw [State.raise_ledger, State.touch_ledger, State.writeIdentity_ledger, State.modRsc_ledger rfl rfl]

@[simp] theorem State.answer_ledger (s : State) (q : Requester) : (s.answer q).ledger = s.ledger := by
  cases q with
  | freeze side =>
    cases side with
    | a => rfl
    | b => exact State.modRsc_ledger (f := fun r => { r with freeze := .done }) rfl rfl
  | _ => simp [State.answer]

@[simp] theorem State.answerAll_ledger (s : State) (qs : List Requester) : (s.answerAll qs).ledger = s.ledger := by
  unfold State.answerAll
  induction qs generalizing s with
  | nil => rfl
  | cons q qs ih => rw [List.foldl_cons, ih, State.answer_ledger]

@[simp] theorem State.applyPrice_ledger (s : State) (g : Fin 8) (p : Nat) (c : RoundCode) : (s.applyPrice g p c).ledger = s.ledger := by
  have e : ((s.modGrade g fun e => { e with price := some p, code := c, pending := none }).postPanels g).ledger = s.ledger :=
    Acts.ledger_quiet (Acts.postPanels (Acts.modGrade (.refl s _) g _ (by decide)) g (by decide))
  unfold State.applyPrice
  simp [e]

@[simp] theorem State.applyPrices_ledger (s : State) : s.applyPrices.ledger = s.ledger := by
  unfold State.applyPrices
  induction List.finRange 8 generalizing s with
  | nil => rfl
  | cons g gs ih =>
    rw [List.foldl_cons, ih]
    (repeat' split) <;> simp

@[simp] theorem State.undoLoad_ledger (s : State) : s.undoLoad.ledger = s.ledger := by
  unfold State.undoLoad
  split
  · rfl
  · dsimp only
    split <;> simp

namespace Ledger.Moves

theorem runStore (h : Moves Q l s.ledger) (n : Nat) : Moves Q l (State.runStore n s).ledger := by
  induction n generalizing s with
  | zero => exact h
  | succ n ih =>
    unfold State.runStore
    split
    · refine ih ?_
      rw [State.answerAll_ledger]
      exact h.beginStep
    · exact h

theorem completeStep (h : Moves Q l s.ledger) : Moves Q l s.completeStep.ledger := by
  unfold State.completeStep
  dsimp only
  rw [State.answerAll_ledger]
  exact h.endStep

/-! ## The end of the event (R81, R83, R105, R161, R166, R178) -/

theorem examine (h : Moves Q l s.ledger) : Moves Q l s.examine.ledger := by
  unfold State.examine
  dsimp only
  rw [State.sendAll_ledger, State.finishLoad_ledger]
  refine runStore ?_ _
  rw [State.examinePositions_ledger, State.examinePanels_ledger]
  exact gate (gate (by simpa using h) .a) .b

theorem settle (h : Moves Q l s.ledger) (n : Nat) : Moves Q l (State.settle n s).ledger := by
  induction n generalizing s with
  | zero => exact h
  | succ n ih =>
    unfold State.settle
    dsimp only
    have h1 : Moves Q l s.examine.serveLinks.ledger := by rw [State.serveLinks_ledger]; exact h.examine
    split
    · exact h1
    · exact ih h1

theorem react (h : Moves Q l s.ledger) : Moves Q l s.react.ledger := h.settle _

/-! ## Meters (R6 to R9) -/

theorem unclaimedCount (h : Moves Q l s.ledger) (m : MeterNo) (forward : Bool) : Moves Q l (s.unclaimedCount m forward).ledger := by
  unfold State.unclaimedCount
  dsimp only
  split
  · rw [State.raise_ledger]
    exact modMeter (h.modMeter m fun _ => by rfl) m fun _ => by rfl
  · exact h.modMeter m fun _ => by rfl

theorem countMeter (h : Moves Q l s.ledger) (m : MeterNo) (forward : Bool) : Moves Q l (s.countMeter m forward).ledger := by
  have h1 : Moves Q l (s.modMeter m fun x =>
      { x with lifetime := x.lifetime + BitVec.ofInt 48 (signOf forward), tally := x.tally + 1 }).ledger := h.modMeter m fun _ => by rfl
  unfold State.countMeter
  split
  · dsimp only
    generalize (s.modMeter m fun x => { x with lifetime := x.lifetime + BitVec.ofInt 48 (signOf forward), tally := x.tally + 1 }) = u at h1 ⊢
    split
    · exact h1.deliver _ m forward
    · exact h1.unclaimedCount m forward
  · exact h

theorem phaseError (h : Moves Q l s.ledger) (m : MeterNo) : Moves Q l (s.phaseError m).ledger := by
  have h1 : Moves Q l (s.modMeter m fun x => { x with phaseErrors := x.phaseErrors + 1 }).ledger := h.modMeter m fun _ => by rfl
  unfold State.phaseError
  dsimp only
  split
  · exact h
  · split
    · exact h
    · split
      · refine meterFaultReport ?_ _ m
        rw [State.raise_ledger]
        exact h1.modMeter m fun _ => by rfl
      · exact h1

theorem recognition (h : Moves Q l s.ledger) (m : MeterNo) (a b : Option Bool) : Moves Q l (s.recognition m a b).ledger := by
  have h1 : Moves Q l (s.modMeter m fun x => x.recognise a b).ledger := h.modMeter m fun _ => by rfl
  unfold State.recognition
  dsimp only
  generalize (s.modMeter m fun x => x.recognise a b) = u at h1 ⊢
  split
  · exact h1
  · exact h1.countMeter m _
  · exact h1.phaseError m
  · split
    · exact h1
    · exact countMeter (by exact h1) m _

theorem endSecond (h : Moves Q l s.ledger) : Moves Q l s.endSecond.ledger := by
  unfold State.endSecond
  rw [State.writeWhole_ledger]
  exact h.modMiu_routes (fun m => by simp) rfl

end Ledger.Moves

end Sys2Proof.Machine
end

section
/-! PROOFS. Cards, power and the host as chains of moves, and the invariants of sales, positions, claims and quarantine
(R13, R14, R25, R31, R43 to R48, R67 to R75, R148 to R150, R180 to R188, R197 to R204). -/
namespace Sys2Proof.Machine

open Ledger (Moves)

variable {s t u : State} {P : List Part} {Q : Prop} {l : Ledger} {side : Side}

/-! ## The cards of lane 0 (R67 to R74) -/

/-- An accepted authorization is for a position in IDLE or CALLING, and not of the reader under a quarantine. -/
theorem State.authorizeRefusal_none {b : Byte} {a : Authorization} (h : s.authorizeRefusal side b a = none) :
    ((s.pos side).st = .idle ∨ (s.pos side).st = .calling) ∧ (s.riu.domain = .quarantine → a.origin ≠ .reader) := by
  unfold State.authorizeRefusal at h
  dsimp only at h
  (repeat' split at h) <;> cases h
  rename_i h1 h2 h3 h4 h5 h6 h7 h8
  exact ⟨by tauto, fun hd ho => h7 ⟨ho, hd⟩⟩

namespace Ledger.Moves

theorem authorize (h : Moves Q l s.ledger) {a : Authorization} (hst : (s.pos side).st = .idle ∨ (s.pos side).st = .calling)
    (ha : Q → a.origin ≠ .reader) : Moves Q l (s.authorize side a).ledger := by
  have h1 : Moves Q l (s.modPos side fun p => { p with startResult := .none }).ledger :=
    h.modPos_alike ⟨rfl, rfl, rfl, fun h => Position.outputsSafe_congr rfl rfl rfl rfl h⟩ fun _ => id
  have hp : ((s.modPos side fun p => { p with startResult := .none }).pos side).st = (s.pos side).st := by rw [State.modPos_pos]
  have hf : ((s.modPos side fun p => { p with startResult := .none }).pos side).free :=
    .inl (by rw [hp]; rcases hst with e | e <;> rw [e] <;> rfl)
  unfold State.authorize
  dsimp only
  generalize (s.modPos side fun p => { p with startResult := .none }) = u at h1 hf ⊢
  have arrive : Moves Q l (u.arriveAuthorized side a).ledger := h1.arriveAuthorized hf fun q => .inl (ha q)
  split
  · split
    · exact h1.start _ hf fun q => .inl (ha q)
    · split
      · exact arrive.setFlag ..
      · exact arrive
  · exact arrive

theorem decideAuthorize (h : Moves Q l s.ledger) (hQ : Q → s.riu.domain = .quarantine) (off : Nat) (c : Card) :
    Moves Q l (decideAuthorize off c s).ledger := by
  unfold Machine.decideAuthorize
  (repeat' split) <;> simp only [State.refuseCard_ledger, State.finishCard_ledger] <;> try exact h
  rename_i hr
  obtain ⟨hst, ho⟩ := State.authorizeRefusal_none hr
  exact h.authorize hst fun q => ho (hQ q)

theorem decideCancel (h : Moves Q l s.ledger) (off : Nat) (c : Card) : Moves Q l (decideCancel off c s).ledger := by
  unfold Machine.decideCancel
  dsimp only
  split
  · simpa using h
  · split
    · simpa using h
    · split
      · rename_i hst
        rw [State.finishCard_ledger]
        exact h.arriveOpen (.inl (by rw [hst]; rfl))
      · split
        · rw [State.finishCard_ledger]
          exact h.fallBack ‹_› ..
        · split
          · rw [State.finishCard_ledger]
            exact h.endSale_of_dispensing ‹_› _
          · simpa using h

theorem pause (h : Moves Q l s.ledger) (hs : s.stoppable side = true) : Moves Q l (s.pause side).ledger := by
  have hd : (s.pos side).st.isDispensing = true := by
    simp only [State.stoppable, Bool.and_eq_true, Bool.or_eq_true, beq_iff_eq] at hs
    rcases hs.2 with e | e <;> rw [e] <;> rfl
  obtain ⟨h1, h2⟩ := PosState.selling_of_dispensing hd
  exact h.goOn (f := fun p => { p.enter .paused with flowTimer := none }) h1 h2 ⟨rfl, by simp [Position.enter]⟩
    (by simp [Position.enter, PosState.isStarting]) ⟨rfl, rfl, rfl, Position.enter_outputsSafe (s.pos side) .paused⟩

theorem decideStop (h : Moves Q l s.ledger) (off : Nat) (c : Card) : Moves Q l (decideStop off c s).ledger := by
  have opt {u : State} (side : Side) (hu : Moves Q l u.ledger) : Moves Q l (if u.stoppable side then u.pause side else u).ledger := by
    split
    · exact hu.pause ‹_›
    · exact hu
  unfold Machine.decideStop
  split
  · dsimp only
    rw [State.finishCard_ledger]
    exact opt .b (opt .a h)
  · split
    · simpa using h
    · split
      · rw [State.finishCard_ledger]
        exact h.pause ‹_›
      · simpa using h

theorem resumeSale (h : Moves Q l s.ledger) (hst : (s.pos side).st = .paused) : Moves Q l (s.resumeSale side).ledger := by
  have hd : (s.pos side).st.isDispensing = true := by rw [hst]; rfl
  obtain ⟨h1, h2⟩ := PosState.selling_of_dispensing hd
  unfold State.resumeSale
  split
  · exact h
  · rename_i x _
    split
    · exact h.endSale_of_dispensing hd _
    · refine h.goOn h1 h2 ?_ ?_ ⟨rfl, rfl, rfl, Position.enter_outputsSafe (s.pos side) _⟩ <;> dsimp only [Position.enter] <;> split
      · exact ⟨rfl, by simp⟩
      · exact ⟨rfl, by simp⟩
      · simp [PosState.isStarting]
      · simp [PosState.isStarting]

theorem decideResume (h : Moves Q l s.ledger) (off : Nat) (c : Card) : Moves Q l (decideResume off c s).ledger := by
  unfold Machine.decideResume
  (repeat' split) <;> simp only [State.refuseCard_ledger, State.finishCard_ledger] <;> try exact h
  exact h.resumeSale (by simp_all)

theorem decideCloseSale (h : Moves Q l s.ledger) (off : Nat) (c : Card) : Moves Q l (decideCloseSale off c s).ledger := by
  unfold Machine.decideCloseSale
  dsimp only
  (repeat' split) <;> simp only [State.refuseCard_ledger, State.requestStep_ledger, State.storeCard_ledger] <;> try exact h
  exact h.modPos_alike ⟨rfl, rfl, rfl, fun h => Position.outputsSafe_congr rfl rfl rfl rfl h⟩ fun _ hx => (List.mem_filter.mp hx).1

theorem decideClosePosition (h : Moves Q l s.ledger) (off : Nat) (c : Card) : Moves Q l (decideClosePosition off c s).ledger := by
  unfold Machine.decideClosePosition
  split
  · simpa using h
  · split
    · rename_i hst
      rw [State.finishCard_ledger]
      exact h.closePos _ (.inl (by rw [hst]; rfl))
    · simpa using h

theorem decideConfigurePosition (h : Moves Q l s.ledger) (off : Nat) (c : Card) : Moves Q l (decideConfigurePosition off c s).ledger := by
  unfold Machine.decideConfigurePosition
  (repeat' split) <;> simp only [State.refuseCard_ledger, State.finishOnConfig_ledger, State.touch_ledger] <;> try exact h
  all_goals exact h.modPos_alike ⟨rfl, rfl, rfl, fun h => Position.outputsSafe_congr rfl rfl rfl rfl h⟩ fun _ => id

/-! ## The cards of lane 1 (R17 to R21, R41, R83 to R90, R171 to R174, R187, R188) -/

theorem decideConfigureMeter (h : Moves Q l s.ledger) (off : Nat) (c : Card) : Moves Q l (decideConfigureMeter off c s).ledger := by
  unfold Machine.decideConfigureMeter
  (repeat' split) <;> simp only [State.refuseCard_ledger, State.finishOnConfig_ledger, State.touch_ledger] <;> try exact h
  all_goals exact h.modMeter _ fun _ => by rfl

theorem decideClearMeterFault (h : Moves Q l s.ledger) (off : Nat) (c : Card) : Moves Q l (decideClearMeterFault off c s).ledger := by
  unfold Machine.decideClearMeterFault
  split
  · simpa using h
  · dsimp only
    rw [State.finishCard_ledger]
    split
    · rw [State.touch_ledger]
      exact h.modMeter _ fun _ => by rfl
    · exact h

theorem decideSetRouting (h : Moves Q l s.ledger) (off : Nat) (c : Card) : Moves Q l (decideSetRouting off c s).ledger := by
  unfold Machine.decideSetRouting
  (repeat' split) <;> simp only [State.refuseCard_ledger, State.finishOnConfig_ledger] <;> try exact h
  exact h.modMiu_routes (fun _ => rfl) rfl

end Ledger.Moves

/-- An accepted entry is lawful (R10, R18). -/
theorem Card.hoseRoute_lawful {c : Card} {e : HoseRoute} (h : c.hoseRoute = some e) : e.lawful := by
  unfold Card.hoseRoute at h
  split at h
  · rename_i g k p _ _ _
    dsimp only at h
    split at h
    · cases h
    · split at h
      · cases h
      · split at h
        · cases h
        · rename_i hd hk hb
          obtain rfl := Option.some.inj h
          refine ⟨fun hs => if_pos hs, fun hs => ?_, fun hs => if_neg hs, ?_, by dsimp only; omega⟩
          · dsimp only at hs ⊢
            rw [if_neg hs]
            cases e : meterOfNumber (c.b 4) with
            | none => simp [hs, e] at hk
            | some m => exact ⟨m, rfl, fun hm => hk ⟨hs, .inr (by rw [e, hm])⟩⟩
          · dsimp only
            split
            · rename_i hk'
              by_contra hr
              exact hb ⟨hk', by omega⟩
            · exact Nat.zero_le _
  · cases h

namespace Ledger.Moves

theorem decideConfigureHose (h : Moves Q l s.ledger) (off : Nat) (c : Card) : Moves Q l (decideConfigureHose off c s).ledger := by
  unfold Machine.decideConfigureHose
  split
  · simpa using h
  · rename_i side n _
    split
    · simpa using h
    · rename_i e he
      split
      · simpa using h
      · split
        · simpa using h
        · dsimp only
          rw [State.finishOnConfig_ledger, State.membershipChange_ledger]
          have hl : e.lawful := by
            split at he
            · cases he
            · exact Card.hoseRoute_lawful he
          refine h.modMiu (fun _ => rfl) fun y m => ?_
          dsimp only
          rw [Sides.get_set]
          split
          · rw [Fin.getElem_fin, Vector.getElem_set]
            split
            · exact .inr hl
            · subst_vars; exact .inl (.inl ⟨_, m, rfl⟩)
          · exact .inl (.inl ⟨y, m, rfl⟩)

theorem decideNightNow (h : Moves Q l s.ledger) (off : Nat) (c : Card) : Moves Q l (decideNightNow off c s).ledger := by
  have wait {u : State} (hu : Moves Q l u.ledger) : Moves Q l (u.waitCard .site State.undoNight).ledger := by
    unfold State.waitCard
    split
    · exact undoNight (by simpa using hu)
    · simpa using hu
  unfold Machine.decideNightNow
  split
  · exact wait (h.enterClosing _)
  · exact wait h
  all_goals simpa using h

end Ledger.Moves

theorem State.waitCard_ledger {l : LaneId} {f : State → State} (hf : ∀ u : State, (f u).ledger = u.ledger) : (s.waitCard l f).ledger = s.ledger := by
  unfold State.waitCard
  split
  · rw [hf, State.abortCard_ledger]
  · exact State.modLane_ledger ..

namespace Ledger.Moves

theorem decideWakeNow (h : Moves Q l s.ledger) (off : Nat) (c : Card) : Moves Q l (decideWakeNow off c s).ledger := by
  unfold Machine.decideWakeNow
  split
  · simpa using h
  · split
    · exact enterWaking (by rw [State.waitCard_ledger (f := id) (fun _ => rfl)]; exact h) _
    · exact enterWaking (by rw [State.waitCard_ledger (f := id) (fun _ => rfl)]; exact h) _
    · rw [State.finishCard_ledger]
      exact h.withdrawClosing 1
    all_goals simpa using h

theorem decideRebuildStore (h : Moves Q l s.ledger) (off : Nat) (c : Card) : Moves Q l (decideRebuildStore off c s).ledger := by
  have drop {u : State} (side : Side) (hu : Moves Q l u.ledger) : Moves Q l (u.modPos side fun p => { p with unpaid := [] }).ledger :=
    hu.modPos_alike ⟨rfl, rfl, rfl, fun h => Position.outputsSafe_congr rfl rfl rfl rfl h⟩ fun _ hx => by cases hx
  unfold Machine.decideRebuildStore
  split
  · simpa using h
  · split
    · simpa using h
    · dsimp only
      rw [State.requestStep_ledger, State.storeCard_ledger]
      exact modRsc (drop .b (drop .a h)) rfl rfl

theorem decideReaderOff (h : Moves Q l s.ledger) (off : Nat) (c : Card) : Moves Q l (decideReaderOff off c s).ledger := by
  unfold Machine.decideReaderOff
  split
  case h_1 | h_2 => simpa using h
  all_goals exact reportResume (by simpa using h) 2

/-- The owner's decision of a card of any kind. -/
theorem decision (h : Moves Q l s.ledger) (hQ : Q → s.riu.domain = .quarantine) (k : Kind) (off : Nat) (c : Card) :
    Moves Q l (k.decision off c s).ledger := by
  cases k
  case authorize => exact h.decideAuthorize hQ off c
  case cancel => exact h.decideCancel off c
  case stop => exact h.decideStop off c
  case resume => exact h.decideResume off c
  case closeSale => exact h.decideCloseSale off c
  case closePosition => exact h.decideClosePosition off c
  case configurePosition => exact h.decideConfigurePosition off c
  case configureMeter => exact h.decideConfigureMeter off c
  case configureHose => exact h.decideConfigureHose off c
  case setRouting => exact h.decideSetRouting off c
  case clearMeterFault => exact h.decideClearMeterFault off c
  case nightNow => exact h.decideNightNow off c
  case wakeNow => exact h.decideWakeNow off c
  case rebuildStore => exact h.decideRebuildStore off c
  case readerOff => exact h.decideReaderOff off c
  case loadPrice =>
    show Moves Q l (decideLoadPrice off c s).ledger
    unfold Machine.decideLoadPrice
    (repeat' split) <;> (try dsimp only) <;> simp only [State.refuseCard_ledger, State.waitCard_ledger State.undoLoad_ledger] <;> exact h
  case setPricing =>
    show Moves Q l (decideSetPricing off c s).ledger
    unfold Machine.decideSetPricing
    (repeat' split) <;> simp only [State.refuseCard_ledger, State.finishOnConfig_ledger] <;> exact h
  case setDisplayPolicy =>
    show Moves Q l (decideSetDisplayPolicy off c s).ledger
    unfold Machine.decideSetDisplayPolicy
    (repeat' split) <;> simp only [State.refuseCard_ledger, State.finishOnConfig_ledger] <;> exact h
  case setRelayFloor =>
    show Moves Q l (decideSetRelayFloor off c s).ledger
    unfold Machine.decideSetRelayFloor
    (repeat' split) <;> simp only [State.refuseCard_ledger, State.finishOnConfig_ledger] <;> exact h
  case setSchedule =>
    show Moves Q l (decideSetSchedule off c s).ledger
    unfold Machine.decideSetSchedule
    (repeat' split) <;> simp only [State.refuseCard_ledger, State.finishOnConfig_ledger] <;> exact h
  case setWatch =>
    have hm (u : State) : u.evaluateMatch.ledger = u.ledger := Acts.ledger_quiet (Acts.evaluateMatch (.refl u _) (by decide))
    show Moves Q l (decideSetWatch off c s).ledger
    unfold Machine.decideSetWatch
    (repeat' split) <;> (try dsimp only) <;> simp only [State.refuseCard_ledger, State.finishOnConfig_ledger, State.touch_ledger, hm] <;> exact h
  case readSale => exact h.quiet (Acts.decideReadSale (.refl s _) off c (by decide))
  case openPosition => exact h.quiet (Acts.decideOpenPosition (.refl s _) off c (by decide))
  case readMeters => exact h.quiet (Acts.decideReadMeters (.refl s _) off c (by decide))
  case clearSiteFlags => exact h.quiet (Acts.decideClearSiteFlags (.refl s _) off c (by decide))
  case setClock => exact h.quiet (Acts.decideSetClock (.refl s _) off c (by decide))
  case readTotals => exact h.quiet (Acts.decideReadTotals (.refl s _) off c (by decide))
  case readerOn => exact h.quiet (Acts.decideReaderOn (.refl s _) off c (by decide))
  case openLink => exact h.quiet (Acts.decideOpenLink (.refl s _) off c (by decide))
  case closeLink => exact h.quiet (Acts.decideCloseLink (.refl s _) off c (by decide))
  case send => exact h.quiet (Acts.decideSend (.refl s _) off c (by decide))
  case armReceive => exact h.quiet (Acts.decideArmReceive (.refl s _) off c (by decide))
  case disarmReceive => exact h.quiet (Acts.decideDisarmReceive (.refl s _) off c (by decide))
  case releaseQuarantine => exact h.quiet (Acts.decideReleaseQuarantine (.refl s _) off c (by decide))

theorem withCard (h : Moves Q l s.ledger) (hQ : Q → s.riu.domain = .quarantine) (k : Kind) : Moves Q l (s.withCard k k.decision).ledger := by
  unfold State.withCard
  split
  · split
    · exact h.decision hQ k _ _
    · exact h
  · exact h

/-! ## Site, power and host (R149, R156 to R159, R180 to R188, R197, R204) -/

theorem countClock (h : Moves Q l s.ledger) : Moves Q l s.countClock.ledger := by
  have closing {u : State} (hu : Moves Q l u.ledger) : Moves Q l u.closingReached.ledger := by
    unfold State.closingReached
    split
    · exact hu.enterClosing _
    all_goals exact hu
  have opening {u : State} (hu : Moves Q l u.ledger) : Moves Q l u.openingReached.ledger := by
    unfold State.openingReached
    split
    · exact hu.withdrawClosing 0
    · exact hu.enterWaking _
    all_goals exact hu
  unfold State.countClock
  dsimp only
  (repeat' split)
  · exact h
  · exact h
  · exact closing (by exact h)
  · exact opening (by exact h)
  · exact h

theorem stageTimeout (h : Moves Q l s.ledger) : Moves Q l s.stageTimeout.ledger := by
  unfold State.stageTimeout
  split
  · exact h.storeCheckTimeout
  · exact h.displayTimeout
  · simpa using h
  · exact h.resumeEnds 2
  · exact h

theorem quarantine (h : Moves Q l s.ledger) : Moves Q l s.quarantine.ledger :=
  reportResume (quarantineAt (quarantineAt (by simpa using h) .a) .b) 2

theorem warnSupply (h : Moves Q l s.ledger) : Moves Q l s.warnSupply.ledger := by
  have hr : s.riuPowerDown.ledger = s.ledger := by
    unfold State.riuPowerDown
    dsimp only
    rw [State.modRsc_ledger rfl rfl]
    simp [State.shutGate]
  have hd (u : State) : u.dropCards.ledger = u.ledger := Acts.ledger_quiet (Acts.dropCards (.refl u _) (by decide))
  have he (u : State) : u.emptyQueue.ledger = u.ledger := by
    unfold State.emptyQueue
    dsimp only
    rw [State.dismiss_ledger, State.modRsc_ledger rfl rfl]
  unfold State.warnSupply
  dsimp only
  rw [State.raise_ledger]
  refine modRsc ?_ rfl rfl
  rw [he, hd, State.modBoard_ledger, State.modBoard_ledger, State.modSsu_ledger, State.setSite_ledger]
  exact powerDownAt (powerDownAt (by rw [hr]; exact h) .a) .b

theorem freezeAll (h : Moves Q l s.ledger) : Moves Q l s.freezeAll.ledger := by
  unfold State.freezeAll
  dsimp only
  rw [State.requestStep_ledger, State.requestStep_ledger]
  exact modRsc (freezePosition (freezePosition h .a) .b) rfl rfl

theorem loseBattery (h : Moves Q l s.ledger) : Moves Q l s.loseBattery.ledger := by
  unfold State.loseBattery
  dsimp only
  rw [State.raise_ledger, State.raise_ledger, State.modSsu_ledger]
  refine h.store fun c hc => Ledger.keeps_drawn ?_
  exact hc

theorem resetHost (h : Moves Q l s.ledger) : Moves Q l s.resetHost.ledger := by
  have hu (u : State) : u.undoSend.ledger = u.ledger := Acts.ledger_quiet (Acts.undoSend (.refl u _) (by decide))
  have host (u : State) : ({ u with ntc := .default, hostReset := true } : State).ledger = u.ledger := rfl
  unfold State.resetHost
  dsimp only
  rw [host, State.dismiss_ledger, State.modPru_ledger, State.modRiu_ledger, hu]
  simpa using h

theorem undo (h : Moves Q l s.ledger) (k : Kind) : Moves Q l (k.undo s).ledger := by
  have hs : s.undoSend.ledger = s.ledger := Acts.ledger_quiet (Acts.undoSend (.refl s _) (by decide))
  have hr : s.undoReaderOn.ledger = s.ledger := Acts.ledger_quiet (Acts.undoReaderOn (.refl s _) (by decide))
  cases k
  case nightNow => exact h.undoNight
  case loadPrice => exact h.of_eq (State.undoLoad_ledger s)
  case send => exact h.of_eq hs
  case readerOn => exact h.of_eq hr
  all_goals exact h

theorem abortLane (h : Moves Q l s.ledger) (n : LaneId) : Moves Q l (s.abortLane n).ledger := by
  unfold State.abortLane
  (repeat' split)
  · exact h
  · exact h
  · simpa using h
  · simpa using h
  · exact undo (by simpa using h) _
  · exact h

/-- Every command's own effect is a chain of moves, when its row describes an event. -/
theorem effect (c : Instr) (hc : firesOn s c = true) (hQ : Q → s.riu.domain = .quarantine) : Moves Q s.ledger (effectOf s c).ledger := by
  have h : Moves Q s.ledger s.ledger := .refl _
  cases c
  case recognitionInstant m a b => exact h.recognition m a b
  case oneSecondPeriod => exact h.endSecond
  case nozzleLift side n =>
    show Moves Q _ (if ((s.setNozzle side n true).route side n).fitted then (s.setNozzle side n true).lift side n else s.setNozzle side n true).ledger
    split
    · exact lift (by exact h) side n
    · exact h
  case nozzleHang side n =>
    show Moves Q _ (if ((s.setNozzle side n false).route side n).fitted && !((s.iwu.nozzles.get side)[n] == none)
      then (s.setNozzle side n false).hang side n else s.setNozzle side n false).ledger
    split
    · exact hang (by exact h) side n
    · exact h
  case motorSettleExpiry side =>
    have hst : (s.pos side).st = .starting .motor := by
      change ((s.pos side).st == .starting .motor && (s.pos side).motorTimer.isSome) = true at hc
      rw [Bool.and_eq_true, beq_iff_eq] at hc
      exact hc.1
    exact h.openValves (by rw [hst]; rfl) (by rw [hst]; simp)
  case satelliteNozzleLift side => exact requestSatellite (by exact h) side
  case emergencyStopAssertion => exact of_eq (emergencyAt (emergencyAt (by exact h) .a) .b) (State.raise_ledger ..)
  case loopDeparted n =>
    show Moves Q _ (if ((s.modIwu fun u => u.setLoop n false).raise .loopDeparted (loopDetail n)).riu.domain = .quarantine then _ else _ : State).ledger
    split
    · exact h
    · exact quarantine (by exact h)
  case settleWindowExpiry side =>
    change ((s.pos side).st == .ending && (s.pos side).settleTimer.isSome) = true at hc
    rw [Bool.and_eq_true, beq_iff_eq] at hc
    exact h.completeEnding hc.1
  case flowTimerExpiry side =>
    change (((s.pos side).st == .fuelling || (s.pos side).st == .slowing) && (s.pos side).flowTimer.isSome) = true at hc
    simp only [Bool.and_eq_true, Bool.or_eq_true, beq_iff_eq] at hc
    exact h.endSale_of_dispensing (by rcases hc.1 with e | e <;> rw [e] <;> rfl) _
  case authTimerExpiry side =>
    change ((s.pos side).st == .authorized && (s.pos side).authTimer.isSome) = true at hc
    rw [Bool.and_eq_true, beq_iff_eq] at hc
    exact of_eq (h.arriveOpen (.inl (by rw [hc.1]; rfl))) (State.raisePos_ledger ..)
  case litFrame board f => exact h.takeLit board f
  case answerTimeout board => exact h.attemptEnds board false
  case refreshInstant board => exact h.of_eq (State.refreshBoard_ledger s board)
  case settleTimerExpiry =>
    show Moves Q _ (if ((s.setDomain .gated).endWaiting .readerOn [] .ok).riu.resuming
      then ((s.setDomain .gated).endWaiting .readerOn [] .ok).openReaderLink.resumeEnds 1 else (s.setDomain .gated).endWaiting .readerOn [] .ok).ledger
    split
    · exact resumeEnds (by simpa using h) 1
    · simpa using h
  case inboundFrame f => exact h.quiet (Acts.judgeFrame (.refl s _) _ _ (by decide))
  case inboundFrameTimeout => exact h.quiet (t := s.judgeFrame .outside none) (Acts.judgeFrame (.refl s _) _ _ (by decide))
  case readerAnswer a =>
    show Moves Q _ (match s.riu.send with | some x => s.sendAnswered x a | none => s).ledger
    split
    · exact h.quiet (Acts.sendAnswered (.refl s _) _ a (by decide))
    · exact h
  case sendAnswerExpiry =>
    show Moves Q _ (match s.riu.send with | some x => s.attemptUsed x x.last | none => s).ledger
    split
    · exact h.quiet (Acts.attemptUsed (.refl s _) _ _ (by decide))
    · exact h
  case clockCount => exact h.countClock
  case stageTimerExpiry => exact h.stageTimeout
  case meterSettleExpiry => exact beginReaderResume (by simpa using h)
  case supplyWarning =>
    have h1 : Moves Q s.ledger (s.modRsc fun r => { r with supplyWarn := some true }).ledger := h.modRsc rfl rfl
    show Moves Q _ (if (s.modRsc fun r => { r with supplyWarn := some true }).powerDown then _ else _ : State).ledger
    split
    · exact h1.modRsc rfl rfl
    · exact h1.warnSupply
  case freezeWindowExpiry => exact h.freezeAll
  case supplyWarnRelease => exact h.modRsc rfl rfl
  case storeCheckBegin => exact h.modRsc rfl rfl
  case storeCheckEnd => exact h.storeCheckEnds
  case storeStepCompletion => exact h.completeStep
  case batteryLoss => exact h.loseBattery
  case hostReset => exact h.resetHost
  case goStart n value => exact h.quiet (Acts.startLane (.refl s _) n _ (by decide))
  case goAbort n value => exact h.abortLane n
  case noticeRead =>
    show Moves Q _ (match s.ntc.presented, s.ntc.lowest with | none, some i => s.present i | _, _ => s).ledger
    split
    · exact of_eq h (State.writeBytes_ledger ..)
    · exact h
  case hostWrite offset value =>
    show Moves Q _ (if halfOffset offset.toNat < Config.poolBase then _ else _ : State).ledger
    split
    · exact h
    · exact of_eq h (State.writeHalf_ledger ..)
  case hostParity offset =>
    refine of_eq h ?_
    show (s.failParity offset.toNat).ledger = _
    unfold State.failParity
    split <;> rfl
  case generalInputChange which levels => exact h.quiet (Acts.judgeGeneral (.refl s _) which levels (by decide))
  case sealChange isOpen =>
    show Moves Q _ (if reports s.iwu.calSeal isOpen then _ else _ : State).ledger
    split <;> exact h
  case doorChange d isOpen =>
    show Moves Q _ (if reports (s.iwu.door d) isOpen then _ else _ : State).ledger
    split <;> exact h
  case emergencyStopRelease =>
    show Moves Q _ (if s.iwu.emergency == none then _ else _ : State).ledger
    split <;> exact h
  case loopReturned n =>
    show Moves Q _ (if s.iwu.loop n == none then _ else _ : State).ledger
    split <;> exact h
  case sendFrameEnd =>
    show Moves Q _ (if s.riu.orphan then _ else _ : State).ledger
    split <;> exact h
  case satelliteNozzleHang | inboundFrameStart | lineSilence | answerByteSent | holdDelayExpiry | noticeDone | overrunWrite | enableWrite
    | coldStart | powerOn | supplyFall | batteryReturn | hostResetRelease | registerWriteOther => exact h
  case authorize => exact h.withCard hQ .authorize
  case cancel => exact h.withCard hQ .cancel
  case stop => exact h.withCard hQ .stop
  case resume => exact h.withCard hQ .resume
  case closeSale => exact h.withCard hQ .closeSale
  case readSale => exact h.withCard hQ .readSale
  case closePosition => exact h.withCard hQ .closePosition
  case openPosition => exact h.withCard hQ .openPosition
  case configurePosition => exact h.withCard hQ .configurePosition
  case configureMeter => exact h.withCard hQ .configureMeter
  case configureHose => exact h.withCard hQ .configureHose
  case setRouting => exact h.withCard hQ .setRouting
  case clearMeterFault => exact h.withCard hQ .clearMeterFault
  case readMeters => exact h.withCard hQ .readMeters
  case setPricing => exact h.withCard hQ .setPricing
  case clearSiteFlags => exact h.withCard hQ .clearSiteFlags
  case loadPrice => exact h.withCard hQ .loadPrice
  case setDisplayPolicy => exact h.withCard hQ .setDisplayPolicy
  case setWatch => exact h.withCard hQ .setWatch
  case setRelayFloor => exact h.withCard hQ .setRelayFloor
  case setSchedule => exact h.withCard hQ .setSchedule
  case setClock => exact h.withCard hQ .setClock
  case nightNow => exact h.withCard hQ .nightNow
  case wakeNow => exact h.withCard hQ .wakeNow
  case readTotals => exact h.withCard hQ .readTotals
  case rebuildStore => exact h.withCard hQ .rebuildStore
  case readerOn => exact h.withCard hQ .readerOn
  case readerOff => exact h.withCard hQ .readerOff
  case openLink => exact h.withCard hQ .openLink
  case closeLink => exact h.withCard hQ .closeLink
  case send => exact h.withCard hQ .send
  case armReceive => exact h.withCard hQ .armReceive
  case disarmReceive => exact h.withCard hQ .disarmReceive
  case releaseQuarantine => exact h.withCard hQ .releaseQuarantine

end Ledger.Moves

end Sys2Proof.Machine
end

section
/-! PROOFS. The invariants of sales, shapes, outputs and claims, from the chains of moves (R13, R14, R25, R28, R31, R43 to R48), and the
boards' wanted contents from the end of every event (R105, R106, R109). -/
namespace Sys2Proof.Machine

open Ledger (Moves)

variable {s t u : State} {side : Side}

/-! ## Every command moves the ledger -/

theorem State.linesChange.ledger (h : s.linesChange t) : t.ledger = s.ledger := by
  obtain ⟨r, k, low, cut, -, rfl⟩ := h
  rfl

theorem publish_ledger (s u : State) : (publish s u).ledger = u.ledger := rfl

/-- What a fall of the supply leaves in the store mixes what stood with what a step in progress writes (R179). -/
theorem State.fallenStore_mixes (s : State) : ∃ d, s.ledger.keeps d ∧ Contents.Mixes s.rsc.store.contents d
    (match s.rsc.active with
      | some a => s.rsc.store.cut a (s.rsc.lost && a.step.records != allRecords) s.free
      | none => s.rsc.store).contents := by
  cases ha : s.rsc.active with
  | none => exact ⟨_, .inl rfl, .refl ..⟩
  | some a => exact ⟨a.contents, .inr (by show s.rsc.active.map _ = _; rw [ha]; rfl), Store.cut_mixes ..⟩

theorem exec_fall_moves (h : exec .supplyFall s = .next t) : Moves (s.riu.domain = .quarantine) s.ledger t.ledger := by
  rcases exec_fall h with rfl | rfl
  · exact .refl _
  · refine Moves.store (s := s) (.refl _) (f := fun r => { r with
      store := match r.active with
        | some a => r.store.cut a (r.lost && a.step.records != allRecords) s.free
        | none => r.store
      active := none, batteryCut := r.batteryLow }) fun c hc => ?_
    rcases hc with rfl | hc
    · obtain ⟨d, hd, hm⟩ := s.fallenStore_mixes
      exact Ledger.mixes_drawn (.inl rfl) hd hm
    · cases hc

/-- Every command but a power-on makes moves. -/
theorem exec_moves {c : Instr} (hc : c ≠ .powerOn ∧ c ≠ .coldStart) (h : exec c s = .next t) :
    Moves (s.riu.domain = .quarantine) s.ledger t.ledger := by
  by_cases hf : c = .supplyFall
  · subst hf
    exact exec_fall_moves h
  · rcases exec_fires ⟨hf, hc⟩ h with hl | ⟨-, hfire, rfl⟩
    · rw [hl.ledger]; exact .refl _
    · rw [publish_ledger]
      exact (Moves.effect c hfire id).react

theorem Ledger.Moves.powerOnEffects {Q : Prop} {l : Ledger} (h : Moves Q l s.ledger) : Moves Q l s.powerOnEffects.ledger := by
  have h1 : Moves Q l (((s.writeWhole .iwu).writeWhole .riu).enterWaking .coldStart).ledger :=
    enterWaking (by rw [State.writeWhole_ledger, State.writeWhole_ledger]; exact h) _
  unfold State.powerOnEffects
  extract_lets u
  split
  · exact of_eq h1 (State.raise_ledger ..)
  · exact h1

/-- A power-on makes moves from what it keeps. -/
theorem powerOn_moves (Q : Prop) (s : State) :
    Moves Q s.powerOnBase.ledger (publish s.powerOnBase s.powerOnBase.powerOnEffects.react).ledger := by
  rw [publish_ledger]
  exact Moves.react (Moves.powerOnEffects (.refl _))

/-- What a power-on keeps of the store: all of it, or the unwritten one (R184, R185). -/
theorem State.powerOnBase_ledger (s : State) : s.powerOnBase.ledger =
    { psc := { a := .default, b := .default }
      miu := { meters := Vector.replicate 8 .default, routes := defaultRoutes, enables := .default, counting := false }
      store := if s.rsc.batteryCut then Contents.default 0 else s.rsc.store.contents
      active := none } := by
  show ({ psc := _, miu := _, store := (if s.rsc.batteryCut then Store.unwritten else s.rsc.store).contents, active := none } : Ledger) = _
  cases s.rsc.batteryCut <;> rfl

theorem State.powerOnBase_pos (s : State) (side : Side) : s.powerOnBase.pos side = .default := by cases side <;> rfl

theorem State.powerOnBase_owner (s : State) (m : MeterNo) : (s.powerOnBase.meter m).owner = none := by
  show ((Vector.replicate 8 Meter.default)[m]).owner = none
  simp [Meter.default]

theorem State.powerOnBase_salesLawful (h : s.salesLawful) : s.powerOnBase.salesLawful := by
  refine State.ledger_salesLawful.mp ⟨fun side x hx => ?_, fun x hx => ?_⟩
  · rw [show s.powerOnBase.ledger.pos side = Position.default from s.powerOnBase_pos side] at hx
    cases hx
  · obtain ⟨-, -, ⟨ha, hb⟩, -⟩ := h
    rw [State.powerOnBase_ledger] at hx
    rcases hx with ⟨side, hx⟩ | ⟨c, rfl | hc, hx⟩
    · cases side <;> cases hx
    · dsimp only at hx
      split at hx
      · simp [Contents.default] at hx
      · exact hx.elim (ha x) (hb x)
    · cases hc

theorem State.powerOnBase_routesLawful (h : s.routesLawful) : s.powerOnBase.routesLawful := by
  refine State.ledger_routesLawful.mp fun e he => ?_
  obtain ⟨-, hs, -⟩ := h
  rw [State.powerOnBase_ledger] at he
  rcases he with ⟨side, n, rfl⟩ | ⟨c, rfl | hc, side, n, rfl⟩
  · exact defaultRoutes_lawful side n
  · dsimp only
    split
    · exact defaultRoutes_lawful side n
    · exact hs side n
  · cases hc

theorem State.powerOnBase_claimsAgree (s : State) : s.powerOnBase.claimsAgree := by
  refine ⟨fun side x hx => ?_, fun m side role hm => ?_⟩
  · rw [State.powerOnBase_pos] at hx; cases hx
  · rw [State.powerOnBase_owner] at hm; cases hm

theorem Position.default_shaped : Position.default.shaped := by
  refine ⟨rfl, ?_, ?_, ?_, ?_⟩ <;> simp [Position.default]

theorem Position.default_outputsSafe : Position.default.outputsSafe := by simp [Position.outputsSafe, Position.default]

/-- What moves keep, and a power-on establishes or keeps, every step keeps. -/
theorem step_keeps_ledger {I : State → Prop} (hq : ∀ (s : State) (q : List Instr), I s → I { s with pending := q })
    (hm : ∀ {s t : State} {Q : Prop}, Moves Q s.ledger t.ledger → I s → I t) (hp : ∀ s : State, I s → I s.powerOnBase)
    (hs : I s) (h : step s = .next t) : I t := by
  refine step_keeps hq (fun c s t hs h => ?_) hs h
  by_cases hc : c = .powerOn ∨ c = .coldStart
  · rcases exec_power hc h with rfl | rfl
    · exact hs
    · exact hm (powerOn_moves True s) (hp s hs)
  · exact hm (exec_moves (not_or.mp hc) h) hs

/-- Settles O4: each move keeps the sales lawful, and a power-on keeps the retained ones. -/
theorem salesStayLawful : Obligations.SalesStayLawful := fun _ _ hs h =>
  step_keeps_ledger (I := State.salesLawful) (fun _ _ h => h)
    (fun hm h => State.ledger_salesLawful.mp (hm.salesLawful (State.ledger_salesLawful.mpr h))) (fun _ h => State.powerOnBase_salesLawful h) hs h

/-- Settles O5: each move keeps the positions in shape. -/
theorem positionsStayShaped : Obligations.PositionsStayShaped := fun _ _ hs h =>
  step_keeps_ledger (I := fun s => ∀ side, (s.pos side).shaped) (fun _ _ h => h) (fun hm h => hm.shaped h)
    (fun s _ side => by rw [State.powerOnBase_pos]; exact Position.default_shaped) hs h

/-- Settles O7: each move keeps claims and owners in agreement, the positions in shape and the routes lawful. -/
theorem claimsStayInAgreement : Obligations.ClaimsStayInAgreement := by
  intro s t hr hs hc h
  obtain ⟨h1, -, h3⟩ := step_keeps_ledger (I := fun s => s.routesLawful ∧ (∀ side, (s.pos side).shaped) ∧ s.claimsAgree) (fun _ _ h => h)
    (fun {s t Q} hm ⟨h1, h2, h3⟩ => ⟨State.ledger_routesLawful.mp (hm.routesLawful (State.ledger_routesLawful.mpr h1)), hm.shaped h2,
      State.ledger_claimsAgree.mp (hm.claimsAgree (State.ledger_routesLawful.mpr h1) h2 (State.ledger_claimsAgree.mpr h3))⟩)
    (fun s ⟨h1, _, _⟩ => ⟨State.powerOnBase_routesLawful h1, fun side => by rw [State.powerOnBase_pos]; exact Position.default_shaped,
      s.powerOnBase_claimsAgree⟩) ⟨hr, hs, hc⟩ h
  exact ⟨h1, h3⟩

/-! ## The boards' wanted contents (R105, R106, R109) -/

/-- A board of which the test and the contents wanted of its fields are those of another. -/
structure Board.WantsAs (b c : Board) : Prop where
  test : c.test = b.test
  wanted : ∀ f, (c.field f).wanted = (b.field f).wanted

theorem Board.WantsAs.refl (b : Board) : b.WantsAs b := ⟨rfl, fun _ => rfl⟩

theorem Board.WantsAs.trans {a b c : Board} (h : a.WantsAs b) (k : b.WantsAs c) : a.WantsAs c :=
  ⟨k.test.trans h.test, fun f => (k.wanted f).trans (h.wanted f)⟩

theorem Board.modField_field (b : Board) (f k : FieldId) (g : FieldRec → FieldRec) :
    (b.modField f g).field k = if k = f then g (b.field f) else b.field k := by
  unfold Board.field Board.modField
  split
  · subst_vars; exact Fields.get_set_same ..
  · exact Fields.get_set_ne _ ‹_› _

theorem Board.attemptField_wantsAs (b : Board) (f : FieldId) (refresh : Bool) : b.WantsAs (b.attemptField f refresh) := by
  refine ⟨rfl, fun k => ?_⟩
  show ((b.modField f fun r => if refresh then { r with refreshDue := false } else { r with st := .writing }).field k).wanted = _
  rw [Board.modField_field]
  split
  · subst_vars
    split <;> rfl
  · rfl

theorem State.serve_wantsAs (s : State) (side x : Side) : (s.board x).WantsAs ((s.serve side).board x) := by
  unfold State.serve
  split
  · split <;> rw [State.modBoard_board_eq] <;> split
    · subst_vars; exact Board.attemptField_wantsAs ..
    · exact .refl _
    · subst_vars; exact ⟨rfl, fun _ => rfl⟩
    · exact .refl _
  · exact .refl _

theorem State.serveLink_wantsAs (s : State) (side x : Side) : (s.board x).WantsAs ((s.serveLink side).board x) := by
  have ha : Acts (s.serve side) (s.serveLink side) [.prices] := Acts.reportFields (.refl _ _) side _ (by decide)
  have e : (s.serveLink side).dlc = (s.serve side).dlc := ha.frame .displays (by decide)
  rw [show (s.serveLink side).board x = (s.serve side).board x from congrArg (fun d : Dlc => d.boards.get x) e]
  exact s.serve_wantsAs side x

theorem State.serveLinks_wantsAs (s : State) (x : Side) : (s.board x).WantsAs (s.serveLinks.board x) :=
  (s.serveLink_wantsAs .a x).trans ((s.serveLink .a).serveLink_wantsAs .b x)

/-- What `contentsSent` looks at, but for the board. -/
theorem State.contentsSent_congr (hb : (s.board side).WantsAs (t.board side)) (hp : t.psc = s.psc) (hi : t.iwu = s.iwu)
    (hs : t.ssu = s.ssu) (hr : t.rsc = s.rsc) (h : s.contentsSent side) : t.contentsSent side := by
  obtain ⟨h1, h2⟩ := h
  have ep : t.pos side = s.pos side := congrArg (fun p : Sides Position => p.get side) hp
  have ec : t.statusContent side = s.statusContent side := by unfold State.statusContent; rw [ep, hi]
  have eg : (t.board side).segment = (s.board side).segment := by unfold Board.segment; rw [hb.test]
  unfold State.contentsSent
  rw [hb.test, hb.wanted, eg, ec, hs, hr, ep]
  exact ⟨fun ht hf f hfl => (hb.wanted f).trans (h1 ht hf f hfl), h2⟩

theorem FieldRec.update_wanted (r : FieldRec) (c : Content) : (r.update c).wanted = c := by
  unfold FieldRec.update
  split
  · assumption
  · rfl

theorem State.updateField_field (s : State) (side : Side) (f k : FieldId) (c : Content) :
    (((s.updateField side f c).board side).field k).wanted = if k = f then c else ((s.board side).field k).wanted := by
  unfold State.updateField
  rw [State.modBoard_board, Board.modField_field]
  split
  · exact FieldRec.update_wanted ..
  · rfl

theorem State.updateField_test (s : State) (side : Side) (f : FieldId) (c : Content) :
    ((s.updateField side f c).board side).test = (s.board side).test := by
  unfold State.updateField
  rw [State.modBoard_board]; rfl

/-- The contents of the legal fields, once sent (R105). -/
theorem State.sendLegal_wanted (s : State) (side : Side) (h : s.freezeMade = false) {f : FieldId} (hf : f ∈ legalFields) :
    (((s.sendLegal side).board side).field f).wanted = (s.pos side).legalContent f := by
  unfold State.sendLegal
  rw [h]
  simp only [Bool.false_eq_true, if_false, legalFields, List.foldl_cons, List.foldl_nil, State.updateField_field]
  simp only [legalFields, List.mem_cons, List.not_mem_nil, or_false] at hf
  rcases hf with rfl | rfl | rfl <;> simp

/-- The contents sent are those that the position has (R105, R106). -/
theorem State.sendContents_sent (s : State) (side : Side) : (s.sendContents side).contentsSent side := by
  have ha : Acts s (s.sendContents side) [.displays] := Acts.sendContents (.refl s _) side (by decide)
  have ep : (s.sendContents side).pos side = s.pos side := ha.pos_eq (by decide) side
  have ec : (s.sendContents side).statusContent side = s.statusContent side := by
    have hi : (s.sendContents side).iwu = s.iwu := ha.frame .inputs (by decide)
    unfold State.statusContent; rw [ep, hi]
  have es : (s.sendContents side).ssu = s.ssu := ha.frame .site (by decide)
  have er : (s.sendContents side).rsc = s.rsc := ha.frame .store (by decide)
  unfold State.contentsSent
  rw [ec, ep, es, er]
  unfold State.sendContents
  split
  case h_1 ht =>
    exact ⟨fun h => absurd (ht.symm.trans h) (by simp), fun h => by simp [Board.segment, ht] at h⟩
  case h_2 ht =>
    rw [State.updateField_test, State.updateField_field, if_pos rfl, ht]
    exact ⟨fun h => absurd h (by simp), fun _ => rfl⟩
  case h_3 ht =>
    refine ⟨fun _ hf f hfl => ?_, fun _ => by rw [State.updateField_field, if_pos rfl]⟩
    have hs : f ≠ .status := by rintro rfl; simp [legalFields] at hfl
    rw [State.updateField_field, if_neg hs]
    refine s.sendLegal_wanted side ?_ hfl
    simp only [State.freezeMade, State.powerDown]
    by_contra hn
    simp only [Bool.not_eq_false, Bool.and_eq_true, Bool.or_eq_true, beq_iff_eq] at hn
    exact hf hn

theorem State.sendContents_board_other (s : State) (side : Side) : (s.sendContents side).board (other side) = s.board (other side) := by
  have hu (u : State) (f : FieldId) (c : Content) : (u.updateField side f c).board (other side) = u.board (other side) :=
    State.modBoard_board_other ..
  have hl : (s.sendLegal side).board (other side) = s.board (other side) := by
    unfold State.sendLegal
    split
    · rfl
    · simp only [legalFields, List.foldl_cons, List.foldl_nil, hu]
  unfold State.sendContents
  split
  · rfl
  · exact hu ..
  · rw [hu, hl]

theorem State.sendAll_sent (s : State) (side : Side) : s.sendAll.contentsSent side := by
  have ha : Acts (s.sendContents .a) s.sendAll [.displays] := Acts.sendContents (.refl _ _) .b (by decide)
  cases side with
  | a =>
    refine State.contentsSent_congr ?_ (ha.frame .positions (by decide)) (ha.frame .inputs (by decide)) (ha.frame .site (by decide))
      (ha.frame .store (by decide)) (s.sendContents_sent .a)
    rw [show s.sendAll.board .a = (s.sendContents .a).board .a from (s.sendContents .a).sendContents_board_other .b]
    exact .refl _
  | b => exact (s.sendContents .a).sendContents_sent .b

theorem State.serveLinks_sent (h : s.contentsSent side) : s.serveLinks.contentsSent side := by
  have ha : Acts s s.serveLinks [.prices, .displays] := Acts.serveLinks (.refl s _) (by decide)
  exact State.contentsSent_congr (s.serveLinks_wantsAs side) (ha.frame .positions (by decide)) (ha.frame .inputs (by decide))
    (ha.frame .site (by decide)) (ha.frame .store (by decide)) h

/-- Every event ends with the contents sent. -/
theorem State.settle_sent (n : Nat) (s : State) : (State.settle (n + 1) s).contentsSent side := by
  induction n generalizing s with
  | zero =>
    rw [State.settle]
    split
    · exact State.serveLinks_sent (State.sendAll_sent ..)
    · exact State.serveLinks_sent (State.sendAll_sent ..)
  | succ n ih =>
    rw [State.settle]
    split
    · exact State.serveLinks_sent (State.sendAll_sent ..)
    · exact ih _

theorem publish_contentsSent : (publish s u).contentsSent side ↔ u.contentsSent side := Iff.rfl

theorem State.react_sent (s : State) : s.react.contentsSent side := State.settle_sent 2 s

theorem exec_contentsSent {c : Instr} (hs : s.contentsSent side) (h : exec c s = .next t) : t.contentsSent side := by
  by_cases hp : c = .powerOn ∨ c = .coldStart
  · rcases exec_power hp h with rfl | rfl
    · exact hs
    · exact publish_contentsSent.mpr (State.react_sent _)
  · by_cases hf : c = .supplyFall
    · subst hf
      rcases exec_fall h with rfl | rfl <;> exact hs
    · rcases exec_fires ⟨hf, not_or.mp hp⟩ h with ⟨r, k, low, cut, -, rfl⟩ | ⟨-, -, rfl⟩
      · exact hs
      · exact publish_contentsSent.mpr (State.react_sent _)

/-- Settles O6: each move keeps the outputs safe, and every event ends with the contents sent. -/
theorem outputsStaySafe : Obligations.OutputsStaySafe :=
  ⟨fun _ _ hs h => step_keeps_ledger (I := fun s => ∀ side, (s.pos side).outputsSafe) (fun _ _ h => h) (fun hm h => hm.outputsSafe h)
    (fun s _ side => by rw [State.powerOnBase_pos]; exact Position.default_outputsSafe) hs h,
  fun _ _ hs h side => step_keeps (I := fun s => s.contentsSent side) (fun _ _ h => h) (fun _ _ _ hs h => exec_contentsSent hs h) (hs side) h⟩

end Sys2Proof.Machine
end

section
/-! PROOFS. The reset state (R112, R163, R184, R193). -/
namespace Sys2Proof.Machine

variable {s t u : State} {side : Side}

theorem State.reset_pos (side : Side) : State.reset.pos side = .default := by cases side <;> rfl

theorem State.reset_store : State.reset.rsc.store.contents = Contents.default 0 := rfl

theorem State.reset_routes : State.reset.miu.routes = defaultRoutes := rfl

theorem State.reset_board (side : Side) : State.reset.board side = .atReset := by cases side <;> rfl

theorem State.reset_salesLawful : State.reset.salesLawful := by
  refine ⟨fun side x hx => ?_, fun side x hx => ?_, ?_, fun a ha => (by cases ha)⟩
  · rw [State.reset_pos] at hx; cases hx
  · rw [State.reset_pos] at hx; cases hx
  · rw [State.reset_store]; exact ⟨fun x hx => (by cases hx), fun x hx => (by cases hx)⟩

theorem State.reset_routesLawful : State.reset.routesLawful :=
  ⟨fun side n => defaultRoutes_lawful side n, fun side n => defaultRoutes_lawful side n, fun a ha => (by cases ha)⟩

theorem State.reset_claimsAgree : State.reset.claimsAgree := by
  refine ⟨fun side x hx => ?_, fun m side role hm => ?_⟩
  · rw [State.reset_pos] at hx; cases hx
  · rw [show (State.reset.meter m).owner = none by show ((Vector.replicate 8 Meter.default)[m]).owner = none; simp [Meter.default]] at hm
    cases hm

theorem State.reset_contentsSent (side : Side) : State.reset.contentsSent side := by
  unfold State.contentsSent
  rw [State.reset_board, State.reset_pos]
  refine ⟨fun _ _ f hf => ?_, fun _ => by cases side <;> rfl⟩
  simp only [legalFields, List.mem_cons, List.not_mem_nil, or_false] at hf
  rcases hf with rfl | rfl | rfl <;> rfl

theorem State.reset_inOrder : State.reset.inOrder := by
  refine ⟨fun side => ?_, fun side => ?_, fun _ => ⟨rfl, rfl⟩, fun h => (by cases h)⟩
  · rw [State.reset_pos]
    exact ⟨fun _ => rfl, fun h => (by cases h), fun h => (by cases h)⟩
  · rw [State.reset_pos, State.reset_board]
    exact ⟨fun ph h => (by cases h), fun h => (by cases h)⟩

/-- Settles O2: the values of power-on, part by part. -/
theorem resetHasTheInvariants : Obligations.ResetHasTheInvariants := by
  refine ⟨State.memoryOk_reset, ?_, State.reset_salesLawful, fun side => ?_, fun side => ?_, State.reset_contentsSent,
    State.reset_routesLawful, State.reset_claimsAgree, ?_, ?_, fun h => (by cases h), fun h => (by cases h), State.reset_inOrder⟩
  · exact ⟨rfl, rfl, rfl, rfl, rfl, rfl⟩
  · rw [State.reset_pos]; exact Position.default_shaped
  · rw [State.reset_pos]; exact Position.default_outputsSafe
  · exact ⟨Nat.zero_le _, List.nodup_nil, Nat.zero_le _, Nat.zero_le _⟩
  · exact ⟨Nat.zero_le _, Nat.zero_le _⟩

end Sys2Proof.Machine
end

section
/-! PROOFS. The reader's records: its bounds, and that a quarantine neither begins nor ends but where the rules say (R128, R135, R136, R149). -/
namespace Sys2Proof.Machine

variable {s t u : State} {side : Side} {r : Riu}

/-! ## Operations of the other blocks -/

/-- Every part but the reader's. -/
def unreadParts : List Part :=
  [.queue, .lines, .memory, .parity, .lanes, .notices, .meters, .positions, .prices, .displays, .inputs, .site, .store, .free]

theorem Acts.riu_unread (h : Acts s t unreadParts) : t.riu = s.riu := h.frame .reader (by decide)

@[simp] theorem State.refuseCard_riu (s : State) (l : LaneId) (o : CardOutcome) : (s.refuseCard l o).riu = s.riu :=
  Acts.riu_unread (Acts.refuseCard (.refl s _) l o (by decide))
@[simp] theorem State.abortCard_riu (s : State) (l : LaneId) : (s.abortCard l).riu = s.riu :=
  Acts.riu_unread (Acts.abortCard (.refl s _) l (by decide))
@[simp] theorem State.storeCard_riu (s : State) (l : LaneId) : (s.storeCard l).riu = s.riu :=
  Acts.riu_unread (Acts.storeCard (.refl s _) l (by decide))
@[simp] theorem State.finishArmed_riu (s : State) (e : Armed) (results : List (Nat × Byte)) (o : CardOutcome) :
    (s.finishArmed e results o).riu = s.riu :=
  Acts.riu_unread (Acts.finishArmed (.refl s _) e results o (by decide))
@[simp] theorem State.requestStep_riu (s : State) (records : List RecordId) (who : List Requester) : (s.requestStep records who).riu = s.riu :=
  Acts.riu_unread (Acts.requestStep (.refl s _) records who (by decide))
@[simp] theorem State.dismiss_riu (s : State) (gone : Requester → Bool) : (s.dismiss gone).riu = s.riu :=
  Acts.riu_unread (Acts.dismiss (.refl s _) gone (by decide))
@[simp] theorem State.closingAt_riu (s : State) (side : Side) : (s.closingAt side).riu = s.riu :=
  Acts.riu_unread (Acts.closingAt (.refl s _) side (by decide))
@[simp] theorem State.release_riu (s : State) (side : Side) (r : CloseReason) : (s.release side r).1.riu = s.riu :=
  Acts.riu_unread (Acts.release (.refl s _) side r (by decide))
@[simp] theorem State.wakingAt_riu (s : State) (side : Side) : (s.wakingAt side).riu = s.riu :=
  Acts.riu_unread (Acts.wakingAt (.refl s _) side (by decide))
@[simp] theorem State.setSite_riu (s : State) (st : SiteState) : (s.setSite st).riu = s.riu :=
  Acts.riu_unread (Acts.setSite (.refl s _) st (by decide))
@[simp] theorem State.writeWakeResult_riu (s : State) (n : Nat) : (s.writeWakeResult n).riu = s.riu :=
  Acts.riu_unread (Acts.writeWakeResult (.refl s _) n (by decide))
@[simp] theorem State.endStage_riu (s : State) (stage : Fin 6) (code : Nat) : (s.endStage stage code).riu = s.riu :=
  Acts.riu_unread (Acts.endStage (.refl s _) stage code (by decide))
@[simp] theorem State.beginStage_riu (s : State) (stage : Nat) (timeout : Option Nat) : (s.beginStage stage timeout).riu = s.riu :=
  Acts.riu_unread (Acts.beginStage (.refl s _) stage timeout (by decide))
@[simp] theorem State.endStored_riu (s : State) (l : LaneId) (off : Nat) : (s.endStored l off).riu = s.riu :=
  Acts.riu_unread (Acts.endStored (.refl s _) l off (by decide))
@[simp] theorem State.nightReaderDone_riu (s : State) : (s.nightReaderDone).riu = s.riu :=
  Acts.riu_unread (Acts.nightReaderDone (.refl s _) (by decide))
@[simp] theorem State.reportRestored_riu (s : State) : (s.reportRestored).riu = s.riu := Acts.riu_unread (Acts.reportRestored (.refl s _) (by decide))
@[simp] theorem State.rebuildDone_riu (s : State) : (s.rebuildDone).riu = s.riu := Acts.riu_unread (Acts.rebuildDone (.refl s _) (by decide))
@[simp] theorem State.writeIdentity_riu (s : State) : (s.writeIdentity).riu = s.riu := Acts.riu_unread (Acts.writeIdentity (.refl s _) (by decide))
@[simp] theorem State.finishLoad_riu (s : State) : (s.finishLoad).riu = s.riu := Acts.riu_unread (Acts.finishLoad (.refl s _) (by decide))
@[simp] theorem State.applyPrices_riu (s : State) : (s.applyPrices).riu = s.riu := Acts.riu_unread (Acts.applyPrices (.refl s _) (by decide))
@[simp] theorem State.gate_riu (s : State) (side : Side) : (s.gate side).riu = s.riu := Acts.riu_unread (Acts.gate (.refl s _) side (by decide))
@[simp] theorem State.examinePanels_riu (s : State) : (s.examinePanels).riu = s.riu := Acts.riu_unread (Acts.examinePanels (.refl s _) (by decide))
@[simp] theorem State.sendAll_riu (s : State) : (s.sendAll).riu = s.riu := Acts.riu_unread (Acts.sendAll (.refl s _) (by decide))
@[simp] theorem State.serveLinks_riu (s : State) : (s.serveLinks).riu = s.riu := Acts.riu_unread (Acts.serveLinks (.refl s _) (by decide))
@[simp] theorem State.beginStep_riu (s : State) : (s.beginStep).1.riu = s.riu := Acts.riu_unread (Acts.beginStep (.refl s _) (by decide))
@[simp] theorem State.endStep_riu (s : State) : (s.endStep).1.riu = s.riu := Acts.riu_unread (Acts.endStep (.refl s _) (by decide))
@[simp] theorem State.beginMeterSettle_riu (s : State) : (s.beginMeterSettle).riu = s.riu :=
  Acts.riu_unread (Acts.beginMeterSettle (.refl s _) (by decide))
@[simp] theorem State.takePrices_riu (s : State) (p : Vector (Option Nat × RoundCode) 8) : (s.takePrices p).riu = s.riu :=
  Acts.riu_unread (Acts.takePrices (.refl s _) p (by decide))
@[simp] theorem State.allMembership_riu (s : State) (old : Sides (Vector HoseRoute 4)) : (s.allMembership old).riu = s.riu :=
  Acts.riu_unread (Acts.allMembership (.refl s _) old (by decide))
@[simp] theorem State.writeCheckMirrors_riu (s : State) : (s.writeCheckMirrors).riu = s.riu := Acts.riu_unread (Acts.writeCheckMirrors (.refl s _))
@[simp] theorem State.takeMeters_riu (s : State) (m : Vector MeterCounts 8) : (s.takeMeters m).riu = s.riu :=
  Acts.riu_unread (Acts.takeMeters (.refl s _) m (by decide))
@[simp] theorem State.takeUnpaid_riu (s : State) (side : Side) (l : List EndedSale) : (s.takeUnpaid side l).riu = s.riu :=
  Acts.riu_unread (Acts.takeUnpaid (.refl s _) side l (by decide))
@[simp] theorem State.stageOneFails_riu (s : State) (code : Nat) : (s.stageOneFails code).riu = s.riu :=
  Acts.riu_unread (Acts.stageOneFails (.refl s _) code (by decide))
@[simp] theorem State.displayTimeout_riu (s : State) : (s.displayTimeout).riu = s.riu := Acts.riu_unread (Acts.displayTimeout (.refl s _) (by decide))
@[simp] theorem State.powerDownAt_riu (s : State) (side : Side) : (s.powerDownAt side).riu = s.riu :=
  Acts.riu_unread (Acts.powerDownAt (.refl s _) side (by decide))
@[simp] theorem State.dropCards_riu (s : State) : (s.dropCards).riu = s.riu := Acts.riu_unread (Acts.dropCards (.refl s _) (by decide))
@[simp] theorem State.emptyQueue_riu (s : State) : (s.emptyQueue).riu = s.riu := Acts.riu_unread (Acts.emptyQueue (.refl s _) (by decide))
@[simp] theorem State.quarantineAt_riu (s : State) (side : Side) : (s.quarantineAt side).riu = s.riu :=
  Acts.riu_unread (Acts.quarantineAt (.refl s _) side (by decide))
@[simp] theorem State.withdrawClosing_riu (s : State) (detail : Nat) : (s.withdrawClosing detail).riu = s.riu :=
  Acts.riu_unread (Acts.withdrawClosing (.refl s _) detail (by decide))
@[simp] theorem State.enterWaking_riu (s : State) (origin : WakeOrigin) : (s.enterWaking origin).riu = s.riu :=
  Acts.riu_unread (Acts.enterWaking (.refl s _) origin (by decide))

/-! ## The commands of cards -/

/-- The kind of card that a command has its owner decide. -/
def cardKind : Instr → Option Kind
  | .authorize => some .authorize
  | .cancel => some .cancel
  | .stop => some .stop
  | .resume => some .resume
  | .closeSale => some .closeSale
  | .readSale => some .readSale
  | .closePosition => some .closePosition
  | .openPosition => some .openPosition
  | .configurePosition => some .configurePosition
  | .configureMeter => some .configureMeter
  | .configureHose => some .configureHose
  | .setRouting => some .setRouting
  | .clearMeterFault => some .clearMeterFault
  | .readMeters => some .readMeters
  | .setPricing => some .setPricing
  | .clearSiteFlags => some .clearSiteFlags
  | .loadPrice => some .loadPrice
  | .setDisplayPolicy => some .setDisplayPolicy
  | .setWatch => some .setWatch
  | .setRelayFloor => some .setRelayFloor
  | .setSchedule => some .setSchedule
  | .setClock => some .setClock
  | .nightNow => some .nightNow
  | .wakeNow => some .wakeNow
  | .readTotals => some .readTotals
  | .rebuildStore => some .rebuildStore
  | .readerOn => some .readerOn
  | .readerOff => some .readerOff
  | .openLink => some .openLink
  | .closeLink => some .closeLink
  | .send => some .send
  | .armReceive => some .armReceive
  | .disarmReceive => some .disarmReceive
  | .releaseQuarantine => some .releaseQuarantine
  | _ => none

theorem cardKind_some {c : Instr} {k : Kind} (h : cardKind c = some k) : c = k.command := by
  cases c <;> cases h <;> rfl

/-! ## What the reader's operations keep -/

/-- A quarantine neither begins nor ends, and the bounds are kept. -/
structure Riu.Runs (r q : Riu) : Prop where
  quarantine : q.domain = .quarantine ↔ r.domain = .quarantine
  bounded : r.bounded → q.bounded

namespace Riu.Runs

theorem refl (r : Riu) : Riu.Runs r r := ⟨.rfl, id⟩

theorem trans {p q r : Riu} (h : Riu.Runs p q) (k : Riu.Runs q r) : Riu.Runs p r := ⟨k.quarantine.trans h.quarantine, k.bounded ∘ h.bounded⟩

theorem of_eq (h : Riu.Runs r s.riu) (e : t.riu = s.riu) : Riu.Runs r t.riu := e ▸ h

theorem acts (h : Riu.Runs r s.riu) (ha : Acts s t unreadParts) : Riu.Runs r t.riu := h.of_eq ha.riu_unread

/-- The domain stands, and lists and counters stay in their bounds. -/
theorem modRiu (h : Riu.Runs r s.riu) {f : Riu → Riu} (hd : (f s.riu).domain = s.riu.domain) (hb : s.riu.bounded → (f s.riu).bounded) :
    Riu.Runs r (s.modRiu f).riu :=
  h.trans ⟨by rw [State.modRiu_riu, hd], hb⟩

/-- The domain changes outside a quarantine. -/
theorem setDomain (h : Riu.Runs r s.riu) {d : Domain} (hs : s.riu.domain ≠ .quarantine) (hd : d ≠ .quarantine) :
    Riu.Runs r (s.setDomain d).riu :=
  h.trans ⟨⟨fun e => absurd e hd, fun e => absurd e hs⟩, id⟩

theorem shutGate (h : Riu.Runs r s.riu) : Riu.Runs r s.shutGate.riu :=
  h.modRiu rfl fun ⟨h1, h2, _, h4⟩ => ⟨h1, h2, Nat.zero_le _, h4⟩

theorem finishSend (h : Riu.Runs r s.riu) (x : Send) (o : CardOutcome) : Riu.Runs r (s.finishSend x o).riu :=
  of_eq (h.modRiu (f := fun r => { r with send := none }) rfl id) (State.endWaiting_riu ..)

theorem cutSend (h : Riu.Runs r s.riu) : Riu.Runs r s.cutSend.riu := by
  unfold State.cutSend
  split
  · exact h.finishSend _ _
  · exact h

theorem withdrawArmed (h : Riu.Runs r s.riu) : Riu.Runs r s.withdrawArmed.riu := by
  have h1 : Riu.Runs r (s.modRiu fun r => { r with armed := [] }).riu := h.modRiu rfl fun ⟨_, _, h3, h4⟩ => ⟨Nat.zero_le _, List.nodup_nil, h3, h4⟩
  exact h1.acts (Acts.foldl (fun _ e hs => hs.finishArmed e [] .withdrawn (by decide)) (.refl _ _) _)

theorem closeReaderLink (h : Riu.Runs r s.riu) (hs : s.riu.domain ≠ .quarantine) : Riu.Runs r s.closeReaderLink.riu :=
  withdrawArmed (cutSend (shutGate (h.setDomain hs (by decide))))

theorem openReaderLink (h : Riu.Runs r s.riu) (hs : s.riu.domain ≠ .quarantine) : Riu.Runs r s.openReaderLink.riu :=
  (h.setDomain (d := .opened) hs (by decide)).modRiu rfl fun ⟨h1, h2, _, _⟩ => ⟨h1, h2, Nat.zero_le _, Nat.zero_le _⟩

theorem of_quarantine (h : Riu.Runs s.riu t.riu) (hs : s.riu.domain ≠ .quarantine) : t.riu.domain ≠ .quarantine := fun e => hs (h.quarantine.mp e)

theorem readerToOff (h : Riu.Runs r s.riu) : Riu.Runs r s.readerToOff.riu := by
  unfold State.readerToOff
  split
  case h_1 hd =>
    have hs : s.riu.domain ≠ .quarantine := by rw [hd]; decide
    exact (h.closeReaderLink hs).setDomain (of_quarantine ((refl s.riu).closeReaderLink hs) hs) (by decide)
  case h_2 hd =>
    have hs : s.riu.domain ≠ .quarantine := by rw [hd]; decide
    exact h.withdrawArmed.setDomain (of_quarantine (refl s.riu).withdrawArmed hs) (by decide)
  case h_3 hd => exact h.setDomain (by rw [hd]; decide) (by decide)
  case h_4 | h_5 => exact h

theorem readerDown (h : Riu.Runs r s.riu) : Riu.Runs r s.readerDown.riu := by
  unfold State.readerDown
  dsimp only
  rw [State.requestStep_riu, State.modRsc_riu, State.endWaiting_riu]
  exact h.readerToOff

theorem examinePositions (h : Riu.Runs r s.riu) : Riu.Runs r s.examinePositions.riu := by
  unfold State.examinePositions
  split
  · exact readerDown h
  · exact h

theorem enterClosing (h : Riu.Runs r s.riu) (o : ClosingOrigin) : Riu.Runs r (s.enterClosing o).riu := by
  unfold State.enterClosing
  exact examinePositions (by simpa using h)

theorem enterNight (h : Riu.Runs r s.riu) : Riu.Runs r s.enterNight.riu := by
  unfold State.enterNight
  split
  · dsimp only
    rw [State.raise_riu, State.endWaiting_riu, State.modSsu_riu, State.setSite_riu, State.endWaiting_riu]
    exact h.readerToOff
  · exact h

theorem undoNight (h : Riu.Runs r s.riu) : Riu.Runs r s.undoNight.riu := by
  unfold State.undoNight
  split
  · simpa using h
  · exact h

theorem undoReaderOn (h : Riu.Runs r s.riu) : Riu.Runs r s.undoReaderOn.riu := by
  unfold State.undoReaderOn
  split
  · rename_i hd
    exact h.setDomain (by rw [hd]; decide) (by decide)
  · exact h

theorem undoSend (h : Riu.Runs r s.riu) : Riu.Runs r s.undoSend.riu := by
  unfold State.undoSend
  split
  · exact h
  · exact h.modRiu rfl id

/-! ## The site's operations (R152, R160 to R169, R180, R184) -/

theorem positionsReady (h : Riu.Runs r s.riu) : Riu.Runs r s.positionsReady.riu := by
  unfold State.positionsReady
  dsimp only
  split
  · rw [State.endWaiting_riu, State.writeWakeResult_riu]
    exact enterClosing (by simpa using h) _
  · simpa [State.endWaiting_riu] using h

theorem resumeEnds (h : Riu.Runs r s.riu) (code : Nat) : Riu.Runs r (s.resumeEnds code).riu :=
  positionsReady (by rw [State.endStage_riu]; exact h.modRiu rfl id)

theorem reportResume (h : Riu.Runs r s.riu) (code : Nat) : Riu.Runs r (s.reportResume code).riu := by
  unfold State.reportResume
  split
  · exact h.resumeEnds code
  · exact h

theorem beginResume (h : Riu.Runs r s.riu) : Riu.Runs r s.beginResume.1.riu := by
  unfold State.beginResume
  split
  · exact h
  · split
    · exact h
    · split
      case h_1 hd => exact (h.setDomain (by rw [hd]; decide) (by decide)).modRiu rfl id
      case h_2 => exact h.modRiu rfl id
      case h_3 hd => exact h.openReaderLink (by rw [hd]; decide)
      case h_4 => exact h

theorem beginReaderResume (h : Riu.Runs r s.riu) : Riu.Runs r s.beginReaderResume.riu := by
  have h1 : Riu.Runs r (s.beginStage 5 (some 5000)).beginResume.1.riu := beginResume (by simpa using h)
  unfold State.beginReaderResume
  dsimp only
  split
  · exact h1.resumeEnds _
  · exact h1

theorem checkFloor (h : Riu.Runs r s.riu) (n : Nat) : Riu.Runs r (s.checkFloor n).riu := by
  unfold State.checkFloor
  refine modRiu ?_ rfl id
  split
  · exact h
  · exact h.withdrawArmed

theorem takeContents (h : Riu.Runs r s.riu) (c : Contents) (keep : List RecordId) : Riu.Runs r (s.takeContents c keep).riu := by
  have opt {u t : State} (b : Bool) (hu : Riu.Runs r u.riu) (ht : Riu.Runs r t.riu) : Riu.Runs r (if b then u else t).riu := by
    cases b
    · exact ht
    · exact hu
  unfold State.takeContents
  extract_lets old s1 s2 s3 s4 s5 s6 s7
  have h1 : Riu.Runs r s1.riu := opt _ h (checkFloor (by simpa using h) _)
  have h2 : Riu.Runs r s2.riu := opt _ h1 (h1.of_eq (State.takePrices_riu ..))
  have h3 : Riu.Runs r s3.riu := opt _ h2 h2
  have h4 : Riu.Runs r s4.riu := opt _ h3 (h3.of_eq (State.takeMeters_riu ..))
  have h5 : Riu.Runs r s5.riu := opt _ h4 (h4.of_eq (State.takeUnpaid_riu ..))
  have h6 : Riu.Runs r s6.riu := opt _ h5 (h5.of_eq (State.takeUnpaid_riu ..))
  have h7 : Riu.Runs r s7.riu := opt _ h6 h6
  rw [State.writeCheckMirrors_riu, State.allMembership_riu]
  exact h7

theorem checkPassed (h : Riu.Runs r s.riu) : Riu.Runs r s.checkPassed.riu := by
  unfold State.checkPassed
  extract_lets st cold keep s1 s2
  have h1 : Riu.Runs r s1.riu := by
    show Riu.Runs r (((s.takeContents st.contents keep).writeWhole .riu).touch .ssu 1).riu
    rw [State.touch_riu, State.writeWhole_riu]
    exact h.takeContents st.contents keep
  clear_value s1 st cold
  have h2 : Riu.Runs r s2.riu := h1
  clear_value s2
  split
  · simpa using h2
  · simpa using h2

theorem checkFails (h : Riu.Runs r s.riu) (n : Nat) : Riu.Runs r (s.checkFails n).riu := by
  unfold State.checkFails
  rw [State.raise_riu, State.modRsc_riu]
  exact h.takeContents _ _

theorem storeCheckTimeout (h : Riu.Runs r s.riu) : Riu.Runs r s.storeCheckTimeout.riu := by
  unfold State.storeCheckTimeout
  dsimp only
  rw [State.stageOneFails_riu]
  refine checkFails ?_ _
  rw [State.dismiss_riu, State.modRsc_riu]
  split <;> exact h

theorem storeCheckEnds (h : Riu.Runs r s.riu) : Riu.Runs r s.storeCheckEnds.riu := by
  unfold State.storeCheckEnds
  split
  · exact h.checkPassed
  · rw [State.stageOneFails_riu]
    exact h.checkFails _

theorem stageTimeout (h : Riu.Runs r s.riu) : Riu.Runs r s.stageTimeout.riu := by
  unfold State.stageTimeout
  split
  · exact h.storeCheckTimeout
  · simpa using h
  · simpa using h
  · exact h.resumeEnds 2
  · exact h

theorem countClock (h : Riu.Runs r s.riu) : Riu.Runs r s.countClock.riu := by
  have closing {u : State} (hu : Riu.Runs r u.riu) : Riu.Runs r u.closingReached.riu := by
    unfold State.closingReached
    split
    · exact hu.enterClosing _
    all_goals exact hu
  have opening {u : State} (hu : Riu.Runs r u.riu) : Riu.Runs r u.openingReached.riu := by
    unfold State.openingReached
    split <;> simpa using hu
  unfold State.countClock
  dsimp only
  (repeat' split)
  · exact h
  · exact h
  · exact closing h
  · exact opening h
  · exact h

theorem riuPowerDown (h : Riu.Runs r s.riu) : Riu.Runs r s.riuPowerDown.riu := by
  refine h.trans ⟨?_, fun ⟨_, _, _, _⟩ => ⟨Nat.zero_le _, List.nodup_nil, Nat.zero_le _, Nat.zero_le _⟩⟩
  show (if s.riu.domain = .quarantine then Domain.quarantine else .off) = _ ↔ _
  split <;> simp_all

theorem warnSupply (h : Riu.Runs r s.riu) : Riu.Runs r s.warnSupply.riu := by
  unfold State.warnSupply
  dsimp only
  rw [State.raise_riu, State.modRsc_riu, State.emptyQueue_riu, State.dropCards_riu, State.modBoard_riu, State.modBoard_riu,
    State.modSsu_riu, State.setSite_riu, State.powerDownAt_riu, State.powerDownAt_riu]
  exact h.riuPowerDown

/-! ## The end of an event -/

theorem answer (h : Riu.Runs r s.riu) (q : Requester) : Riu.Runs r (s.answer q).riu := by
  cases q with
  | nightMeters => exact h.enterNight
  | freeze side => cases side <;> exact h
  | _ => simpa [State.answer] using h

theorem answerAll (h : Riu.Runs r s.riu) (qs : List Requester) : Riu.Runs r (s.answerAll qs).riu := by
  unfold State.answerAll
  induction qs generalizing s with
  | nil => exact h
  | cons q qs ih => exact ih (h.answer q)

theorem runStore (h : Riu.Runs r s.riu) (n : Nat) : Riu.Runs r (State.runStore n s).riu := by
  induction n generalizing s with
  | zero => exact h
  | succ n ih =>
    unfold State.runStore
    split
    · exact ih (answerAll (by simpa using h) _)
    · exact h

theorem examine (h : Riu.Runs r s.riu) : Riu.Runs r s.examine.riu := by
  unfold State.examine
  dsimp only
  rw [State.sendAll_riu, State.finishLoad_riu]
  exact runStore (examinePositions (by simpa using h)) _

theorem react (h : Riu.Runs r s.riu) : Riu.Runs r s.react.riu := by
  suffices ∀ n (s : State), Riu.Runs r s.riu → Riu.Runs r (State.settle n s).riu from this _ _ h
  intro n
  induction n with
  | zero => exact fun _ h => h
  | succ n ih =>
    intro s h
    have h1 : Riu.Runs r s.examine.serveLinks.riu := by rw [State.serveLinks_riu]; exact h.examine
    unfold State.settle
    dsimp only
    split
    · exact h1
    · exact ih _ h1

/-! ## Frames, Sends, cards (R134 to R147) -/

theorem judgeFrame (h : Riu.Runs r s.riu) (hd : s.riu.domain = .opened) (next : Receiver) (good : Option (Byte × List Byte)) :
    Riu.Runs r (s.judgeFrame next good).riu := by
  have h1 : Riu.Runs r (s.modRiu fun r => { r with receiver := next }).riu := h.modRiu rfl id
  have hs : (s.modRiu fun r => { r with receiver := next }).riu.domain ≠ .quarantine := by rw [State.modRiu_riu, hd]; decide
  unfold State.judgeFrame
  dsimp only
  generalize (s.modRiu fun r => { r with receiver := next }) = u at h1 hs ⊢
  split
  · exact h1
  · rename_i hl
    have hl : u.riu.answers.length + 1 ≤ 4 := Nat.lt_of_not_le hl
    split
    · unfold State.goodFrame
      split
      · rename_i e rest he
        refine acts (s := u.modRiu fun r => { r with armed := rest, badRun := 0, answers := r.answers ++ [.accept] }) (h1.modRiu rfl ?_)
          (Acts.finishArmed (Acts.writeBytes (.refl _ _) _ _ (by decide)) e _ _ (by decide))
        rintro ⟨b1, b2, -, -⟩
        rw [he] at b1 b2
        exact ⟨Nat.le_of_succ_le b1, (List.nodup_cons.mp b2).2, by simpa using hl, Nat.zero_le _⟩
      · rw [State.raise_riu]
        exact h1.modRiu rfl fun ⟨b1, b2, _, _⟩ => ⟨b1, b2, by simpa using hl, Nat.zero_le _⟩
    · unfold State.badFrame
      split
      · rw [State.raise_riu]
        exact (h1.closeReaderLink hs).modRiu rfl fun ⟨b1, b2, b3, _⟩ => ⟨b1, b2, b3, Nat.zero_le _⟩
      · rename_i hb
        exact h1.modRiu rfl fun ⟨b1, b2, _, _⟩ => ⟨b1, b2, by simpa using hl, Nat.le_of_lt_succ (Nat.lt_of_not_le hb)⟩

theorem attemptUsed (h : Riu.Runs r s.riu) (x : Send) (a : Option AnswerByte) : Riu.Runs r (s.attemptUsed x a).riu := by
  unfold State.attemptUsed
  dsimp only
  split
  · exact h.modRiu rfl id
  · exact h.finishSend _ _

theorem sendAnswered (h : Riu.Runs r s.riu) (x : Send) (a : AnswerByte) : Riu.Runs r (s.sendAnswered x a).riu := by
  unfold State.sendAnswered
  split
  · exact h.finishSend _ _
  · exact h.attemptUsed _ _
  · split
    · exact h.modRiu rfl id
    · exact h.finishSend _ _

theorem waitCard (h : Riu.Runs r s.riu) (n : LaneId) {f : State → State} (hf : ∀ u : State, Riu.Runs r u.riu → Riu.Runs r (f u).riu) :
    Riu.Runs r (s.waitCard n f).riu := by
  unfold State.waitCard
  split
  · exact hf _ (by simpa using h)
  · exact h.acts (Acts.modLane (.refl s _) n _ (by decide))

theorem follow_riu (x : State × Bool) (n : LaneId) : (State.follow x n).riu = x.1.riu :=
  Acts.riu_unread (Acts.follow (.refl x.1 _) n (by decide))

theorem moveOn_riu (s : State) (n : LaneId) (off : Nat) (k : LinkRead) : (s.moveOn n off k).1.riu = s.riu :=
  Acts.riu_unread (Acts.moveOn (.refl s _) n off k (by decide))

theorem decideArm (h : Riu.Runs r s.riu) (off : Nat) (c : Card) : Riu.Runs r (decideArmReceive off c s).riu := by
  unfold decideArmReceive
  split
  · rwa [State.refuseCard_riu]
  · rename_i b _
    split
    · rwa [State.refuseCard_riu]
    · split
      · rwa [State.refuseCard_riu]
      · rename_i ha
        have hl : s.riu.armed.length < 8 ∧ ∀ e ∈ s.riu.armed, e.buffer ≠ b := by
          unfold State.armRefusal at ha
          (repeat' split at ha) <;> cases ha
          rename_i hl hn
          exact ⟨Nat.lt_of_not_le hl, by simpa using hn⟩
        unfold State.armCard
        dsimp only
        rw [follow_riu, moveOn_riu, State.modLane_riu]
        refine h.modRiu rfl fun ⟨_, b2, b3, b4⟩ => ⟨?_, ?_, b3, b4⟩
        · simpa using hl.1
        · rw [List.map_append, List.nodup_append]
          refine ⟨b2, by simp, fun x hx y hy => ?_⟩
          obtain ⟨e, he, rfl⟩ := List.mem_map.mp hx
          simp only [List.map_cons, List.map_nil, List.mem_singleton] at hy
          exact hy ▸ hl.2 e he

theorem decideDisarm (h : Riu.Runs r s.riu) (off : Nat) (c : Card) : Riu.Runs r (decideDisarmReceive off c s).riu := by
  unfold decideDisarmReceive
  split
  · rwa [State.refuseCard_riu]
  · rename_i b _
    split
    · rwa [State.refuseCard_riu]
    · rw [State.finishCard_riu, State.touch_riu, State.finishArmed_riu]
      refine h.modRiu rfl fun ⟨b1, b2, b3, b4⟩ => ⟨(List.length_filter_le ..).trans b1, ?_, b3, b4⟩
      exact b2.sublist (List.Sublist.map _ List.filter_sublist)

/-- The reader's cards, RELEASE QUARANTINE apart. -/
theorem readerDecision (h : Riu.Runs r s.riu) {k : Kind} (hk : k.lane = .reader) (hr : k ≠ .releaseQuarantine) (off : Nat) (c : Card) :
    Riu.Runs r (k.decision off c s).riu := by
  cases k <;> simp only [Kind.lane, reduceCtorEq, ne_eq, not_true] at hk hr <;> simp only [Kind.decision]
  case send =>
    unfold decideSend
    (repeat' split) <;> (try simp only [State.refuseCard_riu]) <;> try exact h
    exact waitCard (h.modRiu rfl id) _ fun _ hu => hu.undoSend
  case armReceive => exact h.decideArm off c
  case disarmReceive => exact h.decideDisarm off c
  case readerOn =>
    unfold decideReaderOn
    (repeat' split) <;> (try simp only [State.refuseCard_riu, State.finishCard_riu]) <;> try exact h
    · rename_i hd
      exact waitCard (h.setDomain (by rw [hd]; decide) (by decide)) _ fun _ hu => hu.undoReaderOn
    · exact waitCard h _ fun _ hu => hu.undoReaderOn
  case openLink =>
    unfold decideOpenLink
    (repeat' split) <;> simp only [State.refuseCard_riu, State.finishCard_riu] <;> try exact h
    rename_i hd
    exact h.openReaderLink (by rw [hd]; decide)
  case closeLink =>
    unfold decideCloseLink
    split <;> simp only [State.refuseCard_riu, State.finishCard_riu] <;> try exact h
    rename_i hd
    exact h.closeReaderLink (by rw [hd]; decide)
  case readerOff =>
    unfold decideReaderOff
    split <;> (try simp only [State.refuseCard_riu, State.finishCard_riu]) <;> try exact h
    all_goals exact reportResume (by rw [State.finishCard_riu]; exact h.readerToOff) 2

/-- The owner's decision of every card but RELEASE QUARANTINE. -/
theorem decision (h : Riu.Runs r s.riu) {k : Kind} (hr : k ≠ .releaseQuarantine) (off : Nat) (c : Card) : Riu.Runs r (k.decision off c s).riu := by
  cases k
  case authorize => exact h.acts (Acts.decideAuthorize (.refl s _) off c (by decide))
  case cancel => exact h.acts (Acts.decideCancel (.refl s _) off c (by decide))
  case stop => exact h.acts (Acts.decideStop (.refl s _) off c (by decide))
  case resume => exact h.acts (Acts.decideResume (.refl s _) off c (by decide))
  case closeSale => exact h.acts (Acts.decideCloseSale (.refl s _) off c (by decide))
  case readSale => exact h.acts (Acts.decideReadSale (.refl s _) off c (by decide))
  case closePosition => exact h.acts (Acts.decideClosePosition (.refl s _) off c (by decide))
  case openPosition => exact h.acts (Acts.decideOpenPosition (.refl s _) off c (by decide))
  case configureMeter => exact h.acts (Acts.decideConfigureMeter (.refl s _) off c (by decide))
  case configureHose => exact h.acts (Acts.decideConfigureHose (.refl s _) off c (by decide))
  case setRouting => exact h.acts (Acts.decideSetRouting (.refl s _) off c (by decide))
  case clearMeterFault => exact h.acts (Acts.decideClearMeterFault (.refl s _) off c (by decide))
  case readMeters => exact h.acts (Acts.decideReadMeters (.refl s _) off c (by decide))
  case setPricing => exact h.acts (Acts.decideSetPricing (.refl s _) off c (by decide))
  case clearSiteFlags => exact h.acts (Acts.decideClearSiteFlags (.refl s _) off c (by decide))
  case configurePosition => exact h.acts (Acts.decideConfigurePosition (.refl s _) off c (by decide))
  case loadPrice => exact h.acts (Acts.decideLoadPrice (.refl s _) off c (by decide))
  case setDisplayPolicy => exact h.acts (Acts.decideSetDisplayPolicy (.refl s _) off c (by decide))
  case setWatch => exact h.acts (Acts.decideSetWatch (.refl s _) off c (by decide))
  case setSchedule => exact h.acts (Acts.decideSetSchedule (.refl s _) off c (by decide))
  case setClock => exact h.acts (Acts.decideSetClock (.refl s _) off c (by decide))
  case readTotals => exact h.acts (Acts.decideReadTotals (.refl s _) off c (by decide))
  case rebuildStore => exact h.acts (Acts.decideRebuildStore (.refl s _) off c (by decide))
  case setRelayFloor =>
    show Riu.Runs r (decideSetRelayFloor off c s).riu
    unfold decideSetRelayFloor
    (repeat' split) <;> (try simp only [State.refuseCard_riu]) <;> try exact h
    exact acts (s := s.modRiu fun r => { r with floor := c.h 0 }) (h.modRiu rfl id)
      (Acts.finishOnConfig (Acts.writeWhole (.refl _ _) .riu) .site off (by decide))
  case nightNow =>
    show Riu.Runs r (decideNightNow off c s).riu
    unfold decideNightNow
    split <;> (try simp only [State.refuseCard_riu, State.finishCard_riu]) <;> try exact h
    · exact waitCard (h.enterClosing _) _ fun _ hu => hu.undoNight
    · exact waitCard h _ fun _ hu => hu.undoNight
  case wakeNow =>
    have hw : Riu.Runs r (s.waitCard .site id).riu := waitCard h _ fun _ hu => hu
    show Riu.Runs r (decideWakeNow off c s).riu
    unfold decideWakeNow
    (repeat' split) <;> (try simp only [State.refuseCard_riu, State.finishCard_riu, State.withdrawClosing_riu, State.enterWaking_riu]) <;>
      first | exact h | exact hw
  all_goals exact h.readerDecision rfl hr off c

theorem abortLane (h : Riu.Runs r s.riu) (n : LaneId) : Riu.Runs r (s.abortLane n).riu := by
  have undo {u : State} (hu : Riu.Runs r u.riu) (k : Kind) : Riu.Runs r (k.undo u).riu := by
    cases k
    case nightNow => exact hu.undoNight
    case send => exact hu.undoSend
    case readerOn => exact hu.undoReaderOn
    case loadPrice => exact hu.acts (Acts.undoLoad (.refl u _) (by decide))
    all_goals exact hu
  unfold State.abortLane
  (repeat' split)
  · exact h
  · exact h
  · exact h.acts (Acts.modLane (.refl s _) n _ (by decide))
  · exact h.acts (Acts.raiseLane (Acts.modLane (.refl s _) n _ (by decide)) n _ _ (by decide))
  · exact undo (by simpa using h) _
  · exact h

/-- What every command's own effect leaves of the reader's records, RELEASE QUARANTINE and a loop that departs apart. -/
theorem effect (c : Instr) (hc : firesOn s c = true) (hr : c ≠ .releaseQuarantine) (hl : ∀ l, c ≠ .loopDeparted l) :
    Riu.Runs s.riu (effectOf s c).riu := by
  have h : Riu.Runs s.riu s.riu := .refl _
  cases hk : cardKind c with
  | some k =>
    obtain rfl := cardKind_some hk
    have hr : k ≠ .releaseQuarantine := by rintro rfl; exact hr rfl
    rw [effectOf_command]
    unfold State.withCard
    split
    · split
      · exact h.decision hr _ _
      · exact h
    · exact h
  | none =>
    cases c
    case loopDeparted l => exact absurd rfl (hl l)
    case recognitionInstant m a b => exact h.acts (Acts.recognition (.refl s _) m a b (by decide))
    case oneSecondPeriod => exact h.acts (Acts.endSecond (.refl s _) (by decide))
    case nozzleLift side n =>
      show Riu.Runs _ (if ((s.setNozzle side n true).route side n).fitted then (s.setNozzle side n true).lift side n
        else s.setNozzle side n true).riu
      split
      · exact acts (s := s.setNozzle side n true) h (Acts.lift (.refl _ _) side n (by decide))
      · exact h
    case nozzleHang side n =>
      show Riu.Runs _ (if ((s.setNozzle side n false).route side n).fitted && !((s.iwu.nozzles.get side)[n] == none)
        then (s.setNozzle side n false).hang side n else s.setNozzle side n false).riu
      split
      · exact acts (s := s.setNozzle side n false) h (Acts.hang (.refl _ _) side n (by decide))
      · exact h
    case motorSettleExpiry side => exact h.acts (Acts.openValves (.refl s _) side (by decide))
    case satelliteNozzleLift side => exact acts (s := s.setSatellite side true) h (Acts.requestSatellite (.refl _ _) side (by decide))
    case emergencyStopAssertion =>
      exact acts (s := s.modIwu fun u => { u with emergency := some true }) h
        (Acts.raise (Acts.emergencyAt (Acts.emergencyAt (.refl _ _) .a (by decide)) .b (by decide)) _ _ (by decide))
    case emergencyStopRelease =>
      show Riu.Runs _ (if s.iwu.emergency == none then _ else _ : State).riu
      split <;> exact h
    case loopReturned n =>
      show Riu.Runs _ (if s.iwu.loop n == none then _ else _ : State).riu
      split <;> exact h
    case sealChange isOpen =>
      show Riu.Runs _ (if reports s.iwu.calSeal isOpen then _ else _ : State).riu
      split <;> exact h
    case doorChange d isOpen =>
      show Riu.Runs _ (if reports (s.iwu.door d) isOpen then _ else _ : State).riu
      split <;> exact h
    case generalInputChange which levels => exact h.acts (Acts.judgeGeneral (.refl s _) which levels (by decide))
    case settleWindowExpiry side => exact h.acts (Acts.completeEnding (.refl s _) side (by decide))
    case flowTimerExpiry side => exact h.acts (Acts.endSale (.refl s _) side .noFlow (by decide))
    case authTimerExpiry side =>
      exact h.acts (t := (s.arriveOpen side).raisePos side .authTimeout 0)
        (Acts.raisePos (Acts.arriveOpen (.refl s _) side (by decide)) side _ _ (by decide))
    case litFrame board f => exact h.acts (Acts.takeLit (.refl s _) board f (by decide))
    case answerTimeout board => exact h.acts (Acts.attemptEnds (.refl s _) board false (by decide))
    case refreshInstant board => exact h.acts (Acts.refreshBoard (.refl s _) board (by decide))
    case settleTimerExpiry =>
      have hd : s.riu.domain = .powering := by
        change (s.riu.domain == .powering && s.riu.settleTimer.isSome) = true at hc
        rw [Bool.and_eq_true, beq_iff_eq] at hc
        exact hc.1
      have h1 : Riu.Runs s.riu ((s.setDomain .gated).endWaiting .readerOn [] .ok).riu := by
        rw [State.endWaiting_riu]
        exact h.setDomain (by rw [hd]; decide) (by decide)
      show Riu.Runs _ (if ((s.setDomain .gated).endWaiting .readerOn [] .ok).riu.resuming
        then ((s.setDomain .gated).endWaiting .readerOn [] .ok).openReaderLink.resumeEnds 1
        else (s.setDomain .gated).endWaiting .readerOn [] .ok).riu
      split
      · exact (h1.openReaderLink (h1.of_quarantine (by rw [hd]; decide))).resumeEnds 1
      · exact h1
    case inboundFrameStart => exact h.modRiu (f := fun r => { r with receiver := .inside }) rfl id
    case lineSilence => exact h.modRiu (f := fun r => { r with receiver := .outside }) rfl id
    case inboundFrame f =>
      change (s.riu.domain == .opened && s.riu.receiver == .inside && f.wellFormed) = true at hc
      simp only [Bool.and_eq_true, beq_iff_eq] at hc
      exact h.judgeFrame hc.1.1 _ _
    case inboundFrameTimeout =>
      change (s.riu.domain == .opened && s.riu.receiver == .inside) = true at hc
      simp only [Bool.and_eq_true, beq_iff_eq] at hc
      exact h.judgeFrame hc.1 _ _
    case answerByteSent =>
      refine h.modRiu (f := fun r => { r with answers := r.answers.tail }) rfl fun ⟨b1, b2, b3, b4⟩ => ⟨b1, b2, ?_, b4⟩
      exact (by rw [List.length_tail]; omega)
    case sendFrameEnd =>
      show Riu.Runs _ (if s.riu.orphan then s.modRiu fun r => { r with orphan := false }
        else s.modRiu fun r => { r with send := r.send.map fun x => { x with phase := .awaiting } }).riu
      split <;> exact h.modRiu rfl id
    case readerAnswer a =>
      show Riu.Runs _ (match s.riu.send with | some x => s.sendAnswered x a | none => s).riu
      split
      · exact h.sendAnswered _ a
      · exact h
    case sendAnswerExpiry =>
      show Riu.Runs _ (match s.riu.send with | some x => s.attemptUsed x x.last | none => s).riu
      split
      · exact h.attemptUsed _ _
      · exact h
    case holdDelayExpiry => exact h.modRiu (f := fun r => { r with send := r.send.map fun x => { x with phase := .sending } }) rfl id
    case clockCount => exact h.countClock
    case stageTimerExpiry => exact h.stageTimeout
    case meterSettleExpiry => exact beginReaderResume (by simpa using h)
    case supplyWarning =>
      show Riu.Runs _ (if (s.modRsc fun r => { r with supplyWarn := some true }).powerDown then _ else _ : State).riu
      split
      · exact h
      · exact warnSupply (by exact h)
    case freezeWindowExpiry => exact h.acts (Acts.freezeAll (.refl s _) (by decide))
    case storeCheckEnd => exact h.storeCheckEnds
    case storeStepCompletion =>
      exact answerAll (by simpa using h) _
    case batteryLoss => exact h.acts (Acts.loseBattery (.refl s _) (by decide))
    case hostReset =>
      have hb (q : Riu) : q.bounded → Riu.bounded { q with armed := [] } := fun ⟨_, _, b3, b4⟩ => ⟨Nat.zero_le _, List.nodup_nil, b3, b4⟩
      have h1 : Riu.Runs s.riu ((((s.modLane .dispense Lane.hostReset).modLane .site Lane.hostReset).modLane .reader Lane.hostReset).undoSend.modRiu
        fun r => { r with armed := [] }).riu := modRiu (undoSend (by exact h)) rfl (hb _)
      show Riu.Runs _ (State.dismiss _ Requester.ofHost).riu
      rw [State.dismiss_riu]
      exact h1
    case goStart n value => exact h.acts (Acts.startLane (.refl s _) n _ (by decide))
    case goAbort n value => exact h.abortLane n
    case noticeRead =>
      show Riu.Runs _ (match s.ntc.presented, s.ntc.lowest with | none, some i => s.present i | _, _ => s).riu
      split
      · exact of_eq h (State.writeBytes_riu ..)
      · exact h
    case hostWrite offset value =>
      show Riu.Runs _ (if halfOffset offset.toNat < Config.poolBase then _ else _ : State).riu
      split
      · exact h
      · exact h.acts (Acts.writeHalf (.refl s _) _ _ (by decide))
    case hostParity offset =>
      refine of_eq h ?_
      show (s.failParity offset.toNat).riu = _
      unfold State.failParity
      split <;> rfl
    case satelliteNozzleHang | supplyWarnRelease | storeCheckBegin | noticeDone | overrunWrite | enableWrite
      | coldStart | powerOn | supplyFall | batteryReturn | hostResetRelease | registerWriteOther => exact h
    case authorize | cancel | stop | resume | closeSale | readSale | closePosition | openPosition | configurePosition | configureMeter
      | configureHose | setRouting | clearMeterFault | readMeters | setPricing | clearSiteFlags | loadPrice | setDisplayPolicy | setWatch
      | setRelayFloor | setSchedule | setClock | nightNow | wakeNow | readTotals | rebuildStore | readerOn | readerOff | openLink
      | closeLink | send | armReceive | disarmReceive | releaseQuarantine => cases hk

end Riu.Runs

end Sys2Proof.Machine
end

section
/-! PROOFS. Quarantine and the reader's bounds over every step (R128, R135, R136, R148, R149). -/
namespace Sys2Proof.Machine

open Ledger (Moves)

variable {s t u : State} {side : Side}

/-! ## A loop that departs (R148) -/

/-- What the entry to QUARANTINE leaves of the bounds. -/
theorem State.enterQuarantine_bounded (h : s.riu.bounded) : s.enterQuarantine.riu.bounded := by
  unfold State.enterQuarantine
  have h1 : (s.setDomain .quarantine).riu.bounded := h
  have h2 : Riu.Runs (s.setDomain .quarantine).riu ((((((s.setDomain .quarantine).shutGate).cutSend).endWaiting .readerOn [] .blocked).withdrawArmed).modRiu
      fun r => { r with badRun := 0 }).riu := by
    refine Riu.Runs.modRiu (Riu.Runs.withdrawArmed ?_) rfl fun ⟨b1, b2, b3, _⟩ => ⟨b1, b2, b3, Nat.zero_le _⟩
    rw [State.endWaiting_riu]
    exact Riu.Runs.cutSend (Riu.Runs.shutGate (.refl _))
  exact h2.bounded h1

/-- A quarantine request leaves the position without an authorization or a start of the reader (R148). -/
theorem State.quarantineAt_noReader (h : (s.pos side).shaped) : ((s.quarantineAt side).pos side).noReader := by
  have rest {q : Position} (hs : q.st.selling = false) (ha : q.auth = none) : q.noReader :=
    ⟨fun a e => (by rw [ha] at e; cases e), fun (_ : Sale) _ e => absurd e (by rw [(PosState.not_selling hs).2]; decide)⟩
  obtain ⟨h1, h2, -, h4, -⟩ := h
  unfold State.quarantineAt
  dsimp only
  split
  · obtain ⟨r1, -, r3, -⟩ := (s.abandonStart side).arriveOpen_rests side
    exact rest r1 r3
  · rename_i hn
    split
    · obtain ⟨r1, -, r3, -⟩ := s.arriveOpen_rests side
      exact rest r1 r3
    · rename_i hm
      have sale (x : Sale) (hx : (s.pos side).sale = some x) (hst : (s.pos side).st.isStarting = true) : x.origin ≠ .reader := by
        rintro ho
        exact hn (by simp [hst, hx, ho])
      refine ⟨fun a ha ho => ?_, sale⟩
      rcases h2.mp (by rw [ha]; rfl) with hst | hst
      · exact hm (by simp [hst, ha, ho])
      · have hs : (s.pos side).sale.isSome = true := by rw [h1, hst]; rfl
        obtain ⟨x, hx⟩ := Option.isSome_iff_exists.mp hs
        exact sale x hx (by rw [hst]; rfl) ((h4 x a hx ha).symm.trans ho)

theorem State.quarantineAt_pos_ne (s : State) {side x : Side} (h : x ≠ side) : (s.quarantineAt side).pos x = s.pos x := by
  unfold State.quarantineAt
  dsimp only
  split
  · rw [State.raisePos_pos, State.arriveOpen_pos_ne _ h, State.abandonStart_pos_ne _ h]
  · split
    · rw [State.raisePos_pos, State.arriveOpen_pos_ne _ h]
    · rfl

theorem State.quarantine_requests_noReader (h : ∀ side, (s.pos side).shaped) (side : Side) :
    (((s.quarantineAt .a).quarantineAt .b).pos side).noReader := by
  have hb : ((s.quarantineAt .a).pos .b).shaped := by rw [State.quarantineAt_pos_ne _ (by decide)]; exact h .b
  cases side with
  | a => rw [State.quarantineAt_pos_ne _ (by decide)]; exact State.quarantineAt_noReader (h .a)
  | b => exact State.quarantineAt_noReader hb

theorem State.ledger_pos (s : State) (side : Side) : s.ledger.pos side = s.pos side := rfl

/-- After the entry to QUARANTINE, and whatever follows in the event, no position has an authorization or a start of the reader. -/
theorem State.quarantine_noReader (h : ∀ side, (s.pos side).shaped) (side : Side) : (s.quarantine.react.pos side).noReader := by
  have ha : Acts s s.enterQuarantine [.memory, .parity, .lanes, .notices, .reader] := Acts.enterQuarantine (.refl s _) (by decide)
  have hp : ∀ side, (s.enterQuarantine.pos side).shaped := fun side => by rw [ha.pos_eq (by decide)]; exact h side
  have hm : Moves True ((s.enterQuarantine.quarantineAt .a).quarantineAt .b).ledger s.quarantine.react.ledger := by
    refine Moves.react ?_
    unfold State.quarantine
    exact Moves.reportResume (.refl _) 2
  have hs : ∀ side, (((s.enterQuarantine.quarantineAt .a).quarantineAt .b).pos side).shaped :=
    Moves.shaped (Moves.quarantineAt (Moves.quarantineAt (Q := True) (.refl _) .a) .b) hp
  have hn := hm.noReader trivial hs (y := side) (State.quarantine_requests_noReader hp side)
  rwa [State.ledger_pos] at hn

/-! ## Quarantine over every command (R128, R149) -/

theorem State.linesChange.riu (h : s.linesChange t) : t.riu = s.riu := by
  obtain ⟨r, k, low, cut, -, rfl⟩ := h
  rfl

/-- A power-on's own effects touch nothing of the reader. -/
theorem powerOn_runs (s : State) : Riu.Runs .default (publish s.powerOnBase s.powerOnBase.powerOnEffects.react).riu := by
  rw [publish_riu]
  have ha : Acts s.powerOnBase s.powerOnBase.powerOnEffects unreadParts := Acts.powerOnEffects (.refl _ _) (by decide)
  have h0 : s.powerOnBase.riu = .default := rfl
  rw [← h0]
  exact ((Riu.Runs.refl s.powerOnBase.riu).acts ha).react

/-- Every command but three leaves the quarantine and the bounds as they are. -/
theorem exec_runs {c : Instr} (hp : c ≠ .powerOn ∧ c ≠ .coldStart) (hr : c ≠ .releaseQuarantine) (hl : ∀ l, c ≠ .loopDeparted l)
    (h : exec c s = .next t) : Riu.Runs s.riu t.riu := by
  by_cases hf : c = .supplyFall
  · subst hf
    rcases exec_fall h with rfl | rfl <;> exact .refl _
  · rcases exec_fires ⟨hf, hp⟩ h with hl | ⟨-, hfire, rfl⟩
    · rw [hl.riu]; exact .refl _
    · rw [publish_riu]
      exact (Riu.Runs.effect c hfire hr hl).react

/-- The departure as the Input Watch Unit takes it (R148). -/
def State.loopLeaves (s : State) (l : Loop) : State := (s.modIwu fun u => u.setLoop l false).raise .loopDeparted (loopDetail l)

theorem effectOf_loopDeparted (s : State) (l : Loop) :
    effectOf s (.loopDeparted l) = if s.riu.domain = .quarantine then s.loopLeaves l else (s.loopLeaves l).quarantine := rfl

theorem State.loopLeaves_psc (s : State) (l : Loop) : (s.loopLeaves l).psc = s.psc := rfl

theorem State.loopLeaves_riu (s : State) (l : Loop) : (s.loopLeaves l).riu = s.riu := rfl

/-- A loop that departs leaves a quarantine as it is, and begins one otherwise. -/
theorem exec_loopDeparted {l : Loop} (h : exec (.loopDeparted l) s = .next t) :
    t.riu = s.riu ∨ (s.riu.domain = .quarantine ∧ t = publish s (s.loopLeaves l).react)
      ∨ s.riu.domain ≠ .quarantine ∧ t = publish s (s.loopLeaves l).quarantine.react := by
  rcases exec_fires (c := .loopDeparted l) ⟨nofun, nofun, nofun⟩ h with hl | ⟨-, -, ht⟩
  · exact .inl hl.riu
  · rw [effectOf_loopDeparted] at ht
    by_cases hd : s.riu.domain = .quarantine
    · exact .inr (.inl ⟨hd, by rw [ht, if_pos hd]⟩)
    · exact .inr (.inr ⟨hd, by rw [ht, if_neg hd]⟩)

/-- RELEASE QUARANTINE alone among the cards sets the domain. -/
theorem State.withCard_releaseQuarantine (s : State) :
    (s.withCard .releaseQuarantine decideReleaseQuarantine).riu = s.riu
      ∨ (s.withCard .releaseQuarantine decideReleaseQuarantine).riu = (s.setDomain .off).riu := by
  unfold State.withCard
  split
  · split
    · unfold decideReleaseQuarantine
      split
      · exact .inl (State.refuseCard_riu ..)
      · split
        · exact .inl (State.refuseCard_riu ..)
        · exact .inr (State.finishCard_riu ..)
    · exact .inl rfl
  · exact .inl rfl

theorem exec_releaseQuarantine (h : exec .releaseQuarantine s = .next t) :
    t.riu = s.riu ∨ ∃ u : State, t = publish s u.react ∧ (u.riu = s.riu ∨ u.riu = (s.setDomain .off).riu) := by
  rcases exec_fires (c := .releaseQuarantine) ⟨nofun, nofun, nofun⟩ h with hl | ⟨-, -, ht⟩
  · exact .inl hl.riu
  · exact .inr ⟨_, ht, s.withCard_releaseQuarantine⟩

/-- Outside a quarantine it begins only where a loop departs. -/
theorem exec_enters_quarantine {c : Instr} (h : exec c s = .next t) (hs : s.riu.domain ≠ .quarantine) (ht : t.riu.domain = .quarantine) :
    ∃ l, t = publish s (s.loopLeaves l).quarantine.react := by
  have of_runs (hr : Riu.Runs s.riu t.riu) : False := hs (hr.quarantine.mp ht)
  by_cases hp : c = .powerOn ∨ c = .coldStart
  · rcases exec_power hp h with rfl | rfl
    · exact absurd ht hs
    · exact absurd ((powerOn_runs _).quarantine.mp ht) (by decide)
  · by_cases hl : ∃ l, c = .loopDeparted l
    · obtain ⟨l, rfl⟩ := hl
      rcases exec_loopDeparted h with e | ⟨hd, -⟩ | ⟨-, e⟩
      · exact absurd (e ▸ ht) hs
      · exact absurd hd hs
      · exact ⟨l, e⟩
    · by_cases hr : c = .releaseQuarantine
      · subst hr
        rcases exec_releaseQuarantine h with e | ⟨u, rfl, hu⟩
        · exact absurd (e ▸ ht) hs
        · rw [publish_riu, (Riu.Runs.react (.refl u.riu)).quarantine] at ht
          rcases hu with e | e <;> rw [e] at ht
          · exact absurd ht hs
          · cases ht
      · exact (of_runs (exec_runs (not_or.mp hp) hr (fun l e => hl ⟨l, e⟩) h)).elim

/-- Settles O8: outside an entry to QUARANTINE the moves under it authorize no reader, and the entry takes the reader's authorizations away;
only RELEASE QUARANTINE and a power-on set another domain in QUARANTINE. -/
theorem quarantineHolds : Obligations.QuarantineHolds := by
  have keeps (c : Instr) (s t : State) (hr : c ≠ .releaseQuarantine) (hp : c ≠ .powerOn) (hc : c ≠ .coldStart)
      (hs : s.riu.domain = .quarantine) (h : exec c s = .next t) : t.riu.domain = .quarantine := by
    by_cases hl : ∃ l, c = .loopDeparted l
    · obtain ⟨l, rfl⟩ := hl
      rcases exec_loopDeparted h with e | ⟨-, rfl⟩ | ⟨hn, -⟩
      · rw [e]; exact hs
      · rw [publish_riu, (Riu.Runs.react (.refl _)).quarantine, State.loopLeaves_riu]; exact hs
      · exact absurd hs hn
    · exact (exec_runs ⟨hp, hc⟩ hr (fun l e => hl ⟨l, e⟩) h).quarantine.mpr hs
  refine ⟨fun s t hs hn h hq side => ?_, keeps⟩
  rcases step_cases h with rfl | ⟨c, rest, hc⟩
  · exact hn hq side
  · by_cases hd : s.riu.domain = .quarantine
    · by_cases hp : c = .powerOn ∨ c = .coldStart
      · rcases exec_power hp hc with rfl | rfl
        · exact hn hd side
        · exact absurd ((powerOn_runs _).quarantine.mp hq) (by decide)
      · exact (exec_moves (not_or.mp hp) hc).noReader hd hs (hn hd side)
    · obtain ⟨l, rfl⟩ := exec_enters_quarantine hc hd hq
      rw [publish_pos]
      exact State.quarantine_noReader (fun side => by rw [State.pos, State.loopLeaves_psc]; exact hs side) side

end Sys2Proof.Machine
end

section
/-! PROOFS. The bounds of the reader's lists over every step (R128, R135, R136), and the clock's ranges (R156). -/
namespace Sys2Proof.Machine

variable {s t u : State} {side : Side}

/-! ## The reader's bounds -/

theorem Riu.Runs.loopLeaves (s : State) (l : Loop) : Riu.Runs s.riu (s.loopLeaves l).react.riu :=
  Riu.Runs.react (by rw [State.loopLeaves_riu]; exact .refl _)

theorem State.quarantine_bounded (h : s.riu.bounded) : s.quarantine.react.riu.bounded := by
  refine Riu.Runs.bounded (r := s.enterQuarantine.riu) (Riu.Runs.react ?_) (State.enterQuarantine_bounded h)
  unfold State.quarantine
  refine Riu.Runs.reportResume ?_ 2
  rw [State.quarantineAt_riu, State.quarantineAt_riu]
  exact .refl _

/-- Every command keeps the reader's bounds. -/
theorem exec_bounded {c : Instr} (hs : s.riu.bounded) (h : exec c s = .next t) : t.riu.bounded := by
  by_cases hp : c = .powerOn ∨ c = .coldStart
  · rcases exec_power hp h with rfl | rfl
    · exact hs
    · exact (powerOn_runs _).bounded ⟨Nat.zero_le _, List.nodup_nil, Nat.zero_le _, Nat.zero_le _⟩
  · by_cases hl : ∃ l, c = .loopDeparted l
    · obtain ⟨l, rfl⟩ := hl
      rcases exec_loopDeparted h with e | ⟨-, rfl⟩ | ⟨-, rfl⟩
      · rw [e]; exact hs
      · rw [publish_riu]; exact (Riu.Runs.loopLeaves s l).bounded hs
      · rw [publish_riu]; exact State.quarantine_bounded (by rw [State.loopLeaves_riu]; exact hs)
    · by_cases hr : c = .releaseQuarantine
      · subst hr
        rcases exec_releaseQuarantine h with e | ⟨u, rfl, hu⟩
        · rw [e]; exact hs
        · rw [publish_riu]
          refine (Riu.Runs.react (.refl u.riu)).bounded ?_
          rcases hu with e | e <;> rw [e] <;> exact hs
      · exact (exec_runs (not_or.mp hp) hr (fun l e => hl ⟨l, e⟩) h).bounded hs

/-! ## Operations that leave the Site Schedule Unit's record as it is -/

/-- Every part but the site's. -/
def unsitedParts : List Part :=
  [.queue, .lines, .memory, .parity, .lanes, .notices, .meters, .positions, .prices, .displays, .inputs, .reader, .store, .free]

theorem Acts.ssu_unsited (h : Acts s t unsitedParts) : t.ssu = s.ssu := h.frame .site (by decide)

@[simp] theorem State.finishCard_ssu (s : State) (l : LaneId) (results : List (Nat × Byte)) (o : CardOutcome) :
    (s.finishCard l results o).ssu = s.ssu :=
  Acts.ssu_unsited (Acts.finishCard (.refl s _) l results o (by decide))
@[simp] theorem State.refuseCard_ssu (s : State) (l : LaneId) (o : CardOutcome) : (s.refuseCard l o).ssu = s.ssu :=
  Acts.ssu_unsited (Acts.refuseCard (.refl s _) l o (by decide))
@[simp] theorem State.abortCard_ssu (s : State) (l : LaneId) : (s.abortCard l).ssu = s.ssu :=
  Acts.ssu_unsited (Acts.abortCard (.refl s _) l (by decide))
@[simp] theorem State.storeCard_ssu (s : State) (l : LaneId) : (s.storeCard l).ssu = s.ssu :=
  Acts.ssu_unsited (Acts.storeCard (.refl s _) l (by decide))
@[simp] theorem State.endWaiting_ssu (s : State) (k : Kind) (results : List (Nat × Byte)) (o : CardOutcome) :
    (s.endWaiting k results o).ssu = s.ssu :=
  Acts.ssu_unsited (Acts.endWaiting (.refl s _) k results o (by decide))
@[simp] theorem State.endStored_ssu (s : State) (l : LaneId) (off : Nat) : (s.endStored l off).ssu = s.ssu :=
  Acts.ssu_unsited (Acts.endStored (.refl s _) l off (by decide))
@[simp] theorem State.requestStep_ssu (s : State) (records : List RecordId) (who : List Requester) : (s.requestStep records who).ssu = s.ssu :=
  Acts.ssu_unsited (Acts.requestStep (.refl s _) records who (by decide))
@[simp] theorem State.dismiss_ssu (s : State) (gone : Requester → Bool) : (s.dismiss gone).ssu = s.ssu :=
  Acts.ssu_unsited (Acts.dismiss (.refl s _) gone (by decide))
@[simp] theorem State.closingAt_ssu (s : State) (side : Side) : (s.closingAt side).ssu = s.ssu :=
  Acts.ssu_unsited (Acts.closingAt (.refl s _) side (by decide))
@[simp] theorem State.release_ssu (s : State) (side : Side) (r : CloseReason) : (s.release side r).1.ssu = s.ssu :=
  Acts.ssu_unsited (Acts.release (.refl s _) side r (by decide))
@[simp] theorem State.wakingAt_ssu (s : State) (side : Side) : (s.wakingAt side).ssu = s.ssu :=
  Acts.ssu_unsited (Acts.wakingAt (.refl s _) side (by decide))
@[simp] theorem State.writeWakeResult_ssu (s : State) (n : Nat) : (s.writeWakeResult n).ssu = s.ssu :=
  Acts.ssu_unsited (Acts.writeWakeResult (.refl s _) n (by decide))
@[simp] theorem State.finishLoad_ssu (s : State) : (s.finishLoad).ssu = s.ssu := Acts.ssu_unsited (Acts.finishLoad (.refl s _) (by decide))
@[simp] theorem State.applyPrices_ssu (s : State) : (s.applyPrices).ssu = s.ssu := Acts.ssu_unsited (Acts.applyPrices (.refl s _) (by decide))
@[simp] theorem State.gate_ssu (s : State) (side : Side) : (s.gate side).ssu = s.ssu := Acts.ssu_unsited (Acts.gate (.refl s _) side (by decide))
@[simp] theorem State.sendAll_ssu (s : State) : (s.sendAll).ssu = s.ssu := Acts.ssu_unsited (Acts.sendAll (.refl s _) (by decide))
@[simp] theorem State.sendContents_ssu (s : State) (side : Side) : (s.sendContents side).ssu = s.ssu :=
  Acts.ssu_unsited (Acts.sendContents (.refl s _) side (by decide))
@[simp] theorem State.serveLinks_ssu (s : State) : (s.serveLinks).ssu = s.ssu := Acts.ssu_unsited (Acts.serveLinks (.refl s _) (by decide))
@[simp] theorem State.beginStep_ssu (s : State) : (s.beginStep).1.ssu = s.ssu := Acts.ssu_unsited (Acts.beginStep (.refl s _) (by decide))
@[simp] theorem State.endStep_ssu (s : State) : (s.endStep).1.ssu = s.ssu := Acts.ssu_unsited (Acts.endStep (.refl s _) (by decide))
@[simp] theorem State.takePrices_ssu (s : State) (p : Vector (Option Nat × RoundCode) 8) : (s.takePrices p).ssu = s.ssu :=
  Acts.ssu_unsited (Acts.takePrices (.refl s _) p (by decide))
@[simp] theorem State.allMembership_ssu (s : State) (old : Sides (Vector HoseRoute 4)) : (s.allMembership old).ssu = s.ssu :=
  Acts.ssu_unsited (Acts.allMembership (.refl s _) old (by decide))
@[simp] theorem State.writeCheckMirrors_ssu (s : State) : (s.writeCheckMirrors).ssu = s.ssu := Acts.ssu_unsited (Acts.writeCheckMirrors (.refl s _))
@[simp] theorem State.takeMeters_ssu (s : State) (m : Vector MeterCounts 8) : (s.takeMeters m).ssu = s.ssu :=
  Acts.ssu_unsited (Acts.takeMeters (.refl s _) m (by decide))
@[simp] theorem State.takeUnpaid_ssu (s : State) (side : Side) (l : List EndedSale) : (s.takeUnpaid side l).ssu = s.ssu :=
  Acts.ssu_unsited (Acts.takeUnpaid (.refl s _) side l (by decide))
@[simp] theorem State.powerDownAt_ssu (s : State) (side : Side) : (s.powerDownAt side).ssu = s.ssu :=
  Acts.ssu_unsited (Acts.powerDownAt (.refl s _) side (by decide))
@[simp] theorem State.dropCards_ssu (s : State) : (s.dropCards).ssu = s.ssu := Acts.ssu_unsited (Acts.dropCards (.refl s _) (by decide))
@[simp] theorem State.emptyQueue_ssu (s : State) : (s.emptyQueue).ssu = s.ssu := Acts.ssu_unsited (Acts.emptyQueue (.refl s _) (by decide))
@[simp] theorem State.quarantineAt_ssu (s : State) (side : Side) : (s.quarantineAt side).ssu = s.ssu :=
  Acts.ssu_unsited (Acts.quarantineAt (.refl s _) side (by decide))
@[simp] theorem State.readerDown_ssu (s : State) : (s.readerDown).ssu = s.ssu := Acts.ssu_unsited (Acts.readerDown (.refl s _) (by decide))
@[simp] theorem State.readerToOff_ssu (s : State) : (s.readerToOff).ssu = s.ssu := Acts.ssu_unsited (Acts.readerToOff (.refl s _) (by decide))
@[simp] theorem State.setReason_ssu (s : State) (side : Side) (r : CloseReason) : (s.setReason side r).ssu = s.ssu :=
  Acts.ssu_unsited (Acts.setReason (.refl s _) side r (by decide))
@[simp] theorem State.enterIdle_ssu (s : State) (side : Side) : (s.enterIdle side).ssu = s.ssu :=
  Acts.ssu_unsited (Acts.enterIdle (.refl s _) side (by decide))
@[simp] theorem State.restoreGrades_ssu (s : State) (side : Side) : (s.restoreGrades side).ssu = s.ssu :=
  Acts.ssu_unsited (Acts.restoreGrades (.refl s _) side (by decide))
@[simp] theorem State.refreshSide_ssu (s : State) (side : Side) : (s.refreshSide side).ssu = s.ssu :=
  Acts.ssu_unsited (Acts.refreshSide (.refl s _) side (by decide))
@[simp] theorem State.refreshPanels_ssu (s : State) : (s.refreshPanels).ssu = s.ssu := Acts.ssu_unsited (Acts.refreshPanels (.refl s _) (by decide))
@[simp] theorem State.releasePosts_ssu (s : State) (side : Side) : (s.releasePosts side).ssu = s.ssu :=
  Acts.ssu_unsited (Acts.releasePosts (.refl s _) side (by decide))
@[simp] theorem State.requestSegment_ssu (s : State) (side : Side) (openPosition : Bool) (stage : Bool) :
    (s.requestSegment side openPosition stage).ssu = s.ssu :=
  Acts.ssu_unsited (Acts.requestSegment (.refl s _) side openPosition stage (by decide))
@[simp] theorem State.sideFault_ssu (s : State) (side : Side) : (s.sideFault side).ssu = s.ssu :=
  Acts.ssu_unsited (Acts.sideFault (.refl s _) side (by decide))
@[simp] theorem State.checkComplete_ssu (s : State) (side : Side) : (s.checkComplete side).ssu = s.ssu :=
  Acts.ssu_unsited (Acts.checkComplete (.refl s _) side (by decide))
@[simp] theorem State.reportFields_ssu (s : State) (side : Side) (before : Fields) : (s.reportFields side before).ssu = s.ssu :=
  Acts.ssu_unsited (Acts.reportFields (.refl s _) side before (by decide))
@[simp] theorem State.postAll_ssu (s : State) (side : Side) (fs : List FieldId) (c : FieldId → Content) : (s.postAll side fs c).ssu = s.ssu :=
  Acts.ssu_unsited (Acts.postAll (.refl s _) side fs c (by decide))
@[simp] theorem State.postSegment_ssu (s : State) (side : Side) (c : FieldId → Content) : (s.postSegment side c).ssu = s.ssu :=
  Acts.ssu_unsited (Acts.postSegment (.refl s _) side c (by decide))
@[simp] theorem State.dropTest_ssu (s : State) (side : Side) : (s.dropTest side).ssu = s.ssu :=
  Acts.ssu_unsited (Acts.dropTest (.refl s _) side (by decide))
@[simp] theorem State.writeIdentity_ssu (s : State) : (s.writeIdentity).ssu = s.ssu := Acts.ssu_unsited (Acts.writeIdentity (.refl s _) (by decide))
@[simp] theorem State.rebuildDone_ssu (s : State) : (s.rebuildDone).ssu = s.ssu := Acts.ssu_unsited (Acts.rebuildDone (.refl s _) (by decide))
@[simp] theorem State.setDomain_ssu (s : State) (d : Domain) : (s.setDomain d).ssu = s.ssu :=
  Acts.ssu_unsited (Acts.setDomain (.refl s _) d (by decide))
@[simp] theorem State.openReaderLink_ssu (s : State) : (s.openReaderLink).ssu = s.ssu :=
  Acts.ssu_unsited (Acts.openReaderLink (.refl s _) (by decide))
@[simp] theorem State.beginResume_ssu (s : State) : (s.beginResume).1.ssu = s.ssu := Acts.ssu_unsited (Acts.beginResume (.refl s _) (by decide))
@[simp] theorem State.riuPowerDown_ssu (s : State) : (s.riuPowerDown).ssu = s.ssu := Acts.ssu_unsited (Acts.riuPowerDown (.refl s _) (by decide))
@[simp] theorem State.enterQuarantine_ssu (s : State) : (s.enterQuarantine).ssu = s.ssu :=
  Acts.ssu_unsited (Acts.enterQuarantine (.refl s _) (by decide))
@[simp] theorem State.undoLoad_ssu (s : State) : (s.undoLoad).ssu = s.ssu := Acts.ssu_unsited (Acts.undoLoad (.refl s _) (by decide))
@[simp] theorem State.undoSend_ssu (s : State) : (s.undoSend).ssu = s.ssu := Acts.ssu_unsited (Acts.undoSend (.refl s _) (by decide))
@[simp] theorem State.undoReaderOn_ssu (s : State) : (s.undoReaderOn).ssu = s.ssu := Acts.ssu_unsited (Acts.undoReaderOn (.refl s _) (by decide))
@[simp] theorem State.checkFloor_ssu (s : State) (floor : Nat) : (s.checkFloor floor).ssu = s.ssu :=
  Acts.ssu_unsited (Acts.checkFloor (.refl s _) floor (by decide))
@[simp] theorem State.setPace_ssu (s : State) (side : Side) : (s.setPace side).ssu = s.ssu :=
  Acts.ssu_unsited (Acts.setPace (.refl s _) side (by decide))
/-! ## Operations that leave the clock as it is (R155 to R185) -/

@[simp] theorem State.setSite_clock (s : State) (x : SiteState) : (s.setSite x).ssu.clock = s.ssu.clock := rfl
@[simp] theorem State.beginStage_clock (s : State) (n : Nat) (t : Option Nat) : (s.beginStage n t).ssu.clock = s.ssu.clock := rfl
@[simp] theorem State.endStage_clock (s : State) (n : Fin 6) (code : Nat) : (s.endStage n code).ssu.clock = s.ssu.clock := rfl
@[simp] theorem State.beginMeterSettle_clock (s : State) : s.beginMeterSettle.ssu.clock = s.ssu.clock := rfl
@[simp] theorem State.beginStoreCheck_clock (s : State) : s.beginStoreCheck.ssu.clock = s.ssu.clock := rfl

@[simp] theorem State.examinePositions_clock (s : State) : s.examinePositions.ssu.clock = s.ssu.clock := by
  unfold State.examinePositions
  split
  · rw [State.readerDown_ssu, State.modSsu_ssu]
  · rfl

@[simp] theorem State.enterClosing_clock (s : State) (o : ClosingOrigin) : (s.enterClosing o).ssu.clock = s.ssu.clock := by
  simp [State.enterClosing]

@[simp] theorem State.nightReaderDone_clock (s : State) : s.nightReaderDone.ssu.clock = s.ssu.clock := by
  unfold State.nightReaderDone
  split <;> simp

@[simp] theorem State.enterNight_clock (s : State) : s.enterNight.ssu.clock = s.ssu.clock := by
  unfold State.enterNight
  split <;> simp

@[simp] theorem State.withdrawClosing_clock (s : State) (n : Nat) : (s.withdrawClosing n).ssu.clock = s.ssu.clock := by
  simp [State.withdrawClosing]

@[simp] theorem State.undoNight_clock (s : State) : s.undoNight.ssu.clock = s.ssu.clock := by
  unfold State.undoNight
  split <;> simp

@[simp] theorem State.endFaulted_clock (s : State) (r : FaultedReason) (n : Nat) : (s.endFaulted r n).ssu.clock = s.ssu.clock := by
  simp [State.endFaulted]

@[simp] theorem State.positionsReady_clock (s : State) : s.positionsReady.ssu.clock = s.ssu.clock := by
  unfold State.positionsReady
  dsimp only
  split <;> simp

@[simp] theorem State.resumeEnds_clock (s : State) (code : Nat) : (s.resumeEnds code).ssu.clock = s.ssu.clock := by
  simp [State.resumeEnds]

@[simp] theorem State.reportResume_clock (s : State) (code : Nat) : (s.reportResume code).ssu.clock = s.ssu.clock := by
  unfold State.reportResume
  split <;> simp

@[simp] theorem State.beginReaderResume_clock (s : State) : s.beginReaderResume.ssu.clock = s.ssu.clock := by
  unfold State.beginReaderResume
  dsimp only
  split <;> simp

@[simp] theorem State.examinePanels_clock (s : State) : s.examinePanels.ssu.clock = s.ssu.clock := by
  unfold State.examinePanels
  split <;> simp

/-- The postings of stage 3 change the boards alone (R166). -/
theorem Acts.postAllGrades {P : List Part} {s0 : State} (ha : Acts s0 s P) (hp : Part.displays ∈ P) :
    Acts s0 (bothSides.foldl (fun s side => (List.finRange 4).foldl (fun s h => s.postGrade side h) s) s) P := by
  simp_all (maxDischargeDepth := 12)

/-- The panels' postings of stage 3 change the prices alone (R166). -/
theorem Acts.postAllPanels {P : List Part} {s0 : State} (ha : Acts s0 s P) (hp : Part.prices ∈ P) : Acts s0
    ((List.finRange 8).foldl (fun s g => bothSides.foldl (fun s side => s.modPanel g side fun p => p.post (s.board side).segment) s) s) P := by
  simp_all (maxDischargeDepth := 12)

@[simp] theorem State.beginPricePanels_clock (s : State) : s.beginPricePanels.ssu.clock = s.ssu.clock := by
  unfold State.beginPricePanels
  dsimp only
  rw [(Acts.postAllPanels (.refl _ unsitedParts) (by decide)).ssu_unsited,
    (Acts.postAllGrades (.refl _ unsitedParts) (by decide)).ssu_unsited, State.beginStage_clock]

@[simp] theorem State.examineResults_clock (s : State) : s.examineResults.ssu.clock = s.ssu.clock := by
  unfold State.examineResults
  split
  · extract_lets code u
    have hu : u.ssu.clock = s.ssu.clock := by simp [u]
    split <;> simpa using hu
  · rfl

@[simp] theorem State.displayResult_clock (s : State) (side : Side) (passed : Bool) : (s.displayResult side passed).ssu.clock = s.ssu.clock := by
  unfold State.displayResult
  split
  · dsimp only
    split <;> simp
  · rfl

@[simp] theorem State.openResult_ssu (s : State) (side : Side) (passed : Bool) : (s.openResult side passed).ssu = s.ssu :=
  Acts.ssu_unsited (Acts.openResult (.refl s _) side passed (by decide))

@[simp] theorem State.segmentEnds_clock (s : State) (side : Side) (passed : Bool) : (s.segmentEnds side passed).ssu.clock = s.ssu.clock := by
  unfold State.segmentEnds
  split
  · dsimp only
    (repeat' split) <;> simp
  · rfl

@[simp] theorem State.beginDisplayTest_clock (s : State) : s.beginDisplayTest.ssu.clock = s.ssu.clock := by
  simp [State.beginDisplayTest]

@[simp] theorem State.displayTimeoutAt_clock (s : State) (side : Side) : (s.displayTimeoutAt side).ssu.clock = s.ssu.clock := by
  simp [State.displayTimeoutAt]

/-- What each step of a fold leaves as it is, the fold does. -/
theorem foldl_clock {α : Type} {f : State → α → State} (hf : ∀ s x, (f s x).ssu.clock = s.ssu.clock) (l : List α) (s : State) :
    (l.foldl f s).ssu.clock = s.ssu.clock := by
  induction l generalizing s with
  | nil => rfl
  | cons x l ih => exact (ih _).trans (hf s x)

@[simp] theorem State.displayTimeout_clock (s : State) : s.displayTimeout.ssu.clock = s.ssu.clock :=
  foldl_clock (f := fun s side => s.displayTimeoutAt side) State.displayTimeoutAt_clock _ s

@[simp] theorem State.enterWaking_clock (s : State) (o : WakeOrigin) : (s.enterWaking o).ssu.clock = s.ssu.clock := by
  simp [State.enterWaking]

@[simp] theorem State.takeConfig_clock (s : State) (c : ConfigRecord) : (s.takeConfig c).ssu.clock = s.ssu.clock := by
  simp [State.takeConfig]

@[simp] theorem State.takeContents_clock (s : State) (c : Contents) (keep : List RecordId) : (s.takeContents c keep).ssu.clock = s.ssu.clock := by
  have opt {u t : State} (b : Bool) (hu : u.ssu.clock = s.ssu.clock) (ht : t.ssu.clock = s.ssu.clock) :
      (if b then u else t).ssu.clock = s.ssu.clock := by cases b <;> assumption
  unfold State.takeContents
  extract_lets old s1 s2 s3 s4 s5 s6 s7
  have h1 : s1.ssu.clock = s.ssu.clock := opt _ rfl (State.takeConfig_clock ..)
  have h2 : s2.ssu.clock = s.ssu.clock := opt _ h1 (by rw [State.takePrices_ssu]; exact h1)
  have h3 : s3.ssu.clock = s.ssu.clock := opt _ h2 h2
  have h4 : s4.ssu.clock = s.ssu.clock := opt _ h3 (by rw [State.takeMeters_ssu]; exact h3)
  have h5 : s5.ssu.clock = s.ssu.clock := opt _ h4 (by rw [State.takeUnpaid_ssu]; exact h4)
  have h6 : s6.ssu.clock = s.ssu.clock := opt _ h5 (by rw [State.takeUnpaid_ssu]; exact h5)
  have h7 : s7.ssu.clock = s.ssu.clock := opt _ h6 h6
  rw [State.writeCheckMirrors_ssu, State.allMembership_ssu]
  exact h7

@[simp] theorem State.reportRestored_clock (s : State) : s.reportRestored.ssu.clock = s.ssu.clock := by
  unfold State.reportRestored
  dsimp only
  split <;> simp

@[simp] theorem State.checkPassed_clock (s : State) : s.checkPassed.ssu.clock = s.ssu.clock := by
  unfold State.checkPassed
  dsimp only
  split <;> simp

@[simp] theorem State.checkFails_clock (s : State) (n : Nat) : (s.checkFails n).ssu.clock = s.ssu.clock := by
  simp [State.checkFails]

@[simp] theorem State.stageOneFails_clock (s : State) (code : Nat) : (s.stageOneFails code).ssu.clock = s.ssu.clock := by
  simp [State.stageOneFails]

@[simp] theorem State.storeCheckTimeout_clock (s : State) : s.storeCheckTimeout.ssu.clock = s.ssu.clock := by
  unfold State.storeCheckTimeout
  dsimp only
  rw [State.stageOneFails_clock, State.checkFails_clock, State.dismiss_ssu, State.modRsc_ssu]
  split <;> rfl

@[simp] theorem State.storeCheckEnds_clock (s : State) : s.storeCheckEnds.ssu.clock = s.ssu.clock := by
  unfold State.storeCheckEnds
  split <;> simp

@[simp] theorem State.fieldFault_clock (s : State) (side : Side) (f : FieldId) : (s.fieldFault side f).ssu.clock = s.ssu.clock := by
  have legal (u : State) : (if (u.board side).segment then u.segmentEnds side false else u).ssu.clock = u.ssu.clock := by split <;> simp
  cases f
  case grade | status => rfl
  all_goals
    refine (legal _).trans ?_
    simp

@[simp] theorem State.advanceTest_clock (s : State) (side : Side) : (s.advanceTest side).ssu.clock = s.ssu.clock := by
  unfold State.advanceTest
  dsimp only
  (repeat' split) <;> simp

@[simp] theorem State.attemptEnds_clock (s : State) (side : Side) (v : Bool) : (s.attemptEnds side v).ssu.clock = s.ssu.clock := by
  unfold State.attemptEnds
  split
  · rfl
  · dsimp only
    rw [State.advanceTest_clock]
    split
    · rw [State.fieldFault_clock, State.finishLoad_ssu, State.reportFields_ssu]
      split <;> rfl
    · rw [State.finishLoad_ssu, State.reportFields_ssu]
      split <;> rfl

@[simp] theorem State.takeLit_clock (s : State) (side : Side) (f : LitFrame) : (s.takeLit side f).ssu.clock = s.ssu.clock := by
  unfold State.takeLit
  (repeat' split) <;> simp

@[simp] theorem State.quarantine_clock (s : State) : s.quarantine.ssu.clock = s.ssu.clock := by
  simp [State.quarantine]

@[simp] theorem State.stageTimeout_clock (s : State) : s.stageTimeout.ssu.clock = s.ssu.clock := by
  unfold State.stageTimeout
  split <;> simp

@[simp] theorem State.warnSupply_clock (s : State) : s.warnSupply.ssu.clock = s.ssu.clock := by
  simp [State.warnSupply]

@[simp] theorem State.powerOnEffects_clock (s : State) : s.powerOnEffects.ssu.clock = s.ssu.clock := by
  unfold State.powerOnEffects
  dsimp only
  split <;> simp

/-! ## The end of an event -/

@[simp] theorem State.answer_clock (s : State) (q : Requester) : (s.answer q).ssu.clock = s.ssu.clock := by
  cases q with
  | freeze side => cases side <;> rfl
  | _ => simp [State.answer]

@[simp] theorem State.answerAll_clock (s : State) (qs : List Requester) : (s.answerAll qs).ssu.clock = s.ssu.clock :=
  foldl_clock State.answer_clock qs s

@[simp] theorem State.runStore_clock (n : Nat) (s : State) : (State.runStore n s).ssu.clock = s.ssu.clock := by
  induction n generalizing s with
  | zero => rfl
  | succ n ih =>
    unfold State.runStore
    split
    · rw [ih, State.answerAll_clock, State.beginStep_ssu]
    · rfl

@[simp] theorem State.completeStep_clock (s : State) : s.completeStep.ssu.clock = s.ssu.clock := by
  simp [State.completeStep]

@[simp] theorem State.examine_clock (s : State) : s.examine.ssu.clock = s.ssu.clock := by
  simp [State.examine]

@[simp] theorem State.react_clock (s : State) : s.react.ssu.clock = s.ssu.clock := by
  exact State.react_induction (R := fun u => u.ssu.clock = s.ssu.clock) rfl (fun u h => (State.examine_clock u).trans h)
    fun u h => by rw [State.serveLinks_ssu]; exact h

/-! ## Cards and commands -/

@[simp] theorem State.finishOnConfig_ssu (s : State) (l : LaneId) (off : Nat) : (s.finishOnConfig l off).ssu = s.ssu :=
  Acts.ssu_unsited (Acts.finishOnConfig (.refl s _) l off (by decide))

theorem Clock.tick_inRange {c : Clock} (h : c.inRange) : c.tick.inRange := by
  unfold Clock.tick
  split
  · exact ⟨Nat.le_of_lt_succ (Nat.mod_lt _ (by decide)), Nat.zero_le _⟩
  · exact ⟨h.1, by have := h.2; show c.second + 1 ≤ 86399; omega⟩

theorem State.waitCard_clock (s : State) (l : LaneId) {f : State → State} (hf : ∀ u : State, (f u).ssu.clock = u.ssu.clock) :
    (s.waitCard l f).ssu.clock = s.ssu.clock := by
  unfold State.waitCard
  split
  · rw [hf, State.abortCard_ssu]
  · exact congrArg Ssu.clock (Acts.ssu_unsited (Acts.modLane (.refl s _) l _ (by decide)))

@[simp] theorem State.enterClosing_waits (s : State) : (s.waitCard .site State.undoNight).ssu.clock = s.ssu.clock :=
  s.waitCard_clock _ State.undoNight_clock

/-- The owner's decision of every card but SET CLOCK leaves the clock as it is. -/
theorem State.decision_clock (s : State) {k : Kind} (hk : k ≠ .setClock) (off : Nat) (c : Card) : (k.decision off c s).ssu.clock = s.ssu.clock := by
  cases k
  case setClock => exact absurd rfl hk
  case nightNow =>
    show (decideNightNow off c s).ssu.clock = _
    unfold decideNightNow
    split <;> simp
  case wakeNow =>
    show (decideWakeNow off c s).ssu.clock = _
    unfold decideWakeNow
    (repeat' split) <;> simp [State.waitCard_clock s .site (f := id) fun _ => rfl]
  case setSchedule =>
    show (decideSetSchedule off c s).ssu.clock = _
    unfold decideSetSchedule
    split
    · simp
    · split
      · simp
      · rw [State.finishOnConfig_ssu]; rfl
  case readerOff =>
    show (decideReaderOff off c s).ssu.clock = _
    unfold decideReaderOff
    split <;> simp
  case openPosition => exact congrArg Ssu.clock (Acts.ssu_unsited (Acts.decideOpenPosition (.refl s _) off c (by decide)))
  case authorize => exact congrArg Ssu.clock (Acts.ssu_unsited (Acts.decideAuthorize (.refl s _) off c (by decide)))
  case cancel => exact congrArg Ssu.clock (Acts.ssu_unsited (Acts.decideCancel (.refl s _) off c (by decide)))
  case stop => exact congrArg Ssu.clock (Acts.ssu_unsited (Acts.decideStop (.refl s _) off c (by decide)))
  case resume => exact congrArg Ssu.clock (Acts.ssu_unsited (Acts.decideResume (.refl s _) off c (by decide)))
  case closeSale => exact congrArg Ssu.clock (Acts.ssu_unsited (Acts.decideCloseSale (.refl s _) off c (by decide)))
  case readSale => exact congrArg Ssu.clock (Acts.ssu_unsited (Acts.decideReadSale (.refl s _) off c (by decide)))
  case closePosition => exact congrArg Ssu.clock (Acts.ssu_unsited (Acts.decideClosePosition (.refl s _) off c (by decide)))
  case configureMeter => exact congrArg Ssu.clock (Acts.ssu_unsited (Acts.decideConfigureMeter (.refl s _) off c (by decide)))
  case configureHose => exact congrArg Ssu.clock (Acts.ssu_unsited (Acts.decideConfigureHose (.refl s _) off c (by decide)))
  case setRouting => exact congrArg Ssu.clock (Acts.ssu_unsited (Acts.decideSetRouting (.refl s _) off c (by decide)))
  case clearMeterFault => exact congrArg Ssu.clock (Acts.ssu_unsited (Acts.decideClearMeterFault (.refl s _) off c (by decide)))
  case readMeters => exact congrArg Ssu.clock (Acts.ssu_unsited (Acts.decideReadMeters (.refl s _) off c (by decide)))
  case setPricing => exact congrArg Ssu.clock (Acts.ssu_unsited (Acts.decideSetPricing (.refl s _) off c (by decide)))
  case clearSiteFlags => exact congrArg Ssu.clock (Acts.ssu_unsited (Acts.decideClearSiteFlags (.refl s _) off c (by decide)))
  case configurePosition => exact congrArg Ssu.clock (Acts.ssu_unsited (Acts.decideConfigurePosition (.refl s _) off c (by decide)))
  case loadPrice => exact congrArg Ssu.clock (Acts.ssu_unsited (Acts.decideLoadPrice (.refl s _) off c (by decide)))
  case setDisplayPolicy => exact congrArg Ssu.clock (Acts.ssu_unsited (Acts.decideSetDisplayPolicy (.refl s _) off c (by decide)))
  case setWatch => exact congrArg Ssu.clock (Acts.ssu_unsited (Acts.decideSetWatch (.refl s _) off c (by decide)))
  case setRelayFloor => exact congrArg Ssu.clock (Acts.ssu_unsited (Acts.decideSetRelayFloor (.refl s _) off c (by decide)))
  case readTotals => exact congrArg Ssu.clock (Acts.ssu_unsited (Acts.decideReadTotals (.refl s _) off c (by decide)))
  case rebuildStore => exact congrArg Ssu.clock (Acts.ssu_unsited (Acts.decideRebuildStore (.refl s _) off c (by decide)))
  case readerOn => exact congrArg Ssu.clock (Acts.ssu_unsited (Acts.decideReaderOn (.refl s _) off c (by decide)))
  case openLink => exact congrArg Ssu.clock (Acts.ssu_unsited (Acts.decideOpenLink (.refl s _) off c (by decide)))
  case closeLink => exact congrArg Ssu.clock (Acts.ssu_unsited (Acts.decideCloseLink (.refl s _) off c (by decide)))
  case send => exact congrArg Ssu.clock (Acts.ssu_unsited (Acts.decideSend (.refl s _) off c (by decide)))
  case armReceive => exact congrArg Ssu.clock (Acts.ssu_unsited (Acts.decideArmReceive (.refl s _) off c (by decide)))
  case disarmReceive => exact congrArg Ssu.clock (Acts.ssu_unsited (Acts.decideDisarmReceive (.refl s _) off c (by decide)))
  case releaseQuarantine => exact congrArg Ssu.clock (Acts.ssu_unsited (Acts.decideReleaseQuarantine (.refl s _) off c (by decide)))

/-- SET CLOCK sets a clock in its ranges (R172). -/
theorem State.decideSetClock_inRange (h : s.ssu.clock.inRange) (off : Nat) (c : Card) : (decideSetClock off c s).ssu.clock.inRange := by
  unfold decideSetClock
  split
  · rwa [State.refuseCard_ssu]
  · rename_i hv
    split
    · rwa [State.refuseCard_ssu]
    · rw [State.finishCard_ssu, State.touch_ssu, State.modSsu_ssu]
      exact ⟨by have := not_or.mp (not_or.mp hv).2; exact Nat.le_of_not_lt this.1, Nat.le_of_not_lt (not_or.mp (not_or.mp hv).2).2⟩

theorem State.withCard_inRange (h : s.ssu.clock.inRange) (k : Kind) : (s.withCard k k.decision).ssu.clock.inRange := by
  unfold State.withCard
  split
  · split
    · by_cases hk : k = .setClock
      · subst hk
        rename_i x _ _
        exact State.decideSetClock_inRange h x.offset x.card
      · rwa [State.decision_clock _ hk]
    · exact h
  · exact h

@[simp] theorem State.closingReached_clock (s : State) : s.closingReached.ssu.clock = s.ssu.clock := by
  unfold State.closingReached
  split <;> simp

@[simp] theorem State.openingReached_clock (s : State) : s.openingReached.ssu.clock = s.ssu.clock := by
  unfold State.openingReached
  split <;> simp

@[simp] theorem State.countClock_clock (s : State) : s.countClock.ssu.clock = s.ssu.clock.tick := by
  unfold State.countClock
  dsimp only
  (repeat' split) <;> simp

@[simp] theorem State.abortLane_clock (s : State) (l : LaneId) : (s.abortLane l).ssu.clock = s.ssu.clock := by
  have undo (k : Kind) (u : State) : (k.undo u).ssu.clock = u.ssu.clock := by cases k <;> simp [Kind.undo]
  unfold State.abortLane
  (repeat' split)
  · rfl
  · rfl
  · exact congrArg Ssu.clock (Acts.ssu_unsited (Acts.modLane (.refl s _) l _ (by decide)))
  · exact congrArg Ssu.clock (Acts.ssu_unsited (Acts.raiseLane (Acts.modLane (.refl s _) l _ (by decide)) l _ _ (by decide)))
  · rw [undo, State.abortCard_ssu]
  · rfl

/-- The commands whose effect is on the clock, those of cards among them. -/
def timesClock (c : Instr) : Prop := c = .clockCount ∨ c = .batteryLoss ∨ cardKind c ≠ none

/-- Every other command's own effect leaves the clock as it is. -/
theorem effectOf_clock (s : State) {c : Instr} (hc : ¬ timesClock c) : (effectOf s c).ssu.clock = s.ssu.clock := by
  obtain ⟨h1, h2, h3⟩ : c ≠ .clockCount ∧ c ≠ .batteryLoss ∧ ¬ cardKind c ≠ none := by simpa [timesClock] using hc
  have acts {t : State} (h : Acts s t unsitedParts) : t.ssu.clock = s.ssu.clock := congrArg Ssu.clock h.ssu_unsited
  have onto {u t : State} (hu : u.ssu = s.ssu) (h : Acts u t unsitedParts) : t.ssu.clock = s.ssu.clock :=
    congrArg Ssu.clock (h.ssu_unsited.trans hu)
  cases c
  case clockCount => exact absurd rfl h1
  case batteryLoss => exact absurd rfl h2
  case recognitionInstant m a b => exact acts (Acts.recognition (.refl s _) m a b (by decide))
  case oneSecondPeriod => exact acts (Acts.endSecond (.refl s _) (by decide))
  case nozzleLift side n =>
    show (if ((s.setNozzle side n true).route side n).fitted then (s.setNozzle side n true).lift side n
      else s.setNozzle side n true).ssu.clock = _
    split
    · exact onto (u := s.setNozzle side n true) rfl (Acts.lift (.refl _ _) side n (by decide))
    · rfl
  case nozzleHang side n =>
    show (if ((s.setNozzle side n false).route side n).fitted && !((s.iwu.nozzles.get side)[n] == none)
      then (s.setNozzle side n false).hang side n else s.setNozzle side n false).ssu.clock = _
    split
    · exact onto (u := s.setNozzle side n false) rfl (Acts.hang (.refl _ _) side n (by decide))
    · rfl
  case motorSettleExpiry side => exact acts (Acts.openValves (.refl s _) side (by decide))
  case satelliteNozzleLift side =>
    exact onto (u := s.setSatellite side true) rfl (Acts.requestSatellite (.refl _ _) side (by decide))
  case emergencyStopAssertion =>
    exact onto (u := s.modIwu fun u => { u with emergency := some true }) rfl
      (Acts.raise (Acts.emergencyAt (Acts.emergencyAt (.refl _ _) .a (by decide)) .b (by decide)) _ _ (by decide))
  case emergencyStopRelease =>
    show (if s.iwu.emergency == none then _ else _ : State).ssu.clock = _
    split <;> rfl
  case loopDeparted l =>
    rw [effectOf_loopDeparted]
    split
    · rfl
    · exact State.quarantine_clock _
  case loopReturned n =>
    show (if s.iwu.loop n == none then _ else _ : State).ssu.clock = _
    split <;> rfl
  case sealChange isOpen =>
    show (if reports s.iwu.calSeal isOpen then _ else _ : State).ssu.clock = _
    split <;> rfl
  case doorChange d isOpen =>
    show (if reports (s.iwu.door d) isOpen then _ else _ : State).ssu.clock = _
    split <;> rfl
  case generalInputChange which levels => exact acts (Acts.judgeGeneral (.refl s _) which levels (by decide))
  case settleWindowExpiry side => exact acts (Acts.completeEnding (.refl s _) side (by decide))
  case flowTimerExpiry side => exact acts (Acts.endSale (.refl s _) side .noFlow (by decide))
  case authTimerExpiry side =>
    show ((s.arriveOpen side).raisePos side .authTimeout 0).ssu.clock = _
    exact acts (Acts.raisePos (Acts.arriveOpen (.refl s _) side (by decide)) side _ _ (by decide))
  case litFrame board f => exact State.takeLit_clock s board f
  case answerTimeout board => exact State.attemptEnds_clock s board false
  case refreshInstant board => exact acts (Acts.refreshBoard (.refl s _) board (by decide))
  case settleTimerExpiry =>
    show (if ((s.setDomain .gated).endWaiting .readerOn [] .ok).riu.resuming
      then ((s.setDomain .gated).endWaiting .readerOn [] .ok).openReaderLink.resumeEnds 1
      else (s.setDomain .gated).endWaiting .readerOn [] .ok).ssu.clock = _
    split <;> simp
  case inboundFrame f => exact acts (Acts.judgeFrame (.refl s _) _ _ (by decide))
  case inboundFrameTimeout => exact acts (Acts.judgeFrame (.refl s _) .outside none (by decide))
  case sendFrameEnd =>
    show (if s.riu.orphan then _ else _ : State).ssu.clock = _
    split <;> rfl
  case readerAnswer a =>
    show (match s.riu.send with | some x => s.sendAnswered x a | none => s).ssu.clock = _
    split
    · exact acts (Acts.sendAnswered (.refl s _) _ _ (by decide))
    · rfl
  case sendAnswerExpiry =>
    show (match s.riu.send with | some x => s.attemptUsed x x.last | none => s).ssu.clock = _
    split
    · exact acts (Acts.attemptUsed (.refl s _) _ _ (by decide))
    · rfl
  case stageTimerExpiry => exact State.stageTimeout_clock s
  case meterSettleExpiry => exact (State.beginReaderResume_clock _).trans (State.endStage_clock ..)
  case supplyWarning =>
    show (if (s.modRsc fun r => { r with supplyWarn := some true }).powerDown then _ else _ : State).ssu.clock = _
    split
    · rfl
    · exact State.warnSupply_clock _
  case freezeWindowExpiry => exact acts (Acts.freezeAll (.refl s _) (by decide))
  case storeCheckEnd => exact State.storeCheckEnds_clock s
  case storeStepCompletion => exact State.completeStep_clock s
  case hostReset => simp [effectOf, State.resetHost]
  case goStart n value => exact acts (Acts.startLane (.refl s _) n _ (by decide))
  case goAbort n value => exact State.abortLane_clock s n
  case noticeRead =>
    show (match s.ntc.presented, s.ntc.lowest with | none, some i => s.present i | _, _ => s).ssu.clock = _
    split
    · exact congrArg Ssu.clock (State.writeBytes_ssu ..)
    · rfl
  case hostWrite offset value =>
    show (if halfOffset offset.toNat < Config.poolBase then _ else _ : State).ssu.clock = _
    split
    · rfl
    · exact acts (Acts.writeHalf (.refl s _) _ _ (by decide))
  case hostParity offset =>
    show (s.failParity offset.toNat).ssu.clock = _
    unfold State.failParity
    split <;> rfl
  case satelliteNozzleHang | supplyWarnRelease | storeCheckBegin | noticeDone | overrunWrite | enableWrite | inboundFrameStart | lineSilence
    | answerByteSent | holdDelayExpiry | coldStart | powerOn | supplyFall | batteryReturn | hostResetRelease | registerWriteOther => rfl
  all_goals exact absurd h3 (by simp [cardKind])

/-- Every command keeps the clock in its ranges. -/
theorem exec_inRange {c : Instr} (hs : s.ssu.clock.inRange) (h : exec c s = .next t) : t.ssu.clock.inRange := by
  by_cases hp : c = .powerOn ∨ c = .coldStart
  · rcases exec_power hp h with rfl | rfl
    · exact hs
    · rw [publish_ssu, State.react_clock, State.powerOnEffects_clock]
      show (if s.rsc.batteryCut then (⟨0, 0, true⟩ : Clock) else s.ssu.clock).inRange
      split
      · exact ⟨Nat.zero_le _, Nat.zero_le _⟩
      · exact hs
  · by_cases hf : c = .supplyFall
    · subst hf
      rcases exec_fall h with rfl | rfl <;> exact hs
    · rcases exec_fires ⟨hf, not_or.mp hp⟩ h with ⟨r, k, low, cut, hk, rfl⟩ | ⟨-, -, rfl⟩
      · rcases hk with rfl | ⟨-, rfl⟩
        · exact hs
        · exact Clock.tick_inRange hs
      · rw [publish_ssu, State.react_clock]
        by_cases hc : timesClock c
        · rcases hc with rfl | rfl | hc
          · rw [show effectOf s .clockCount = s.countClock from rfl, State.countClock_clock]
            exact Clock.tick_inRange hs
          · rw [show (effectOf s .batteryLoss).ssu.clock = ⟨0, 0, true⟩ from rfl]
            exact ⟨Nat.zero_le _, Nat.zero_le _⟩
          · obtain ⟨k, hk⟩ := Option.ne_none_iff_exists'.mp hc
            obtain rfl := cardKind_some hk
            rw [effectOf_command]
            exact State.withCard_inRange hs k
        · rwa [effectOf_clock s hc]

/-- Settles O10: every command keeps the bounds and the ranges, whatever queue the step leaves. -/
theorem boundsAreKept : Obligations.BoundsAreKept := by
  have queue (s : State) (rest : List Instr) : ({ s with pending := rest } : State).riu = s.riu ∧ ({ s with pending := rest } : State).ssu = s.ssu :=
    ⟨rfl, rfl⟩
  refine ⟨fun s t hs h => ?_, fun s t hs h => ?_⟩ <;> rcases step_cases h with rfl | ⟨c, rest, hc⟩
  · exact hs
  · rw [← (queue s rest).1] at hs
    exact exec_bounded hs hc
  · exact hs
  · rw [← (queue s rest).2] at hs
    exact exec_inRange hs hc

end Sys2Proof.Machine
end

section
/-! PROOFS. What the end of an event never changes: routes and enables, the settings of pricing and displays (R11, R39, R95). -/
namespace Sys2Proof.Machine

variable {s t u v : State} {P : List Part}

/-! ## Settings at the end of an event -/

/-- The settings that cards and the store check alone replace. -/
structure Settings where
  routes : Sides (Vector HoseRoute 4)
  enables : RouteEnables
  siteMode : RoundMode
  totalsForm : Form
  policy : DisplayPolicy

def State.settings (s : State) : Settings :=
  { routes := s.miu.routes, enables := s.miu.enables, siteMode := s.pru.siteMode, totalsForm := s.pru.totalsForm, policy := s.dlc.policy }

theorem Acts.settings (h : Acts s t P) (h1 : Part.meters ∉ P) (h2 : Part.prices ∉ P) (h3 : Part.displays ∉ P) : t.settings = s.settings := by
  have e1 : t.miu = s.miu := h.frame .meters h1
  have e2 : t.pru = s.pru := h.frame .prices h2
  have e3 : t.dlc = s.dlc := h.frame .displays h3
  simp only [State.settings, e1, e2, e3]

@[simp] theorem State.modPos_settings (s : State) (x : Side) (f : Position → Position) : (s.modPos x f).settings = s.settings := rfl
@[simp] theorem State.modMeter_settings (s : State) (m : MeterNo) (f : Meter → Meter) : (s.modMeter m f).settings = s.settings := rfl
@[simp] theorem State.modGrade_settings (s : State) (g : Fin 8) (f : Grade → Grade) : (s.modGrade g f).settings = s.settings := rfl
@[simp] theorem State.modPanel_settings (s : State) (g : Fin 8) (x : Side) (f : Panel → Panel) :
    (s.modPanel g x f).settings = s.settings := rfl
@[simp] theorem State.modBoard_settings (s : State) (x : Side) (f : Board → Board) : (s.modBoard x f).settings = s.settings := rfl
@[simp] theorem State.modSsu_settings (s : State) (f : Ssu → Ssu) : (s.modSsu f).settings = s.settings := rfl
@[simp] theorem State.modRsc_settings (s : State) (f : Rsc → Rsc) : (s.modRsc f).settings = s.settings := rfl
@[simp] theorem State.touch_settings (s : State) (p : MirrorPart) (e : Nat) : (s.touch p e).settings = s.settings := rfl
@[simp] theorem State.raise_settings (s : State) (c : Cause) (d : Nat) : (s.raise c d).settings = s.settings := rfl
@[simp] theorem State.raisePos_settings (s : State) (x : Side) (c : PosCause) (d : Nat) : (s.raisePos x c d).settings = s.settings := rfl

theorem foldl_settings {α : Type} {f : State → α → State} (hf : ∀ s x, (f s x).settings = s.settings) (l : List α) (s : State) :
    (l.foldl f s).settings = s.settings := by
  induction l generalizing s with
  | nil => rfl
  | cons a l ih => rw [List.foldl_cons, ih, hf]

@[simp] theorem State.modSale_settings (s : State) (side : Side) (f : Sale → Sale) : (s.modSale side f).settings = s.settings := by
  unfold State.modSale; split <;> rfl

@[simp] theorem State.postGrade_settings (s : State) (side : Side) (h : HoseNo) : (s.postGrade side h).settings = s.settings := by
  unfold State.postGrade; split <;> rfl

@[simp] theorem State.postPanels_settings (s : State) (g : Fin 8) : (s.postPanels g).settings = s.settings :=
  foldl_settings (fun s side => by simpa using foldl_settings (fun s h => s.postGrade_settings side h) _ _) _ s

@[simp] theorem State.requestStep_settings (s : State) (rs : List RecordId) (q : List Requester) :
    (s.requestStep rs q).settings = s.settings :=
  Acts.settings (P := [.store]) (by simp (maxDischargeDepth := 8)) (by decide) (by decide) (by decide)

@[simp] theorem State.finishCard_settings (s : State) (l : LaneId) (r : List (Nat × Byte)) (o : CardOutcome) :
    (s.finishCard l r o).settings = s.settings := (Acts.finish s l r o).settings (by decide) (by decide) (by decide)

@[simp] theorem State.endWaiting_settings (s : State) (k : Kind) (r : List (Nat × Byte)) (o : CardOutcome) :
    (s.endWaiting k r o).settings = s.settings := by
  unfold State.endWaiting; split <;> simp

theorem State.applyPrice_settings (s : State) (g : Fin 8) (p : Nat) (c : RoundCode) : (s.applyPrice g p c).settings = s.settings := by
  obtain ⟨q, f, -, e⟩ := s.applyPrice_steps g p c
  rw [e, State.touch_settings]
  exact (State.requestStep_settings _ _ _).trans (by simp)

@[simp] theorem State.applyPrices_settings (s : State) : s.applyPrices.settings = s.settings :=
  foldl_settings (fun s g => by
    split
    · split
      · rfl
      · exact s.applyPrice_settings _ _ _
    · rfl) _ _

@[simp] theorem State.withdrawCheck_settings (s : State) (side : Side) : (s.withdrawCheck side).settings = s.settings := by
  unfold State.withdrawCheck; split <;> rfl

@[simp] theorem State.releaseClaims_settings (s : State) (side : Side) (b : Bool) : (s.releaseClaims side b).settings = s.settings := by
  unfold State.releaseClaims
  split
  · rfl
  · rw [State.modPos_settings]
    refine foldl_settings (fun u c => ?_) _ _
    exact State.modMeter_settings ..

theorem State.fallBack_settings (s : State) (side : Side) (r : StartResult) (d : Nat) : (s.fallBack side r d).settings = s.settings := by
  refine ((s.fallBack_acts side r d).settings (by decide) (by decide) (by decide)).trans ?_
  simp [State.abandonStart]

@[simp] theorem State.postField_settings (s : State) (side : Side) (f : FieldId) (c : Content) :
    (s.postField side f c).settings = s.settings := rfl

@[simp] theorem State.postAll_settings (s : State) (side : Side) (fs : List FieldId) (c : FieldId → Content) :
    (s.postAll side fs c).settings = s.settings :=
  foldl_settings (f := fun s f => s.postField side f (c f)) (fun s f => s.postField_settings side f (c f)) fs s

theorem State.lockSale_settings (s : State) (side : Side) (p : Nat) : (s.lockSale side p).settings = s.settings := by
  unfold State.lockSale
  dsimp only
  split <;> simp [State.beginStartCheck]

@[simp] theorem State.gate_settings (s : State) (side : Side) : (s.gate side).settings = s.settings := by
  unfold State.gate
  dsimp only
  (repeat' split) <;> simp [State.fallBack_settings, State.lockSale_settings]

/-! The night entry, the wake stages that the store's answers set going, the store itself. -/

@[simp] theorem State.setPace_settings (s : State) (side : Side) : (s.setPace side).settings = s.settings := rfl
@[simp] theorem State.setSite_settings (s : State) (st : SiteState) : (s.setSite st).settings = s.settings := rfl

@[simp] theorem State.enterNight_settings (s : State) : s.enterNight.settings = s.settings := by
  have ha : s.readerToOff.settings = s.settings := Acts.settings (P := [.memory, .parity, .lanes, .notices, .reader])
    (by simp (maxDischargeDepth := 8)) (by decide) (by decide) (by decide)
  unfold State.enterNight
  split <;> simp [ha]

@[simp] theorem State.refreshPanel_settings (s : State) (side : Side) (g : Fin 8) : (s.refreshPanel side g).settings = s.settings := rfl

@[simp] theorem State.refreshSide_settings (s : State) (side : Side) : (s.refreshSide side).settings = s.settings :=
  foldl_settings (f := fun s g => s.refreshPanel side g) (fun s g => s.refreshPanel_settings side g) _ s

@[simp] theorem State.requestSegment_settings (s : State) (side : Side) (o g : Bool) : (s.requestSegment side o g).settings = s.settings := by
  unfold State.requestSegment; split <;> simp

theorem State.beginDisplayTest_settings (s : State) : s.beginDisplayTest.settings = s.settings := by
  simp [State.beginDisplayTest, State.refreshPanels, State.beginStage]

@[simp] theorem State.reportRestored_settings (s : State) : s.reportRestored.settings = s.settings := by
  unfold State.reportRestored
  dsimp only
  split <;> simp [State.beginDisplayTest_settings, State.endStage]

theorem State.finishLoad_settings (s : State) : s.finishLoad.settings = s.settings := by
  unfold State.finishLoad
  split
  · rfl
  · split
    · exact State.endWaiting_settings _ _ _ _
    · rfl

theorem State.answer_settings (s : State) (q : Requester) : (s.answer q).settings = s.settings := by
  cases q with
  | loadPrice => exact State.finishLoad_settings _
  | nightMeters => exact s.enterNight_settings
  | header => exact (State.reportRestored_settings _).trans (Acts.settings (P := [.memory, .parity])
      (by simp (maxDischargeDepth := 8)) (by decide) (by decide) (by decide))
  | card l off => exact (Acts.endStored (.refl s cardParts) l off (by decide)).settings (by decide) (by decide) (by decide)
  | nightReader => exact (Acts.nightReaderDone (.refl s [.site, .store]) (by decide)).settings (by decide) (by decide) (by decide)
  | rebuild => exact (Acts.rebuildDone (.refl s [.memory, .parity, .lanes, .notices, .site, .store]) (by decide)).settings (by decide) (by decide) (by decide)
  | freeze side => cases side <;> rfl

theorem State.runStore_settings (n : Nat) (s : State) : (State.runStore n s).settings = s.settings := by
  induction n generalizing s with
  | zero => rfl
  | succ n ih =>
    have hb : s.beginStep.1.settings = s.settings := Acts.settings (P := [.store]) (by simp (maxDischargeDepth := 8))
      (by decide) (by decide) (by decide)
    unfold State.runStore
    dsimp only
    split
    · rw [ih, State.answerAll, foldl_settings State.answer_settings, hb]
    · rfl

/-! The displays. -/

@[simp] theorem State.updateField_settings (s : State) (side : Side) (f : FieldId) (c : Content) :
    (s.updateField side f c).settings = s.settings := rfl

@[simp] theorem State.sendContents_settings (s : State) (side : Side) : (s.sendContents side).settings = s.settings := by
  have hl : (s.sendLegal side).settings = s.settings := by
    unfold State.sendLegal; split
    · rfl
    · exact foldl_settings (f := fun u f => u.updateField side f ((s.pos side).legalContent f)) (fun _ _ => rfl) _ _
  unfold State.sendContents
  split <;> simp [hl]

@[simp] theorem State.serve_settings (s : State) (side : Side) : (s.serve side).settings = s.settings := by
  unfold State.serve; (repeat' split) <;> rfl

@[simp] theorem State.reportFields_settings (s : State) (side : Side) (b : Fields) : (s.reportFields side b).settings = s.settings :=
  foldl_settings (fun _ _ => by split <;> rfl) _ _

theorem State.eventEnd_settings (s : State) : s.eventEnd.settings = s.settings := by
  have hp : s.examinePanels.examinePositions.settings = s.settings :=
    Acts.settings (P := [.memory, .parity, .lanes, .notices, .reader, .site, .store]) (by simp (maxDischargeDepth := 8))
      (by decide) (by decide) (by decide)
  simp [State.eventEnd, State.sendAll, State.finishLoad_settings, State.runStore_settings, hp]

/-- The end of an event leaves every setting. -/
theorem State.react_settings (s : State) : s.react.settings = s.settings := by
  refine State.react_induction (R := fun u => u.settings = s.settings) rfl (fun u hu => ?_) fun u hu => ?_
  · simp [State.examine_def, State.eventEnd_settings, hu]
  · simp [State.serveLinks, State.serveLink, hu]

/-- The settings that the end of an event leaves, each by its name. -/
theorem State.react_kept (s : State) : s.react.miu.routes = s.miu.routes ∧ s.react.miu.enables = s.miu.enables
    ∧ s.react.pru.siteMode = s.pru.siteMode ∧ s.react.pru.totalsForm = s.pru.totalsForm ∧ s.react.dlc.policy = s.dlc.policy := by
  have h := s.react_settings
  generalize s.react = u at h
  simpa only [State.settings, Settings.mk.injEq] using h

end Sys2Proof.Machine
end

section
/-! PROOFS. Cards that are refused and cards that wait on a store step, as the statements say it (R178, R199, R200). -/
namespace Sys2Proof.Machine

variable {s t u v : State} {P : List Part} {k : Kind} {off : Nat} {c : Card} {o : CardOutcome}

/-! ## Refusals -/

/-- A finish whose card's link shows END: the card is closed and the lane ends its chain (R200). -/
theorem State.finishCard_ends {l : LaneId} {h : Held} (hh : (s.lane l).held = some h) (hl : s.readLink h.offset = .atEnd)
    (results : List (Nat × Byte)) (o : CardOutcome) : s.finishCard l results o =
      ((((s.modLane l fun x => { x with st := .walking }).writeAt (h.offset + 16) results).closeCard l h.offset h.card.note [] o).moveOn l
        h.offset .atEnd).1 := by
  have hl' : (((s.modLane l fun x => { x with st := .walking }).writeAt (h.offset + 16) results).readLink h.offset) = .atEnd :=
    State.readLink_results (by rw [State.readLink_atEnd] at *; simpa using hl) _
  simp only [State.finishCard, hh, hl']
  rw [State.follow, (State.moveOn_atEnd _ l h.offset).1]
  rfl

theorem State.moveOn_lane_ne (s : State) {l x : LaneId} (h : x ≠ l) (off : Nat) : (s.moveOn l off .atEnd).1.lane x = s.lane x := by
  unfold State.moveOn
  split <;> simp [State.raiseLane, State.modLane_lane_eq, h]

theorem State.lane_congr (h : t.lanes = s.lanes) (x : LaneId) : t.lane x = s.lane x := by cases x <;> simp only [State.lane, h]

theorem State.writeHalf_lane (s : State) (a : Nat) (v : Half) (x : LaneId) : (s.writeHalf a v).lane x = s.lane x := State.lane_congr rfl x

theorem State.writeAt_lane (s : State) (a : Nat) (r : List (Nat × Byte)) (x : LaneId) : (s.writeAt a r).lane x = s.lane x :=
  State.lane_congr (State.writeAt_lanes ..) x

theorem State.closeCard_lane_ne (s : State) {l x : LaneId} (h : x ≠ l) (off : Nat) (note : Bool) (r : List (Nat × Byte)) (o : CardOutcome) :
    (s.closeCard l off note r o).lane x = s.lane x := by
  simp only [State.closeCard, State.markFinished]
  split <;> simp [State.raiseLane, State.modLane_lane_eq, h, State.writeHalf_lane, State.writeAt_lane]

/-- A finish whose card's link shows END leaves the other lanes. -/
theorem State.finishCard_lane_ne {l x : LaneId} {h : Held} (hx : x ≠ l) (hh : (s.lane l).held = some h)
    (hl : s.readLink h.offset = .atEnd) (results : List (Nat × Byte)) (o : CardOutcome) : (s.finishCard l results o).lane x = s.lane x := by
  rw [State.finishCard_ends hh hl, State.moveOn_lane_ne _ hx, State.closeCard_lane_ne _ hx, State.writeAt_lane, State.modLane_lane_eq,
    if_neg hx]

/-- A refused card in the terms of the statements (R199). -/
theorem State.refusesCard_refuse (h : s.holds k off c) (o : CardOutcome) :
    s.refusesCard (publish s (s.refuseCard k.lane o).react) k.lane off o := by
  refine ⟨State.endsCard_refuse h o, fun hc hl => ?_⟩
  have hw := State.refuseCard_calm hc k.lane o
  have ha : Acts s (s.refuseCard k.lane o) cardParts := Acts.refuse s _ _
  have hh : (s.lane k.lane).held = some { offset := off, card := c, phase := .undecided } := h.2.1
  have e : s.refuseCard k.lane o = (s.raiseLane k.lane .refused off).finishCard k.lane [] o := by
    rw [State.refuseCard, hh]
  have hh' : ((s.raiseLane k.lane .refused off).lane k.lane).held = some { offset := off, card := c, phase := .undecided } := hh
  have hl' : (s.raiseLane k.lane .refused off).readLink off = .atEnd := hl
  have hk {p : Part} (hp : p ≠ .displays) : p.kept (s.refuseCard k.lane o) (publish s (s.refuseCard k.lane o).react) := hw.event_kept s hp
  refine ⟨?_, fun x hx => ?_, fun hm x hx => ?_, ?_⟩
  · have hn : (publish s (s.refuseCard k.lane o).react).ntc = (s.refuseCard k.lane o).ntc := hk (p := .notices) (by decide)
    have hr : s.reports (s.refuseCard k.lane o) (.lane k.lane .refused) off := by
      rw [e]
      exact (Acts.finish _ _ _ _).notices.reports (State.reports_raise off rfl (by cases k.lane <;> decide))
    exact ⟨⟨by rw [hn]; exact hr.1.1, by rw [hn]; exact hr.1.2⟩, by rw [hn]; exact hr.2⟩
  · have hn : (publish s (s.refuseCard k.lane o).react).lanes = (s.refuseCard k.lane o).lanes := hk (p := .lanes) (by decide)
    have hx' : (s.refuseCard k.lane o).lane x = s.lane x := by
      rw [e, State.finishCard_lane_ne hx hh' hl']
      rfl
    rw [← hx']
    exact State.lane_congr hn x
  · have hn : (publish s (s.refuseCard k.lane o).react).xm = (s.refuseCard k.lane o).xm := hk (p := .memory) (by decide)
    have hx' : x < off + 4 ∨ off + 8 ≤ x := hx
    have hxm := (State.finishCard_atEnd (s := s.raiseLane k.lane .refused off) hm hh' hl' [] o).2
    dsimp only at hxm
    rw [hn, e, hxm, State.read_writeHalf_other _ _ (by omega) (by omega), State.read_writeHalf_other _ _ (by omega) (by omega)]
    rfl
  · exact ((ha.mono (by decide)).react_calm hw (by decide)).published

/-- A card that its owner refuses, in the terms of the statements. -/
theorem refuses_of (h : s.holds k off c) {f : Nat → Card → State → State} (e : f off c s = s.refuseCard k.lane o)
    {i : Host.Outcome State Fault Refusal} (hi : i = cardEvent s k f) : ∃ t, i = .next t ∧ s.refusesCard t k.lane off o :=
  ⟨_, by rw [hi, cardEvent_on h f], by rw [e]; exact State.refusesCard_refuse h o⟩

/-! ## Cards that wait on a store step -/

theorem State.storeCard_lane (s : State) (l : LaneId) :
    (s.storeCard l).lane l = { s.lane l with held := (s.lane l).held.map fun h => { h with phase := .onStore } } := by
  simp [State.storeCard]

theorem State.liveContents_congr (h1 : t.miu = s.miu) (h2 : t.psc = s.psc) (h3 : t.pru = s.pru) (h4 : t.dlc.policy = s.dlc.policy)
    (h5 : t.iwu = s.iwu) (h6 : t.riu = s.riu) (h7 : t.ssu = s.ssu)
    (h8 : t.rsc.restart = s.rsc.restart ∧ t.rsc.totals = s.rsc.totals ∧ t.rsc.reader = s.rsc.reader) : t.liveContents = s.liveContents := by
  obtain ⟨e1, e2, e3⟩ := h8
  simp only [State.liveContents, State.liveConfig, h1, h2, h3, h4, h5, h6, h7, e1, e2, e3]

/-- The record of the store once a step has begun. -/
def Rsc.begun (r : Rsc) (step : StoreStep) (g : Nat) (contents : Contents) : Rsc :=
  { r with queue := [], active := some { step := step, generation := g, contents := contents } }

theorem State.sent_policy (s : State) : ((s.sendAll.serve .a).serve .b).dlc.policy = s.dlc.policy := by
  have h : ((s.sendAll.serve .a).serve .b).settings = s.settings := by
    simp [State.sendAll]
  exact congrArg Settings.policy h

/-- A step asked of the free store, alone, begins at the end of the event with the live values, and nothing else goes on (R178). -/
theorem State.react_asksStep (hc : u.calm) (hf : u.storeFree) {step : StoreStep} (hr : step.records ≠ allRecords)
    (hq : Requester.rebuild ∉ step.requesters) (hv : v = u.modRsc fun r => { r with queue := [step] }) :
    ∃ g, u.rsc.generation = some g ∧ v.react.rsc = u.rsc.begun step g u.liveContents ∧ v.react.liveContents = u.liveContents
      ∧ Acts u v.react [.store, .displays] := by
  obtain ⟨h0, h1, h2, h3, -, h5, h6⟩ := hc
  obtain ⟨ha, hk, hg, -⟩ := hf
  obtain ⟨g, hg⟩ := Option.isSome_iff_exists.mp hg
  refine ⟨g, hg, ?_⟩
  have e := State.react_begins (s := v) (st := step) (g := g) (by rw [hv]; exact h0) (by rw [hv]; exact h1) (by rw [hv]; exact h2)
    (by rw [hv]; exact h3) (by rw [hv]; rfl) (by rw [hv]; exact h5) (by rw [hv]; exact h6) (by rw [hv]; exact ha) (by rw [hv]; exact hk)
    (by rw [hv]; exact hg) hq hr
  generalize hw : v.modRsc _ = w at e
  have hwr : w.rsc = u.rsc.begun step g u.liveContents := by rw [← hw, hv]; rfl
  have hwa : Acts u w [.store] := by
    rw [← hw, hv]
    exact Acts.modRsc (Acts.modRsc (.refl u _) _ (by decide)) _ (by decide)
  have hs : Acts w ((w.sendAll.serve .a).serve .b) [.displays] := Acts.sent (.refl w _) (by decide)
  have hall : Acts u ((w.sendAll.serve .a).serve .b) [.store, .displays] := (hwa.mono (by decide)).trans (hs.mono (by decide))
  have hrs : ((w.sendAll.serve .a).serve .b).rsc = u.rsc.begun step g u.liveContents := (hs.frame .store (by decide)).trans hwr
  rw [e]
  refine ⟨hrs, State.liveContents_congr (hall.frame .meters (by decide)) (hall.frame .positions (by decide)) (hall.frame .prices (by decide)) ?_
    (hall.frame .inputs (by decide)) (hall.frame .reader (by decide)) (hall.frame .site (by decide)) (by rw [hrs]; exact ⟨rfl, rfl, rfl⟩), hall⟩
  rw [State.sent_policy, hwa.frame .displays (by decide)]

theorem State.requestStep_free (hf : u.storeFree) (hq : u.rsc.queue = []) (records : List RecordId) (who : List Requester) :
    u.requestStep records who = u.modRsc fun r => { r with queue := [{ records := records, requesters := who }] } := by
  obtain ⟨-, -, -, hp⟩ := hf
  have hp : u.powerDown = false := by simpa [State.powerDown] using hp
  simp only [State.requestStep, hp, Bool.false_and, Bool.false_eq_true, if_false]
  unfold State.modRsc
  dsimp only
  rw [hq]
  rfl

theorem State.storeFree.queue (hf : u.storeFree) (hc : u.calm) : u.rsc.queue = [] := by
  obtain ⟨ha, hk, -⟩ := hf
  obtain ⟨-, -, -, -, h4, -⟩ := hc
  rcases h4 with h | h | h
  · exact h
  · rw [ha] at h; cases h
  · rw [hk] at h; cases h

/-- The effect of a card that waits on a step of the store, itself on `u`, in the terms of the statements (R178, R199). -/
theorem State.startsStep_event {l : LaneId} (hl : u.lanes = s.lanes) (hg : u.rsc.generation = s.rsc.generation)
    (hc : s.calm → s.storeFree → u.calm) (hf : s.calm → s.storeFree → u.storeFree) {records : List RecordId} (hr : records ≠ allRecords) :
    s.startsStep (publish s ((u.storeCard l).requestStep records [.card l off]).react) records l off
      ∧ (s.calm → s.storeFree → Acts u ((u.storeCard l).requestStep records [.card l off]).react [.lanes, .store, .displays]) := by
  have hs : Acts u (u.storeCard l) [.lanes] := Acts.storeCard (.refl u _) l (by decide)
  have key (h1 : s.calm) (h2 : s.storeFree) : ∃ g, u.rsc.generation = some g
      ∧ ((u.storeCard l).requestStep records [.card l off]).react.rsc
        = u.rsc.begun { records := records, requesters := [.card l off] } g u.liveContents
      ∧ ((u.storeCard l).requestStep records [.card l off]).react.liveContents = u.liveContents
      ∧ Acts (u.storeCard l) ((u.storeCard l).requestStep records [.card l off]).react [.store, .displays] := by
    have hcu : (u.storeCard l).calm := hs.calm (hc h1 h2) (by decide) (by decide) (by decide) (fun x => hs.pos_eq (by decide) x)
      (hs.panelsStand (by decide) (by decide) (by decide) (by decide))
    have er : (u.storeCard l).rsc = u.rsc := hs.frame .store (by decide)
    have hfu : (u.storeCard l).storeFree := by
      unfold State.storeFree
      rw [er, hs.frame .site (by decide)]
      exact hf h1 h2
    obtain ⟨g, hg, e1, e2, e3⟩ := State.react_asksStep (u := u.storeCard l) hcu hfu (step := { records := records, requesters := [.card l off] })
      hr (by simp) (State.requestStep_free hfu (hfu.queue hcu) records [.card l off])
    have ec : (u.storeCard l).liveContents = u.liveContents := State.liveContents_congr (hs.frame .meters (by decide))
      (hs.frame .positions (by decide)) (hs.frame .prices (by decide)) (congrArg Dlc.policy (hs.frame .displays (by decide)))
      (hs.frame .inputs (by decide)) (hs.frame .reader (by decide)) (hs.frame .site (by decide)) (by rw [er]; exact ⟨rfl, rfl, rfl⟩)
    rw [er] at hg e1
    rw [ec] at e1 e2
    exact ⟨g, hg, e1, e2, e3⟩
  refine ⟨fun h1 h2 => ?_, fun h1 h2 => ?_⟩
  · obtain ⟨g, hgu, e1, e2, e3⟩ := key h1 h2
    generalize ((u.storeCard l).requestStep records [.card l off]).react = w at e1 e2 e3 ⊢
    have el : w.lanes = (u.storeCard l).lanes := e3.frame .lanes (by decide)
    refine ⟨⟨_, congrArg Rsc.active e1, rfl, by rw [← hg, hgu], e2.symm⟩, ?_⟩
    rw [show (publish s w).lane l = w.lane l from State.lane_congr (publish_lanes s w) l, State.lane_congr el, State.storeCard_lane,
      State.lane_congr hl]
    exact ⟨rfl, rfl⟩
  · obtain ⟨g, -, -, -, e3⟩ := key h1 h2
    generalize ((u.storeCard l).requestStep records [.card l off]).react = w at e3 ⊢
    exact (hs.mono (by decide)).trans (e3.mono (by decide))

end Sys2Proof.Machine
end

section
/-! PROOFS. What a card of each kind is refused with for its target, its form or its body (10, Layouts and Card kinds). -/
namespace Sys2Proof.Machine

variable {s : State} {c : Card} {k : Kind} {off : Nat} {o : CardOutcome}

/-! ## Targets -/

theorem Card.side_eq_none : c.side = none ↔ ¬ c.to ≤ 1 := by
  unfold Card.side
  split <;> simp_all
  omega

theorem Card.hose_eq_none : c.hose = none ↔ ¬ c.to ≤ 7 := by
  unfold Card.hose
  split <;> simp_all
  omega

theorem Card.meter_eq_none : c.meter = none ↔ ¬ (1 ≤ c.to ∧ c.to ≤ 8) := by
  unfold Card.meter meterOfNumber
  split <;> simp_all

theorem Card.grade_eq_none : c.grade = none ↔ ¬ c.to ≤ 7 := by
  unfold Card.grade gradeOfNumber
  split <;> simp <;> omega

theorem Card.buffer_eq_none : c.buffer = none ↔ ¬ c.to ≤ 127 := by
  unfold Card.buffer
  split <;> simp_all

theorem meterOfNumber_eq_none {n : Nat} : meterOfNumber n = none ↔ ¬ (1 ≤ n ∧ n ≤ 8) := by
  unfold meterOfNumber
  split <;> simp_all

theorem meterOfNumber_inj {n m : Nat} {x : MeterNo} (h : meterOfNumber n = some x) : meterOfNumber m = some x ↔ m = n := by
  unfold meterOfNumber at *
  split at h <;> cases h
  split <;> simp <;> omega

/-! ## Codes -/

theorem Decoding.ofCode_eq_none {n : Nat} : Decoding.ofCode n = none ↔ ¬ n ≤ 1 := by
  unfold Decoding.ofCode
  split <;> simp_all
  omega

theorem Form.ofCode_eq_none {n : Nat} : Form.ofCode n = none ↔ ¬ n ≤ 1 := by
  unfold Form.ofCode
  split <;> simp_all
  omega

theorem PanelAction.ofCode_eq_none {n : Nat} : PanelAction.ofCode n = none ↔ ¬ n ≤ 1 := by
  unfold PanelAction.ofCode
  split <;> simp_all
  omega

theorem WatchMode.ofCode_eq_none {n : Nat} : WatchMode.ofCode n = none ↔ ¬ n ≤ 1 := by
  unfold WatchMode.ofCode
  split <;> simp_all
  omega

theorem Origin.ofCode_eq_none {n : Nat} : Origin.ofCode n = none ↔ ¬ n ≤ 2 := by
  unfold Origin.ofCode
  split <;> simp_all
  omega

theorem RouteKind.ofCode_eq_none {n : Nat} : RouteKind.ofCode n = none ↔ ¬ n ≤ 2 := by
  unfold RouteKind.ofCode
  split <;> simp_all
  omega

theorem RouteKind.ofCode_eq_some {n : Nat} {x : RouteKind} : RouteKind.ofCode n = some x ↔ n = x.code := by
  unfold RouteKind.ofCode
  split <;> cases x <;> simp_all [RouteKind.code]

theorem RoundMode.ofCode_eq_none {n : Nat} : RoundMode.ofCode n = none ↔ ¬ n ≤ 4 := by
  unfold RoundMode.ofCode
  split <;> simp_all
  omega

theorem RoundCode.ofCode_eq_none {n : Nat} : RoundCode.ofCode n = none ↔ ¬ (n ≤ 4 ∨ n = 7) := by
  unfold RoundCode.ofCode
  split
  · simp_all
  · simp_all [RoundMode.ofCode_eq_none]

theorem Card.form_lt (c : Card) : c.form < 4 := Nat.mod_lt _ (by decide)

theorem Card.reportForm_eq_none {f : Form} : c.reportForm f = none ↔ c.form = 3 := by
  have := c.form_lt
  unfold Card.reportForm
  split <;> simp_all
  omega

theorem gradeOfNumber_eq_none {n : Nat} : gradeOfNumber n = none ↔ ¬ n ≤ 7 := by
  unfold gradeOfNumber
  split <;> simp <;> omega

theorem knownFrameKind_iff {b : Byte} : knownFrameKind b = true ↔ b.toNat = 1 ∨ b.toNat = 2 := by
  simp [knownFrameKind, BitVec.toNat_eq]

/-! ## Bodies -/

theorem Card.meterConfig_eq_none : c.meterConfig = none ↔
    ¬ (c.b 0 ≤ 1 ∧ 1 ≤ c.b 2 ∧ 1 ≤ c.b 3 ∧ c.b 3 ≤ 15 ∧ 10000 ≤ c.w 1 ∧ c.w 1 ≤ 2000000) := by
  unfold Card.meterConfig
  split
  · rename_i h
    have := Decoding.ofCode_eq_none.mp h
    simp [this]
  · rename_i d h
    have : c.b 0 ≤ 1 := by
      by_contra hn
      rw [Decoding.ofCode_eq_none.mpr hn] at h
      cases h
    split <;> simp_all

theorem Card.preset_eq_none : c.preset = none ↔ ¬ (c.b 5 ≤ 2 ∧ (c.b 5 = 2 → 1 ≤ c.w 2 ∧ c.w 2 ≤ 9999999)) := by
  unfold Card.preset
  split <;> simp_all
  omega

theorem Card.authorization_eq_none : c.authorization = none ↔ ¬ (c.b 5 ≤ 2 ∧ (c.b 5 = 2 → 1 ≤ c.w 2 ∧ c.w 2 ≤ 9999999) ∧ c.b 6 ≤ 2
    ∧ c.w 3 ≤ 99999 ∧ c.w 4 ≤ 3600) := by
  have hp := c.preset_eq_none
  have ho := Origin.ofCode_eq_none (n := c.b 6)
  unfold Card.authorization
  cases h1 : c.preset <;> cases h2 : Origin.ofCode (c.b 6) <;> simp only [h1, h2, reduceCtorEq, true_iff, false_iff, not_not] at hp ho ⊢ <;>
    grind

theorem Card.positionConfig_eq_none : c.positionConfig = none ↔ ¬ (1000 ≤ c.w 0 ∧ c.w 0 ≤ 99999990 ∧ 5 ≤ c.h 4 ∧ c.h 4 ≤ 120 ∧ 5 ≤ c.h 6
    ∧ c.h 6 ≤ 300 ∧ c.h 8 ≤ 5000 ∧ 100 ≤ c.h 10 ∧ c.h 10 ≤ 2000 ∧ c.b 12 ≤ 1) := by
  have hf := Form.ofCode_eq_none (n := c.b 12)
  unfold Card.positionConfig
  cases h1 : Form.ofCode (c.b 12) <;> simp only [h1, reduceCtorEq, true_iff, false_iff, not_not] at hf ⊢ <;> grind

theorem Card.hoseRoute_eq_none : c.hoseRoute = none ↔ ¬ (c.b 1 ≤ 7 ∧ c.b 2 ≤ 2 ∧ 1 ≤ c.b 3 ∧ c.b 3 ≤ 8
    ∧ (1 ≤ c.b 2 → 1 ≤ c.b 4 ∧ c.b 4 ≤ 8 ∧ c.b 4 ≠ c.b 3) ∧ (c.b 2 = 1 → c.b 5 ≤ 100) ∧ c.h 6 ≤ 5000) := by
  have hg := gradeOfNumber_eq_none (n := c.b 1)
  have hk := RouteKind.ofCode_eq_none (n := c.b 2)
  have hp := meterOfNumber_eq_none (n := c.b 3)
  have h2 := meterOfNumber_eq_none (n := c.b 4)
  unfold Card.hoseRoute
  cases e1 : gradeOfNumber (c.b 1) <;> cases e2 : RouteKind.ofCode (c.b 2) <;> cases e3 : meterOfNumber (c.b 3) <;>
    simp only [e1, e2, e3, reduceCtorEq, true_iff, false_iff, not_not] at hg hk hp ⊢
  all_goals try grind
  rename_i g x p
  have hx := RouteKind.ofCode_eq_some.mp e2
  have hq := meterOfNumber_inj (m := c.b 4) e3
  have hs : x ≠ .single ↔ 1 ≤ c.b 2 := by rw [hx]; cases x <;> simp [RouteKind.code]
  have hb : x = .blend ↔ c.b 2 = 1 := by rw [hx]; cases x <;> simp [RouteKind.code]
  split
  · grind
  · split
    · grind
    · split <;> grind

theorem Card.schedule_eq_none : c.schedule = none ↔ ¬ (c.b 0 = 0 ∨ c.b 0 = 1 ∧ c.w 1 ≤ 86399 ∧ c.w 2 ≤ 86399 ∧ c.w 1 ≠ c.w 2) := by
  unfold Card.schedule
  split
  · simp_all
  · split <;> simp_all
  · simp_all

/-! ## The refusals (log 48) -/

/-- What a kind's checks of target and body, in this order, refuse with. -/
def checked (target body : Bool) : Option CardOutcome := if !target then some .badTarget else if !body then some .badValue else none

theorem checked_eq_some {a b : Bool} (h : checked a b = some o) : a = false ∧ o = .badTarget ∨ a = true ∧ b = false ∧ o = .badValue := by
  unfold checked at h
  cases a <;> cases b <;> simp_all

theorem checked_eq_none {a b : Bool} (h : checked a b = none) : a = true ∧ b = true := by
  unfold checked at h
  cases a <;> cases b <;> simp_all

theorem Card.short_eq {k : Kind} : c.short k = true ↔ ¬ k.words ≤ c.words.toNat := by
  simp [Card.short]

/-- A body is read only when it is as long as the kind's. -/
theorem Card.read_eq_none {α : Type} {x : Option α} : (if c.short k then none else x) = none ↔ ¬ (k.words ≤ c.words.toNat ∧ x ≠ none) := by
  by_cases h : c.short k <;> simp_all [Card.short]

theorem Card.exists_side (h : decide (c.to ≤ 1) = true) : ∃ side, c.side = some side :=
  Option.ne_none_iff_exists'.mp fun e => Card.side_eq_none.mp e (of_decide_eq_true h)

theorem Card.exists_hose (h : decide (c.to ≤ 7) = true) : ∃ side n, c.hose = some (side, n) := by
  obtain ⟨⟨side, n⟩, e⟩ := Option.ne_none_iff_exists'.mp fun e => Card.hose_eq_none.mp e (of_decide_eq_true h)
  exact ⟨side, n, e⟩

theorem Card.exists_meter (h : decide (1 ≤ c.to ∧ c.to ≤ 8) = true) : ∃ m, c.meter = some m :=
  Option.ne_none_iff_exists'.mp fun e => Card.meter_eq_none.mp e (of_decide_eq_true h)

theorem Card.exists_grade (h : decide (c.to ≤ 7) = true) : ∃ g, c.grade = some g :=
  Option.ne_none_iff_exists'.mp fun e => Card.grade_eq_none.mp e (of_decide_eq_true h)

theorem Card.exists_buffer (h : decide (c.to ≤ 127) = true) : ∃ b, c.buffer = some b :=
  Option.ne_none_iff_exists'.mp fun e => Card.buffer_eq_none.mp e (of_decide_eq_true h)

/-- The lane 0 cards. -/
theorem misfits_dispense (hk : k.lane = .dispense) (h : c.misfits k = some o) : k.decision off c s = s.refuseCard .dispense o := by
  have noSide (ht : decide (c.to ≤ 1) = false) : c.side = none := Card.side_eq_none.mpr (of_decide_eq_false ht)
  cases k <;> simp only [Kind.lane, reduceCtorEq] at hk <;> simp only [Kind.decision]
  case authorize =>
    rcases checked_eq_some (o := o) h with ⟨ht, rfl⟩ | ⟨ht, hb, rfl⟩
    · simp only [decideAuthorize, noSide ht]
    · obtain ⟨side, hs⟩ := Card.exists_side ht
      have hr : (if c.short .authorize then none else c.authorization) = none := by
        rw [Card.read_eq_none, ne_eq, Card.authorization_eq_none, not_not]
        exact of_decide_eq_false hb
      simp only [decideAuthorize, hs, hr]
  case closeSale =>
    rcases checked_eq_some (o := o) h with ⟨ht, rfl⟩ | ⟨ht, hb, rfl⟩
    · simp only [decideCloseSale, noSide ht]
    · obtain ⟨side, hs⟩ := Card.exists_side ht
      have hr : c.short .closeSale = true := Card.short_eq.mpr (of_decide_eq_false hb)
      simp only [decideCloseSale, hs, hr, if_true]
  case readSale =>
    change (if c.to ≤ 1 ∧ c.form = 3 then some .badForm else checked (c.to ≤ 1) (12 ≤ c.words.toNat ∧ c.b 0 ≤ 2)) = some o at h
    split at h
    · rename_i hf
      obtain ⟨side, hs⟩ := Card.exists_side (decide_eq_true hf.1)
      cases h
      simp only [decideReadSale, hs, Card.reportForm_eq_none.mpr hf.2]
    · rename_i hf
      rcases checked_eq_some h with ⟨ht, rfl⟩ | ⟨ht, hb, rfl⟩
      · simp only [decideReadSale, noSide ht]
      · obtain ⟨side, hs⟩ := Card.exists_side ht
        obtain ⟨f, hr⟩ : ∃ f, c.reportForm (s.pos side).config.form = some f :=
          Option.ne_none_iff_exists'.mp fun e => hf ⟨of_decide_eq_true ht, Card.reportForm_eq_none.mp e⟩
        have hv : c.short .readSale = true ∨ 2 < c.b 0 := by
          rw [Card.short_eq]
          have := of_decide_eq_false hb
          simp only [Kind.words]
          omega
        simp only [decideReadSale, hs, hr, if_pos hv]
  case stop =>
    rcases checked_eq_some (o := o) h with ⟨ht, rfl⟩ | ⟨-, hb, rfl⟩
    · have ht' := of_decide_eq_false ht
      have hs : c.side = none := Card.side_eq_none.mpr (by omega)
      simp only [decideStop, if_neg (show ¬ c.to = 2 by omega), hs]
    · cases hb
  all_goals
    rcases checked_eq_some (o := o) h with ⟨ht, rfl⟩ | ⟨-, hb, rfl⟩
    · simp only [decideCancel, decideResume, decideClosePosition, decideOpenPosition, noSide ht]
    · cases hb

/-- The reader's cards. -/
theorem misfits_reader (hk : k.lane = .reader) (h : c.misfits k = some o) : k.decision off c s = s.refuseCard .reader o := by
  have noBuffer (ht : decide (c.to ≤ 127) = false) : c.buffer = none := Card.buffer_eq_none.mpr (of_decide_eq_false ht)
  cases k <;> simp only [Kind.lane, reduceCtorEq] at hk <;> simp only [Kind.decision]
  case send =>
    rcases checked_eq_some (o := o) h with ⟨ht, rfl⟩ | ⟨ht, hb, rfl⟩
    · simp only [decideSend, noBuffer ht]
    · obtain ⟨b, hs⟩ := Card.exists_buffer ht
      have hv : c.short .send = true ∨ !knownFrameKind (c.byte 0) ∨ c.b 1 < 1 ∨ 250 < c.b 1 := by
        have := of_decide_eq_false hb
        rw [Card.short_eq, Bool.not_eq_true', ← Bool.not_eq_true, knownFrameKind_iff]
        simp only [Kind.words, Card.b] at *
        omega
      simp only [decideSend, hs, if_pos hv]
  case armReceive =>
    rcases checked_eq_some (o := o) h with ⟨ht, rfl⟩ | ⟨ht, hb, rfl⟩
    · simp only [decideArmReceive, noBuffer ht]
    · obtain ⟨b, hs⟩ := Card.exists_buffer ht
      have hr : c.short .armReceive = true := Card.short_eq.mpr (of_decide_eq_false hb)
      simp only [decideArmReceive, hs, hr, if_true]
  case disarmReceive =>
    rcases checked_eq_some (o := o) h with ⟨ht, rfl⟩ | ⟨-, hb, rfl⟩
    · simp only [decideDisarmReceive, noBuffer ht]
    · cases hb
  all_goals cases h

theorem Card.read_configurePosition : (if c.short .configurePosition then none else c.positionConfig) = none
    ↔ ¬ (4 ≤ c.words.toNat ∧ 1000 ≤ c.w 0 ∧ c.w 0 ≤ 99999990 ∧ 5 ≤ c.h 4 ∧ c.h 4 ≤ 120 ∧ 5 ≤ c.h 6 ∧ c.h 6 ≤ 300
      ∧ c.h 8 ≤ 5000 ∧ 100 ≤ c.h 10 ∧ c.h 10 ≤ 2000 ∧ c.b 12 ≤ 1) := by
  rw [Card.read_eq_none, ne_eq, Card.positionConfig_eq_none, not_not]
  rfl

theorem Card.read_configureHose : (if c.short .configureHose then none else c.hoseRoute) = none
    ↔ ¬ (2 ≤ c.words.toNat ∧ c.b 1 ≤ 7 ∧ c.b 2 ≤ 2 ∧ 1 ≤ c.b 3 ∧ c.b 3 ≤ 8
      ∧ (1 ≤ c.b 2 → 1 ≤ c.b 4 ∧ c.b 4 ≤ 8 ∧ c.b 4 ≠ c.b 3) ∧ (c.b 2 = 1 → c.b 5 ≤ 100) ∧ c.h 6 ≤ 5000) := by
  rw [Card.read_eq_none, ne_eq, Card.hoseRoute_eq_none, not_not]
  rfl

theorem Card.read_setRouting : (c.short .setRouting ∨ c.b 2 < 1 ∨ 20 < c.b 2 ∨ 10000 < c.w 1)
    ↔ ¬ (2 ≤ c.words.toNat ∧ 1 ≤ c.b 2 ∧ c.b 2 ≤ 20 ∧ c.w 1 ≤ 10000) := by
  rw [Card.short_eq]
  simp only [Kind.words]
  omega

theorem Card.read_loadPrice : (if c.short .loadPrice ∨ c.w 0 < 1 ∨ 99999 < c.w 0 then none else RoundCode.ofCode (c.b 4)) = none
    ↔ ¬ (3 ≤ c.words.toNat ∧ 1 ≤ c.w 0 ∧ c.w 0 ≤ 99999 ∧ (c.b 4 ≤ 4 ∨ c.b 4 = 7)) := by
  have hr := RoundCode.ofCode_eq_none (n := c.b 4)
  rw [ite_eq_left_iff, hr, Card.short_eq]
  simp only [Kind.words]
  omega

theorem retryLimitOk_iff {n : Nat} : retryLimitOk n = true ↔ n = 1 ∨ n = 3 ∨ n = 7 ∨ n = 15 := by
  simp [retryLimitOk, or_assoc]

theorem Card.read_setDisplayPolicy : (if c.short .setDisplayPolicy || !retryLimitOk (c.b 0) then none else PanelAction.ofCode (c.b 1)) = none
    ↔ ¬ (1 ≤ c.words.toNat ∧ (c.b 0 = 1 ∨ c.b 0 = 3 ∨ c.b 0 = 7 ∨ c.b 0 = 15) ∧ c.b 1 ≤ 1) := by
  have hr := PanelAction.ofCode_eq_none (n := c.b 1)
  have h1 : c.short .setDisplayPolicy = true ↔ ¬ 1 ≤ c.words.toNat := Card.short_eq
  have h2 := retryLimitOk_iff (n := c.b 0)
  rw [ite_eq_left_iff, hr, Bool.or_eq_true, h1, Bool.not_eq_true', ← Bool.not_eq_true, h2]
  omega

theorem Card.read_setWatch : (if c.short .setWatch ∨ c.b 0 < 1 ∨ 20 < c.b 0 then none else WatchMode.ofCode (c.b 1)) = none
    ↔ ¬ (1 ≤ c.words.toNat ∧ 1 ≤ c.b 0 ∧ c.b 0 ≤ 20 ∧ c.b 1 ≤ 1) := by
  have hr := WatchMode.ofCode_eq_none (n := c.b 1)
  rw [ite_eq_left_iff, hr, Card.short_eq]
  simp only [Kind.words]
  omega

theorem Card.read_setRelayFloor : (c.short .setRelayFloor || !floorOk (c.h 0)) = true
    ↔ ¬ (1 ≤ c.words.toNat ∧ 0x4000 ≤ c.h 0 ∧ c.h 0 ≤ 0x7C00 ∧ c.h 0 % 0x400 = 0) := by
  have h1 : c.short .setRelayFloor = true ↔ ¬ 1 ≤ c.words.toNat := Card.short_eq
  have h2 : floorOk (c.h 0) = true ↔ 0x4000 ≤ c.h 0 ∧ c.h 0 ≤ 0x7C00 ∧ c.h 0 % 0x400 = 0 := by simp [floorOk, and_assoc]
  rw [Bool.or_eq_true, h1, Bool.not_eq_true', ← Bool.not_eq_true, h2]
  omega

theorem Card.read_setSchedule : (if c.short .setSchedule then none else c.schedule) = none
    ↔ ¬ (3 ≤ c.words.toNat ∧ (c.b 0 = 0 ∨ c.b 0 = 1 ∧ c.w 1 ≤ 86399 ∧ c.w 2 ≤ 86399 ∧ c.w 1 ≠ c.w 2)) := by
  rw [Card.read_eq_none, ne_eq, Card.schedule_eq_none, not_not]
  rfl

/-- SET PRICING with its body out of range. -/
theorem decideSetPricing_badValue (h : ¬ (1 ≤ c.words.toNat ∧ c.b 0 ≤ 4 ∧ c.b 1 ≤ 1)) :
    decideSetPricing off c s = s.refuseCard .site .badValue := by
  have h0 := RoundMode.ofCode_eq_none (n := c.b 0)
  have h1 := Form.ofCode_eq_none (n := c.b 1)
  have hs : c.short .setPricing = true ↔ ¬ 1 ≤ c.words.toNat := Card.short_eq
  unfold decideSetPricing
  split
  · rename_i m f e0 e1
    rw [e0] at h0
    rw [e1] at h1
    rw [if_pos (hs.mpr (by simp only [reduceCtorEq, false_iff, not_not] at h0 h1; omega))]
  · rfl

/-- The lane 1 cards. -/
theorem misfits_site (hk : k.lane = .site) (h : c.misfits k = some o) : k.decision off c s = s.refuseCard .site o := by
  have noMeter (ht : decide (1 ≤ c.to ∧ c.to ≤ 8) = false) : c.meter = none := Card.meter_eq_none.mpr (of_decide_eq_false ht)
  have noHose (ht : decide (c.to ≤ 7) = false) : c.hose = none := Card.hose_eq_none.mpr (of_decide_eq_false ht)
  cases k <;> simp only [Kind.lane, reduceCtorEq] at hk <;> simp only [Kind.decision]
  case configureMeter =>
    rcases checked_eq_some (o := o) h with ⟨ht, rfl⟩ | ⟨ht, hb, rfl⟩
    · simp only [decideConfigureMeter, noMeter ht]
    · obtain ⟨m, hs⟩ := Card.exists_meter ht
      have hr : (if c.short .configureMeter then none else c.meterConfig) = none := by
        rw [Card.read_eq_none, ne_eq, Card.meterConfig_eq_none, not_not]
        exact of_decide_eq_false hb
      simp only [decideConfigureMeter, hs, hr]
  case configureHose =>
    rcases checked_eq_some (o := o) h with ⟨ht, rfl⟩ | ⟨ht, hb, rfl⟩
    · simp only [decideConfigureHose, noHose ht]
    · obtain ⟨side, n, hs⟩ := Card.exists_hose ht
      simp only [decideConfigureHose, hs, Card.read_configureHose.mpr (of_decide_eq_false hb)]
  case setRouting =>
    rcases checked_eq_some (o := o) h with ⟨ht, rfl⟩ | ⟨ht, hb, rfl⟩
    · cases ht
    · exact if_pos (Card.read_setRouting.mpr (of_decide_eq_false hb))
  case clearMeterFault =>
    rcases checked_eq_some (o := o) h with ⟨ht, rfl⟩ | ⟨-, hb, rfl⟩
    · simp only [decideClearMeterFault, noMeter ht]
    · cases hb
  case readMeters =>
    rcases checked_eq_some (o := o) h with ⟨ht, rfl⟩ | ⟨ht, hb, rfl⟩
    · simp only [decideReadMeters, noMeter ht]
    · obtain ⟨m, hs⟩ := Card.exists_meter ht
      have hr : c.short .readMeters = true := Card.short_eq.mpr (of_decide_eq_false hb)
      simp only [decideReadMeters, hs, hr, if_true]
  case setPricing =>
    rcases checked_eq_some (o := o) h with ⟨ht, rfl⟩ | ⟨ht, hb, rfl⟩
    · cases ht
    · exact decideSetPricing_badValue (of_decide_eq_false hb)
  case clearSiteFlags =>
    rcases checked_eq_some (o := o) h with ⟨ht, rfl⟩ | ⟨ht, hb, rfl⟩
    · cases ht
    · exact if_pos ((Card.short_eq (k := .clearSiteFlags)).mpr (of_decide_eq_false hb))
  case wakeNow =>
    rcases checked_eq_some (o := o) h with ⟨ht, rfl⟩ | ⟨ht, hb, rfl⟩
    · cases ht
    · exact if_pos ((Card.short_eq (k := .wakeNow)).mpr (of_decide_eq_false hb))
  case configurePosition =>
    rcases checked_eq_some (o := o) h with ⟨ht, rfl⟩ | ⟨ht, hb, rfl⟩
    · simp only [decideConfigurePosition, Card.side_eq_none.mpr (of_decide_eq_false ht)]
    · obtain ⟨side, hs⟩ := Card.exists_side ht
      simp only [decideConfigurePosition, hs, Card.read_configurePosition.mpr (of_decide_eq_false hb)]
  case loadPrice =>
    rcases checked_eq_some (o := o) h with ⟨ht, rfl⟩ | ⟨ht, hb, rfl⟩
    · simp only [decideLoadPrice, Card.grade_eq_none.mpr (of_decide_eq_false ht)]
    · obtain ⟨g, hs⟩ := Card.exists_grade ht
      simp only [decideLoadPrice, hs, Card.read_loadPrice.mpr (of_decide_eq_false hb)]
  case setDisplayPolicy =>
    rcases checked_eq_some (o := o) h with ⟨ht, rfl⟩ | ⟨ht, hb, rfl⟩
    · cases ht
    · simp only [decideSetDisplayPolicy, Card.read_setDisplayPolicy.mpr (of_decide_eq_false hb)]
  case setWatch =>
    rcases checked_eq_some (o := o) h with ⟨ht, rfl⟩ | ⟨ht, hb, rfl⟩
    · cases ht
    · simp only [decideSetWatch, Card.read_setWatch.mpr (of_decide_eq_false hb)]
  case setRelayFloor =>
    rcases checked_eq_some (o := o) h with ⟨ht, rfl⟩ | ⟨ht, hb, rfl⟩
    · cases ht
    · exact if_pos (Card.read_setRelayFloor.mpr (of_decide_eq_false hb))
  case setSchedule =>
    rcases checked_eq_some (o := o) h with ⟨ht, rfl⟩ | ⟨ht, hb, rfl⟩
    · cases ht
    · simp only [decideSetSchedule, Card.read_setSchedule.mpr (of_decide_eq_false hb)]
  case setClock =>
    rcases checked_eq_some (o := o) h with ⟨ht, rfl⟩ | ⟨ht, hb, rfl⟩
    · cases ht
    · have := of_decide_eq_false hb
      refine if_pos ?_
      rw [Card.short_eq]
      simp only [Kind.words]
      omega
  case readTotals =>
    change (if c.to ≤ 7 ∧ c.form = 3 then some .badForm else checked (c.to ≤ 7) (6 ≤ c.words.toNat)) = some o at h
    split at h
    · rename_i hf
      obtain ⟨side, n, hs⟩ := Card.exists_hose (decide_eq_true hf.1)
      cases h
      simp only [decideReadTotals, hs, Card.reportForm_eq_none.mpr hf.2]
    · rename_i hf
      rcases checked_eq_some h with ⟨ht, rfl⟩ | ⟨ht, hb, rfl⟩
      · simp only [decideReadTotals, noHose ht]
      · obtain ⟨side, n, hs⟩ := Card.exists_hose ht
        obtain ⟨f, hr⟩ : ∃ f, c.reportForm s.pru.totalsForm = some f :=
          Option.ne_none_iff_exists'.mp fun e => hf ⟨of_decide_eq_true ht, Card.reportForm_eq_none.mp e⟩
        have hv : c.short .readTotals = true := Card.short_eq.mpr (of_decide_eq_false hb)
        simp only [decideReadTotals, hs, hr, hv, if_true]
  all_goals cases h

/-- A card out of range is refused whatever the part's state (log 48). -/
theorem decision_of_misfits (h : c.misfits k = some o) : k.decision off c s = s.refuseCard k.lane o := by
  cases hl : k.lane with
  | dispense => exact misfits_dispense hl h
  | site => exact misfits_site hl h
  | reader => exact misfits_reader hl h

/-! ## Cards in range while the store is closed (R155) -/

/-- In range, the cards of the part's settings are refused BUSY while configuration is refused. -/
theorem decision_of_storeClosed (h : c.misfits k = none) (hs : s.storeClosed = true)
    (hk : k ∈ [Kind.configurePosition, .setPricing, .setDisplayPolicy, .setWatch, .setRelayFloor, .loadPrice, .readTotals, .setSchedule]) :
    k.decision off c s = s.refuseCard k.lane .busy := by
  have some_of {α : Type} {x : Option α} {p : Prop} (hx : x = none ↔ ¬ p) (hp : p) : ∃ a, x = some a :=
    Option.ne_none_iff_exists'.mp fun e => hx.mp e hp
  simp only [List.mem_cons, List.not_mem_nil, or_false] at hk
  rcases hk with rfl | rfl | rfl | rfl | rfl | rfl | rfl | rfl <;> simp only [Kind.decision, Kind.lane]
  · obtain ⟨ht, hb⟩ := checked_eq_none h
    obtain ⟨side, hc⟩ := Card.exists_side ht
    obtain ⟨g, hg⟩ := some_of Card.read_configurePosition (of_decide_eq_true hb)
    simp only [decideConfigurePosition, hc, hg, hs, if_true]
  · obtain ⟨-, hb⟩ := checked_eq_none h
    obtain ⟨b0, b1, b2⟩ := of_decide_eq_true hb
    obtain ⟨m, hm⟩ := some_of RoundMode.ofCode_eq_none b1
    obtain ⟨f, hf⟩ := some_of Form.ofCode_eq_none b2
    have hw : ¬ c.short .setPricing = true := fun e => Card.short_eq.mp e b0
    simp only [decideSetPricing, hm, hf, hw, hs, if_true, if_false, Bool.false_eq_true]
  · obtain ⟨-, hb⟩ := checked_eq_none h
    obtain ⟨g, hg⟩ := some_of Card.read_setDisplayPolicy (of_decide_eq_true hb)
    simp only [decideSetDisplayPolicy, hg, hs, if_true]
  · obtain ⟨-, hb⟩ := checked_eq_none h
    obtain ⟨g, hg⟩ := some_of Card.read_setWatch (of_decide_eq_true hb)
    simp only [decideSetWatch, hg, hs, if_true]
  · obtain ⟨-, hb⟩ := checked_eq_none h
    have hw := fun e => Card.read_setRelayFloor.mp e (of_decide_eq_true hb)
    unfold decideSetRelayFloor
    rw [if_neg hw, if_pos hs]
  · obtain ⟨ht, hb⟩ := checked_eq_none h
    obtain ⟨g, hc⟩ := Card.exists_grade ht
    obtain ⟨x, hx⟩ := some_of Card.read_loadPrice (of_decide_eq_true hb)
    simp only [decideLoadPrice, hc, hx, hs, if_true]
  · change (if c.to ≤ 7 ∧ c.form = 3 then some .badForm else checked (c.to ≤ 7) (6 ≤ c.words.toNat)) = none at h
    split at h
    · cases h
    · rename_i hf
      obtain ⟨ht, hb⟩ := checked_eq_none h
      obtain ⟨side, n, hc⟩ := Card.exists_hose ht
      obtain ⟨f, hr⟩ : ∃ f, c.reportForm s.pru.totalsForm = some f :=
        Option.ne_none_iff_exists'.mp fun e => hf ⟨of_decide_eq_true ht, Card.reportForm_eq_none.mp e⟩
      have hw : ¬ c.short .readTotals = true := fun e => Card.short_eq.mp e (of_decide_eq_true hb)
      simp only [decideReadTotals, hc, hr, hw, hs, if_true, if_false, Bool.false_eq_true]
  · obtain ⟨-, hb⟩ := checked_eq_none h
    obtain ⟨x, hx⟩ := some_of Card.read_setSchedule (of_decide_eq_true hb)
    simp only [decideSetSchedule, hx, hs, Bool.true_or, if_true]

end Sys2Proof.Machine
end

section
/-! PROOFS. Cards of the part's settings: their refusals, and the settings replaced (R29, R41, R75, R113). -/
namespace Sys2Proof.Machine

variable {s t u : State} {c : Card} {k : Kind} {off : Nat} {o : CardOutcome} {P : List Part}

/-! ## The command of a card that is refused -/

/-- The command of a card's kind is the event of its owner's decision. -/
theorem exec_command (s : State) (k : Kind) : exec k.command s = cardEvent s k k.decision := by cases k <;> rfl

theorem exec_command_on (h : s.holds k off c) : exec k.command s = .next (publish s (k.decision off c s).react) := by
  rw [exec_command, cardEvent_on h]

theorem exec_command_refuses (h : s.holds k off c) (e : k.decision off c s = s.refuseCard k.lane o) :
    ∃ t, exec k.command s = .next t ∧ s.refusesCard t k.lane off o :=
  refuses_of h e (exec_command s k)

/-- A refused card leaves every part that is no card's. -/
theorem refuse_keeps (hc : s.calm) (l : LaneId) (o : CardOutcome) {p : Part} (hp : p ∉ cardParts) (hd : p ≠ .displays) :
    p.kept s (publish s (s.refuseCard l o).react) :=
  Part.kept_trans ((Acts.refuse s l o).frame p hp) ((State.refuseCard_calm hc l o).event_kept s hd)

/-! ## Rounding (R29) -/

theorem RoundMode.ofCode_eq_some {mode : RoundMode} {n : Nat} : RoundMode.ofCode n = some mode ↔ n = mode.code := by
  unfold RoundMode.ofCode
  split <;> cases mode <;> simp_all [RoundMode.code]

/-- A price card whose body is out of range is refused and leaves the prices. -/
theorem exec_badValue (h : s.holds k off c) (e : c.misfits k = some .badValue) :
    ∃ t, exec k.command s = .next t ∧ s.endsCard t k.lane off .badValue ∧ (s.calm → t.pru = s.pru) := by
  have hd : k.decision off c s = s.refuseCard k.lane .badValue := decision_of_misfits e
  refine ⟨_, exec_command_on h, ?_, fun hc => ?_⟩
  · rw [hd]; exact State.endsCard_refuse h _
  · rw [hd]; exact refuse_keeps hc _ _ (p := .prices) (by decide) (by decide)

theorem misfits_badValue {target body : Bool} (ht : target = true) (hb : body = false) : checked target body = some .badValue := by
  subst ht hb; rfl

/-- Settles O22. -/
theorem amountRounding : Obligations.AmountRounding := by
  refine ⟨fun n => ?_, fun mode n k h => roundAmount_mono mode h, roundAmount_zero, fun mode code => RoundMode.ofCode_eq_some,
    fun s off c h ht hb => ?_, fun s off c h hb => ?_, rfl, fun s => rfl⟩
  · unfold roundAmount
    grind
  · exact exec_badValue h (misfits_badValue (decide_eq_true (by omega)) (decide_eq_false (by omega)))
  · exact exec_badValue h (misfits_badValue rfl (decide_eq_false (by omega)))

/-! ## Settings replaced (R41, R75, R113) -/

/-- What waits goes on waiting after a change of settings: site, positions, store, prices, boards and routes stand. -/
theorem calm_settings (h1 : t.ssu = s.ssu) (h2 : t.psc = s.psc) (h3 : t.rsc = s.rsc) (h4 : t.pru.grades = s.pru.grades)
    (h5 : t.pru.loading = s.pru.loading) (h6 : ∀ x, t.board x = s.board x) (h7 : t.miu.routes = s.miu.routes) (hc : s.calm) : t.calm := by
  have eg (g : Fin 8) : t.grade g = s.grade g := by simp only [State.grade, h4]
  have ep (x : Side) : t.pos x = s.pos x := by simp only [State.pos, h2]
  obtain ⟨c1, c2, c3, c4, c5, c6, c7⟩ := hc
  refine ⟨?_, State.closingWaits_congr h1 ep c2, ?_, ?_, ?_, fun side => ?_, ?_⟩
  · unfold State.panelsWait at *; simpa only [h1, eg] using c1
  · unfold State.pricesWait State.lockedOn at *; simpa only [h1, eg, ep] using c3
  · unfold State.loadWaits State.updating at *; simpa only [h1, h5, eg] using c4
  · unfold State.stepsWait at *; simpa only [h3] using c5
  · have := c6 side
    unfold State.gateWaits at *; simpa only [ep, eg] using this
  · have hs (g : Fin 8) (x : Side) : t.panelState g x = s.panelState g x :=
      State.panelState_congr h7 (by rw [h6]) fun k => by rw [h6]; exact ⟨.rfl, .rfl⟩
    unfold State.panelsStand at *; simpa only [h1, hs, eg] using c7

theorem Acts.storeFree (h : Acts s t P) (h1 : Part.site ∉ P) (h2 : Part.store ∉ P) (hf : s.storeFree) : t.storeFree := by
  unfold State.storeFree
  rw [h.frame .site h1, h.frame .store h2]
  exact hf

/-- A settings card that is accepted, its effect so far leading from `s` to `u` (R178, R199). -/
theorem finishOnConfig_event (ha : Acts s u P) (h1 : Part.site ∉ P) (h2 : Part.store ∉ P) (h3 : Part.lanes ∉ P) (hc : s.calm → u.calm) :
    s.startsStep (publish s (u.finishOnConfig .site off).react) [.config] .site off
      ∧ (s.calm → s.storeFree → Acts u (u.finishOnConfig .site off).react [.lanes, .store, .displays]) :=
  State.startsStep_event (ha.frame .lanes h3) (congrArg Rsc.generation (ha.frame .store h2)) (fun h _ => hc h)
    (fun _ h => ha.storeFree h1 h2 h) (by decide)

/-- What it leaves besides, when nothing else waits and the store is free. -/
theorem finishOnConfig_frame (ha : Acts s u P) (he : Acts u (u.finishOnConfig .site off).react [.lanes, .store, .displays]) :
    s.changesOnly (publish s (u.finishOnConfig .site off).react) (P ++ [.lanes, .store, .displays]) :=
  ((ha.mono (List.subset_append_left ..)).trans (he.mono (List.subset_append_right ..))).published

theorem Acts.onConfig (u : State) (off : Nat) : Acts u (u.finishOnConfig .site off) [.lanes, .store] :=
  Acts.finishOnConfig (.refl u _) .site off (List.Subset.refl _)

theorem Form.ofCode_code (f : Form) : Form.ofCode f.code = some f := by cases f <;> rfl

theorem PanelAction.ofCode_code (a : PanelAction) : PanelAction.ofCode a.code = some a := by cases a <;> rfl

theorem Decoding.ofCode_code (d : Decoding) : Decoding.ofCode d.code = some d := by cases d <;> rfl

/-- CONFIGURE POSITION accepted (R75). -/
theorem decideConfigurePosition_accepts {side : Side} {g : PositionConfig} (hc : c.side = some side) (hw : 4 ≤ c.words.toNat)
    (hg : c.positionConfig = some g) (hs : s.storeClosed = false) (ha : (s.pos side).st.atRest = true) :
    decideConfigurePosition off c s
      = ((s.modPos side fun p => { p with config := g }).touch (positionPart side) 23).finishOnConfig .site off := by
  have hshort : c.short .configurePosition = false := decide_eq_false (Nat.not_lt.mpr hw)
  simp [decideConfigurePosition, hc, hshort, hg, hs, ha]

theorem decideSetPricing_accepts {m : RoundMode} {f : Form} (hw : 1 ≤ c.words.toNat) (hm : c.b 0 = m.code) (hf : c.b 1 = f.code)
    (hs : s.storeClosed = false) : decideSetPricing off c s
      = ((s.modPru fun u => { u with siteMode := m, totalsForm := f }).touch .price 8).finishOnConfig .site off := by
  have hshort : c.short .setPricing = false := decide_eq_false (Nat.not_lt.mpr hw)
  simp [decideSetPricing, RoundMode.ofCode_eq_some.mpr hm, hf, Form.ofCode_code, hshort, hs]

theorem decideSetDisplayPolicy_accepts {a : PanelAction} (hw : 1 ≤ c.words.toNat) (hr : c.b 0 = 1 ∨ c.b 0 = 3 ∨ c.b 0 = 7 ∨ c.b 0 = 15)
    (hf : c.b 1 = a.code) (hs : s.storeClosed = false) : decideSetDisplayPolicy off c s
      = ((s.modDlc fun u => { u with policy := { retryLimit := c.b 0, action := a } }).writeWhole .dlc).finishOnConfig .site off := by
  have hshort : c.short .setDisplayPolicy = false := decide_eq_false (Nat.not_lt.mpr hw)
  simp [decideSetDisplayPolicy, hf, PanelAction.ofCode_code, hshort, hs, retryLimitOk_iff.mpr hr]

theorem PosState.atRest_ne_gate {st : PosState} (h : st.atRest = true) : st ≠ .starting .gate := by rintro rfl; cases h

/-- The first clause of O36: CONFIGURE POSITION. -/
theorem exec_configurePosition_accepts {side : Side} {g : PositionConfig} (h : s.holds .configurePosition off c) (hc : c.side = some side)
    (hw : 4 ≤ c.words.toNat) (hg : c.positionConfig = some g) (hs : s.storeClosed = false) (ha : (s.pos side).st.atRest = true) :
    ∃ t, exec .configurePosition s = .next t ∧ t.pos side = { s.pos side with config := g } ∧ s.startsStep t [.config] .site off
      ∧ (s.calm → s.storeFree → t.pos (other side) = s.pos (other side) ∧ s.changesOnly t [.positions, .lanes, .store, .displays]) := by
  refine ⟨_, exec_command_on (k := .configurePosition) h, ?_⟩
  simp only [Kind.decision]
  rw [decideConfigurePosition_accepts hc hw hg hs ha]
  generalize hu : (s.modPos side fun p => { p with config := g }).touch (positionPart side) 23 = u
  have hau : Acts s u [.positions] := hu ▸ Acts.touch (Acts.modPos (.refl s _) side _ (by decide)) _ _
  have hp : u.pos side = { s.pos side with config := g } := by rw [← hu, State.touch_pos, State.modPos_pos]
  have ho : u.pos (other side) = s.pos (other side) := by rw [← hu, State.touch_pos, State.modPos_pos_ne _ _ (other_ne side)]
  have hcalm (hc : s.calm) : u.calm := by
    refine calm_carriesOn (a := s.pru.accrued) (hau.mono (by decide)) (by rw [← hu]; rfl) (by rw [← hu]; rfl) (fun x => ?_) hc
    rcases eq_or_other side x with e | e <;> rw [e]
    · rw [hp]; exact ⟨.inl rfl, rfl⟩
    · rw [ho]; exact Position.carriesOn_refl _
  obtain ⟨e1, e2⟩ := finishOnConfig_event (off := off) hau (by decide) (by decide) (by decide) hcalm
  have hf := Acts.onConfig u off
  refine ⟨?_, e1, fun h1 h2 => ⟨?_, finishOnConfig_frame hau (e2 h1 h2)⟩⟩
  · rw [publish_react_pos, hf.pos_eq (by decide), hp]
    rw [hf.pos_eq (by decide), hp]
    exact PosState.atRest_ne_gate ha
  · rw [publish_pos, (e2 h1 h2).pos_eq (by decide), ho]

theorem exec_setPricing_accepts {m : RoundMode} {f : Form} (h : s.holds .setPricing off c) (hw : 1 ≤ c.words.toNat) (hm : c.b 0 = m.code)
    (hf : c.b 1 = f.code) (hs : s.storeClosed = false) :
    ∃ t, exec .setPricing s = .next t ∧ t.pru.siteMode = m ∧ t.pru.totalsForm = f ∧ s.startsStep t [.config] .site off
      ∧ (s.calm → s.storeFree → t.pru = { s.pru with siteMode := m, totalsForm := f }
          ∧ s.changesOnly t [.prices, .lanes, .store, .displays]) := by
  refine ⟨_, exec_command_on (k := .setPricing) h, ?_⟩
  simp only [Kind.decision]
  rw [decideSetPricing_accepts hw hm hf hs]
  generalize hu : (s.modPru fun u => { u with siteMode := m, totalsForm := f }).touch .price 8 = u
  have hau : Acts s u [.prices] := hu ▸ Acts.touch (Acts.modPru (.refl s _) _ (by decide)) _ _
  have hp : u.pru = { s.pru with siteMode := m, totalsForm := f } := by rw [← hu]; rfl
  have hcalm (hc : s.calm) : u.calm := by subst hu; exact calm_settings rfl rfl rfl rfl rfl (fun _ => rfl) rfl hc
  obtain ⟨e1, e2⟩ := finishOnConfig_event (off := off) hau (by decide) (by decide) (by decide) hcalm
  have hq : (u.finishOnConfig .site off).pru = u.pru := (Acts.onConfig u off).frame .prices (by decide)
  obtain ⟨-, -, k1, k2, -⟩ := (u.finishOnConfig .site off).react_kept
  rw [hq, hp] at k1 k2
  refine ⟨by rw [publish_pru]; exact k1, by rw [publish_pru]; exact k2, e1, fun h1 h2 => ⟨?_, finishOnConfig_frame hau (e2 h1 h2)⟩⟩
  rw [publish_pru, (e2 h1 h2).frame .prices (by decide), hp]

theorem exec_setDisplayPolicy_accepts {a : PanelAction} (h : s.holds .setDisplayPolicy off c) (hw : 1 ≤ c.words.toNat)
    (hr : c.b 0 = 1 ∨ c.b 0 = 3 ∨ c.b 0 = 7 ∨ c.b 0 = 15) (hf : c.b 1 = a.code) (hs : s.storeClosed = false) :
    ∃ t, exec .setDisplayPolicy s = .next t ∧ t.dlc.policy = { retryLimit := c.b 0, action := a } ∧ s.startsStep t [.config] .site off
      ∧ (s.calm → s.storeFree → s.changesOnly t [.lanes, .store, .displays]) := by
  refine ⟨_, exec_command_on (k := .setDisplayPolicy) h, ?_⟩
  simp only [Kind.decision]
  rw [decideSetDisplayPolicy_accepts hw hr hf hs]
  generalize hu : (s.modDlc fun u => { u with policy := { retryLimit := c.b 0, action := a } }).writeWhole .dlc = u
  have hau : Acts s u [.displays] := hu ▸ Acts.writeWhole (Acts.modDlc (.refl s _) _ (by decide)) _
  have hp : u.dlc.policy = { retryLimit := c.b 0, action := a } := by rw [← hu]; rfl
  have hcalm (hc : s.calm) : u.calm := by subst hu; exact calm_settings rfl rfl rfl rfl rfl (fun _ => rfl) rfl hc
  obtain ⟨e1, e2⟩ := finishOnConfig_event (off := off) hau (by decide) (by decide) (by decide) hcalm
  have hq : (u.finishOnConfig .site off).dlc = u.dlc := (Acts.onConfig u off).frame .displays (by decide)
  obtain ⟨-, -, -, -, k⟩ := (u.finishOnConfig .site off).react_kept
  rw [hq, hp] at k
  refine ⟨by rw [publish_dlc]; exact k, e1, fun h1 h2 => ?_⟩
  exact ((hau.mono (by decide)).trans (e2 h1 h2)).published

/-! ## The refusals of settings cards in range -/

theorem decideConfigurePosition_busy {side : Side} (hm : c.misfits .configurePosition = none) (hc : c.side = some side)
    (ha : (s.pos side).st.atRest = false) : decideConfigurePosition off c s = s.refuseCard .site .busy := by
  obtain ⟨-, hb⟩ := checked_eq_none hm
  obtain ⟨g, hg⟩ := Option.ne_none_iff_exists'.mp fun e => Card.read_configurePosition.mp e (of_decide_eq_true hb)
  simp only [decideConfigurePosition, hc, hg, ha]
  split <;> rfl

theorem decideSetSchedule_busy (hm : c.misfits .setSchedule = none) (hp : s.ssu.site = .powerDown) :
    decideSetSchedule off c s = s.refuseCard .site .busy := by
  obtain ⟨-, hb⟩ := checked_eq_none hm
  obtain ⟨x, hx⟩ := Option.ne_none_iff_exists'.mp fun e => Card.read_setSchedule.mp e (of_decide_eq_true hb)
  have hd : s.powerDown = true := by simp [State.powerDown, hp]
  simp only [decideSetSchedule, hx, hd, Bool.or_true, if_true]

/-- The configuration that CONFIGURE POSITION's body names. -/
theorem Card.positionConfig_of {g : PositionConfig} (h0 : c.w 0 = g.saleLimit) (h4 : c.h 4 = g.firstFlow) (h6 : c.h 6 = g.noFlow)
    (h8 : c.h 8 = g.motorSettle) (h10 : c.h 10 = g.settleWindow) (h12 : c.b 12 = g.form.code) (hr : 1000 ≤ g.saleLimit
      ∧ g.saleLimit ≤ 99999990 ∧ 5 ≤ g.firstFlow ∧ g.firstFlow ≤ 120 ∧ 5 ≤ g.noFlow ∧ g.noFlow ≤ 300 ∧ g.motorSettle ≤ 5000
      ∧ 100 ≤ g.settleWindow ∧ g.settleWindow ≤ 2000) : c.positionConfig = some g := by
  simp only [Card.positionConfig, h0, h4, h6, h8, h10, h12, Form.ofCode_code, if_pos hr]

/-- Settles O36: an accepted card replaces its settings and waits on a CONFIG step; every other is refused by its owner's checks. -/
theorem settingsCardsReplaceTheSettings : Obligations.SettingsCardsReplaceTheSettings := by
  refine ⟨fun s off c side g h ht hw h0 h4 h6 h8 h10 h12 r1 r2 r3 r4 r5 r6 r7 r8 r9 hs ha => ?_,
    fun s off c m f h hw h0 h1 hs => exec_setPricing_accepts h hw h0 h1 hs,
    fun s off c a h hw hr h1 hs => exec_setDisplayPolicy_accepts h hw hr h1 hs,
    fun s off c k o h hm => exec_command_refuses h (decision_of_misfits hm),
    fun s off c k h hm hs hk => exec_command_refuses h (decision_of_storeClosed hm hs hk),
    fun s off c side h hm ht ha => exec_command_refuses h (decideConfigurePosition_busy hm (Card.side_eq ht) ha),
    fun s off c h hm hp => exec_command_refuses h (decideSetSchedule_busy hm hp)⟩
  exact exec_configurePosition_accepts h (Card.side_eq ht) hw
    (Card.positionConfig_of h0 h4 h6 h8 h10 h12 ⟨r1, r2, r3, r4, r5, r6, r7, r8, r9⟩) hs ha

end Sys2Proof.Machine
end

section
/-! PROOFS. CONFIGURE METER, CONFIGURE HOSE and SET ROUTING (R17 to R19). -/
namespace Sys2Proof.Machine

variable {s t u : State} {c : Card} {off : Nat} {o : CardOutcome} {P : List Part} {m : MeterNo} {side : Side}

/-! ## A meter without phase errors at the end of an event -/

theorem State.releaseClaims_phaseErrors (h : (s.meter m).phaseErrors = 0) (side : Side) (b : Bool) :
    ((s.releaseClaims side b).meter m).phaseErrors = 0 := by
  unfold State.releaseClaims
  split
  · exact h
  · rename_i x hx
    rw [State.modPos_meter]
    clear hx
    generalize x.claims = l
    induction l generalizing s with
    | nil => exact h
    | cons c l ih =>
      refine ih ?_
      rw [State.modMeter_meter_eq]
      split
      · rfl
      · exact h

theorem State.fallBack_phaseErrors (h : (s.meter m).phaseErrors = 0) (side : Side) (r : StartResult) (d : Nat) :
    ((s.fallBack side r d).meter m).phaseErrors = 0 := by
  rw [(s.fallBack_acts side r d).meter_eq (by decide)]
  have hw : (s.withdrawCheck side).meter m = s.meter m := Acts.meter_eq (P := [.displays]) (by simp) (by decide) m
  exact State.releaseClaims_phaseErrors (s := s.withdrawCheck side) (by rw [hw]; exact h) side true

theorem State.gate_phaseErrors (h : (s.meter m).phaseErrors = 0) (side : Side) : ((s.gate side).meter m).phaseErrors = 0 := by
  have hl (p : Nat) : (s.lockSale side p).meter m = s.meter m :=
    Acts.meter_eq (P := [.positions, .prices, .displays]) (by simp) (by decide) m
  unfold State.gate
  dsimp only
  (repeat' split) <;> first | exact State.fallBack_phaseErrors h _ _ _ | (rw [hl]; exact h) | exact h

theorem State.react_phaseErrors (h : (s.meter m).phaseErrors = 0) : (s.react.meter m).phaseErrors = 0 := by
  refine State.react_induction (R := fun u => (u.meter m).phaseErrors = 0) h (fun u hu => ?_) fun u hu => ?_
  · have h0 : u.applyPrices.meter m = u.meter m := Acts.meter_eq (P := [.prices, .displays, .store]) (by simp) (by decide) m
    unfold State.examine
    dsimp only
    rw [Acts.meter_eq (Acts.eventEnd _) (by decide) m]
    exact State.gate_phaseErrors (State.gate_phaseErrors (by rw [h0]; exact hu) _) _
  · rw [Acts.meter_eq (P := [.prices, .displays]) (Acts.serveLinks (.refl _ _) (by simp)) (by decide) m]; exact hu

/-! ## CONFIGURE METER (R17) -/

/-- The configuration that CONFIGURE METER's body names. -/
theorem Card.meterConfig_of {g : MeterConfig} (h0 : c.b 0 = g.decoding.code) (h1 : c.b 1 = g.reverseAllowance) (h2 : c.b 2 = g.creepLimit)
    (h3 : c.b 3 = g.phaseErrorLimit) (h4 : c.w 1 = g.k)
    (hr : 1 ≤ g.creepLimit ∧ 1 ≤ g.phaseErrorLimit ∧ g.phaseErrorLimit ≤ 15 ∧ 10000 ≤ g.k ∧ g.k ≤ 2000000) : c.meterConfig = some g := by
  simp only [Card.meterConfig, h0, h1, h2, h3, h4, Decoding.ofCode_code, if_pos hr]

/-- An accepted CONFIGURE METER (R17). -/
theorem exec_configureMeter_accepts {g : MeterConfig} (h : s.holds .configureMeter off c) (hm : c.meter = some m) (hw : 2 ≤ c.words.toNat)
    (hg : c.meterConfig = some g) (hs : s.storeClosed = false) (hcal : s.iwu.calSeal = some true) (ho : (s.meter m).owner = none) :
    ∃ t, exec .configureMeter s = .next t ∧ (t.meter m).config = g ∧ (t.meter m).faulted = false ∧ (t.meter m).phaseErrors = 0
      ∧ (t.meter m).lifetime = (s.meter m).lifetime ∧ (t.meter m).sinceReport = (s.meter m).sinceReport
      ∧ (t.meter m).phaseA = (s.meter m).phaseA ∧ (t.meter m).phaseB = (s.meter m).phaseB
      ∧ s.startsStep t [.config] .site off
      ∧ (s.calm → s.storeFree → (∀ x, x ≠ m → t.meter x = s.meter x) ∧ (t.meter m).unclaimed = (s.meter m).unclaimed
          ∧ s.changesOnly t [.meters, .lanes, .store, .displays]) := by
  refine ⟨_, exec_command_on (k := .configureMeter) h, ?_⟩
  simp only [Kind.decision]
  rw [decideConfigureMeter_accepts hm hw hg hs hcal ho]
  generalize hu : (s.modMeter m fun x => { x with config := g, faulted := false, phaseErrors := 0 }).touch .meterState (4 * m.val) = u
  have hau : Acts s u [.meters] := hu ▸ Acts.touch (Acts.modMeter (.refl s _) m _ (by decide)) _ _
  have hmu : u.meter m = { s.meter m with config := g, faulted := false, phaseErrors := 0 } := by
    rw [← hu, State.touch_meter, State.modMeter_meter]
  have hne (x : MeterNo) (hx : x ≠ m) : u.meter x = s.meter x := by
    rw [← hu, State.touch_meter, State.modMeter_meter_eq, if_neg hx]
  have hcalm (hc : s.calm) : u.calm := (hau.mono (by decide)).calm_meters (by rw [← hu]; rfl) hc
  obtain ⟨e1, e2⟩ := finishOnConfig_event (off := off) hau (by decide) (by decide) (by decide) hcalm
  have hf : (u.finishOnConfig .site off).meter m = u.meter m := (Acts.onConfig u off).meter_eq (by decide) m
  have hl := State.react_meter (u.finishOnConfig .site off) m
  rw [hf, hmu] at hl
  have hp : ((u.finishOnConfig .site off).react.meter m).phaseErrors = 0 := State.react_phaseErrors (by rw [hf, hmu])
  simp only [publish_meter]
  refine ⟨hl.config, hl.faulted, hp, hl.lifetime, hl.sinceReport, hl.phaseA, hl.phaseB, e1, fun h1 h2 => ⟨fun x hx => ?_, ?_,
    finishOnConfig_frame hau (e2 h1 h2)⟩⟩
  · rw [(e2 h1 h2).meter_eq (by decide), hne x hx]
  · rw [(e2 h1 h2).meter_eq (by decide), hmu]

/-- Why CONFIGURE METER is refused (R17, log 48). -/
def State.meterRefusal (s : State) (c : Card) : Option CardOutcome :=
  match c.meter with
  | none => some .badTarget
  | some m =>
    match if c.short .configureMeter then none else c.meterConfig with
    | none => some .badValue
    | some _ =>
      if s.storeClosed then some .busy
      else if s.iwu.calSeal ≠ some true then some .isSealed
      else if (s.meter m).owner.isSome then some .busy
      else none

theorem decideConfigureMeter_refuses (h : s.meterRefusal c = some o) : decideConfigureMeter off c s = s.refuseCard .site o := by
  unfold State.meterRefusal at h
  unfold decideConfigureMeter
  cases hm : c.meter with
  | none => rw [hm] at h; cases h; rfl
  | some m =>
    rw [hm] at h
    dsimp only at h ⊢
    generalize (if c.short .configureMeter then none else c.meterConfig) = g at h ⊢
    cases g with
    | none => cases h; rfl
    | some g =>
      dsimp only at h ⊢
      split at h
      · next hs => cases h; rw [if_pos hs]
      · next hs =>
        rw [if_neg hs]
        split at h
        · next hk => cases h; rw [if_pos hk]
        · next hk =>
          rw [if_neg hk]
          split at h
          · next ho => cases h; rw [if_pos ho]
          · cases h

/-- Settles O19. -/
theorem configureMeterActs : Obligations.ConfigureMeterActs := by
  refine ⟨fun s off c m g h ht hw h0 h1 h2 h3 h4 r1 r2 r3 r4 r5 hs hcal ho =>
    exec_configureMeter_accepts h (Card.meter_eq ht) hw (Card.meterConfig_of h0 h1 h2 h3 h4 ⟨r1, r2, r3, r4, r5⟩) hs hcal ho, fun s off c h => ?_⟩
  dsimp only
  refine ⟨_, exec_command_on (k := .configureMeter) h, ?_⟩
  have refused {o : CardOutcome} (e : s.meterRefusal c = some o) :
      s.endsCard (publish s (Kind.configureMeter.decision off c s).react) .site off o
      ∧ (s.calm → s.readLink off = .atEnd →
        s.changesOnly (publish s (Kind.configureMeter.decision off c s).react) [.memory, .parity, .lanes, .notices, .displays]) := by
    rw [Kind.decision, decideConfigureMeter_refuses e]
    obtain ⟨k1, k2⟩ := State.refusesCard_refuse h o
    exact ⟨k1, fun hc hl => (k2 hc hl).2.2.2⟩
  have long (hw : 2 ≤ c.words.toNat) : c.short .configureMeter = false := decide_eq_false (Nat.not_lt.mpr hw)
  refine ⟨fun hm => refused ?_, fun m hm hv => refused ?_, fun m g hm hw hg => ⟨fun hs => refused ?_, fun hs hcal => refused ?_,
    fun hs hcal ho => refused ?_⟩⟩
  · simp only [State.meterRefusal, hm]
  · have hr : (if c.short .configureMeter then none else c.meterConfig) = none := by
      rw [ite_eq_left_iff, Card.short_eq, not_not]
      exact fun hw => hv.resolve_left (Nat.not_lt.mpr hw)
    simp only [State.meterRefusal, hm, hr]
  · simp [State.meterRefusal, hm, hg, hs, long hw]
  · simp [State.meterRefusal, hm, hg, hs, hcal, long hw]
  · simp [State.meterRefusal, hm, hg, hs, hcal, ho, long hw]

end Sys2Proof.Machine
end

section
/-! PROOFS. CONFIGURE HOSE and SET ROUTING (R18, R19, R90, R166). -/
namespace Sys2Proof.Machine

variable {s t u v : State} {c : Card} {off : Nat} {o : CardOutcome} {P : List Part} {m : MeterNo} {side : Side}

/-! ## A side's panels set again (R79, R80) -/

/-- The panel of a grade on a side once it is set again from its members. -/
def State.refreshed (s : State) (side : Side) (g : Fin 8) : Grade :=
  { s.grade g with
    panels := (s.grade g).panels.set side (((s.grade g).panels.get side).become (s.panelState g side) s.dlc.policy.action) }

theorem State.refreshPanel_grade (s : State) (side : Side) (g k : Fin 8) :
    (s.refreshPanel side g).grade k = if k = g then s.refreshed side g else s.grade k := by
  rw [State.refreshPanel, State.modPanel, State.modGrade_grade_eq]
  rfl

theorem State.foldl_refreshPanel_grade (side : Side) (l : List (Fin 8)) (hl : l.Nodup) (s : State) (k : Fin 8) :
    (l.foldl (fun s g => s.refreshPanel side g) s).grade k = if k ∈ l then s.refreshed side k else s.grade k := by
  induction l generalizing s with
  | nil => rfl
  | cons g l ih =>
    obtain ⟨hg, hl⟩ := List.nodup_cons.mp hl
    rw [List.foldl_cons, ih hl, State.refreshPanel_grade]
    by_cases hk : k = g
    · subst hk
      simp [hg]
    · have e : (s.refreshPanel side g).refreshed side k = s.refreshed side k := by
        unfold State.refreshed
        rw [State.refreshPanel_grade, if_neg hk]
        rfl
      simp [hk, e]

/-- Every panel of the side is set again; nothing else of the price table changes. -/
theorem State.refreshSide_grade (s : State) (side : Side) (k : Fin 8) : (s.refreshSide side).grade k = s.refreshed side k := by
  rw [State.refreshSide, State.foldl_refreshPanel_grade side _ (List.nodup_finRange 8), if_pos (List.mem_finRange k)]

theorem State.foldl_refreshPanel_loading (side : Side) (l : List (Fin 8)) (s : State) :
    (l.foldl (fun s g => s.refreshPanel side g) s).pru.loading = s.pru.loading := by
  induction l generalizing s with
  | nil => rfl
  | cons g l ih => exact ih _

theorem Panel.become_state (p : Panel) (st : PanelState) (a : PanelAction) : (p.become st a).state = st := by cases st <;> rfl

theorem Panel.become_fault (p : Panel) (a : PanelAction) : (p.become .fault a).posted = false := rfl

/-! ## A step that begins while stage 3 of a wake may end (R166, R178) -/

theorem panelsStand_grades (h1 : t.ssu.site = s.ssu.site) (h2 : t.pru.grades = s.pru.grades) (h3 : t.dlc = s.dlc)
    (h4 : t.miu.routes = s.miu.routes) (h : s.panelsStand) : t.panelsStand := by
  have hb (x : Side) : t.board x = s.board x := by simp only [State.board, h3]
  have hg (g : Fin 8) : t.grade g = s.grade g := by simp only [State.grade, h2]
  have hs (g : Fin 8) (x : Side) : t.panelState g x = s.panelState g x :=
    State.panelState_congr h4 (by rw [hb]) fun k => by rw [hb]; exact ⟨.rfl, .rfl⟩
  unfold State.panelsStand at *
  simpa only [h1, hs, hg] using h

/-- What the end of stage 3 touches besides the site's record: a notice. -/
theorem State.examinePanels_acts (s : State) : Acts s s.examinePanels [.notices, .site] := Acts.examinePanels (.refl s _) (by decide)

theorem State.examinePanels_modRsc (s : State) (f : Rsc → Rsc) : (s.modRsc f).examinePanels = s.examinePanels.modRsc f := by
  unfold State.examinePanels
  split
  · rename_i h
    rw [if_pos (show s.ssu.site = .waking ∧ s.ssu.wake.stage = 3 ∧ s.anyUpdating = false from h)]
    rfl
  · rename_i h
    rw [if_neg (show ¬ (s.ssu.site = .waking ∧ s.ssu.wake.stage = 3 ∧ s.anyUpdating = false) from h)]

theorem State.examinePanels_site (s : State) : s.examinePanels.ssu.site = s.ssu.site := by
  unfold State.examinePanels
  split <;> rfl

theorem State.examinePanels_schedule (s : State) : s.examinePanels.ssu.schedule = s.ssu.schedule := by
  unfold State.examinePanels
  split <;> rfl

theorem State.examinePanels_closingWaits (h : s.closingWaits) : s.examinePanels.closingWaits := by
  unfold State.examinePanels
  split
  · rename_i hw
    intro hs
    exact absurd (hw.1.symm.trans hs) (by decide)
  · exact h

/-- LOAD PRICE, whose card no lane keeps waiting, is at most forgotten. -/
theorem State.finishLoad_noCard (h : s.waitingKind .site ≠ some .loadPrice) :
    s.finishLoad = s ∨ s.finishLoad = s.modPru fun u => { u with loading := none } := by
  unfold State.finishLoad
  split
  · exact .inl rfl
  · split
    · refine .inr ?_
      unfold State.endWaiting
      rw [if_neg]
      exact h
    · exact .inl rfl

theorem State.liveContents_prices (h1 : t.miu = s.miu) (h2 : t.psc = s.psc) (h3 : t.pru.grades = s.pru.grades ∧ t.pru.siteMode = s.pru.siteMode
      ∧ t.pru.totalsForm = s.pru.totalsForm) (h4 : t.dlc.policy = s.dlc.policy) (h5 : t.iwu = s.iwu) (h6 : t.riu = s.riu)
    (h7 : t.ssu.schedule = s.ssu.schedule)
    (h8 : t.rsc.restart = s.rsc.restart ∧ t.rsc.totals = s.rsc.totals ∧ t.rsc.reader = s.rsc.reader) : t.liveContents = s.liveContents := by
  obtain ⟨e1, e2, e3⟩ := h8
  obtain ⟨e4, e5, e6⟩ := h3
  simp only [State.liveContents, State.liveConfig, h1, h2, h4, h5, h6, h7, e1, e2, e3, e4, e5, e6]

/-- The store, free, begins its one step and nothing else. -/
theorem State.runStore_begins {step : StoreStep} {g : Nat} (hq : s.rsc.queue = [step]) (ha : s.rsc.active = none) (hk : s.rsc.check = .none)
    (hg : s.rsc.generation = some g) (hr : Requester.rebuild ∉ step.requesters) (hn : step.records ≠ allRecords) :
    State.runStore storeFuel s = s.modRsc fun r => r.begun step g s.liveContents := by
  have hb : s.beginStep = (s.modRsc fun r => r.begun step g s.liveContents, []) := by
    simp [State.beginStep, hq, hg, hr, hn, Rsc.begun]
  have hc : s.rsc.canBegin = true := by simp [Rsc.canBegin, hq, ha, hk]
  have hc' : (s.modRsc fun r => r.begun step g s.liveContents).rsc.canBegin = false := by simp [Rsc.canBegin, Rsc.begun]
  simp only [storeFuel, State.runStore, hc, hb, if_true, State.answerAll, List.foldl_nil, hc']
  simp

/-- A step asked of the free store begins at the end of the event, in which stage 3 of a wake may end and LOAD PRICE be forgotten. -/
theorem State.react_asksStep_waking (h2 : u.closingWaits) (h3 : u.pricesWait) (h5 : ∀ side, u.gateWaits side) (h6 : u.panelsStand)
    (hf : u.storeFree) (hl : u.waitingKind .site ≠ some .loadPrice) {step : StoreStep} (hr : step.records ≠ allRecords)
    (hq : Requester.rebuild ∉ step.requesters) (hv : v = u.modRsc fun r => { r with queue := [step] }) :
    ∃ g, u.rsc.generation = some g ∧ v.react.rsc = u.rsc.begun step g u.liveContents ∧ v.react.liveContents = u.liveContents
      ∧ (∀ Q, [.prices, .store, .displays] ⊆ Q → Acts u u.examinePanels Q → Acts u v.react Q) ∧ v.react.ssu = u.examinePanels.ssu
      ∧ v.react.ntc = u.examinePanels.ntc ∧ v.react.pru.grades = u.pru.grades := by
  obtain ⟨ha, hk, hg, -⟩ := hf
  obtain ⟨g, hg⟩ := Option.isSome_iff_exists.mp hg
  refine ⟨g, hg, ?_⟩
  have hp := u.examinePanels_acts
  have hps := u.examinePanels_site
  have hpc := u.examinePanels_schedule
  have hcw := State.examinePanels_closingWaits h2
  have hvp : v.examinePanels = u.examinePanels.modRsc fun r => { r with queue := [step] } := by rw [hv, State.examinePanels_modRsc]
  have hx : v.examine = (((u.examinePanels.modRsc fun r => { r with queue := [step] }).modRsc
      fun r => r.begun step g u.liveContents).finishLoad).sendAll := by
    unfold State.examine
    dsimp only
    rw [State.applyPrices_idle (s := v) (by rw [hv]; exact h3), State.gate_idle (s := v) (by rw [hv]; exact h5 .a),
      State.gate_idle (s := v) (by rw [hv]; exact h5 .b), hvp, State.examinePositions_idle (show State.closingWaits (State.modRsc _ _) from hcw)]
    have hlive : (u.examinePanels.modRsc fun r => { r with queue := [step] }).liveContents = u.liveContents := by
      refine State.liveContents_prices (hp.frame .meters (by decide)) (hp.frame .positions (by decide)) ?_
        (congrArg Dlc.policy (hp.frame .displays (by decide))) (hp.frame .inputs (by decide)) (hp.frame .reader (by decide)) hpc ?_
      · have e : u.examinePanels.pru = u.pru := hp.frame .prices (by decide)
        exact ⟨congrArg Pru.grades e, congrArg Pru.siteMode e, congrArg Pru.totalsForm e⟩
      · have e : u.examinePanels.rsc = u.rsc := hp.frame .store (by decide)
        show u.examinePanels.rsc.restart = _ ∧ u.examinePanels.rsc.totals = _ ∧ u.examinePanels.rsc.reader = _
        rw [e]
        exact ⟨rfl, rfl, rfl⟩
    have er : u.examinePanels.rsc = u.rsc := hp.frame .store (by decide)
    rw [State.runStore_begins (s := u.examinePanels.modRsc fun r => { r with queue := [step] }) (step := step) (g := g) rfl ((congrArg Rsc.active er).trans ha) ((congrArg Rsc.check er).trans hk)
      ((congrArg Rsc.generation er).trans hg) hq hr, hlive]
  generalize hw : ((u.examinePanels.modRsc fun r => { r with queue := [step] }).modRsc fun r => r.begun step g u.liveContents) = w at hx
  have hawq (Q : List Part) (hq : .store ∈ Q) (ha : Acts u u.examinePanels Q) : Acts u w Q := by
    rw [← hw]
    exact Acts.modRsc (Acts.modRsc ha _ hq) _ hq
  have haw : Acts u w [.notices, .site, .store] := hawq _ (by decide) (hp.mono (by decide))
  have hwr : w.rsc = u.rsc.begun step g u.liveContents := by
    rw [← hw]
    show ({ u.examinePanels.rsc with queue := [step] } : Rsc).begun step g u.liveContents = _
    rw [show u.examinePanels.rsc = u.rsc from hp.frame .store (by decide)]
    rfl
  have hws : w.ssu = u.examinePanels.ssu := by rw [← hw]; rfl
  have hwn : w.ntc = u.examinePanels.ntc := by rw [← hw]; rfl
  have hwl : w.waitingKind .site ≠ some .loadPrice := by
    have e : w.waitingKind .site = u.waitingKind .site := by
      unfold State.waitingKind
      rw [State.lane_congr (haw.frame .lanes (by decide))]
    rw [e]; exact hl
  obtain ⟨y, hy, hay, hyg⟩ : ∃ y, y = w.finishLoad ∧ Acts w y [.prices] ∧ y.pru.grades = w.pru.grades ∧ y.pru.siteMode = w.pru.siteMode
      ∧ y.pru.totalsForm = w.pru.totalsForm := by
    rcases State.finishLoad_noCard hwl with e | e
    · exact ⟨w, e.symm, .refl w _, rfl, rfl, rfl⟩
    · exact ⟨_, e.symm, Acts.modPru (.refl w _) _ (by decide), rfl, rfl, rfl⟩
  rw [← hy] at hx
  have hyst : y.panelsStand := by
    refine panelsStand_grades (s := u) ?_ ?_ ?_ ?_ h6
    · rw [hay.frame .site (by decide), hws, hps]
    · rw [hyg.1, haw.frame .prices (by decide)]
    · rw [hay.frame .displays (by decide), haw.frame .displays (by decide)]
    · rw [hay.frame .meters (by decide), haw.frame .meters (by decide)]
  rw [State.react_once hx hyst]
  have hs : Acts y ((y.sendAll.serve .a).serve .b) [.displays] := Acts.sent (.refl y _) (by decide)
  have hallq (Q : List Part) (hq : [.prices, .store, .displays] ⊆ Q) (ha : Acts u u.examinePanels Q) :
      Acts u ((y.sendAll.serve .a).serve .b) Q :=
    ((hawq Q (hq (by decide)) ha).trans (hay.mono (List.Subset.trans (by decide) hq))).trans (hs.mono (List.Subset.trans (by decide) hq))
  have hall := hallq [.prices, .notices, .site, .store, .displays] (by decide) (hp.mono (by decide))
  have epol := State.sent_policy y
  generalize ((y.sendAll.serve .a).serve .b) = z at hs hallq hall epol
  have er : z.rsc = u.rsc.begun step g u.liveContents := by rw [hs.frame .store (by decide), hay.frame .store (by decide), hwr]
  have es : z.ssu = u.examinePanels.ssu := by rw [hs.frame .site (by decide), hay.frame .site (by decide), hws]
  have eg : z.pru = y.pru := hs.frame .prices (by decide)
  have ew : w.pru = u.pru := haw.frame .prices (by decide)
  obtain ⟨y1, y2, y3⟩ := hyg
  rw [ew] at y1 y2 y3
  refine ⟨er, ?_, hallq, es, by rw [hs.frame .notices (by decide), hay.frame .notices (by decide), hwn], by rw [eg, y1]⟩
  refine State.liveContents_prices (hall.frame .meters (by decide)) (hall.frame .positions (by decide)) ?_ ?_ (hall.frame .inputs (by decide))
    (hall.frame .reader (by decide)) (by rw [es, hpc]) (by rw [er]; exact ⟨rfl, rfl, rfl⟩)
  · rw [eg]; exact ⟨y1, y2, y3⟩
  · rw [epol, hay.frame .displays (by decide), haw.frame .displays (by decide)]

end Sys2Proof.Machine
end

section
/-! PROOFS. What CONFIGURE HOSE and SET ROUTING do when they are accepted, and their refusals (R18, R19, R90). -/
namespace Sys2Proof.Machine

variable {s t u v : State} {c : Card} {off : Nat} {o : CardOutcome} {P : List Part} {m : MeterNo} {side : Side}

/-! ## The entry that a body names -/

theorem onOff_flag {b : Byte} {x : Bool} (h : b.toNat = flag x) : onOff b = x := by
  have : b = BitVec.ofNat 8 (flag x) := BitVec.eq_of_toNat_eq (by rw [h]; cases x <;> rfl)
  subst this
  cases x <;> rfl

theorem gradeOfNumber_val (g : Fin 8) : gradeOfNumber g.val = some g := by simp [gradeOfNumber]

theorem meterOfNumber_succ (m : MeterNo) : meterOfNumber (m.val + 1) = some m := by
  have h : 1 ≤ m.val + 1 ∧ m.val + 1 ≤ 8 := ⟨by omega, by omega⟩
  simp [meterOfNumber, h]

theorem RouteKind.ofCode_code (k : RouteKind) : RouteKind.ofCode k.code = some k := by cases k <;> rfl

theorem Card.hoseRoute_of {e : HoseRoute} (h0 : c.b 0 = flag e.fitted) (h1 : c.b 1 = e.grade.val) (h2 : c.b 2 = e.kind.code)
    (h3 : c.b 3 = e.primary.val + 1) (h4 : ∀ m, e.secondary = some m → c.b 4 = m.val + 1) (h5 : e.kind = .blend → c.b 5 = e.ratio)
    (h6 : c.h 6 = e.slowDown) (hl : e.lawful) : c.hoseRoute = some e := by
  obtain ⟨l1, l2, l3, l4, l5⟩ := hl
  obtain ⟨fitted, grade, kind, primary, secondary, ratio, slow⟩ := e
  simp only at h0 h1 h2 h3 h4 h5 h6 l1 l2 l3 l4 l5
  simp only [Card.hoseRoute, h1, h2, h3, gradeOfNumber_val, RouteKind.ofCode_code, meterOfNumber_succ, h6, onOff_flag h0,
    if_neg (Nat.not_lt.mpr l5)]
  cases kind with
  | single => simp [l1 rfl, l3 (by decide)]
  | blend =>
    obtain ⟨m, rfl, hm⟩ := l2 (by decide)
    simp [h4 m rfl, meterOfNumber_succ, hm, h5 rfl, Nat.not_lt.mpr l4]
  | satellite =>
    obtain ⟨m, rfl, hm⟩ := l2 (by decide)
    simp [h4 m rfl, meterOfNumber_succ, hm, l3 (by decide)]

/-! ## The effect of CONFIGURE HOSE -/

/-- A hose's entry replaced, and the Pricing Unit after it (R18, R90). -/
def State.setRoute (s : State) (side : Side) (h : HoseNo) (e : HoseRoute) : State :=
  (s.modMiu fun u => { u with routes := u.routes.set side ((u.routes.get side).set h e) }).membershipChange side h (s.route side h)

theorem decideConfigureHose_accepts {h : HoseNo} {e : HoseRoute} (hc : c.hose = some (side, h)) (hw : 2 ≤ c.words.toNat)
    (hr : c.hoseRoute = some e) (hs : s.storeClosed = false) (ha : (s.pos side).st.atRest = true) :
    decideConfigureHose off c s = (s.setRoute side h e).finishOnConfig .site off := by
  have hshort : c.short .configureHose = false := decide_eq_false (Nat.not_lt.mpr hw)
  simp [decideConfigureHose, hc, hshort, hr, hs, ha, State.setRoute]

theorem State.setRoute_acts (s : State) (side : Side) (h : HoseNo) (e : HoseRoute) :
    Acts s (s.setRoute side h e) [.meters, .prices, .displays] :=
  Acts.membershipChange (Acts.modMiu (.refl s _) _ (by decide)) side h _ (by decide)

theorem State.changeMember_miu (s : State) (side : Side) (h : HoseNo) (old : HoseRoute) : (s.membershipChange side h old).miu = s.miu :=
  (Acts.membershipChange (.refl s [.prices, .displays]) side h old (by decide)).frame .meters (by decide)

theorem State.setRoute_miu (s : State) (side : Side) (h : HoseNo) (e : HoseRoute) :
    (s.setRoute side h e).miu = { s.miu with routes := s.miu.routes.set side ((s.miu.routes.get side).set h e) } :=
  State.changeMember_miu ..

theorem State.setRoute_route (s : State) (side : Side) (h : HoseNo) (e : HoseRoute) (x : Side) (k : HoseNo) :
    (s.setRoute side h e).route x k = if (x, k) = (side, h) then e else s.route x k := by
  rw [State.route, State.setRoute_miu]
  rcases eq_or_other side x with rfl | rfl
  · rw [Sides.get_set_same]
    by_cases hk : k = h
    · subst hk
      rw [if_pos rfl]
      exact Vector.getElem_set_self ..
    · rw [if_neg (by simpa using hk)]
      exact Vector.getElem_set_ne _ _ fun e => hk (Fin.ext e.symm)
  · rw [Sides.get_set_other, if_neg (by simp [other_ne side])]
    rfl

theorem State.changeMember_board_other (s : State) (side : Side) (h : HoseNo) (old : HoseRoute) :
    (s.changeMember side h old).board (other side) = s.board (other side) := by
  have key (f : Board → Board) : (s.modBoard side f).board (other side) = s.board (other side) := by
    cases side <;> rfl
  unfold State.changeMember State.postGrade State.updateGrade State.postField State.updateField
  dsimp only
  (repeat' split) <;> first | rfl | exact key _

/-- The state in which the side's panels are set again. -/
def State.routed (s : State) (side : Side) (h : HoseNo) (e : HoseRoute) : State :=
  (s.modMiu fun u => { u with routes := u.routes.set side ((u.routes.get side).set h e) }).changeMember side h (s.route side h)

theorem State.setRoute_grade (s : State) (side : Side) (h : HoseNo) (e : HoseRoute) (g : Fin 8) :
    (s.setRoute side h e).grade g = (s.routed side h e).refreshed side g := by
  rw [State.setRoute, State.membershipChange, State.refreshSide_grade, State.routed]

theorem State.routed_grade (s : State) (side : Side) (h : HoseNo) (e : HoseRoute) (g : Fin 8) : (s.routed side h e).grade g = s.grade g := by
  have : (s.routed side h e).pru = s.pru :=
    (Acts.changeMember (Acts.modMiu (.refl s [.meters, .displays]) _ (by decide)) side h _ (by decide)).frame .prices (by decide)
  rw [State.grade, this]
  rfl

theorem State.setRoute_board (s : State) (side : Side) (h : HoseNo) (e : HoseRoute) (x : Side) :
    (s.setRoute side h e).board x = (s.routed side h e).board x := by
  have : (s.setRoute side h e).dlc = (s.routed side h e).dlc :=
    (Acts.refreshSide (.refl (s.routed side h e) [.prices]) side (by decide)).frame .displays (by decide)
  rw [State.board, this]
  rfl

theorem State.setRoute_panelState (s : State) (side : Side) (h : HoseNo) (e : HoseRoute) (g : Fin 8) (x : Side) :
    (s.setRoute side h e).panelState g x = (s.routed side h e).panelState g x := by
  have hm : (s.setRoute side h e).miu = (s.routed side h e).miu :=
    (Acts.refreshSide (.refl (s.routed side h e) [.prices]) side (by decide)).frame .meters (by decide)
  exact State.panelState_congr (congrArg Miu.routes hm) (by rw [State.setRoute_board]) fun k => by
    rw [State.setRoute_board]; exact ⟨.rfl, .rfl⟩

theorem State.setRoute_panel (s : State) (side : Side) (h : HoseNo) (e : HoseRoute) (g : Fin 8) :
    ((s.setRoute side h e).grade g).panels.get side
      = ((s.grade g).panels.get side).become ((s.setRoute side h e).panelState g side) (s.routed side h e).dlc.policy.action := by
  rw [State.setRoute_grade, State.setRoute_panelState, State.refreshed, State.routed_grade]
  exact Sides.get_set_same ..

theorem State.setRoute_panel_other (s : State) (side : Side) (h : HoseNo) (e : HoseRoute) (g : Fin 8) :
    ((s.setRoute side h e).grade g).panels.get (other side) = (s.grade g).panels.get (other side) := by
  rw [State.setRoute_grade, State.refreshed, State.routed_grade]
  exact Sides.get_set_other ..

theorem State.setRoute_price (s : State) (side : Side) (h : HoseNo) (e : HoseRoute) (g : Fin 8) :
    ((s.setRoute side h e).grade g).price = (s.grade g).price ∧ ((s.setRoute side h e).grade g).pending = (s.grade g).pending := by
  rw [State.setRoute_grade, State.refreshed, State.routed_grade]
  exact ⟨rfl, rfl⟩

theorem State.setRoute_panelState_other (s : State) (side : Side) (h : HoseNo) (e : HoseRoute) (g : Fin 8) :
    (s.setRoute side h e).panelState g (other side) = s.panelState g (other side) := by
  have hr (k : HoseNo) : (s.setRoute side h e).route (other side) k = s.route (other side) k := by
    rw [State.setRoute_route, if_neg (by simp [other_ne side])]
  have hb : (s.setRoute side h e).board (other side) = s.board (other side) := by
    rw [State.setRoute_board]
    exact State.changeMember_board_other ..
  have hm : (s.setRoute side h e).members g (other side) = s.members g (other side) := by
    simp only [State.members, hr]
  simp only [State.panelState, hm, hb]

/-- The side's panels are as their members make them, and the other side's stand as they stood. -/
theorem State.setRoute_panelsStand (h : HoseNo) (e : HoseRoute) (hs : s.panelsStand) : (s.setRoute side h e).panelsStand := by
  have es : (s.setRoute side h e).ssu = s.ssu := (s.setRoute_acts side h e).frame .site (by decide)
  intro hp x g hx
  rcases eq_or_other side x with rfl | rfl
  · rw [State.setRoute_panel]
    refine ⟨Panel.become_state .., fun hf => ?_⟩
    rw [Panel.become_state] at hf
    rw [hf]
    rfl
  · rw [State.setRoute_panelState_other] at hx ⊢
    rw [State.setRoute_panel_other]
    exact hs (by rwa [es] at hp) (other side) g hx

theorem State.setRoute_pos (s : State) (side : Side) (h : HoseNo) (e : HoseRoute) (x : Side) : (s.setRoute side h e).pos x = s.pos x :=
  (s.setRoute_acts side h e).pos_eq (by decide) x

theorem State.setRoute_ssu (s : State) (side : Side) (h : HoseNo) (e : HoseRoute) : (s.setRoute side h e).ssu = s.ssu :=
  (s.setRoute_acts side h e).frame .site (by decide)

theorem State.setRoute_gateWaits (h : HoseNo) (e : HoseRoute) (ha : (s.pos side).st.atRest = true) (hs : ∀ x, s.gateWaits x) (x : Side) :
    (s.setRoute side h e).gateWaits x := by
  intro hg sl hsl
  rw [State.setRoute_pos] at hg hsl
  rcases eq_or_other side x with rfl | rfl
  · exact absurd hg (PosState.atRest_ne_gate ha)
  · rw [(s.setRoute_price side h e sl.grade).1, State.setRoute_panel_other]
    exact hs (other side) hg sl hsl

theorem State.setRoute_pricesWait (h : HoseNo) (e : HoseRoute) (hs : s.pricesWait) : (s.setRoute side h e).pricesWait := by
  intro hp g hg
  have hl : (s.setRoute side h e).lockedOn g = s.lockedOn g := by
    unfold State.lockedOn
    simp only [State.setRoute_pos]
  rw [State.setRoute_ssu] at hp
  rw [(s.setRoute_price side h e g).2] at hg
  rw [hl]
  exact hs hp g hg

/-! ## The event -/

/-- The lane's card that comes to wait on the store is no LOAD PRICE that waits. -/
theorem State.waitingKind_storeCard (s : State) (l : LaneId) : (s.storeCard l).waitingKind l = none := by
  unfold State.waitingKind
  rw [State.storeCard_lane]
  cases (s.lane l).held <;> rfl

theorem State.examinePanels_storeCard (s : State) : (s.storeCard .site).examinePanels = s.examinePanels.storeCard .site := by
  unfold State.examinePanels
  by_cases h : s.ssu.site = .waking ∧ s.ssu.wake.stage = 3 ∧ s.anyUpdating = false
  · rw [if_pos h, if_pos (show (s.storeCard .site).ssu.site = .waking ∧ (s.storeCard .site).ssu.wake.stage = 3
      ∧ (s.storeCard .site).anyUpdating = false from h)]
    rfl
  · rw [if_neg h, if_neg (show ¬ ((s.storeCard .site).ssu.site = .waking ∧ (s.storeCard .site).ssu.wake.stage = 3
      ∧ (s.storeCard .site).anyUpdating = false) from h)]

/-- The event that CONFIGURE HOSE, accepted, makes when nothing else waits and the store is free. -/
theorem State.setRoute_event (off : Nat) (h : HoseNo) (e : HoseRoute) (ha : (s.pos side).st.atRest = true) (hc : s.calm) (hf : s.storeFree)
    {w : State} (hw : ((s.setRoute side h e).finishOnConfig .site off).react = w) :
    s.stepBegun w [.config] [.card .site off] ∧ w.lane .site = (s.storeCard .site).lane .site
      ∧ ((s.ssu.site = .waking → s.ssu.wake.stage ≠ 3) → Acts s w [.meters, .prices, .lanes, .store, .displays])
      ∧ Acts s w [.meters, .prices, .lanes, .notices, .site, .store, .displays]
      ∧ w.ssu = (s.setRoute side h e).examinePanels.ssu ∧ w.ntc = (s.setRoute side h e).examinePanels.ntc
      ∧ w.pru.grades = (s.setRoute side h e).pru.grades ∧ w.miu = (s.setRoute side h e).miu := by
  obtain ⟨-, c2, c3, -, c5, c6, c7⟩ := hc
  have hu := s.setRoute_acts side h e
  have hes := s.setRoute_ssu side h e
  have hep := s.setRoute_pos side h e
  have hpw := State.setRoute_pricesWait (side := side) h e c3
  have hgw := State.setRoute_gateWaits h e ha c6
  have hst := State.setRoute_panelsStand (side := side) h e c7
  generalize s.setRoute side h e = u at hu hes hep hpw hgw hst hw ⊢
  have hs : Acts u (u.storeCard .site) [.lanes] := Acts.storeCard (.refl u _) .site (by decide)
  have er : (u.storeCard .site).rsc = s.rsc := (hs.frame .store (by decide)).trans (hu.frame .store (by decide))
  have hfu : (u.storeCard .site).storeFree := hs.storeFree (by decide) (by decide) (hu.storeFree (by decide) (by decide) hf)
  have hq : (u.storeCard .site).rsc.queue = [] := by
    rw [er]
    rcases c5 with q | q | q
    · exact q
    · rw [hf.1] at q; cases q
    · rw [hf.2.1] at q; cases q
  have hwait : (u.storeCard .site).waitingKind .site ≠ some .loadPrice := by rw [State.waitingKind_storeCard]; decide
  obtain ⟨g, hg, e1, e2, e3, e4, e5, e6⟩ := State.react_asksStep_waking (u := u.storeCard .site)
    (State.closingWaits_congr hes hep c2) hpw hgw hst hfu hwait (step := { records := [.config], requesters := [.card .site off] })
    (by change [RecordId.config] ≠ allRecords; decide) (by simp) (State.requestStep_free hfu hq [.config] [.card .site off])
  have hw' : ((u.storeCard .site).requestStep [.config] [.card .site off]).react = w := hw
  rw [hw'] at e1 e2 e3 e4 e5 e6
  rw [State.examinePanels_storeCard] at e3 e4 e5
  have hx := e3 [.prices, .notices, .site, .store, .displays] (by decide)
    (by rw [← State.examinePanels_storeCard]; exact (State.examinePanels_acts _).mono (by decide))
  have hl : w.lanes = (u.storeCard .site).lanes := hx.frame .lanes (by decide)
  have acts (Q : List Part) (hq : [.meters, .prices, .lanes, .store, .displays] ⊆ Q)
      (hx : Acts (u.storeCard .site) (u.examinePanels.storeCard .site) Q) : Acts s w Q :=
    (hu.mono (List.Subset.trans (by decide) hq)).trans ((hs.mono (List.Subset.trans (by decide) hq)).trans
      (e3 Q (List.Subset.trans (by decide) hq) hx))
  refine ⟨⟨_, congrArg Rsc.active e1, rfl, by rw [← hg, er], e2.symm⟩, ?_, fun h3 => acts _ (by decide) ?_, acts _ (by decide) ?_,
    e4, e5, e6, hx.frame .meters (by decide)⟩
  · rw [State.lane_congr hl, State.storeCard_lane, State.storeCard_lane, State.lane_congr (hu.frame .lanes (by decide))]
  · rw [← hes] at h3
    rw [State.examinePanels_idle fun h1 h2 => absurd h2 (h3 h1)]
    exact .refl _ _
  · rw [← State.examinePanels_storeCard]
    exact (State.examinePanels_acts _).mono (by decide)

theorem State.reports_ntc {x : Cause} {d : Nat} (h : t.ntc = u.ntc) (hr : s.reports u x d) : s.reports t x d := by
  unfold State.reports State.notified at *
  rwa [h]

theorem Side.forall_iff {p : Side → Prop} : (∀ x, p x) ↔ p .a ∧ p .b := ⟨fun h => ⟨h .a, h .b⟩, fun h x => by cases x; exacts [h.1, h.2]⟩

theorem Side.exists_iff {p : Side → Prop} : (∃ x, p x) ↔ p .a ∨ p .b :=
  ⟨fun ⟨x, h⟩ => by cases x; exacts [.inl h, .inr h], fun h => h.elim (⟨.a, ·⟩) (⟨.b, ·⟩)⟩

theorem State.anyUpdating_eq_false : s.anyUpdating = false ↔ ∀ g x, ((s.grade g).panels.get x).state ≠ .updating := by
  simp [State.anyUpdating, State.updating, bothSides, Side.forall_iff]

theorem State.anyFault_eq_true : s.anyFault = true ↔ ∃ g x, ((s.grade g).panels.get x).state = .fault := by
  simp [State.anyFault, State.faulted, bothSides, Side.exists_iff]

/-- The end of stage 3 of a wake (R166). -/
theorem State.examinePanels_ends (hw : u.ssu.site = .waking) (hg : u.ssu.wake.stage = 3)
    (hu : ∀ g x, ((u.grade g).panels.get x).state ≠ .updating) :
    ∃ code, (code = 0 ∧ (∀ g x, ((u.grade g).panels.get x).state ≠ .fault) ∨ code = 1 ∧ ∃ g x, ((u.grade g).panels.get x).state = .fault)
      ∧ (∀ s : State, u.ntc = s.ntc → s.reports u.examinePanels .stage (768 + code))
      ∧ u.examinePanels.ssu = { u.ssu with stageTimer := some 2000, wake := { u.ssu.wake with
          stage := 4, outcomes := u.ssu.wake.outcomes.set 2 (some code) } } := by
  rw [State.examinePanels, if_pos ⟨hw, hg, State.anyUpdating_eq_false.mpr hu⟩]
  refine ⟨if u.anyFault then 1 else 0, ?_, fun s hs => ?_, rfl⟩
  · split
    · next hf => exact .inr ⟨rfl, State.anyFault_eq_true.mp hf⟩
    · next hf => exact .inl ⟨rfl, fun g x hx => hf (State.anyFault_eq_true.mpr ⟨g, x, hx⟩)⟩
  · generalize (if u.anyFault = true then 1 else 0) = code
    refine State.reports_ntc (u := (u.modSsu fun v => { v with stageTimer := none, wake := { v.wake with
      outcomes := v.wake.outcomes.set (2 : Fin 6) (some code) } }).raise .stage (768 + code)) rfl
      (State.reports_raise _ (congrArg (fun n : Ntc => n.sources[Cause.stage.source]) hs) (by decide))

/-- CONFIGURE HOSE accepted (R18, R166): stage 3 of a wake ends when no panel is left UPDATING. -/
theorem exec_configureHose_accepts {h : HoseNo} {e : HoseRoute} (hh : s.holds .configureHose off c) (hc : c.hose = some (side, h))
    (hw : 2 ≤ c.words.toNat) (hr : c.hoseRoute = some e) (hs : s.storeClosed = false) (ha : (s.pos side).st.atRest = true) :
    ∃ t, exec .configureHose s = .next t ∧ t.route side h = e
      ∧ (∀ x k, (x, k) ≠ (side, h) → t.route x k = s.route x k) ∧ s.startsStep t [.config] .site off
      ∧ (s.calm → s.storeFree → t.miu.meters = s.miu.meters
          ∧ ((s.ssu.site = .waking → s.ssu.wake.stage ≠ 3) → s.changesOnly t [.meters, .prices, .lanes, .store, .displays])
          ∧ s.changesOnly t [.meters, .prices, .lanes, .notices, .site, .store, .displays]
          ∧ (s.ssu.site = .waking → s.ssu.wake.stage = 3 →
              ((∃ g x, ((t.grade g).panels.get x).state = .updating) → t.ssu = s.ssu ∧ t.ntc = s.ntc)
              ∧ ((∀ g x, ((t.grade g).panels.get x).state ≠ .updating) →
                  ∃ code, (code = 0 ∧ (∀ g x, ((t.grade g).panels.get x).state ≠ .fault)
                      ∨ code = 1 ∧ ∃ g x, ((t.grade g).panels.get x).state = .fault)
                    ∧ s.reports t .stage (768 + code) ∧ t.ssu = { s.ssu with stageTimer := some 2000, wake := { s.ssu.wake with
                    stage := 4, outcomes := s.ssu.wake.outcomes.set 2 (some code) } }))) := by
  refine ⟨_, exec_command_on (k := .configureHose) hh, ?_⟩
  simp only [Kind.decision]
  rw [decideConfigureHose_accepts hc hw hr hs ha]
  have hroute (x : Side) (k : HoseNo) :
      (publish s ((s.setRoute side h e).finishOnConfig .site off).react).route x k = if (x, k) = (side, h) then e else s.route x k := by
    obtain ⟨k1, -⟩ := ((s.setRoute side h e).finishOnConfig .site off).react_kept
    have k2 : ((s.setRoute side h e).finishOnConfig .site off).miu = (s.setRoute side h e).miu :=
      (Acts.onConfig _ off).frame .meters (by decide)
    rw [← State.setRoute_route, State.route, publish_miu, k1, k2]
    rfl
  have hmeters : ((s.setRoute side h e).finishOnConfig .site off).miu.meters = s.miu.meters := by
    rw [show ((s.setRoute side h e).finishOnConfig .site off).miu = (s.setRoute side h e).miu from
      (Acts.onConfig _ off).frame .meters (by decide), State.setRoute_miu]
  have hev := fun h1 h2 => s.setRoute_event (side := side) off h e ha h1 h2 rfl
  generalize ((s.setRoute side h e).finishOnConfig .site off).react = w at hroute hev ⊢
  refine ⟨by rw [hroute, if_pos rfl], fun x k hx => by rw [hroute, if_neg hx], fun h1 h2 => ?_, fun h1 h2 => ?_⟩
  · obtain ⟨e1, e2, -⟩ := hev h1 h2
    rw [show (publish s w).lane .site = w.lane .site from State.lane_congr (publish_lanes s w) .site, e2, State.storeCard_lane]
    exact ⟨e1, rfl, rfl⟩
  · obtain ⟨-, -, e3, e4, e5, e6, e7, e8⟩ := hev h1 h2
    have hg (g : Fin 8) : (publish s w).grade g = (s.setRoute side h e).grade g := by
      rw [State.grade, publish_pru, e7]
      rfl
    have hes := s.setRoute_ssu side h e
    have hen : (s.setRoute side h e).ntc = s.ntc := (s.setRoute_acts side h e).frame .notices (by decide)
    rw [← publish_ssu s w] at e5
    rw [← publish_ntc s w] at e6
    refine ⟨by rw [publish_miu, e8, State.setRoute_miu], fun h3 => (e3 h3).published, e4.published, fun hw3 hw4 => ?_⟩
    simp only [hg]
    rw [← hes] at hw3 hw4
    refine ⟨fun hu => ?_, fun hu => ?_⟩
    · rw [State.examinePanels_idle fun _ _ => hu] at e5 e6
      exact ⟨e5.trans hes, e6.trans hen⟩
    · obtain ⟨code, k1, k2, k3⟩ := State.examinePanels_ends hw3 hw4 hu
      exact ⟨code, k1, State.reports_ntc e6 (k2 s hen), by rw [e5, k3, hes]⟩

/-! ## SET ROUTING and the refusals -/

theorem decideSetRouting_accepts {e : RouteEnables} (hw : 2 ≤ c.words.toNat) (h0 : c.b 0 = flag e.blend) (h1 : c.b 1 = flag e.satellite)
    (h2 : c.b 2 = e.tolerance) (h3 : c.w 1 = e.settleVolume) (r1 : 1 ≤ e.tolerance) (r2 : e.tolerance ≤ 20) (r3 : e.settleVolume ≤ 10000)
    (hs : s.storeClosed = false) :
    decideSetRouting off c s = (s.modMiu fun u => { u with enables := e }).finishOnConfig .site off := by
  unfold decideSetRouting
  rw [if_neg fun h => Card.read_setRouting.mp h ⟨hw, by omega, by omega, by omega⟩, hs, onOff_flag h0, onOff_flag h1, h2, h3]
  rfl

theorem exec_setRouting_accepts {e : RouteEnables} (h : s.holds .setRouting off c) (hw : 2 ≤ c.words.toNat) (h0 : c.b 0 = flag e.blend)
    (h1 : c.b 1 = flag e.satellite) (h2 : c.b 2 = e.tolerance) (h3 : c.w 1 = e.settleVolume) (r1 : 1 ≤ e.tolerance) (r2 : e.tolerance ≤ 20)
    (r3 : e.settleVolume ≤ 10000) (hs : s.storeClosed = false) :
    ∃ t, exec .setRouting s = .next t ∧ t.miu.enables = e ∧ t.miu.routes = s.miu.routes ∧ s.startsStep t [.config] .site off
      ∧ (s.calm → s.storeFree → t.miu.meters = s.miu.meters ∧ s.changesOnly t [.meters, .lanes, .store, .displays]) := by
  refine ⟨_, exec_command_on (k := .setRouting) h, ?_⟩
  simp only [Kind.decision]
  rw [decideSetRouting_accepts hw h0 h1 h2 h3 r1 r2 r3 hs]
  generalize hu : (s.modMiu fun u => { u with enables := e }) = u
  have hau : Acts s u [.meters] := hu ▸ Acts.modMiu (.refl s _) _ (by decide)
  have hm : u.miu = { s.miu with enables := e } := by rw [← hu]; rfl
  have hcalm (hc : s.calm) : u.calm := by subst hu; exact calm_settings rfl rfl rfl rfl rfl (fun _ => rfl) rfl hc
  obtain ⟨e1, e2⟩ := finishOnConfig_event (off := off) hau (by decide) (by decide) (by decide) hcalm
  have hq : (u.finishOnConfig .site off).miu = u.miu := (Acts.onConfig u off).frame .meters (by decide)
  obtain ⟨k1, k2, -⟩ := (u.finishOnConfig .site off).react_kept
  rw [hq, hm] at k1 k2
  refine ⟨by rw [publish_miu]; exact k2, by rw [publish_miu]; exact k1, e1, fun h1 h2 => ⟨?_, finishOnConfig_frame hau (e2 h1 h2)⟩⟩
  rw [publish_miu, (e2 h1 h2).frame .meters (by decide), hm]

theorem decideConfigureHose_busy {h : HoseNo} (hm : c.misfits .configureHose = none) (hc : c.hose = some (side, h))
    (hb : s.storeClosed = true ∨ (s.pos side).st.atRest = false) : decideConfigureHose off c s = s.refuseCard .site .busy := by
  obtain ⟨-, hr⟩ := checked_eq_none hm
  obtain ⟨e, he⟩ := Option.ne_none_iff_exists'.mp fun e => Card.read_configureHose.mp e (of_decide_eq_true hr)
  simp only [decideConfigureHose, hc, he]
  rcases hb with hb | hb <;> rw [hb]
  · rfl
  · cases s.storeClosed <;> rfl

theorem decideSetRouting_busy (hm : c.misfits .setRouting = none) (hb : s.storeClosed = true) :
    decideSetRouting off c s = s.refuseCard .site .busy := by
  obtain ⟨-, hr⟩ := checked_eq_none hm
  rw [decideSetRouting, if_neg fun h => Card.read_setRouting.mp h (of_decide_eq_true hr), if_pos hb]

theorem Card.hose_eq {h : HoseNo} (hc : c.to = 4 * sideCode side + h.val) : c.hose = some (side, h) := by
  unfold Card.hose
  rw [hc]
  cases side <;> fin_cases h <;> rfl

/-- Settles O20. -/
theorem routingCardsReplaceTheRoutes : Obligations.RoutingCardsReplaceTheRoutes := by
  refine ⟨fun s off c side h e hh ht hw h0 h1 h2 h3 h4 h5 h6 hl hs ha => ?_,
    fun s off c e h hw h0 h1 h2 h3 r1 r2 r3 hs => exec_setRouting_accepts h hw h0 h1 h2 h3 r1 r2 r3 hs,
    fun s off c side h hh ht hm hb => exec_command_refuses hh (decideConfigureHose_busy hm (Card.hose_eq ht) hb),
    fun s off c h hm hb => exec_command_refuses h (decideSetRouting_busy hm hb)⟩
  exact exec_configureHose_accepts hh (Card.hose_eq ht) hw (Card.hoseRoute_of h0 h1 h2 h3 h4 h5 h6 hl) hs ha

end Sys2Proof.Machine
end

section
/-! PROOFS. Cards that finish with result words: CLEAR SITE FLAGS, READ TOTALS, READ METERS (R21, R42, R187; 10, Card kinds). -/
namespace Sys2Proof.Machine

variable {s t u v : State} {P : List Part} {k : Kind} {off : Nat} {c : Card} {o : CardOutcome} {m : MeterNo} {side : Side}

/-! ## Result bytes -/

/-- The bytes that stores at the given distances, all different, have left. -/
theorem State.read_writeAt_same {l : List (Nat × Byte)} (hn : (l.map Prod.fst).Nodup) (hm : s.memoryOk) (a : Nat) {p : Nat × Byte} (hp : p ∈ l) :
    Memory.read (s.writeAt a l).xm (a + p.1) = p.2 := by
  induction l generalizing s with
  | nil => cases hp
  | cons q l ih =>
    obtain ⟨hq, hl⟩ := List.nodup_cons.mp hn
    rcases List.mem_cons.mp hp with rfl | hp
    · rw [State.writeAt, State.read_writeAt_other _ _ fun x hx e => hq (List.mem_map.mpr ⟨x, hx, by omega⟩), State.writeByte_xm,
        Memory.read_write_same hm.1]
    · exact ih hl (State.memoryOk_writeByte hm _ _) hp

theorem leBytes_fst (i v n : Nat) : (leBytes i v n).map Prod.fst = List.range' i n := by
  induction n generalizing i v with
  | zero => rfl
  | succ n ih => rw [leBytes, List.map_cons, ih, List.range'_succ]

theorem mem_leBytes (i v : Nat) {n j : Nat} (h : j < n) : (i + j, BitVec.ofNat 8 (v / 256 ^ j)) ∈ leBytes i v n := by
  induction n generalizing i v j with
  | zero => omega
  | succ n ih =>
    rw [leBytes, List.mem_cons]
    cases j with
    | zero => exact .inl (by simp)
    | succ j =>
      refine .inr ?_
      have := ih (i + 1) (v / 256) (j := j) (by omega)
      rwa [Nat.div_div_eq_div_mul, ← Nat.pow_succ', Nat.add_right_comm, Nat.add_assoc] at this

/-- The memory of a card that has finished with results, in an event that lets nothing else go on (R200). -/
structure State.finishedWith (s t : State) (off : Nat) (r : List (Nat × Byte)) : Prop where
  results : ∀ p ∈ r, Memory.read t.xm (off + 16 + p.1) = p.2
  other : ∀ a, (a < off + 4 ∨ off + 8 ≤ a) → (∀ p ∈ r, a ≠ off + 16 + p.1) → Memory.read t.xm a = Memory.read s.xm a

theorem State.finishedWith.shows {r : List (Nat × Byte)} (h : s.finishedWith t off r) {i value n : Nat} (hr : leBytes i value n ⊆ r) :
    t.shows (off + 16 + i) n value := by
  intro j hj
  have := h.results _ (hr (mem_leBytes i value hj))
  rwa [← Nat.add_assoc] at this

/-- A card that its lane holds finishes with results, after an effect that leads from `s` to `u`. -/
theorem finishCard_event {r : List (Nat × Byte)} (h : s.holds k off c) (ha : Acts s u P) (h1 : Part.memory ∉ P) (h2 : Part.parity ∉ P)
    (h3 : Part.lanes ∉ P) (hu : u.calm) (hl : s.readLink off = .atEnd) (hm : s.memoryOk) (hr : (r.map Prod.fst).Nodup) :
    s.finishedWith (publish s (u.finishCard k.lane r o).react) off r
      ∧ s.changesOnly (publish s (u.finishCard k.lane r o).react) (P ++ [.memory, .parity, .lanes, .notices, .displays])
      ∧ ∀ p ∉ cardParts, p ≠ Part.displays → p.kept u (publish s (u.finishCard k.lane r o).react) := by
  have ex : u.xm = s.xm := ha.frame .memory h1
  have eu : u.upset = s.upset := ha.frame .parity h2
  have el : u.lanes = s.lanes := ha.frame .lanes h3
  have hl' : u.readLink off = .atEnd := by
    rw [State.readLink_atEnd] at *
    simpa [State.parityGood, State.half, ex, eu] using hl
  have hh : (u.lane k.lane).held = some { offset := off, card := c, phase := .undecided } := by
    rw [State.lane_congr el]; exact h.2.1
  have hw := State.finishCard_calm hu k.lane r o
  have hf := Acts.finish u k.lane r o
  have hxm := (State.finishCard_atEnd (ha.memory hm) hh hl' r o).2
  have hp : (publish s (u.finishCard k.lane r o).react).xm = (u.finishCard k.lane r o).xm := hw.event_kept s (p := .memory) (by decide)
  dsimp only at hxm
  refine ⟨⟨fun p hp' => ?_, fun a ha' hn => ?_⟩, ?_, fun p hp1 hp2 => Part.kept_trans (hf.frame p hp1) (hw.event_kept s hp2)⟩
  · rw [hp, hxm, State.read_writeHalf_other _ _ (by omega) (by omega), State.read_writeHalf_other _ _ (by omega) (by omega)]
    exact State.read_writeAt_same hr (ha.memory hm) _ hp'
  · rw [hp, hxm, State.read_writeHalf_other _ _ (by omega) (by omega), State.read_writeHalf_other _ _ (by omega) (by omega),
      State.read_writeAt_other _ _ hn, ex]
  · refine Acts.published ((ha.mono (List.subset_append_left ..)).trans ?_)
    refine ((hf.mono ?_).react_calm hw ?_).mono (List.subset_append_right ..) <;> decide

theorem State.changesOnly.mono {Q : List Part} (h : s.changesOnly t P) (hp : P ⊆ Q) : s.changesOnly t Q := fun p hn => h p fun hm => hn (hp hm)

/-- The bytes outside a card's state, outcome and results. -/
theorem State.finishedWith.outside {r : List (Nat × Byte)} (h : s.finishedWith t off r) {n a : Nat} (hr : ∀ i ∈ r.map Prod.fst, i < n)
    (hn : a < off + 4 ∨ off + 16 + n ≤ a) : Memory.read t.xm a = Memory.read s.xm a :=
  h.other a (by omega) fun p hp e => by have := hr _ (List.mem_map_of_mem hp); omega

/-! ## CLEAR SITE FLAGS (R42) -/

theorem Accrued.code_bit (x : Accrued) {b : Nat} (hb : b < 8) : (BitVec.ofNat 8 x.code).getLsbD b
    = (decide (b = 0) && x.inexact || decide (b = 1) && x.reverse || decide (b = 2) && x.ceiling || decide (b = 3) && x.discountClamped) := by
  obtain ⟨i, r, e, d⟩ := x
  revert b
  cases i <;> cases r <;> cases e <;> cases d <;> decide

theorem Accrued.code_lt (x : Accrued) : x.code < 256 := by
  obtain ⟨i, r, e, d⟩ := x
  cases i <;> cases r <;> cases e <;> cases d <;> decide

theorem exec_clearSiteFlags_accepts (h : s.holds .clearSiteFlags off c) (hw : 1 ≤ c.words.toNat) (hc : s.calm)
    (hl : s.readLink off = .atEnd) (hm : s.memoryOk) :
    ∃ t, exec .clearSiteFlags s = .next t ∧ s.endsCard t .site off .ok
      ∧ t.pru = { s.pru with accrued := { inexact := false, reverse := false, ceiling := false, discountClamped := false } }
      ∧ (∀ b, b < 8 → (Memory.read t.xm (off + 16)).getLsbD b = (decide (b = 0) && s.pru.accrued.inexact
          || decide (b = 1) && s.pru.accrued.reverse || decide (b = 2) && s.pru.accrued.ceiling
          || decide (b = 3) && s.pru.accrued.discountClamped))
      ∧ (∀ i, 1 ≤ i → i < 4 → Memory.read t.xm (off + 16 + i) = 0)
      ∧ (∀ a, (a < off + 4 ∨ off + 20 ≤ a) → Memory.read t.xm a = Memory.read s.xm a)
      ∧ s.changesOnly t [.memory, .parity, .lanes, .notices, .prices, .displays] := by
  refine ⟨_, exec_command_on (k := .clearSiteFlags) h, ?_⟩
  have hshort : c.short .clearSiteFlags = false := decide_eq_false (Nat.not_lt.mpr hw)
  have e : Kind.clearSiteFlags.decision off c s = ((s.modPru fun u => { u with accrued := .clear }).touch .price 8).finishCard
      Kind.clearSiteFlags.lane (leBytes 0 s.pru.accrued.code 4) .ok := by
    simp [Kind.decision, decideClearSiteFlags, hshort, Kind.lane]
  rw [e]
  generalize hu : (s.modPru fun u => { u with accrued := .clear }).touch .price 8 = u
  have hau : Acts s u [.prices] := hu ▸ Acts.touch (Acts.modPru (.refl s _) _ (by decide)) _ _
  have hcalm : u.calm := by subst hu; exact calm_settings rfl rfl rfl rfl rfl (fun _ => rfl) rfl hc
  have hends := State.endsCard_finish h hau (by decide) (by decide) (by decide) (fun _ => hcalm) (leBytes 0 s.pru.accrued.code 4) .ok
  obtain ⟨hf, hch, hk⟩ := finishCard_event (o := .ok) (r := leBytes 0 s.pru.accrued.code 4) h hau (by decide) (by decide) (by decide) hcalm hl hm
    (by rw [leBytes_fst]; decide)
  have hpru := hk .prices (by decide) (by decide)
  generalize publish s (u.finishCard Kind.clearSiteFlags.lane (leBytes 0 s.pru.accrued.code 4) .ok).react = t at *
  have hs := hf.shows (List.Subset.refl _)
  refine ⟨hends, hpru.trans (by rw [← hu]; rfl), fun b hb => ?_, fun i h1 h4 => ?_, fun a ha => hf.outside (n := 4) ?_ ha, hch.mono (by decide)⟩
  · rw [← s.pru.accrued.code_bit hb]
    have := hs 0 (by decide)
    rw [this]
    simp
  · rw [← Nat.add_zero (off + 16), hs i h4, Nat.div_eq_of_lt]
    · rfl
    · exact lt_of_lt_of_le s.pru.accrued.code_lt (Nat.le_self_pow (by omega) 256)
  · rw [leBytes_fst]; decide

/-! ## READ TOTALS (R187) -/

theorem Card.reportForm_eq {f : Form} (h : c.form < 3) :
    c.reportForm f = some (if c.form = 2 ∨ c.form = 0 ∧ f = .full then .full else .display) := by
  unfold Card.reportForm
  split
  · next e => rw [e]; cases f <;> rfl
  · next e => rw [e]; rfl
  · next e => rw [e]; rfl
  · rename_i h0 h1 h2
    exact absurd h (by simp only [imp_false] at h0 h1 h2; omega)

theorem decideReadTotals_accepts {h : HoseNo} {g : Nat} (hc : c.hose = some (side, h)) (hf : c.form < 3) (hw : 6 ≤ c.words.toNat)
    (hs : s.storeClosed = false) (hg : s.rsc.generation = some g) : decideReadTotals off c s
      = s.finishCard .site (((s.rsc.totals.get side)[h]).report
          (if c.form = 2 ∨ c.form = 0 ∧ s.pru.totalsForm = .full then .full else .display) g) .ok := by
  have hshort : c.short .readTotals = false := decide_eq_false (Nat.not_lt.mpr hw)
  simp only [decideReadTotals, hc, Card.reportForm_eq hf, hshort, hs, hg]
  rfl

theorem Total.report_fst (x : Total) (f : Form) (g : Nat) : (x.report f g).map Prod.fst = List.range 24 := by
  simp only [Total.report, List.map_append, leBytes_fst]
  rfl

theorem Total.report_if (x : Total) (p : Prop) [Decidable p] (g : Nat) : x.report (if p then .full else .display) g
    = leBytes 0 (if p then x.volume else x.volume / 1000) 8 ++ leBytes 8 (if p then x.amount else x.amount / 100) 8
      ++ leBytes 16 x.sales 4 ++ leBytes 20 g 4 := by
  by_cases h : p <;> simp only [h, if_true, if_false, Total.report]

theorem exec_readTotals_accepts {h : HoseNo} {g : Nat} (hh : s.holds .readTotals off c) (ht : c.to = 4 * sideCode side + h.val)
    (hw : 6 ≤ c.words.toNat) (hform : c.form < 3) (hs : s.storeClosed = false) (hg : s.rsc.generation = some g) (hc : s.calm)
    (hl : s.readLink off = .atEnd) (hm : s.memoryOk) :
    let full := c.form = 2 ∨ (c.form = 0 ∧ s.pru.totalsForm = .full)
    let x := (s.rsc.totals.get side)[h]
    ∃ t, exec .readTotals s = .next t ∧ s.endsCard t .site off .ok
      ∧ (∀ i, i < 8 → Memory.read t.xm (off + 16 + i) = BitVec.ofNat 8 ((if full then x.volume else x.volume / 1000) / 256 ^ i))
      ∧ (∀ i, i < 8 → Memory.read t.xm (off + 24 + i) = BitVec.ofNat 8 ((if full then x.amount else x.amount / 100) / 256 ^ i))
      ∧ (∀ i, i < 4 → Memory.read t.xm (off + 32 + i) = BitVec.ofNat 8 (x.sales / 256 ^ i))
      ∧ (∀ i, i < 4 → Memory.read t.xm (off + 36 + i) = BitVec.ofNat 8 (g / 256 ^ i))
      ∧ (∀ a, (a < off + 4 ∨ off + 40 ≤ a) → Memory.read t.xm a = Memory.read s.xm a)
      ∧ s.changesOnly t [.memory, .parity, .lanes, .notices, .displays] := by
  dsimp only
  refine ⟨_, exec_command_on (k := .readTotals) hh, ?_⟩
  rw [Kind.decision, decideReadTotals_accepts (Card.hose_eq ht) hform hw hs hg]
  generalize (s.rsc.totals.get side)[h] = x
  generalize hr : x.report (if c.form = 2 ∨ c.form = 0 ∧ s.pru.totalsForm = .full then .full else .display) g = r
  have hfst : r.map Prod.fst = List.range 24 := by rw [← hr, Total.report_fst]
  have hends := State.endsCard_finish (P := []) hh (.refl s []) (by decide) (by decide) (by decide) id r .ok
  obtain ⟨hf, hch, -⟩ := finishCard_event (P := []) (o := .ok) (r := r) hh (.refl s []) (by decide) (by decide) (by decide) hc hl hm
    (by rw [hfst]; decide)
  have e : Kind.readTotals.lane = .site := rfl
  rw [e] at hends hf hch
  generalize publish s (s.finishCard .site r .ok).react = t at *
  refine ⟨hends, ?_, ?_, ?_, ?_, fun a ha => hf.outside (n := 24) (by rw [hfst]; decide) ha, hch.mono (by decide)⟩
  · exact hf.shows (i := 0) fun p hp => by rw [← hr, Total.report_if]; simp only [List.mem_append, hp, true_or]
  · exact hf.shows (i := 8) fun p hp => by rw [← hr, Total.report_if]; simp only [List.mem_append, hp, true_or, or_true]
  · exact hf.shows (i := 16) fun p hp => by rw [← hr, Total.report_if]; simp only [List.mem_append, hp, true_or, or_true]
  · exact hf.shows (i := 20) fun p hp => by rw [← hr, Total.report_if]; simp only [List.mem_append, hp, or_true]

/-! ## READ METERS (R21) -/

theorem Meter.report_eq (x : Meter) : x.report = leBytes 0 x.lifetime.toNat 6 ++ leBytes 6 (x.sinceReport % 65536).toNat 2
    ++ leBytes 8 x.unclaimed.toNat 4 ++ leBytes 12 x.rate 2 ++ leBytes 14 (if x.faulted then 1 else 0) 1 ++ leBytes 15 x.phaseErrors 1
    ++ leBytes 16 (match x.owner with
        | none => 0
        | some (.a, _) => 1
        | some (.b, _) => 2) 1
    ++ leBytes 17 (match x.owner with
        | none => 0
        | some (_, .primary) => 1
        | some (_, .secondary) => 2
        | some (_, .satellite) => 3) 1 := by
  unfold Meter.report
  rw [List.append_assoc _ (leBytes 16 _ 1)]
  congr 1
  rcases x.owner with - | ⟨side, role⟩
  · rfl
  · cases side <;> cases role <;> rfl

theorem Meter.report_fst (x : Meter) : x.report.map Prod.fst = List.range 18 := by
  simp only [Meter.report_eq, List.map_append, leBytes_fst]
  rfl

theorem exec_readMeters_accepts (h : s.holds .readMeters off c) (ht : c.to = m.val + 1) (hw : 5 ≤ c.words.toNat) :
    ∃ t, exec .readMeters s = .next t ∧ s.endsCard t .site off .ok
      ∧ (s.calm → s.memoryOk → s.readLink off = .atEnd →
          let x := s.meter m
          t.shows (off + 16) 6 x.lifetime.toNat ∧ t.shows (off + 22) 2 (x.sinceReport % 65536).toNat
          ∧ t.shows (off + 24) 4 x.unclaimed.toNat ∧ t.shows (off + 28) 2 x.rate ∧ t.shows (off + 30) 1 (if x.faulted then 1 else 0)
          ∧ t.shows (off + 31) 1 x.phaseErrors
          ∧ t.shows (off + 32) 1 (match x.owner with
              | none => 0
              | some (.a, _) => 1
              | some (.b, _) => 2)
          ∧ t.shows (off + 33) 1 (match x.owner with
              | none => 0
              | some (_, .primary) => 1
              | some (_, .secondary) => 2
              | some (_, .satellite) => 3)
          ∧ (∀ a, (a < off + 4 ∨ off + 34 ≤ a) → Memory.read t.xm a = Memory.read s.xm a)
          ∧ s.changesOnly t [.memory, .parity, .lanes, .notices, .displays]) := by
  refine ⟨_, exec_command_on (k := .readMeters) h, ?_⟩
  have hshort : c.short .readMeters = false := decide_eq_false (Nat.not_lt.mpr hw)
  have e : Kind.readMeters.decision off c s = s.finishCard Kind.readMeters.lane (s.meter m).report .ok := by
    simp [Kind.decision, decideReadMeters, Card.meter_eq ht, hshort, Kind.lane]
  rw [e]
  generalize s.meter m = x
  generalize hr : x.report = r
  have hfst : r.map Prod.fst = List.range 18 := by rw [← hr, Meter.report_fst]
  have hends := State.endsCard_finish (P := []) h (.refl s []) (by decide) (by decide) (by decide) id r .ok
  refine ⟨hends, fun hc hm hl => ?_⟩
  obtain ⟨hf, hch, -⟩ := finishCard_event (P := []) (o := .ok) (r := r) h (.refl s []) (by decide) (by decide) (by decide) hc hl hm
    (by rw [hfst]; decide)
  generalize publish s (s.finishCard Kind.readMeters.lane r .ok).react = t at *
  rw [Meter.report_eq] at hr
  dsimp only
  refine ⟨?_, ?_, ?_, ?_, ?_, ?_, ?_, ?_, fun a ha => hf.outside (n := 18) (by rw [hfst]; decide) ha, hch.mono (by decide)⟩
  · exact hf.shows (i := 0) fun p hp => by rw [← hr]; simp only [List.mem_append, hp, true_or]
  · exact hf.shows (i := 6) fun p hp => by rw [← hr]; simp only [List.mem_append, hp, true_or, or_true]
  · exact hf.shows (i := 8) fun p hp => by rw [← hr]; simp only [List.mem_append, hp, true_or, or_true]
  · exact hf.shows (i := 12) fun p hp => by rw [← hr]; simp only [List.mem_append, hp, true_or, or_true]
  · exact hf.shows (i := 14) fun p hp => by rw [← hr]; simp only [List.mem_append, hp, true_or, or_true]
  · exact hf.shows (i := 15) fun p hp => by rw [← hr]; simp only [List.mem_append, hp, true_or, or_true]
  · exact hf.shows (i := 16) fun p hp => by rw [← hr]; simp only [List.mem_append, hp, true_or, or_true]
  · exact hf.shows (i := 17) fun p hp => by rw [← hr]; simp only [List.mem_append, hp, or_true]

/-- Settles O37. -/
theorem readingCards : Obligations.ReadingCards :=
  ⟨fun _ _ _ h hw hc hl hm => exec_clearSiteFlags_accepts h hw hc hl hm,
    fun _ _ _ _ _ _ h ht hw hf hs hg hc hl hm => exec_readTotals_accepts h ht hw hf hs hg hc hl hm,
    fun _ _ _ _ h ht hw => exec_readMeters_accepts h ht hw⟩

end Sys2Proof.Machine
end

section
/-! PROOFS. CLOSE SALE and READ SALE (R71 to R73). -/
namespace Sys2Proof.Machine

variable {s t u v : State} {P : List Part} {k : Kind} {off : Nat} {c : Card} {o : CardOutcome} {side : Side}

/-! ## CLOSE SALE -/

theorem Card.w_lt (c : Card) (i : Nat) : c.w i < 2 ^ 32 := by
  have hb (j : Nat) : c.b j < 256 := (c.byte j).isLt
  have := hb (4 * i)
  have := hb (4 * i + 1)
  have := hb (4 * i + 2)
  have := hb (4 * i + 2 + 1)
  simp only [Card.w, Card.h]
  omega

theorem tag_eq_iff {x : Word} {n : Nat} (h : n < 2 ^ 32) : x = BitVec.ofNat 32 n ↔ x.toNat = n := by
  rw [BitVec.toNat_eq, BitVec.toNat_ofNat, Nat.mod_eq_of_lt h]

theorem refuse_pos (hc : s.calm) (l : LaneId) (o : CardOutcome) (x : Side) : (publish s (s.refuseCard l o).react).pos x = s.pos x :=
  congrArg (fun p : Sides Position => p.get x) (refuse_keeps hc l o (p := .positions) (by decide) (by decide))

/-- CLOSE SALE's decision in terms of the tag's number (R71). -/
theorem decideCloseSale_eq (hc : c.side = some side) (hw : 1 ≤ c.words.toNat) : decideCloseSale off c s =
    if s.storeClosed then s.refuseCard .dispense .busy
    else if ∀ e ∈ (s.pos side).unpaid, e.tag.toNat ≠ c.w 0 then s.refuseCard .dispense .notFound
    else ((s.modPos side fun p => { p with unpaid := p.unpaid.filter fun e => decide (e.tag.toNat ≠ c.w 0) }).storeCard .dispense).requestStep
      [unpaidRecord side] [.card .dispense off] := by
  have hshort : c.short .closeSale = false := decide_eq_false (Nat.not_lt.mpr hw)
  have ht (e : EndedSale) : (e.tag == BitVec.ofNat 32 (c.w 0)) = decide (e.tag.toNat = c.w 0) := by
    rw [Bool.eq_iff_iff, beq_iff_eq, decide_eq_true_eq, tag_eq_iff (c.w_lt 0)]
  simp only [decideCloseSale, hc, hshort, Bool.false_eq_true, if_false, ht, bne, Bool.not_eq_true', List.any_eq_false, decide_eq_true_eq,
    ← decide_not, ne_eq]

theorem exec_closeSale (h : s.holds .closeSale off c) (hc : c.side = some side) (hw : 1 ≤ c.words.toNat) :
    ∃ t, exec .closeSale s = .next t
      ∧ (s.storeClosed = true → s.endsCard t .dispense off .busy ∧ (s.calm → t.pos side = s.pos side))
      ∧ (s.storeClosed = false → (∀ e ∈ (s.pos side).unpaid, e.tag.toNat ≠ c.w 0) →
          s.endsCard t .dispense off .notFound ∧ (s.calm → t.pos side = s.pos side))
      ∧ (s.storeClosed = false → (∃ e ∈ (s.pos side).unpaid, e.tag.toNat = c.w 0) →
          s.startsStep t [unpaidRecord side] .dispense off
            ∧ (s.calm → s.storeFree →
                t.pos side = { s.pos side with unpaid := (s.pos side).unpaid.filter fun e => decide (e.tag.toNat ≠ c.w 0) }
                  ∧ t.pos (other side) = s.pos (other side) ∧ s.changesOnly t [.positions, .lanes, .store, .displays])) := by
  refine ⟨_, exec_command_on (k := .closeSale) h, ?_⟩
  rw [Kind.decision, decideCloseSale_eq hc hw]
  refine ⟨fun hs => ?_, fun hs hn => ?_, fun hs hf => ?_⟩
  · rw [if_pos hs]
    exact ⟨State.endsCard_refuse h _, fun hc => refuse_pos hc _ _ side⟩
  · rw [if_neg (by simp [hs]), if_pos hn]
    exact ⟨State.endsCard_refuse h _, fun hc => refuse_pos hc _ _ side⟩
  · have hn : ¬ ∀ e ∈ (s.pos side).unpaid, e.tag.toNat ≠ c.w 0 := fun h => by
      obtain ⟨e, he, ht⟩ := hf
      exact h e he ht
    rw [if_neg (by simp [hs]), if_neg hn]
    generalize hu : (s.modPos side fun p => { p with unpaid := p.unpaid.filter fun e => decide (e.tag.toNat ≠ c.w 0) }) = u
    have hau : Acts s u [.positions] := hu ▸ Acts.modPos (.refl s _) side _ (by decide)
    have hp : u.pos side = { s.pos side with unpaid := (s.pos side).unpaid.filter fun e => decide (e.tag.toNat ≠ c.w 0) } := by
      rw [← hu, State.modPos_pos]
    have ho : u.pos (other side) = s.pos (other side) := by rw [← hu, State.modPos_pos_ne _ _ (other_ne side)]
    have hcalm (hc : s.calm) : u.calm := by
      refine calm_carriesOn (a := s.pru.accrued) (hau.mono (by decide)) (by rw [← hu]; rfl) (by rw [← hu]; rfl) (fun x => ?_) hc
      rcases eq_or_other side x with e | e <;> rw [e]
      · rw [hp]; exact ⟨.inl rfl, rfl⟩
      · rw [ho]; exact Position.carriesOn_refl _
    obtain ⟨e1, e2⟩ := State.startsStep_event (s := s) (off := off) (l := .dispense) (records := [unpaidRecord side]) (hau.frame .lanes (by decide))
      (congrArg Rsc.generation (hau.frame .store (by decide))) (fun h _ => hcalm h) (fun _ h => hau.storeFree (by decide) (by decide) h)
      (by cases side <;> decide)
    refine ⟨e1, fun h1 h2 => ⟨?_, ?_, ((hau.mono (by decide)).trans ((e2 h1 h2).mono (by decide))).published⟩⟩
    · rw [publish_pos, (e2 h1 h2).pos_eq (by decide), hp]
    · rw [publish_pos, (e2 h1 h2).pos_eq (by decide), ho]

/-! ## READ SALE -/

theorem flag_code (x : Bool) : flag x = if x then 1 else 0 := by cases x <;> rfl

theorem SaleFlags.code_bit (f : SaleFlags) {b : Nat} (hb : b < 8) : (BitVec.ofNat 8 f.code).getLsbD b
    = [f.inexact, f.reverse, f.ceiling, f.discountClamped, f.presetAdjusted, f.overrun, f.blend, f.satelliteBusy].getD b false := by
  obtain ⟨a1, a2, a3, a4, a5, a6, a7, a8⟩ := f
  simp only [SaleFlags.code]
  revert a1 a2 a3 a4 a5 a6 a7 a8 b
  decide +kernel

/-- The bytes of the end of a sale, none of a sale that has not ended. -/
theorem Report.bytes_fst (x : Report) (f : Form) : ((x.bytes f).map Prod.fst).Nodup ∧ ∀ i ∈ (x.bytes f).map Prod.fst, i < 48 := by
  simp only [Report.bytes, List.map_append, leBytes_fst]
  cases x.ended with
  | none => exact ⟨by decide, by decide⟩
  | some z => simp only [List.map_append, leBytes_fst]; exact ⟨by decide, by decide⟩


theorem Report.bytes_if (x : Report) (full : Bool) : x.bytes (if full then .full else .display)
    = leBytes 0 x.tag.toNat 4 ++ leBytes 4 x.origin.code 1 ++ leBytes 5 (x.hose.val + 1) 1 ++ leBytes 6 x.grade.val 1
      ++ leBytes 7 x.kind.code 1 ++ leBytes 8 x.mode 1 ++ leBytes 9 x.stop 1
      ++ leBytes 10 ((if x.recovered then 1 else 0) + if x.ended.isSome then 2 else 0) 1 ++ leBytes 11 x.flags.code 1
      ++ leBytes 12 x.p 3 ++ leBytes 15 x.d 3 ++ leBytes 18 x.e 3 ++ leBytes 21 x.amount 3
      ++ leBytes 24 (if full then x.v else x.v / 10) 4 ++ leBytes 28 (if full then x.product else 0) 6
      ++ leBytes 34 x.started.day 2 ++ leBytes 36 x.started.second 3
      ++ (match x.ended with
        | some t => leBytes 40 t.day 2 ++ leBytes 42 t.second 3
        | none => []) := by
  have h2 : 2 * flag x.ended.isSome = if x.ended.isSome then 2 else 0 := by cases x.ended.isSome <;> rfl
  simp only [Report.bytes, flag_code x.recovered, h2, hoseDetail]
  cases full <;> cases x.ended <;> rfl

theorem State.finishedWith.showsReport {x : Report} {full : Bool}
    (h : s.finishedWith t off (x.bytes (if full then .full else .display))) : t.showsReport off x full := by
  have hb {i value n : Nat} (hr : ∀ p ∈ leBytes i value n, p ∈ x.bytes (if full then .full else .display)) : t.shows (off + 16 + i) n value :=
    h.shows hr
  rw [Report.bytes_if] at hb
  simp only [List.mem_append] at hb
  refine ⟨hb (i := 0) fun p hp => ?_, hb (i := 4) fun p hp => ?_, hb (i := 5) fun p hp => ?_, hb (i := 6) fun p hp => ?_,
    hb (i := 7) fun p hp => ?_, hb (i := 8) fun p hp => ?_, hb (i := 9) fun p hp => ?_, hb (i := 10) fun p hp => ?_, fun b hb8 => ?_,
    hb (i := 12) fun p hp => ?_, hb (i := 15) fun p hp => ?_, hb (i := 18) fun p hp => ?_, hb (i := 21) fun p hp => ?_,
    hb (i := 24) fun p hp => ?_, hb (i := 28) fun p hp => ?_, hb (i := 34) fun p hp => ?_, hb (i := 36) fun p hp => ?_,
    fun z hz => ⟨hb (i := 40) fun p hp => ?_, hb (i := 42) fun p hp => ?_⟩⟩
  case refine_9 =>
    have hf := hb (i := 11) (value := x.flags.code) (n := 1) (fun p hp => by simp only [hp, or_true, true_or]) 0 (by decide)
    rw [show off + 27 = off + 16 + 11 + 0 from rfl, hf, Nat.pow_zero, Nat.div_one]
    exact x.flags.code_bit hb8
  case refine_18 => simp only [hz, List.mem_append, hp, or_true, true_or]
  case refine_19 => simp only [hz, List.mem_append, hp, or_true]
  all_goals simp only [hp, or_true, true_or]

/-- READ SALE's decision when its body is in range (R72). -/
theorem decideReadSale_eq (hc : c.side = some side) (hf : c.form < 3) (hw : 12 ≤ c.words.toNat) (hb : c.b 0 ≤ 2) : decideReadSale off c s =
    match (s.pos side).selected (c.b 0) with
    | none => s.refuseCard .dispense .notFound
    | some r => s.finishCard .dispense (r.bytes (if decide (c.form = 2) || (decide (c.form = 0) && decide ((s.pos side).config.form = .full))
        then .full else .display)) .ok := by
  have hshort : c.short .readSale = false := decide_eq_false (Nat.not_lt.mpr hw)
  cases hs : (s.pos side).selected (c.b 0) <;>
    simp only [decideReadSale, hc, Card.reportForm_eq hf, hshort, Bool.false_eq_true, false_or, if_neg (Nat.not_lt.mpr hb), Bool.or_eq_true,
      Bool.and_eq_true, decide_eq_true_eq, hs]

/-- READ SALE answered with a report. -/
theorem readSale_reports {r : Report} {full : Bool} (h : s.holds .readSale off c) (hc : s.calm) (hl : s.readLink off = .atEnd)
    (hm : s.memoryOk)
    (ht : t = publish s (s.finishCard Kind.readSale.lane (r.bytes (if full then .full else .display)) .ok).react) :
    s.changesOnly t [.memory, .parity, .lanes, .notices, .displays] ∧ s.endsCard t .dispense off .ok
      ∧ (∀ a, (a < off + 4 ∨ off + 64 ≤ a) → Memory.read t.xm a = Memory.read s.xm a) ∧ t.showsReport off r full := by
  obtain ⟨h1, h2⟩ := r.bytes_fst (if full then .full else .display)
  obtain ⟨hf, hch, -⟩ := finishCard_event (P := []) (o := .ok) (r := r.bytes (if full then .full else .display)) h (.refl s [])
    (by decide) (by decide) (by decide) hc hl hm h1
  rw [← ht] at hf hch
  refine ⟨hch.mono (by decide), ?_, fun a ha => hf.outside (n := 48) h2 ha, hf.showsReport⟩
  rw [ht]
  exact State.endsCard_finish (P := []) h (.refl s []) (by decide) (by decide) (by decide) id _ .ok

theorem decideReadSale_badForm (hc : c.side = some side) (hf : c.form = 3) : decideReadSale off c s = s.refuseCard .dispense .badForm := by
  simp only [decideReadSale, hc, Card.reportForm, hf]

theorem decideReadSale_badValue (hc : c.side = some side) (hf : c.form < 3) (hb : c.words.toNat < 12 ∨ 2 < c.b 0) :
    decideReadSale off c s = s.refuseCard .dispense .badValue := by
  have hs : c.short .readSale = true ∨ 2 < c.b 0 := hb.imp_left fun h => decide_eq_true h
  simp only [decideReadSale, hc, Card.reportForm_eq hf, if_pos hs]

theorem Position.selected_eq_none {p : Position} {n : Nat} (h : n = 0 ∧ p.sale = none ∨ 1 ≤ n ∧ n ≤ 2 ∧ p.unpaid.length < n) :
    p.selected n = none := by
  rcases h with ⟨rfl, h⟩ | ⟨h1, -, h2⟩
  · simp [Position.selected, h]
  · cases n with
    | zero => omega
    | succ n => simp [Position.selected, List.getElem?_eq_none (show p.unpaid.length ≤ n by omega)]

theorem Sale.report_eq (x : Sale) : x.report =
    { tag := x.tag, origin := x.origin, hose := x.hose, grade := x.grade, kind := x.kind,
      mode := (match x.lock with
        | none => 255
        | some l => l.mode.code),
      stop := (match x.stop with
        | none => 0
        | some r => r.code),
      recovered := false, flags := x.flags, p := (x.lock.map Lock.p).getD 0, d := (x.lock.map Lock.d).getD 0,
      e := (x.lock.map Lock.e).getD 0, amount := x.amount, v := x.v, product := x.n, started := x.started, ended := none } := by
  unfold Sale.report
  cases x.lock <;> cases x.stop <;> rfl

/-- Every answer to READ SALE is a refusal or a report. -/
theorem decideReadSale_cases (hc : c.side = some side) : (∃ o, decideReadSale off c s = s.refuseCard .dispense o) ∨
    ∃ (r : Report) (full : Bool), decideReadSale off c s = s.finishCard .dispense (r.bytes (if full = true then .full else .display)) .ok := by
  unfold decideReadSale
  rw [hc]
  dsimp only
  cases c.reportForm (s.pos side).config.form with
  | none => exact .inl ⟨_, rfl⟩
  | some f =>
    dsimp only
    split
    · exact .inl ⟨_, rfl⟩
    · cases (s.pos side).selected (c.b 0) with
      | none => exact .inl ⟨_, rfl⟩
      | some r => exact .inr ⟨r, decide (f = .full), by cases f <;> rfl⟩

/-- Settles O34. -/
theorem saleCards : Obligations.SaleCards := by
  refine ⟨fun s off c side h ht hw => exec_closeSale h (Card.side_eq ht) hw, fun s off c side h ht hc hl hm => ?_⟩
  dsimp only
  have hside := Card.side_eq ht
  refine ⟨_, exec_command_on (k := .readSale) h, ?_⟩
  rw [Kind.decision]
  have refuse {o : CardOutcome} (e : decideReadSale off c s = s.refuseCard .dispense o) :
      s.refusesCard (publish s (decideReadSale off c s).react) .dispense off o := by
    rw [e]; exact State.refusesCard_refuse h o
  have report {r : Report} (hf : c.form < 3) (hw : 12 ≤ c.words.toNat) (hb : c.b 0 ≤ 2) (e : (s.pos side).selected (c.b 0) = some r) :=
    readSale_reports (t := publish s (decideReadSale off c s).react) (r := r)
      (full := decide (c.form = 2) || (decide (c.form = 0) && decide ((s.pos side).config.form = .full))) h hc hl hm
      (by rw [decideReadSale_eq hside hf hw hb, e]; rfl)
  refine ⟨?_, fun hf => refuse (decideReadSale_badForm hside hf), fun hf hb => refuse (decideReadSale_badValue hside hf hb),
    fun hf hw hn => refuse ?_, fun x hf hw hb hx => ?_, fun e hf hw h1 h2 he => ?_⟩
  · rcases decideReadSale_cases (off := off) (s := s) hside with ⟨o, e⟩ | ⟨r, full, e⟩
    · obtain ⟨-, h2⟩ := refuse e
      obtain ⟨-, -, -, h3⟩ := h2 hc hl
      exact h3
    · obtain ⟨h1, -⟩ := readSale_reports h hc hl hm (congrArg (fun u : State => publish s u.react) e)
      exact h1
  · rw [decideReadSale_eq hside hf hw (by omega), Position.selected_eq_none hn]
  · obtain ⟨-, r⟩ := report hf hw (by omega) (r := x.report) (by rw [hb, Position.selected, hx]; rfl)
    rw [Sale.report_eq] at r
    exact r
  · obtain ⟨-, r⟩ := report hf hw h2 (r := e.report) (by
      obtain ⟨n, hn⟩ : ∃ n, c.b 0 = n + 1 := ⟨c.b 0 - 1, by omega⟩
      rw [hn, Nat.add_sub_cancel] at he
      rw [hn, Position.selected, he]
      rfl)
    exact r

end Sys2Proof.Machine
end

section
/-! PROOFS. Counts without an owner and phase errors (R4, R6 to R8). -/
namespace Sys2Proof.Machine

variable {s t u v w : State} {P : List Part} {m : MeterNo} {side : Side}

/-! ## An unclaimed count -/

/-- The meter after an unclaimed count (R7 to R9). -/
def Meter.counted (x : Meter) (forward due : Bool) : Meter :=
  { x with
    lifetime := x.lifetime + BitVec.ofInt 48 (signOf forward), tally := x.tally + 1,
    unclaimed := x.unclaimed + BitVec.ofInt 32 (signOf forward), sinceReport := if due then 0 else x.sinceReport + signOf forward }

/-- UNCLAIMED FLOW is due at the count (R8). -/
def Meter.reportDue (x : Meter) (d : Int) : Bool :=
  decide (x.config.creepLimit ≤ (x.sinceReport + d).natAbs) || decide (x.config.creepLimit ≤ x.sinceReport.natAbs)

theorem State.modMeter_modMeter (s : State) (m : MeterNo) (f g : Meter → Meter) :
    (s.modMeter m f).modMeter m g = s.modMeter m fun x => g (f x) := by
  have e (x : MeterNo) (l : Vector Meter 8) (h : x.val < 8) : (l.set x.val (f l[x.val])).set x.val (g (l.set x.val (f l[x.val]))[x.val])
      = l.set x.val (g (f l[x.val])) := by
    rw [Vector.getElem_set_self, Vector.set_set]
  simp only [State.modMeter]
  congr 2
  exact e m s.miu.meters m.isLt

theorem State.countMeter_eq (f : Bool) (hc : s.miu.counting = true) (ho : (s.meter m).owner = none) :
    s.countMeter m f = if (s.meter m).reportDue (signOf f) then
        (s.modMeter m fun x => x.counted f true).raise .unclaimedFlow (m.val + 1)
      else s.modMeter m fun x => x.counted f false := by
  rw [State.countMeter_unclaimed f hc ho]
  unfold State.unclaimedCount
  simp only [State.modMeter_modMeter, State.modMeter_meter, Meter.reportDue, Bool.or_eq_true, decide_eq_true_eq]
  exact ite_congr (propext or_comm) (fun _ => rfl) fun _ => rfl

/-- What an unclaimed count does (R7, R8). -/
theorem State.countMeter_effect (f : Bool) (hc : s.miu.counting = true) (ho : (s.meter m).owner = none) :
    (s.countMeter m f).meter m = (s.meter m).counted f ((s.meter m).reportDue (signOf f))
      ∧ (∀ x, x ≠ m → (s.countMeter m f).meter x = s.meter x)
      ∧ ((s.meter m).reportDue (signOf f) = true → s.reports (s.countMeter m f) .unclaimedFlow (m.val + 1))
      ∧ ((s.meter m).reportDue (signOf f) = false → (s.countMeter m f).ntc = s.ntc)
      ∧ Acts s (s.countMeter m f) [.notices, .meters] ∧ (s.countMeter m f).miu.routes = s.miu.routes := by
  rw [State.countMeter_eq f hc ho]
  split
  · next h =>
    rw [h]
    refine ⟨by rw [State.raise_meter, State.modMeter_meter], fun x hx => ?_, fun _ => State.reports_raise _ rfl (by decide), (by cases ·),
      Acts.raise (Acts.modMeter (.refl s _) m _ (by decide)) _ _ (by decide), rfl⟩
    rw [State.raise_meter, State.modMeter_meter_eq, if_neg hx]
  · next h =>
    rw [Bool.not_eq_true] at h
    rw [h]
    refine ⟨State.modMeter_meter .., fun x hx => ?_, (by cases ·), fun _ => rfl, Acts.modMeter (.refl s _) m _ (by decide), rfl⟩
    rw [State.modMeter_meter_eq, if_neg hx]

/-- A count without an owner in its event, the meter's levels recognised on `v` (R7, R8). -/
theorem unclaimed_event (f : Bool) (ha : Acts s v [.meters, .free]) (hv : s.calm → v.calm) (hc : v.miu.counting = true)
    (ho : (v.meter m).owner = none) (hx : ∀ x, x ≠ m → v.meter x = s.meter x)
    (ht : t = publish s (v.countMeter m f).react) :
    (t.meter m).sinceReport = (if (v.meter m).reportDue (signOf f) then 0 else (v.meter m).sinceReport + signOf f)
      ∧ ((v.meter m).reportDue (signOf f) = true → s.reports t .unclaimedFlow (m.val + 1))
      ∧ (s.calm → (t.meter m).unclaimed = (v.meter m).unclaimed + BitVec.ofInt 32 (signOf f)
          ∧ ((v.meter m).reportDue (signOf f) = false → t.ntc = s.ntc) ∧ (∀ x, x ≠ m → t.meter x = s.meter x)
          ∧ s.changesOnly t [.meters, .notices, .displays, .free]
          ∧ (v.free = s.free → s.changesOnly t [.meters, .notices, .displays])) := by
  obtain ⟨e1, e2, e3, e4, e5, e6⟩ := State.countMeter_effect f hc ho
  have hn : v.ntc = s.ntc := ha.frame .notices (by decide)
  subst ht
  refine ⟨?_, fun hd => ?_, fun hs => ?_⟩
  · rw [publish_meter, (State.react_meter _ m).sinceReport, e1]
    rfl
  · refine State.reports.event ?_
    have := e3 hd
    unfold State.reports at this ⊢
    rwa [hn] at this
  · have hcalm := e5.calm_meters e6 (hv hs)
    have hr : Acts (v.countMeter m f) (v.countMeter m f).react [.displays] := Acts.react_calm (.refl _ _) hcalm (by decide)
    have hall : Acts s (v.countMeter m f).react [.meters, .notices, .displays, .free] :=
      (ha.mono (by decide)).trans ((e5.mono (by decide)).trans (hr.mono (by decide)))
    refine ⟨?_, fun hd => ?_, fun x hx' => ?_, hall.published, fun hfree p hp => ?_⟩
    · rw [publish_meter, hr.meter_eq (by decide), e1]
      rfl
    · rw [publish_ntc, hr.frame .notices (by decide), e4 hd, hn]
    · rw [publish_meter, hr.meter_eq (by decide), e2 x hx', hx x hx']
    · by_cases hpf : p = .free
      · subst hpf
        have h1 : (v.countMeter m f).react.free = (v.countMeter m f).free := hr.frame .free (by decide)
        have h2 : (v.countMeter m f).free = v.free := e5.frame .free (by decide)
        generalize (v.countMeter m f).react = w at h1
        exact Part.kept_same (Part.kept_trans (p := .free) (h1.trans (h2.trans hfree)) (publish_kept s w .free))
      · exact hall.published p (by simpa [hpf] using hp)

theorem signOf_natAbs (f : Bool) : (signOf f).natAbs = 1 ∧ signOf f ≠ 0 ∧ (signOf f = 1 ∨ signOf f = -1) := by cases f <;> decide

/-- An instant that counts, in the terms of the statements (R4, R5). -/
theorem State.countsBy.decode {a b : Option Bool} {d : Int} (h : s.countsBy m a b d) :
    ∃ f, d = signOf f ∧ (s.meter m).recognises a b = true ∧ (s.meter m).decode a b = .count f := by
  obtain ⟨ha, rfl, h⟩ := h
  have hr := recognises_left (w := true) (b := b) ha (by decide)
  rcases h with ⟨hd, rfl⟩ | ⟨hd, rfl, ⟨hb, rfl⟩ | ⟨hb, rfl⟩⟩
  · exact ⟨true, rfl, hr, Meter.decode_single_rise hd ha b⟩
  · exact ⟨true, rfl, hr, Meter.decode_rise hd ha hb⟩
  · exact ⟨false, rfl, hr, Meter.decode_rise hd ha hb⟩

/-- Phase A to high while phase B has no recognised level (R4; log 9). -/
theorem Meter.decode_noPhaseB {x : Meter} {b : Option Bool} (hq : x.config.decoding = .quadrature) (ha : x.phaseA = some false)
    (hb : x.phaseB = none) : x.decode (some true) b = .noPhaseB := by
  simp [Meter.decode, hq, ha, hb, edge]

theorem State.recognition_noPhaseB {a b : Option Bool} (h : (s.meter m).decode a b = .noPhaseB) : s.recognition m a b =
    match Config.countWithoutPhaseB s.free with
    | none => (s.recognised m a b).tickFree
    | some f => (s.recognised m a b).tickFree.countMeter m f := by
  simp only [State.recognition, h]
  rfl

theorem Meter.recognise_reportDue (x : Meter) (a b : Option Bool) (d : Int) : (x.recognise a b).reportDue d = x.reportDue d := rfl

theorem State.Recognises.tick {a b : Option Bool} {n : BitVec 48} {k : Nat} (h : s.Recognises u m a b n k) : s.Recognises u.tickFree m a b n k :=
  ⟨h.phaseA, h.phaseB, h.lifetime, h.tally, h.config, h.mainSupply, h.counting⟩

theorem State.Recognises.count {a b : Option Bool} (h : s.Recognises u m a b 0 0) (hc : s.miu.counting = true) (f : Bool) :
    s.Recognises (u.countMeter m f) m a b (BitVec.ofInt 48 (signOf f)) 1 := by
  have hl := State.countMeter_meter (s := u) (h.counting.trans hc) m f
  have ha : Acts u (u.countMeter m f) _ := Acts.countMeter (.refl u _) m f (List.Subset.refl _)
  exact ⟨hl.phaseA.trans h.phaseA, hl.phaseB.trans h.phaseB, by rw [hl.lifetime, h.lifetime]; congr 1; exact BitVec.add_zero _,
    by rw [hl.tally, h.tally], hl.config.trans h.config, (ha.frame .lines (by decide)).1.trans h.mainSupply,
    (State.countMeter_counting ..).trans h.counting⟩

/-- Settles O15. -/
theorem unclaimedCountReportsCreep : Obligations.UnclaimedCountReportsCreep := by
  refine ⟨fun s m a b d hm hc hd ho => ?_, fun s m b hm hc hq ha hb => ?_⟩
  · obtain ⟨f, rfl, hr, hdec⟩ := hd.decode
    have hx := exec_recognition hm hr
    rw [State.recognition_count hdec] at hx
    obtain ⟨t, ht, hrec, -⟩ := exec_recognition_count hm hc hr hdec
    obtain ⟨k1, k2, k3⟩ := unclaimed_event (s := s) (v := s.recognised m a b) f ((Acts.recognised s m a b).mono (by decide))
      (fun h => State.recognised_calm h m a b) hc (by rw [State.recognised_meter]; exact ho)
      (fun x hx => State.recognised_meter_ne s a b hx) (Host.Outcome.next.inj (ht.symm.trans hx))
    rw [State.recognised_meter] at k1 k2 k3
    refine ⟨t, ht, hrec.lifetime, hrec.tally, k1, k2, fun h => ?_⟩
    obtain ⟨j1, j2, j3, -, j5⟩ := k3 h
    exact ⟨j1, j2, j3, j5 rfl⟩
  · have hdec := Meter.decode_noPhaseB (b := b) hq ha hb
    refine ⟨_, exec_recognition hm (recognises_left ha (by decide)), ?_⟩
    rw [State.recognition_noPhaseB hdec]
    have hv := Acts.tickFree (Acts.recognised s m (some true) b |>.mono (Q := [.meters, .free]) (by decide)) (by decide)
    have hcalm (h : s.calm) : (s.recognised m (some true) b).tickFree.calm :=
      (Acts.tickFree (.refl (s.recognised m (some true) b) [.free]) (by decide)).calm (State.recognised_calm h m _ b) (by decide) (by decide)
        (by decide) (fun _ => rfl) id
    have hrec := (State.recognised_recognises s m (some true) b).tick
    have hbnone : b.or (s.meter m).phaseB = b := by rw [hb]; cases b <;> rfl
    have hmeter : (s.recognised m (some true) b).tickFree.meter m = (s.meter m).recognise (some true) b := State.recognised_meter ..
    have hother (x : MeterNo) (hx : x ≠ m) : (s.recognised m (some true) b).tickFree.meter x = s.meter x :=
      State.recognised_meter_ne s (some true) b hx
    generalize (s.recognised m (some true) b).tickFree = v at hv hcalm hrec hmeter hother
    cases Config.countWithoutPhaseB s.free with
    | none =>
      dsimp only
      refine ⟨hrec.event.phaseA, hrec.event.phaseB.trans hbnone, 0, .inl rfl, hrec.event.lifetime, hrec.event.tally,
        fun ho => ⟨?_, (by cases ·), fun h => ?_⟩⟩
      · rw [publish_meter, (State.react_meter v m).sinceReport, hmeter]
        exact (Int.add_zero _).symm
      · have hr : Acts v v.react [.displays] := Acts.react_calm (.refl _ _) (hcalm h) (by decide)
        have hall : Acts s v.react [.meters, .notices, .displays, .free] := (hv.mono (by decide)).trans (hr.mono (by decide))
        refine ⟨?_, fun _ => ?_, fun x hx => ?_, hall.published⟩
        · rw [publish_meter, hr.meter_eq (by decide), hmeter]
          exact (BitVec.add_zero _).symm
        · rw [publish_ntc, hr.frame .notices (by decide), hv.frame .notices (by decide)]
        · rw [publish_meter, hr.meter_eq (by decide), hother x hx]
    | some f =>
      dsimp only
      have hcount := (hrec.count hc f).event
      have hev := fun ho => unclaimed_event (t := publish s (v.countMeter m f).react) f hv hcalm (hrec.counting.trans hc)
        (by rw [hmeter]; exact ho) hother rfl
      obtain ⟨e1, e2, e3⟩ := signOf_natAbs f
      generalize publish s (v.countMeter m f).react = t at hcount hev
      refine ⟨hcount.phaseA, hcount.phaseB.trans hbnone, signOf f, .inr e3, hcount.lifetime, by rw [e1]; exact hcount.tally, fun ho => ?_⟩
      obtain ⟨k1, k2, k3⟩ := hev ho
      rw [hmeter] at k1 k2 k3
      simp only [decide_eq_true e2, Bool.true_and]
      refine ⟨k1, k2, fun h => ?_⟩
      obtain ⟨j1, j2, j3, j4, -⟩ := k3 h
      exact ⟨j1, j2, j3, j4⟩

end Sys2Proof.Machine
end

section
/-! PROOFS. A phase error by the claim and the fault state (R3, R4, R6, R56, R62). -/
namespace Sys2Proof.Machine

variable {s t u v w : State} {P : List Part} {m : MeterNo} {side : Side}

theorem State.reports_source {x : Cause} {d : Nat} (h : v.ntc.sources[x.source] = s.ntc.sources[x.source]) (hr : v.reports t x d) :
    s.reports t x d := by
  unfold State.reports at *
  rwa [h] at hr

/-- The event of a phase error. -/
theorem exec_phaseError {a b : Bool} (hm : s.mainSupply = true) (hq : (s.meter m).config.decoding = .quadrature)
    (ha : (s.meter m).phaseA = some a) (hb : (s.meter m).phaseB = some b) :
    exec (.recognitionInstant m (some !a) (some !b)) s
      = .next (publish s ((s.recognised m (some !a) (some !b)).phaseError m).react) :=
  (exec_recognition_phaseError hm (recognises_left ha (by cases a <;> decide)) (Meter.decode_both hq ha hb)).1

/-- A phase error's event when nothing but the meter changes. -/
theorem phaseError_meter_event (hc : s.calm) (ha : Acts s v [.meters, .notices]) (hr : v.miu.routes = s.miu.routes) :
    (publish s v.react).meter m = v.meter m ∧ s.changesOnly (publish s v.react) [.meters, .notices, .displays]
      ∧ (v.ntc = s.ntc → s.changesOnly (publish s v.react) [.meters, .displays]) := by
  have hcalm : v.calm := Acts.calm_meters (ha.mono (by decide)) hr hc
  have hd : Acts v v.react [.displays] := Acts.react_calm (.refl _ _) hcalm (by decide)
  have hall : Acts s v.react [.meters, .notices, .displays] := (ha.mono (by decide)).trans (hd.mono (by decide))
  refine ⟨by rw [publish_meter, hd.meter_eq (by decide)], hall.published, fun hn p hp => ?_⟩
  by_cases e : p = .notices
  · subst e
    show (publish s v.react).ntc = s.ntc
    rw [publish_ntc, hd.frame .notices (by decide), hn]
  · exact hall.published p (by simpa [e] using hp)

/-- The state in which a meter that has come to its limit is reported. -/
def State.meterFailed (s : State) (m : MeterNo) : State :=
  (s.modMeter m fun x => { x with phaseErrors := x.phaseErrors + 1, faulted := true }).raise .meterFault (m.val + 1)

theorem State.meterFailed_acts (s : State) (m : MeterNo) : Acts s (s.meterFailed m) [.meters, .notices] :=
  Acts.raise (Acts.modMeter (.refl s _) m _ (by decide)) _ _ (by decide)

theorem State.meterFailed_faulted (s : State) (m : MeterNo) : ((s.meterFailed m).meter m).faulted = true := by
  rw [State.meterFailed, State.raise_meter, State.modMeter_meter]

theorem State.meterFailed_reports (s : State) (m : MeterNo) : s.reports (s.meterFailed m) .meterFault (m.val + 1) :=
  State.reports_raise _ rfl (by decide)

/-! A phase error by claim and fault state (R6). -/

theorem State.phaseError_faulted (hf : (s.meter m).faulted = true) : s.phaseError m = s := by
  unfold State.phaseError
  dsimp only
  rw [if_pos hf]

theorem State.phaseError_unowned (hf : (s.meter m).faulted = false) (ho : (s.meter m).owner = none) :
    s.phaseError m = s.raise .phaseError (m.val + 1) := by
  simp [State.phaseError, hf, ho, meterDetail]

theorem State.phaseError_below {role : Role} (hf : (s.meter m).faulted = false) (ho : (s.meter m).owner = some (side, role))
    (hl : (s.meter m).phaseErrors + 1 < (s.meter m).config.phaseErrorLimit) :
    s.phaseError m = s.modMeter m fun x => { x with phaseErrors := x.phaseErrors + 1 } := by
  simp [State.phaseError, hf, ho, Nat.not_le.mpr hl]

theorem State.phaseError_limit {role : Role} (hf : (s.meter m).faulted = false) (ho : (s.meter m).owner = some (side, role))
    (hl : (s.meter m).config.phaseErrorLimit ≤ (s.meter m).phaseErrors + 1) :
    s.phaseError m = (s.meterFailed m).meterFaultReport side m := by
  simp [State.phaseError, hf, ho, hl, State.modMeter_modMeter, State.meterFailed, meterDetail]

/-- At the limit the meter is FAULTED and reported, whatever becomes of its claimant (R6). -/
theorem meterFailed_event (hn : v.ntc = s.ntc) :
    ((publish s ((v.meterFailed m).meterFaultReport side m).react).meter m).faulted = true
      ∧ s.reports (publish s ((v.meterFailed m).meterFaultReport side m).react) .meterFault (m.val + 1) := by
  have hr := (Acts.meterFaultReport (.refl (v.meterFailed m) _) side m (List.Subset.refl _)).notices.reports (v.meterFailed_reports m)
  refine ⟨?_, State.reports.event (State.reports_source (by rw [hn]) hr)⟩
  rw [publish_meter, (State.react_meter _ m).faulted, (State.meterFaultReport_meter ..).faulted, State.meterFailed_faulted]

theorem State.meterFaultReport_dispensing (hd : (s.pos side).st.isDispensing = true) (hp : s.ssu.site ≠ .powerDown) :
    s.meterFaultReport side m = s.endSale side .meter := by
  have hst : (s.pos side).st.isStarting = false := by cases h : (s.pos side).st <;> simp_all [PosState.isDispensing, PosState.isStarting]
  simp [State.meterFaultReport, State.powerDown, hp, hst, hd]

theorem State.meterFaultReport_starting (hd : (s.pos side).st.isStarting = true) (hp : s.ssu.site ≠ .powerDown) :
    s.meterFaultReport side m = s.fallBack side .meterFault (m.val + 1) := by
  simp [State.meterFaultReport, State.powerDown, hp, hd, meterDetail]

theorem State.meterFaultReport_stays (h : (s.pos side).st = .ending ∨ s.ssu.site = .powerDown) : s.meterFaultReport side m = s := by
  rcases h with h | h
  · simp [State.meterFaultReport, h, PosState.isStarting, PosState.isDispensing]
  · simp [State.meterFaultReport, State.powerDown, h]

/-- A fall-back seen from an earlier state of the same site state and position notices. -/
theorem State.fallsBack_congr {p : Position} {a : Authorization} {r : StartResult} {d : Nat} (hs : v.ssu = s.ssu)
    (hn : ∀ c : PosCause, v.ntc.sources[(Cause.position side c).source] = s.ntc.sources[(Cause.position side c).source])
    (h : v.fallsBack t side p a r d) : s.fallsBack t side p a r d := by
  obtain ⟨h0, h1, h2⟩ := h
  rw [hs] at h1 h2
  exact ⟨h0, fun hc => ⟨(h1 hc).1, State.reports_source (hn _) (h1 hc).2⟩, fun hc => ⟨(h2 hc).1, State.reports_source (hn _) (h2 hc).2⟩⟩

/-- A dispensing sale that ends in an event in which nothing else waits. -/
theorem endSale_event {x : Sale} {r : StopReason} (hc : v.calm) (hx : (v.pos side).sale = some x) :
    (publish s (v.endSale side r).react).pos side = (v.pos side).endingWith x r
      ∧ Acts v (v.endSale side r).react [.positions, .displays] := by
  have ha := v.endSale_acts side r
  have hp := State.endSale_endingWith hx r
  have hcalm : (v.endSale side r).calm := by
    refine calm_carriesOn (a := v.pru.accrued) (ha.mono (by decide)) (by rw [show (v.endSale side r).miu = v.miu from ha.frame .meters (by decide)])
      (by rw [show (v.endSale side r).pru = v.pru from ha.frame .prices (by decide)]) (fun y => ?_) hc
    rcases eq_or_other side y with e | e <;> rw [e]
    · rw [hp]; exact ⟨.inr ⟨rfl, by simp [Position.endingWith, Position.enter]⟩, by rw [hx]; rfl⟩
    · rw [State.endSale_pos_ne _ _ (other_ne side)]; exact Position.carriesOn_refl _
  have hr : Acts (v.endSale side r) (v.endSale side r).react [.displays] := Acts.react_calm (.refl _ _) hcalm (by decide)
  exact ⟨by rw [publish_pos, hr.pos_eq (by decide), hp], (ha.mono (by decide)).trans (hr.mono (by decide))⟩

theorem Meter.decode_firstLevel {x : Meter} {a b : Option Bool} (hq : x.config.decoding = .quadrature)
    (h : x.phaseA = none ∧ a.isSome = true ∨ x.phaseB = none ∧ b.isSome = true ∧ ¬ (x.phaseA = some false ∧ a = some true)) :
    x.decode a b = .nothing := by
  rcases h with ⟨h, -⟩ | ⟨h, -, hn⟩
  · exact Meter.decode_noEdge hq (by rw [h]; rfl) b
  · cases he : edge x.phaseA a with
    | false => exact Meter.decode_noEdge hq he b
    | true =>
      obtain rfl : a = some false := by
        cases a with
        | none => rw [edge_none_right] at he; cases he
        | some a =>
          cases a with
          | false => rfl
          | true => exact absurd ⟨by revert he; cases x.phaseA with
            | none => simp [edge]
            | some v => cases v <;> simp [edge], rfl⟩ hn
      exact Meter.decode_fall hq b (by rw [h]; rfl)

/-- Settles O17. -/
theorem phaseErrorActsByClaimAndFault : Obligations.PhaseErrorActsByClaimAndFault := by
  refine ⟨fun s m a b hm hc hq ha hb => ⟨_, exec_phaseError hm hq ha hb, ?_⟩, fun s m a b hm hc hq h => ?_⟩
  · have hrec := Acts.recognised s m (some !a) (some !b)
    have hv := State.recognised_calm hc m (some !a) (some !b)
    have hmeter : (s.recognised m (some !a) (some !b)).meter m = { s.meter m with phaseA := some !a, phaseB := some !b } := State.recognised_meter ..
    have hroutes : (s.recognised m (some !a) (some !b)).miu.routes = s.miu.routes := rfl
    generalize s.recognised m (some !a) (some !b) = v at hrec hv hmeter hroutes ⊢
    have hn : v.ntc = s.ntc := hrec.frame .notices (by decide)
    have hs : v.ssu = s.ssu := hrec.frame .site (by decide)
    have hpos := hrec.pos_eq (by decide)
    have hvf : (v.meter m).faulted = (s.meter m).faulted := by rw [hmeter]
    have hvo : (v.meter m).owner = (s.meter m).owner := by rw [hmeter]
    have hvp : (v.meter m).phaseErrors = (s.meter m).phaseErrors := by rw [hmeter]
    have hvl : (v.meter m).config = (s.meter m).config := by rw [hmeter]
    refine ⟨fun hf => ?_, fun hf ho => ?_, fun side role hf ho => ⟨fun hlim => ?_, fun hlim hd hp x hx => ?_, fun hlim hd hp x f hx hf' => ?_,
      fun hlim hd => ?_⟩⟩
    · rw [State.phaseError_faulted (hvf.trans hf)]
      obtain ⟨e1, -, e3⟩ := phaseError_meter_event hc (hrec.mono (by decide)) hroutes
      exact ⟨e1.trans hmeter, e3 hn⟩
    · rw [State.phaseError_unowned (hvf.trans hf) (hvo.trans ho)]
      obtain ⟨e1, e2, -⟩ := phaseError_meter_event hc (v := v.raise .phaseError (m.val + 1)) (Acts.raise (hrec.mono (by decide)) _ _ (by decide)) hroutes
      exact ⟨e1.trans hmeter, State.reports.event (State.reports_raise _ (by rw [hn]) (by decide)), e2⟩
    · rw [State.phaseError_below (hvf.trans hf) (hvo.trans ho) (by rw [hvp, hvl]; exact hlim)]
      obtain ⟨e1, -, e3⟩ := phaseError_meter_event hc (v := v.modMeter m fun x => { x with phaseErrors := x.phaseErrors + 1 })
        (Acts.modMeter (hrec.mono (by decide)) _ _ (by decide)) hroutes
      exact ⟨e1.trans (by rw [State.modMeter_meter, hmeter]), e3 hn⟩
    all_goals
      rw [State.phaseError_limit (hvf.trans hf) (hvo.trans ho) (by rw [hvp, hvl]; exact hlim)]
      obtain ⟨e1, e2⟩ := meterFailed_event (m := m) (side := side) hn
      have hfail := v.meterFailed_acts m
      have hcalm : (v.meterFailed m).calm := Acts.calm_meters (hfail.mono (by decide)) rfl hv
      have hssu : (v.meterFailed m).ssu = s.ssu := (hfail.frame .site (by decide)).trans hs
      have hall : Acts s (v.meterFailed m) [.meters, .positions, .notices, .displays] := (hrec.mono (by decide)).trans (hfail.mono (by decide))
    case refine_4 =>
      have hpw : (v.meterFailed m).pos side = s.pos side := (hfail.pos_eq (by decide) side).trans (hpos side)
      rw [State.meterFaultReport_dispensing (by rw [hpw]; exact hd) (by rw [hssu]; exact hp)] at e1 e2 ⊢
      obtain ⟨k1, k2⟩ := endSale_event (side := side) (r := .meter) hcalm (by rw [hpw]; exact hx)
      refine ⟨e1, e2, ?_, (hall.trans (k2.mono (by decide))).published⟩
      rw [← hpw]
      exact k1
    case refine_5 =>
      have hpw : (v.meterFailed m).pos side = s.pos side := (hfail.pos_eq (by decide) side).trans (hpos side)
      rw [State.meterFaultReport_starting (by rw [hpw]; exact hd) (by rw [hssu]; exact hp)] at e1 e2 ⊢
      have hfall := State.fallBack_fallsBack (s := v.meterFailed m) (side := side) (a := f)
        (by rw [hpw, hx]; exact hf') .meterFault (m.val + 1)
      rw [hpw] at hfall
      refine ⟨e1, e2, State.fallsBack.event (State.fallsBack_congr hssu (fun c => ?_) hfall) (State.fallBack_not_gate _ side .meterFault (m.val + 1))⟩
      rw [State.meterFailed, Ntc.raise_source, if_neg (by cases side <;> cases c <;> decide)]
      exact congrArg (fun n : Ntc => n.sources[_]) hn
    case refine_6 =>
      have hpw : (v.meterFailed m).pos side = s.pos side := (hfail.pos_eq (by decide) side).trans (hpos side)
      rw [State.meterFaultReport_stays (by rw [hpw, hssu]; exact hd)] at e1 e2 ⊢
      have hr : Acts (v.meterFailed m) (v.meterFailed m).react [.displays] := Acts.react_calm (.refl _ _) hcalm (by decide)
      refine ⟨e1, e2, ?_, ?_⟩
      · rw [publish_pos, hr.pos_eq (by decide), hpw]
      · exact ((hrec.mono (by decide)).trans ((hfail.mono (by decide)).trans (hr.mono (by decide)))).published
  · have hn := Meter.decode_firstLevel hq h
    obtain ⟨t, ht, -⟩ := exec_recognition_nothing hm hn
    exact ⟨t, ht, recognition_nothing_frame hc hn ht hm⟩

end Sys2Proof.Machine
end

section
/-! PROOFS. A nozzle lift by the position's state (R49, R50). -/
namespace Sys2Proof.Machine

variable {s t u v w : State} {P : List Part} {side : Side} {h : HoseNo}

/-! ## A sticky flag -/

/-- The flag that a cause reports (R50). -/
def Position.flagOf (p : Position) : PosCause → Bool
  | .wrongHose => p.wrongHose
  | .multiLift => p.multiLift
  | _ => p.liftWhileClosed

/-- A position with the flag set. -/
def Position.flagged (p : Position) : PosCause → Position
  | .wrongHose => { p with wrongHose := true }
  | .multiLift => { p with multiLift := true }
  | _ => { p with liftWhileClosed := true }

theorem State.setFlag_acts (s : State) (side : Side) (c : PosCause) (h : HoseNo) : Acts s (s.setFlag side c h) [.notices, .positions] :=
  Acts.setFlag (.refl s _) side c h (List.Subset.refl _)

theorem State.setFlag_eq (s : State) (side : Side) (c : PosCause) (h : HoseNo) : s.setFlag side c h =
    if (s.pos side).flagOf c then s else (s.modPos side fun p => p.flagged c).raise (.position side c) (h.val + 1) := by
  cases c <;> rfl

theorem Position.flagged_of_flagOf {p : Position} {c : PosCause} (h : p.flagOf c = true) : p.flagged c = p := by
  cases c <;> cases p <;> simp_all [Position.flagOf, Position.flagged]

theorem State.setFlag_flagged (s : State) (side : Side) (c : PosCause) (h : HoseNo) :
    (s.setFlag side c h).pos side = (s.pos side).flagged c := by
  rw [State.setFlag_eq]
  split
  · next hf => rw [Position.flagged_of_flagOf hf]
  · rw [State.raise_pos, State.modPos_pos]

/-- A flag that was clear is raised with its notice (R50). -/
theorem State.setFlag_reports {c : PosCause} (hf : (s.pos side).flagOf c = false)
    (hn : s.ntc.sources[(Cause.position side c).source] = u.ntc.sources[(Cause.position side c).source]) :
    u.reports (s.setFlag side c h) (.position side c) (h.val + 1) := by
  rw [State.setFlag_eq, if_neg (by simp [hf])]
  exact State.reports_raise _ (by rw [State.modPos_ntc, hn]) (Cause.bit_lt _)

theorem Position.carriesOn_flagged (p : Position) (c : PosCause) : p.carriesOn (p.flagged c) := by
  cases c <;> exact ⟨.inl rfl, rfl⟩

/-- What positions carry on goes on waiting, notices raised besides. -/
theorem Acts.calm_positions (ha : Acts v w [.notices, .positions]) (hc : v.calm) (hp : ∀ x, (v.pos x).carriesOn (w.pos x)) : w.calm := by
  have hw : Acts v { w with ntc := v.ntc } [.positions] := by
    refine ⟨fun p hn => ?_, ha.memory, ha.mirrors, .refl _⟩
    by_cases e : p = .notices
    · subst e; rfl
    · have := ha.frame p (by simp_all)
      cases p <;> first | exact absurd rfl e | exact this
  exact calm_carriesOn (t := { w with ntc := v.ntc }) (a := v.pru.accrued) (hw.mono (by decide))
    (congrArg Miu.routes (ha.frame .meters (by decide))) (ha.frame .prices (by decide)) hp hc

/-- The event of a lift, the position and the notices apart. -/
theorem lift_event (hc : s.calm) (ha : Acts (s.setNozzle side h true) w [.notices, .positions]) (ho : w.pos (other side) = s.pos (other side))
    (hp : (s.pos side).carriesOn (w.pos side)) :
    (publish s w.react).pos side = w.pos side ∧ (publish s w.react).pos (other side) = s.pos (other side)
      ∧ s.changesOnly (publish s w.react) [.inputs, .positions, .notices, .displays]
      ∧ (publish s w.react).lifted side = (s.setNozzle side h true).lifted side := by
  have hcalm : w.calm := ha.calm_positions (State.setNozzle_calm hc side h true) fun x => by
    rcases eq_or_other side x with e | e <;> rw [e]
    · exact hp
    · rw [ho]; exact Position.carriesOn_refl _
  have hr : Acts w w.react [.displays] := Acts.react_calm (.refl _ _) hcalm (by decide)
  have hn := s.setNozzle_acts side h true
  refine ⟨by rw [publish_pos, hr.pos_eq (by decide)], by rw [publish_pos, hr.pos_eq (by decide), ho],
    Acts.published ((hn.mono (by decide)).trans ((ha.mono (by decide)).trans (hr.mono (by decide)))), ?_⟩
  refine State.lifted_congr ?_ ?_ side
  · rw [publish_miu, hr.frame .meters (by decide), ha.frame .meters (by decide)]
  · rw [publish_iwu, hr.frame .inputs (by decide), ha.frame .inputs (by decide)]

/-- The event of an unfitted hose's lift. -/
theorem exec_lift_unfitted (hm : s.mainSupply = true) (hn : (s.iwu.nozzles.get side)[h] ≠ some true)
    (hf : (s.route side h).fitted = false) :
    exec (.nozzleLift side h) s = .next (publish s (s.setNozzle side h true).react) := by
  have hf' : ((s.setNozzle side h true).route side h).fitted = false := hf
  show execNozzleLift side h s = _
  rw [execNozzleLift, eventWhen_on hm (bne_iff_ne.mpr hn), if_neg (by rw [hf']; decide)]

/-- A lift that does no more than set its level. -/
theorem lift_level_event (hc : s.calm) :
    (∀ x, (publish s (s.setNozzle side h true).react).pos x = s.pos x)
      ∧ s.changesOnly (publish s (s.setNozzle side h true).react) [.inputs, .displays] := by
  have hr : Acts (s.setNozzle side h true) (s.setNozzle side h true).react [.displays] :=
    Acts.react_calm (.refl _ _) (State.setNozzle_calm hc side h true) (by decide)
  refine ⟨fun x => ?_, Acts.published (((s.setNozzle_acts side h true).mono (by decide)).trans (hr.mono (by decide)))⟩
  rw [publish_pos, hr.pos_eq (by decide), (s.setNozzle_acts side h true).pos_eq (by decide)]

/-! ## The lift by the position's state -/

theorem State.lift_closed (hs : (s.pos side).st.isClosed = true) : s.lift side h = s.setFlag side .liftWhileClosed h := by
  cases e : (s.pos side).st <;> simp_all [PosState.isClosed, State.lift]

theorem State.lift_idle (hs : (s.pos side).st = .idle) : s.lift side h =
    let u := (s.modPos side fun p => p.enter .calling).raisePos side .calling (h.val + 1)
    if 1 < (u.lifted side).length then u.setFlag side .multiLift h else u := by
  unfold State.lift
  rw [hs]
  rfl

theorem State.lift_multi (hc : (s.pos side).st.isClosed = false) (hi : (s.pos side).st ≠ .idle) (ha : (s.pos side).st ≠ .authorized) :
    s.lift side h = s.setFlag side .multiLift h := by
  cases e : (s.pos side).st <;> simp_all [PosState.isClosed, State.lift]

/-- In IDLE the lift makes the position CALLING, with MULTI LIFT where it leaves more than one hose up (R49, R50). -/
theorem State.lift_idle_effect (hs : (s.pos side).st = .idle) :
    Acts s (s.lift side h) [.notices, .positions] ∧ (s.lift side h).pos (other side) = s.pos (other side)
      ∧ (s.lift side h).pos side = { (s.pos side).enter .calling with
          multiLift := (s.pos side).multiLift || decide (1 < (s.lifted side).length) }
      ∧ ∀ r : State, r.ntc = s.ntc → r.reports (s.lift side h) (.position side .calling) (h.val + 1) := by
  rw [State.lift_idle hs]
  dsimp only
  generalize hu : (s.modPos side fun p => p.enter .calling).raisePos side .calling (h.val + 1) = u
  have ha : Acts s u [.notices, .positions] := hu ▸ Acts.raise (Acts.modPos (.refl s _) side _ (by decide)) _ _ (by decide)
  have hp : u.pos side = (s.pos side).enter .calling := by rw [← hu, State.raisePos_pos, State.modPos_pos]
  have ho : u.pos (other side) = s.pos (other side) := by rw [← hu, State.raisePos_pos, State.modPos_pos_ne _ _ (other_ne side)]
  have hl : u.lifted side = s.lifted side := State.lifted_congr (ha.frame .meters (by decide)) (ha.frame .inputs (by decide)) side
  have hr (r : State) (hn : r.ntc = s.ntc) : r.reports u (.position side .calling) (h.val + 1) := by
    rw [← hu]
    exact State.reports_raise _ (by rw [State.modPos_ntc, hn]) (Cause.bit_lt _)
  rw [hl]
  split
  · next hlt =>
    refine ⟨ha.trans (u.setFlag_acts side .multiLift h), ?_, ?_, fun r hn => (u.setFlag_acts side .multiLift h).notices.reports (hr r hn)⟩
    · rw [State.setFlag_pos_ne _ _ _ (other_ne side), ho]
    · rw [State.setFlag_flagged, hp]
      simp [Position.flagged, hlt]
  · next hlt =>
    refine ⟨ha, ho, ?_, hr⟩
    rw [hp]
    simp [hlt, Position.enter]

/-- In AUTHORIZED a lift that fires no start sets WRONG HOSE for a hose not allowed and MULTI LIFT with another hose up (R50). -/
theorem State.lift_authorized {a : Authorization} (hs : (s.pos side).st = .authorized) (ha : (s.pos side).auth = some a)
    (hn : ∀ g, s.lifted side = [g] → allows a.allowed g = false ∨ g ≠ h ∨ s.iwu.emergency = some true) :
    s.lift side h =
      let u := if allows a.allowed h then s else s.setFlag side .wrongHose h
      if 1 < (s.lifted side).length then u.setFlag side .multiLift h else u := by
  unfold State.lift
  rw [hs]
  dsimp only
  unfold State.trigger
  rw [ha]
  dsimp only
  have hl (u : State) (hu : u = if allows a.allowed h then s else s.setFlag side .wrongHose h) : u.lifted side = s.lifted side := by
    have hua : Acts s u [.notices, .positions] := by
      rw [hu]
      split
      · exact .refl s _
      · exact s.setFlag_acts side _ h
    exact State.lifted_congr (hua.frame .meters (by decide)) (hua.frame .inputs (by decide)) side
  rw [hl _ rfl]
  rcases hg : s.lifted side with - | ⟨g, - | ⟨k, l⟩⟩
  · rfl
  · rw [if_neg]
    · rfl
    · rcases hn g hg with e | e | e <;> simp [e]
  · rfl

/-- The two flags of a lift that fires no start. -/
theorem State.liftFlags_effect (allowed : Bool) (many : Prop) [Decidable many] :
    let u := if allowed then s else s.setFlag side .wrongHose h
    let w := if many then u.setFlag side .multiLift h else u
    Acts s w [.notices, .positions] ∧ w.pos (other side) = s.pos (other side)
      ∧ w.pos side = { s.pos side with
          wrongHose := (s.pos side).wrongHose || !allowed, multiLift := (s.pos side).multiLift || decide many }
      ∧ (allowed = false → (s.pos side).wrongHose = false → ∀ r : State, r.ntc = s.ntc → r.reports w (.position side .wrongHose) (h.val + 1))
      ∧ (many → (s.pos side).multiLift = false → ∀ r : State, r.ntc = s.ntc → r.reports w (.position side .multiLift) (h.val + 1)) := by
  intro u w
  have hu : Acts s u [.notices, .positions] ∧ u.pos (other side) = s.pos (other side)
      ∧ u.pos side = { s.pos side with wrongHose := (s.pos side).wrongHose || !allowed }
      ∧ (allowed = false → (s.pos side).wrongHose = false → ∀ r : State, r.ntc = s.ntc → r.reports u (.position side .wrongHose) (h.val + 1))
      ∧ (u.ntc = s.ntc ∨ ∀ r : State, r.ntc = s.ntc → r.reports u (.position side .wrongHose) (h.val + 1)) := by
    cases allowed with
    | true => exact ⟨.refl s _, rfl, by simp [u], (by cases ·), .inl rfl⟩
    | false =>
      have eu : u = s.setFlag side .wrongHose h := rfl
      rw [eu]
      have hr (hf : (s.pos side).wrongHose = false) (r : State) (hn : r.ntc = s.ntc) :
          r.reports (s.setFlag side .wrongHose h) (.position side .wrongHose) (h.val + 1) :=
        State.setFlag_reports (c := .wrongHose) hf (by rw [hn])
      refine ⟨s.setFlag_acts side _ h, State.setFlag_pos_ne _ _ _ (other_ne side), by simp [State.setFlag_flagged, Position.flagged],
        fun _ => hr, ?_⟩
      cases hf : (s.pos side).wrongHose with
      | true =>
        refine .inl ?_
        rw [State.setFlag_eq, if_pos (show (s.pos side).flagOf .wrongHose = true from hf)]
      | false => exact .inr (hr hf)
  clear_value u
  obtain ⟨h1, h2, h3, h4, h5⟩ := hu
  by_cases hm : many
  · have ew : w = u.setFlag side .multiLift h := if_pos hm
    rw [ew]
    have ha := u.setFlag_acts side .multiLift h
    refine ⟨h1.trans ha, by rw [State.setFlag_pos_ne _ _ _ (other_ne side), h2], ?_, fun hf hw r hn => ha.notices.reports (h4 hf hw r hn),
      fun _ hw r hn => ?_⟩
    · rw [State.setFlag_flagged, h3]
      simp [Position.flagged, hm]
    · have hf : (u.pos side).flagOf .multiLift = false := by rw [h3]; exact hw
      rcases h5 with k | k
      · exact State.setFlag_reports hf (by rw [k, hn])
      · obtain ⟨-, hfirst⟩ := ha.notices.reports (k r hn)
        exact ⟨(State.setFlag_reports (u := u) hf rfl).1, by cases side <;> exact hfirst⟩
  · have ew : w = u := if_neg hm
    rw [ew]
    exact ⟨h1, h2, by rw [h3]; simp [hm], h4, fun k => absurd k hm⟩

theorem State.lifted_after (s : State) (side : Side) (h k : HoseNo) (hf : (s.route side h).fitted = true) :
    k ∈ (s.setNozzle side h true).lifted side ↔ k = h ∨ s.isLifted side k = true := by
  rw [State.mem_lifted]
  by_cases e : k = h
  · subst e
    simp [State.isLifted_setNozzle_same, hf]
  · simp [State.isLifted_setNozzle_ne _ _ _ e, e]

theorem State.lifted_nodup (s : State) (side : Side) : (s.lifted side).Nodup := (List.nodup_finRange 4).filter _

/-- More than one hose is up after the lift where another was up before. -/
theorem State.lifted_after_many (hf : (s.route side h).fitted = true) :
    1 < ((s.setNozzle side h true).lifted side).length ↔ ∃ k, k ≠ h ∧ s.isLifted side k = true := by
  have hm := s.lifted_after side h (hf := hf)
  have hd := (s.setNozzle side h true).lifted_nodup side
  generalize (s.setNozzle side h true).lifted side = l at hm hd
  rcases l with - | ⟨g, - | ⟨k, l⟩⟩
  · exact absurd ((hm h).mpr (.inl rfl)) (List.not_mem_nil)
  · have hgh : h = g := List.mem_singleton.mp ((hm h).mpr (.inl rfl))
    refine iff_of_false (by simp) ?_
    rintro ⟨k, hk, hl⟩
    exact hk ((List.mem_singleton.mp ((hm k).mpr (.inr hl))).trans hgh.symm)
  · refine iff_of_true (by simp) ?_
    by_cases e : g = h
    · refine ⟨k, fun ek => ?_, ((hm k).mp (by simp)).resolve_left fun ek => ?_⟩ <;>
      · subst e ek
        simp at hd
    · exact ⟨g, e, ((hm g).mp (by simp)).resolve_left e⟩

/-- Settles O24. -/
theorem nozzleLiftActsByState : Obligations.NozzleLiftActsByState := by
  refine ⟨fun s side h hm hc hn ha => ?_, fun s side h hm hc hst hn hf => ?_, fun s side h a hm hc hst ha hn hf ht => ?_⟩
  · by_cases hf : (s.route side h).fitted = true
    · obtain ⟨hl1, hl2⟩ := publish_react_nozzles (w := (s.setNozzle side h true).lift side h) (side := side) (h := h) (b := true)
        (Acts.lift (.refl _ _) side h (List.Subset.refl _))
      have hpos : (s.setNozzle side h true).pos side = s.pos side := rfl
      refine ⟨_, exec_lift_fitted hm hn hf, hl1, hl2, ?_⟩
      have flagged {c : PosCause} (e : (s.setNozzle side h true).lift side h = (s.setNozzle side h true).setFlag side c h) :=
        lift_event (h := h) hc (e ▸ State.setFlag_acts _ side c h) (by rw [e]; exact State.setFlag_pos_ne _ _ _ (other_ne side))
          (by rw [e, State.setFlag_flagged]; exact Position.carriesOn_flagged _ c)
      have reported {c : PosCause} (e : (s.setNozzle side h true).lift side h = (s.setNozzle side h true).setFlag side c h)
          (hfl : (s.pos side).flagOf c = false) := State.reports.event (e ▸ State.setFlag_reports (s := s.setNozzle side h true) hfl (u := s) rfl)
      have notUnfitted : ¬ (s.route side h).fitted = false := by rw [hf]; decide
      by_cases h1 : (s.pos side).st.isClosed = true
      · have e := State.lift_closed (s := s.setNozzle side h true) (h := h) h1
        obtain ⟨k1, k2, k3, -⟩ := flagged e
        rw [e, State.setFlag_flagged] at k1
        refine ⟨k2, fun k => absurd k notUnfitted, fun _ => ⟨k3, fun _ => ⟨by rw [← e] at k1; exact k1, reported e⟩, fun hi => ?_, fun hcl => ?_⟩⟩
        · rw [hi] at h1; cases h1
        · rw [h1] at hcl; cases hcl
      · by_cases h2 : (s.pos side).st = .idle
        · obtain ⟨j1, j2, j3, j4⟩ := State.lift_idle_effect (s := s.setNozzle side h true) (h := h) h2
          obtain ⟨k1, k2, k3, k4⟩ := lift_event (h := h) hc j1 j2
            (by rw [j3]; exact ⟨.inr ⟨rfl, by simp [Position.enter]⟩, rfl⟩)
          refine ⟨k2, fun k => absurd k notUnfitted, fun _ => ⟨k3, fun k => absurd k h1, fun _ => ⟨State.reports.event (j4 s rfl), ?_⟩,
            fun _ k => absurd h2 k⟩⟩
          rw [k1, j3, k4, hpos]
        · have e := State.lift_multi (s := s.setNozzle side h true) (h := h) (Bool.eq_false_iff.mpr h1) h2 ha
          obtain ⟨k1, k2, k3, -⟩ := flagged e
          rw [e, State.setFlag_flagged] at k1
          exact ⟨k2, fun k => absurd k notUnfitted, fun _ => ⟨k3, fun k => absurd k h1, fun k => absurd k h2,
            fun _ _ => ⟨by rw [← e] at k1; exact k1, reported e⟩⟩⟩
    · rw [Bool.not_eq_true] at hf
      obtain ⟨e1, e2⟩ := publish_react_nozzles (.refl (s.setNozzle side h true) _)
      obtain ⟨e3, e4⟩ := lift_level_event (side := side) (h := h) hc
      exact ⟨_, exec_lift_unfitted hm hn hf, e1, e2, e3 _, fun _ => ⟨e3 _, e4⟩, fun k => by rw [hf] at k; cases k⟩
  · obtain ⟨e1, -⟩ := publish_react_nozzles (.refl (s.setNozzle side h true) _)
    obtain ⟨e3, e4⟩ := lift_level_event (side := side) (h := h) hc
    exact ⟨_, exec_lift_unfitted hm hn hf, e1, e3, e4⟩
  · have hmany := State.lifted_after_many (side := side) hf
    have hmem (g : HoseNo) (hg : (s.setNozzle side h true).lifted side = [g]) : g = h := by
      have := (s.lifted_after side h h hf).mpr (.inl rfl)
      rw [hg] at this
      exact (List.mem_singleton.mp this).symm
    have e := State.lift_authorized (s := s.setNozzle side h true) (h := h) hst ha fun g hg => by
      rcases ht with k | k | k
      · rw [hmem g hg]; exact .inl k
      · exact .inr (.inr k)
      · have := hmany.mpr k
        rw [hg] at this
        simp at this
    have hany : (List.finRange 4).any (fun k => k != h && s.isLifted side k) = decide (1 < ((s.setNozzle side h true).lifted side).length) := by
      rw [Bool.eq_iff_iff, decide_eq_true_eq, hmany]
      simp
    rw [hany]
    have hallow : allows a.allowed h = a.allowed.getLsbD h.val := rfl
    obtain ⟨f1, f2, f3, f4, f5⟩ := State.liftFlags_effect (s := s.setNozzle side h true) (side := side) (h := h) (allows a.allowed h)
      (1 < ((s.setNozzle side h true).lifted side).length)
    rw [← e] at f1 f2 f3 f4 f5
    obtain ⟨k1, k2, k3, -⟩ := lift_event (h := h) hc f1 f2 (by rw [f3]; exact ⟨.inl rfl, rfl⟩)
    rw [f3] at k1
    exact ⟨_, exec_lift_fitted hm hn hf, k1, fun hx hw => State.reports.event (f4 hx hw s rfl),
      fun hx hw => State.reports.event (f5 (hmany.mpr hx) hw s rfl), k2, k3⟩

end Sys2Proof.Machine
end

section
/-! PROOFS. The motor settle, flow and authorization timers (R55, R60, R61). -/
namespace Sys2Proof.Machine

variable {s t u v w : State} {P : List Part} {side : Side} {h : HoseNo} {x : Sale} {l : Lock}

/-- An event that changes one side's position, which carries on, and notices. -/
theorem positions_event (hc : s.calm) (ha : Acts s w P) (hP : P ⊆ [.notices, .positions]) (ho : w.pos (other side) = s.pos (other side))
    (hp : (s.pos side).carriesOn (w.pos side)) :
    (∀ x, (publish s w.react).pos x = w.pos x) ∧ s.changesOnly (publish s w.react) (P ++ [.displays]) := by
  have hcalm : w.calm := (ha.mono hP).calm_positions hc fun x => by
    rcases eq_or_other side x with e | e <;> rw [e]
    · exact hp
    · rw [ho]; exact Position.carriesOn_refl _
  have hr : Acts w w.react [.displays] := Acts.react_calm (.refl _ _) hcalm (by decide)
  exact ⟨fun x => by rw [publish_pos, hr.pos_eq (by decide)],
    Acts.published ((ha.mono (List.subset_append_left ..)).trans (hr.mono (List.subset_append_right ..)))⟩

/-- The effect of opening the valves, the price table apart. -/
theorem State.openValves_pru (s : State) (side : Side) : (s.openValves side).pru = s.pru := by
  have hm : (s.modSale side fun sl => { sl with held := none }).pru = s.pru := State.modSale_pru fun _ => rfl
  unfold State.openValves
  dsimp only
  (repeat' split) <;> first | rfl | exact hm | exact (State.endSale_pru _ _ _).trans hm

theorem State.openValves_acts (s : State) (side : Side) : Acts s (s.openValves side) [.positions] := by
  have ha : Acts s (s.openValves side) [.positions, .prices] := Acts.openValves (.refl s _) side (List.Subset.refl _)
  refine ⟨fun p hp => ?_, ha.memory, ha.mirrors, ha.notices⟩
  by_cases e : p = .prices
  · subst e; exact s.openValves_pru side
  · exact ha.frame p (by simp_all)

theorem State.openValves_settled (hx : (s.pos side).sale = some x) (hl : x.lock = some l) :
    (s.openValves side).pos side = (s.pos side).settled x l := by
  have hm : (s.modSale side fun sl => { sl with held := none }).pos side = { s.pos side with sale := some { x with held := none } } :=
    State.modSale_pos_some hx _
  have hs : x.slowed = l.vs.any fun vs => decide (vs ≤ x.v) := by
    simp only [Sale.slowed, hl, Lock.slowed]
    cases l.vs <;> rfl
  have ht : x.targetStop = if l.vt ≤ x.v then some l.source.stop else none := by simp only [Sale.targetStop, hl]
  unfold State.openValves Position.settled
  rw [hx]
  dsimp only
  rw [ht]
  by_cases hv : l.vt ≤ x.v
  · rw [if_pos hv, if_pos hv]
    dsimp only
    rw [State.endSale_pos, State.modPos_pos, hm]
    simp only [Position.endingWith, Position.enter, Option.map_some]
    cases l.source <;> rfl
  · rw [if_neg hv, if_neg hv]
    dsimp only
    rw [State.modPos_pos, hm, hs]
    rfl

theorem Position.carriesOn_settled {p : Position} (hx : p.sale = some x) : p.carriesOn (p.settled x l) := by
  unfold Position.settled
  split
  · exact ⟨.inr ⟨rfl, by simp [Position.endingWith, Position.enter]⟩, by rw [hx]; rfl⟩
  · refine ⟨.inr ?_, by rw [hx]; rfl⟩
    simp only [Position.flowing, Position.enter]
    split <;> exact ⟨rfl, by decide⟩

/-- The withdrawal of an authorization outside CLOSING (R57, R61). -/
theorem State.arriveOpen_withdrawn (hs : s.ssu.site ≠ .closing) :
    (s.arriveOpen side).pos side = (s.pos side).withdrawn (decide ((s.lifted side).length = 1)) := by
  rw [State.arriveOpen_pos, if_neg hs]
  by_cases h : (s.lifted side).length = 1 <;> simp [h, Position.withdrawn, Position.enter, Position.clearFlags]

theorem State.arriveOpen_acts (hs : s.ssu.site ≠ .closing) (side : Side) : Acts s (s.arriveOpen side) [.positions] := by
  have key (u : State) (hu : Acts s u [.positions]) : Acts s (u.closeIfClosing side) [.positions] := by
    rw [State.closeIfClosing, if_neg (by rw [hu.frame .site (by decide)]; exact hs)]
    exact hu
  refine key _ ?_
  split
  · exact Acts.modPos (Acts.modPos (.refl s _) _ _ (by decide)) _ _ (by decide)
  · exact Acts.modPos (Acts.modPos (.refl s _) _ _ (by decide)) _ _ (by decide)

theorem Position.carriesOn_withdrawn (p : Position) (b : Bool) : p.carriesOn (p.withdrawn b) := by
  cases b <;> exact ⟨.inr ⟨rfl, by simp [Position.withdrawn, Position.enter]⟩, rfl⟩

/-- Settles O28. -/
theorem positionTimerExpiries : Obligations.PositionTimerExpiries := by
  refine ⟨fun s side x l hm hc hst ht hx hl => ?_, fun s side x hm hc hst ht hx => ?_, fun s side hm hc hs hst ht => ?_⟩
  · have hp := State.openValves_settled hx hl
    have ho := s.openValves_pos_ne (other_ne side)
    obtain ⟨e1, e2⟩ := positions_event hc (s.openValves_acts side) (by decide) ho (by rw [hp]; exact Position.carriesOn_settled hx)
    exact ⟨_, eventWhen_on hm (by simp [hst, ht]) _, by rw [e1, ho], e2, by rw [e1, hp]⟩
  · have hp := State.endSale_endingWith hx .noFlow
    have ho := s.endSale_pos_ne .noFlow (other_ne side)
    obtain ⟨e1, e2⟩ := positions_event hc (s.endSale_acts side .noFlow) (by decide) ho (by rw [hp]; exact Position.carriesOn_ending hx _)
    exact ⟨_, eventWhen_on hm (by rcases hst with e | e <;> simp [e, ht]) _, by rw [e1, hp], by rw [e1, ho], e2⟩
  · have hw := State.arriveOpen_acts hs side
    have hp := State.arriveOpen_withdrawn (side := side) hs
    have ho := s.arriveOpen_pos_ne (other_ne side)
    obtain ⟨e1, e2⟩ := positions_event hc (w := (s.arriveOpen side).raisePos side .authTimeout 0) (Acts.raise (hw.mono (Q := [.notices, .positions]) (by decide)) _ _ (by decide)) (by decide) ho
      (by rw [State.raisePos_pos, hp]; exact Position.carriesOn_withdrawn _ _)
    refine ⟨_, eventWhen_on hm (by simp [hst, ht]) _, by rw [e1, State.raisePos_pos, hp], State.reports.event ?_,
      by rw [e1, State.raisePos_pos, ho], e2.mono (by decide)⟩
    exact State.reports_raise _ (by rw [show (s.arriveOpen side).ntc = s.ntc from hw.frame .notices (by decide)]) (Cause.bit_lt _)

end Sys2Proof.Machine
end

section
/-! PROOFS. CANCEL, whose statement fails in a state that no premise of it rules out: the start that it makes fall back closes the last open
position of a CLOSING site, and the armed receive that the night entry withdraws was armed from the place where CANCEL's card stands (R48,
R56, R68, R161, R202). -/
namespace Sys2Proof.Machine

variable {s : State}

/-- CANCEL's card for position A. -/
def cancelCard : Card := { kind := 0x02, flags := 0, target := 0, words := 0, hostReference := 0, body := [] }

/-- A start that waits for its motor. -/
def motorStart : Position :=
  { Position.default.enter (.starting .motor) with
    auth := some hoseOneAuth, sale := some (newSale hoseOneAuth 0 gradeOneHose { day := 0, second := 0 }) }

/-- A CLOSING site that waits for A, whose start waits for its motor; the reader's gate is closed over an armed receive of the card at 0900h,
where the host has since put the CANCEL that lane 0 holds. -/
def cancelOverReceive : State :=
  { State.reset with
    ssu := { State.reset.ssu with site := .closing, closingPhase := some .positions },
    psc := { a := motorStart, b := Position.default },
    riu := { Riu.default with domain := .gated, armed := [{ card := 0x900, buffer := 0, note := false, toEnd := true }] },
    lanes :=
      { dispense := { Lane.default with held := some { offset := 0x900, card := cancelCard, phase := .undecided } },
        site := .default, reader := .default },
    xm := [(0x902, 1)] }

theorem cancelOverReceive_panels (side : Side) (g : Fin 8) : cancelOverReceive.panelState g side = .unused := by
  cases side <;> revert g <;> decide

theorem cancelOverReceive_calm : cancelOverReceive.calm := by
  refine ⟨fun h => absurd h (by decide), fun _ _ => ⟨.a, by decide⟩, fun _ g hg => ?_, fun _ l hl => ?_, .inl rfl,
    fun side h => absurd h (by cases side <;> decide), fun _ side g hw => ?_⟩
  · revert g; decide
  · cases hl
  · rw [cancelOverReceive_panels] at hw; rcases hw with h | h <;> cases h

/-- The start falls back and A closes; the site goes on to take the reader down, and the armed receive finishes WITHDRAWN (R136, R161). -/
theorem cancelOverReceive_overwritten :
    (publish cancelOverReceive (decideCancel 0x900 cancelCard cancelOverReceive).react).half 0x906
      = BitVec.ofNat 16 CardOutcome.withdrawn.code := by
  decide +kernel

/-- Refutes O32: a calm state does not keep the card of lane 0 apart from that of an armed receive, so that a CANCEL which makes a start fall
back need not leave OK in its card. -/
theorem not_cancelActsByState : ¬ Obligations.CancelActsByState := by
  unfold Obligations.CancelActsByState
  intro hcancel
  have hh : cancelOverReceive.holds .cancel 0x900 cancelCard := ⟨rfl, rfl, by decide⟩
  obtain ⟨t, ht, -, -, -, hstart, -⟩ := hcancel cancelOverReceive 0x900 cancelCard .a hh rfl
  obtain rfl : publish cancelOverReceive (decideCancel 0x900 cancelCard cancelOverReceive).react = t :=
    Host.Outcome.next.inj ((cardEvent_on hh decideCancel).symm.trans ht)
  obtain ⟨hends, -⟩ := hstart _ hoseOneAuth (by decide) rfl rfl rfl
  obtain ⟨houtcome, -⟩ := hends cancelOverReceive_calm ⟨by decide, by decide⟩ (by decide)
  rw [cancelOverReceive_overwritten] at houtcome
  exact absurd houtcome (by decide)

end Sys2Proof.Machine
end

section
/-! PROOFS. Two statements about starts that fail in states which no premise of theirs rules out: a sale, locked on a grade with a price
pending, stands with a position in CALLING or AUTHORIZED, where R43 has none; the start replaces it, and the price is applied in the event
(R50, R67, R83). -/
namespace Sys2Proof.Machine

variable {s : State}

/-! ## AUTHORIZE from CALLING -/

/-- AUTHORIZE's card for position A, with the authorization for hose A1. -/
def authorizeCard : Card :=
  { kind := 0x01, flags := 0, target := 0, words := 5, hostReference := 0, body := [1, 0, 0, 0, 1, 0, 1, 0] }

/-- The state of `lockedInAuthorized` with A in CALLING, hose A1 up, and AUTHORIZE's card taken at 0900h. -/
def lockedInCalling : State :=
  { lockedInAuthorized with
    psc := { a := { Position.default.enter .calling with sale := some lockedSale }, b := Position.default },
    iwu := { lockedInAuthorized.iwu with
      nozzles := { lockedInAuthorized.iwu.nozzles with a := lockedInAuthorized.iwu.nozzles.a.set 0 (some true) } },
    lanes :=
      { dispense := { Lane.default with held := some { offset := 0x900, card := authorizeCard, phase := .undecided } },
        site := .default, reader := .default },
    rsc := { lockedInAuthorized.rsc with generation := some 1, check := .none },
    xm := [(0x902, 1)] }

theorem lockedInCalling_panels (side : Side) (g : Fin 8) :
    lockedInCalling.panelState g side = ((lockedInCalling.grade g).panels.get side).state
      ∧ ((lockedInCalling.grade g).panels.get side).posted = false := lockedInAuthorized_panels side g

theorem lockedInCalling_calm : lockedInCalling.calm := by
  refine State.calm_of_open rfl rfl (fun side => by cases side <;> decide) (fun _ g hg => ?_) (fun _ _ hl => by cases hl)
    fun _ side g _ => ⟨(lockedInCalling_panels side g).1.symm, fun _ => (lockedInCalling_panels side g).2⟩
  revert g; decide

theorem lockedInCalling_authorizable : lockedInCalling.authorizable .a authorizeCard hoseOneAuth := by
  refine ⟨rfl, by decide, ⟨by decide, by decide, rfl, by decide, by decide, by decide, by decide, by decide⟩, rfl, by decide, by decide,
    ?_, by decide, by decide, by decide, (by cases ·), by decide⟩
  decide

/-- The price of grade 1 is applied, and a PRICES step is asked for (R83, R84). -/
theorem lockedInCalling_asksStep :
    (publish lockedInCalling (decideAuthorize 0x900 authorizeCard lockedInCalling).react).rsc.active.isSome = true := by
  decide +kernel

/-- Refutes O31: a calm state may hold a sale in CALLING, where R43 has none, so that an accepted AUTHORIZE which replaces it need not leave
the store alone. The clauses about the refusals are not in question. -/
theorem not_authorizeActsByItsChecks : ¬ Obligations.AuthorizeActsByItsChecks := by
  unfold Obligations.AuthorizeActsByItsChecks
  rintro ⟨-, haccept⟩
  have hh : lockedInCalling.holds .authorize 0x900 authorizeCard := ⟨rfl, rfl, by decide⟩
  obtain ⟨t, ht, -, -, -, -, hframe⟩ :=
    haccept lockedInCalling 0x900 authorizeCard .a hoseOneAuth hh lockedInCalling_authorizable lockedInCalling_calm (by decide)
  obtain rfl : publish lockedInCalling (decideAuthorize 0x900 authorizeCard lockedInCalling).react = t :=
    Host.Outcome.next.inj ((cardEvent_on hh decideAuthorize).symm.trans ht)
  have hstep := lockedInCalling_asksStep
  rw [show _ = lockedInCalling.rsc from hframe .store (by decide)] at hstep
  exact absurd hstep (by decide)

/-! ## A start without a price -/

/-- The state of `lockedInAuthorized` with no price for grade 0. -/
def unpricedInAuthorized : State :=
  { lockedInAuthorized with
    pru := { lockedInAuthorized.pru with
      grades := lockedInAuthorized.pru.grades.set 0
        { Grade.default with panels := { a := { Panel.default with state := .updating }, b := .default } } } }

theorem unpricedInAuthorized_panels (side : Side) (g : Fin 8) :
    unpricedInAuthorized.panelState g side = ((unpricedInAuthorized.grade g).panels.get side).state
      ∧ ((unpricedInAuthorized.grade g).panels.get side).posted = false := by
  cases side <;> revert g <;> decide

theorem unpricedInAuthorized_calm : unpricedInAuthorized.calm := by
  refine State.calm_of_open rfl rfl (fun side => by cases side <;> decide) (fun _ g hg => ?_) (fun _ _ hl => by cases hl)
    fun _ side g _ => ⟨(unpricedInAuthorized_panels side g).1.symm, fun _ => (unpricedInAuthorized_panels side g).2⟩
  revert g; decide

/-- The start that falls back has replaced the sale, and grade 1's pending price is applied (R83). -/
theorem unpricedInAuthorized_applies :
    ((publish unpricedInAuthorized ((unpricedInAuthorized.setNozzle .a 0 true).lift .a 0).react).grade 1).pending = none := by
  decide +kernel

/-- Refutes O27: a calm state may hold a sale in AUTHORIZED, where R43 has none, so that a start which is refused for want of a price need not
leave the price table alone. The clauses about a start that waits at the gate are not in question. -/
theorem not_startFailuresFallBack : ¬ Obligations.StartFailuresFallBack := by
  unfold Obligations.StartFailuresFallBack
  rintro ⟨htrigger, -⟩
  obtain ⟨t, ht, -, -, -, hframe, -⟩ := htrigger unpricedInAuthorized .a 0 hoseOneAuth (.nozzleLift .a 0) rfl unpricedInAuthorized_calm
    (by decide) rfl ⟨fun _ => rfl, fun h => absurd rfl h, fun _ => rfl, by decide, by decide⟩ (by decide)
    (.inl ⟨rfl, rfl, .inl ⟨rfl, by decide, by decide⟩⟩)
  obtain ⟨-, hgrades, -⟩ := hframe (.inr (.inr (.inl rfl)))
  rw [exec_lift_fitted rfl (by decide) rfl] at ht
  have happlied := unpricedInAuthorized_applies
  rw [Host.Outcome.next.inj ht, State.grade, hgrades] at happlied
  exact absurd happlied (by decide)

end Sys2Proof.Machine
end

section
/-! PROOFS. STOP and RESUME (R69, R70). -/
namespace Sys2Proof.Machine

variable {s t u v w : State} {P : List Part} {k : Kind} {off : Nat} {c : Card} {o : CardOutcome} {side : Side} {x : Sale} {l : Lock}

/-! ## Cards that act on positions -/

/-- A card accepted at once, its effect so far on positions that carry on. -/
theorem position_card_event (h : s.holds k off c) (hc : s.calm) (ha : Acts s u [.positions]) (hp : ∀ x, (s.pos x).carriesOn (u.pos x)) :
    s.endsCard (publish s (u.finishCard k.lane [] .ok).react) k.lane off .ok
      ∧ (∀ x, (publish s (u.finishCard k.lane [] .ok).react).pos x = u.pos x)
      ∧ s.changesOnly (publish s (u.finishCard k.lane [] .ok).react) [.memory, .parity, .lanes, .notices, .positions, .displays] := by
  have hu : u.calm := Acts.calm_positions (ha.mono (by decide)) hc hp
  have hf := Acts.finish u k.lane [] .ok
  have hr : Acts (u.finishCard k.lane [] .ok) (u.finishCard k.lane [] .ok).react [.displays] :=
    Acts.react_calm (.refl _ _) (State.finishCard_calm hu _ _ _) (by decide)
  refine ⟨State.endsCard_finish h ha (by decide) (by decide) (by decide) (fun _ => hu) _ _, fun x => ?_,
    Acts.published ((ha.mono (by decide)).trans ((hf.mono (by decide)).trans (hr.mono (by decide))))⟩
  rw [publish_pos, hr.pos_eq (by decide), State.finishCard_pos]

/-- A card refused, its link showing END. -/
theorem refused_card_event (h : s.holds k off c) (hc : s.calm) (hl : s.readLink off = .atEnd) (o : CardOutcome) :
    s.endsCard (publish s (s.refuseCard k.lane o).react) k.lane off o ∧ (publish s (s.refuseCard k.lane o).react).psc = s.psc
      ∧ (∀ x, (publish s (s.refuseCard k.lane o).react).pos x = s.pos x)
      ∧ s.changesOnly (publish s (s.refuseCard k.lane o).react) [.memory, .parity, .lanes, .notices, .positions, .displays] := by
  obtain ⟨h1, h2⟩ := State.refusesCard_refuse h o
  obtain ⟨-, -, -, h3⟩ := h2 hc hl
  exact ⟨h1, h3 .positions (by decide), refuse_pos hc _ o, h3.mono (by decide)⟩

/-! ## STOP -/

theorem State.stoppable_iff : s.stoppable side = true ↔ s.ssu.site ≠ .powerDown ∧ ((s.pos side).st = .fuelling ∨ (s.pos side).st = .slowing) := by
  simp [State.stoppable, State.powerDown]

/-- STOP's effect on one side. -/
def State.stopped (s : State) (side : Side) : State := if s.stoppable side then s.pause side else s

theorem State.stopped_acts (s : State) (side : Side) : Acts s (s.stopped side) [.positions] := by
  unfold State.stopped State.pause
  split
  · exact Acts.modPos (.refl s _) _ _ (by decide)
  · exact .refl s _

theorem State.stopped_pos (s : State) (side : Side) : (s.stopped side).pos side =
    if s.stoppable side then { (s.pos side).enter .paused with flowTimer := none } else s.pos side := by
  unfold State.stopped State.pause
  split
  · rw [State.modPos_pos]
  · rfl

theorem State.stopped_pos_ne (s : State) {x : Side} (h : x ≠ side) : (s.stopped side).pos x = s.pos x := by
  unfold State.stopped State.pause
  split
  · rw [State.modPos_pos_ne _ _ h]
  · rfl

theorem State.stopped_carriesOn (s : State) (side x : Side) : (s.pos x).carriesOn ((s.stopped side).pos x) := by
  rcases eq_or_other side x with rfl | rfl
  · rw [State.stopped_pos]
    split
    · exact ⟨.inr ⟨rfl, by simp [Position.enter]⟩, rfl⟩
    · exact Position.carriesOn_refl _
  · rw [State.stopped_pos_ne _ (other_ne side)]
    exact Position.carriesOn_refl _

theorem decideStop_side (hs : c.to = sideCode side) : decideStop off c s =
    if s.stoppable side then (s.stopped side).finishCard .dispense [] .ok else s.refuseCard .dispense .busy := by
  unfold decideStop State.stopped
  rw [if_neg (by rw [hs]; cases side <;> decide), Card.side_eq hs]
  dsimp only
  split <;> rfl

theorem decideStop_all (hs : c.to = 2) : decideStop off c s = ((s.stopped .a).stopped .b).finishCard .dispense [] .ok := by
  unfold decideStop
  rw [if_pos hs]
  rfl

theorem decideStop_badTarget (hs : 2 < c.to) : decideStop off c s = s.refuseCard .dispense .badTarget := by
  unfold decideStop
  rw [if_neg (by omega), Card.side_none (by omega)]

theorem Position.carriesOn_trans {p q r : Position} (h : p.carriesOn q) (k : q.carriesOn r) : p.carriesOn r := by
  refine ⟨?_, k.2.trans h.2⟩
  rcases k.1 with e | e
  · rw [e]; exact h.1
  · exact .inr e

theorem State.stopped_stoppable (s : State) (side : Side) : (s.stopped side).stoppable (other side) = s.stoppable (other side) := by
  have hs : (s.stopped side).ssu = s.ssu := (s.stopped_acts side).frame .site (by decide)
  rw [Bool.eq_iff_iff, State.stoppable_iff, State.stoppable_iff, hs, State.stopped_pos_ne _ (other_ne side)]

/-- STOP ALL pauses each side that flows. -/
theorem State.stopped_both_pos (s : State) (x : Side) : ((s.stopped .a).stopped .b).pos x =
    if s.stoppable x then { (s.pos x).enter .paused with flowTimer := none } else s.pos x := by
  cases x with
  | a => rw [State.stopped_pos_ne _ (by decide), State.stopped_pos]
  | b =>
    have hb : (s.stopped .a).stoppable .b = s.stoppable .b := s.stopped_stoppable .a
    rw [State.stopped_pos, hb, State.stopped_pos_ne s (by decide)]

theorem exec_stop (h : s.holds .stop off c) (hc : s.calm) (hl : s.readLink off = .atEnd) :
    ∃ t, exec .stop s = .next t ∧ s.changesOnly t [.memory, .parity, .lanes, .notices, .positions, .displays]
      ∧ (2 < c.to → s.endsCard t .dispense off .badTarget ∧ t.psc = s.psc)
      ∧ (∀ side, c.to = sideCode side →
          let flows := s.ssu.site ≠ .powerDown ∧ ((s.pos side).st = .fuelling ∨ (s.pos side).st = .slowing)
          t.pos (other side) = s.pos (other side)
            ∧ (flows → s.endsCard t .dispense off .ok ∧ t.pos side = { (s.pos side).enter .paused with flowTimer := none })
            ∧ (¬ flows → s.endsCard t .dispense off .busy ∧ t.pos side = s.pos side))
      ∧ (c.to = 2 → s.endsCard t .dispense off .ok ∧ ∀ side,
          let flows := s.ssu.site ≠ .powerDown ∧ ((s.pos side).st = .fuelling ∨ (s.pos side).st = .slowing)
          (flows → t.pos side = { (s.pos side).enter .paused with flowTimer := none }) ∧ (¬ flows → t.pos side = s.pos side)) := by
  refine ⟨_, exec_command_on (k := .stop) h, ?_⟩
  rw [Kind.decision]
  simp only [← State.stoppable_iff]
  have hcode (side : Side) : sideCode side < 2 := by cases side <;> decide
  rcases Nat.lt_trichotomy c.to 2 with hto | hto | hto
  · obtain ⟨side, hs⟩ : ∃ side, c.to = sideCode side := by
      rcases (by omega : c.to = 0 ∨ c.to = 1) with e | e
      · exact ⟨.a, e⟩
      · exact ⟨.b, e⟩
    have hone (x : Side) (hx : c.to = sideCode x) : x = side := by
      have := hs.symm.trans hx
      cases x <;> cases side <;> first | rfl | exact absurd this (by decide)
    rw [decideStop_side hs]
    cases hst : s.stoppable side with
    | true =>
      obtain ⟨e1, e2, e3⟩ := position_card_event h hc (s.stopped_acts side) (s.stopped_carriesOn side)
      refine ⟨e3, fun k => absurd k (by omega), fun x hx => ?_, fun k => absurd k (by omega)⟩
      obtain rfl := hone x hx
      refine ⟨(e2 _).trans (s.stopped_pos_ne (other_ne x)), fun _ => ⟨e1, (e2 x).trans ?_⟩, fun k => absurd hst k⟩
      rw [State.stopped_pos, hst]
      rfl
    | false =>
      obtain ⟨e1, -, e2, e3⟩ := refused_card_event h hc hl .busy
      refine ⟨e3, fun k => absurd k (by omega), fun x hx => ?_, fun k => absurd k (by omega)⟩
      obtain rfl := hone x hx
      exact ⟨e2 _, fun k => absurd (hst.symm.trans k) (by decide),
        fun _ => ⟨e1, e2 _⟩⟩
  · rw [decideStop_all hto]
    obtain ⟨e1, e2, e3⟩ := position_card_event h hc ((s.stopped_acts .a).trans (State.stopped_acts _ .b)) fun x =>
      Position.carriesOn_trans (s.stopped_carriesOn .a x) (State.stopped_carriesOn _ .b x)
    refine ⟨e3, fun k => absurd k (by omega), fun side hs => absurd (hcode side) (by omega), fun _ => ⟨e1, fun side => ⟨fun hf => ?_, fun hf => ?_⟩⟩⟩
    · exact (e2 side).trans (by rw [State.stopped_both_pos, if_pos hf])
    · exact (e2 side).trans (by rw [State.stopped_both_pos, if_neg hf])
  · rw [decideStop_badTarget hto]
    obtain ⟨e1, e2, -, e3⟩ := refused_card_event h hc hl .badTarget
    exact ⟨e3, fun _ => ⟨e1, e2⟩, fun side hs => absurd (hcode side) (by omega), fun k => absurd k (by omega)⟩

/-! ## RESUME -/

theorem State.resumeSale_acts (s : State) (side : Side) : Acts s (s.resumeSale side) [.positions] := by
  unfold State.resumeSale
  split
  · exact .refl s _
  · split
    · exact s.endSale_acts side _
    · exact Acts.modPos (.refl s _) _ _ (by decide)

theorem State.resumeSale_pos_ne (s : State) {x : Side} (h : x ≠ side) : (s.resumeSale side).pos x = s.pos x := by
  unfold State.resumeSale
  split
  · rfl
  · split
    · exact s.endSale_pos_ne _ h
    · exact s.modPos_pos_ne _ h

/-- A sale that has reached its target ends, and others flow again (R70). -/
theorem State.resumeSale_pos (hx : (s.pos side).sale = some x) (hl : x.lock = some l) : (s.resumeSale side).pos side =
    if l.vt ≤ x.v then (s.pos side).endingWith x l.source.stop
    else { (s.pos side).enter (if l.vs.any (fun vs => decide (vs ≤ x.v)) then .slowing else .fuelling) with
      flowTimer := some ((s.pos side).config.noFlow * 1000) } := by
  have hs : x.slowed = l.vs.any fun vs => decide (vs ≤ x.v) := by
    simp only [Sale.slowed, hl, Lock.slowed]
    cases l.vs <;> rfl
  have ht : x.targetStop = if l.vt ≤ x.v then some l.source.stop else none := by simp only [Sale.targetStop, hl]
  unfold State.resumeSale
  rw [hx]
  dsimp only
  rw [ht]
  by_cases hv : l.vt ≤ x.v
  · rw [if_pos hv, if_pos hv]
    exact State.endSale_endingWith hx _
  · rw [if_neg hv, if_neg hv]
    dsimp only
    rw [State.modPos_pos, hs]

theorem State.resumeSale_carriesOn (s : State) (side x : Side) : (s.pos x).carriesOn ((s.resumeSale side).pos x) := by
  rcases eq_or_other side x with rfl | rfl
  · unfold State.resumeSale
    split
    · exact Position.carriesOn_refl _
    · next y hy =>
      split
      · rw [State.endSale_endingWith hy]
        exact Position.carriesOn_ending hy _
      · rw [State.modPos_pos]
        refine ⟨.inr ?_, rfl⟩
        dsimp only [Position.enter]
        split <;> exact ⟨rfl, by decide⟩
  · rw [State.resumeSale_pos_ne _ (other_ne side)]
    exact Position.carriesOn_refl _

theorem decideResume_eq (hs : c.side = some side) : decideResume off c s =
    if s.ssu.site = .powerDown ∨ (s.pos side).st ≠ .paused then s.refuseCard .dispense .busy
    else if s.iwu.emergency = some true then s.refuseCard .dispense .blocked
    else (s.resumeSale side).finishCard .dispense [] .ok := by
  unfold decideResume
  rw [hs]
  by_cases h1 : s.ssu.site = .powerDown
  · simp [State.powerDown, h1]
  · by_cases h2 : (s.pos side).st = .paused <;> simp [State.powerDown, h1, h2]

/-- Settles O33. -/
theorem stopAndResume : Obligations.StopAndResume := by
  refine ⟨fun s off c h hc hl => exec_stop h hc hl, fun s off c side h ht hc hl => ⟨_, exec_command_on (k := .resume) h, ?_⟩⟩
  rw [Kind.decision, decideResume_eq (Card.side_eq ht)]
  by_cases h1 : s.ssu.site = .powerDown ∨ (s.pos side).st ≠ .paused
  · rw [if_pos h1]
    obtain ⟨e1, -, e2, e3⟩ := refused_card_event h hc hl .busy
    exact ⟨e2 _, e3, fun _ => ⟨e1, e2 _⟩,
      fun k1 k2 => absurd h1 (by simp [k1, k2]), fun x l k1 k2 => absurd h1 (by simp [k1, k2])⟩
  · rw [if_neg h1]
    by_cases h2 : s.iwu.emergency = some true
    · rw [if_pos h2]
      obtain ⟨e1, -, e2, e3⟩ := refused_card_event h hc hl .blocked
      exact ⟨e2 _, e3, fun k => absurd k h1,
        fun _ _ _ => ⟨e1, e2 _⟩, fun x l _ _ k => absurd h2 k⟩
    · rw [if_neg h2]
      obtain ⟨e1, e2, e3⟩ := position_card_event h hc (s.resumeSale_acts side) (s.resumeSale_carriesOn side)
      refine ⟨(e2 _).trans (s.resumeSale_pos_ne (other_ne side)), e3, fun k => absurd k h1, fun _ _ k => absurd k h2,
        fun x l _ _ _ hx hlk => ⟨e1, fun hv => (e2 side).trans ?_, fun hv => (e2 side).trans ?_⟩⟩
      · rw [State.resumeSale_pos hx hlk, if_pos hv]
        cases l.source <;> rfl
      · rw [State.resumeSale_pos hx hlk, if_neg (by omega)]

end Sys2Proof.Machine
end

section
/-! PROOFS. No part of a mirror is written whole at the end of an event (R194): what follows a command leaves the marks of whole updates, so
that the parts a command asks for are the parts that are written. -/
namespace Sys2Proof.Machine

variable {s t u v : State} {P : List Part}

/-! ## Marks of whole updates -/

/-- The parts that the present event writes whole. -/
def State.wholes (s : State) : List MirrorPart := s.mirrors.wholes

@[simp] theorem State.modPos_wholes (s : State) (x : Side) (f : Position → Position) : (s.modPos x f).wholes = s.wholes := rfl
@[simp] theorem State.modMeter_wholes (s : State) (m : MeterNo) (f : Meter → Meter) : (s.modMeter m f).wholes = s.wholes := rfl
@[simp] theorem State.modGrade_wholes (s : State) (g : Fin 8) (f : Grade → Grade) : (s.modGrade g f).wholes = s.wholes := rfl
@[simp] theorem State.modPanel_wholes (s : State) (g : Fin 8) (x : Side) (f : Panel → Panel) : (s.modPanel g x f).wholes = s.wholes := rfl
@[simp] theorem State.modBoard_wholes (s : State) (x : Side) (f : Board → Board) : (s.modBoard x f).wholes = s.wholes := rfl
@[simp] theorem State.modLane_wholes (s : State) (l : LaneId) (f : Lane → Lane) : (s.modLane l f).wholes = s.wholes := by
  cases l <;> rfl
@[simp] theorem State.modPru_wholes (s : State) (f : Pru → Pru) : (s.modPru f).wholes = s.wholes := rfl
@[simp] theorem State.modRiu_wholes (s : State) (f : Riu → Riu) : (s.modRiu f).wholes = s.wholes := rfl
@[simp] theorem State.modSsu_wholes (s : State) (f : Ssu → Ssu) : (s.modSsu f).wholes = s.wholes := rfl
@[simp] theorem State.modRsc_wholes (s : State) (f : Rsc → Rsc) : (s.modRsc f).wholes = s.wholes := rfl
@[simp] theorem State.touch_wholes (s : State) (p : MirrorPart) (e : Nat) : (s.touch p e).wholes = s.wholes := rfl
@[simp] theorem State.raise_wholes (s : State) (c : Cause) (d : Nat) : (s.raise c d).wholes = s.wholes := rfl
@[simp] theorem State.raisePos_wholes (s : State) (x : Side) (c : PosCause) (d : Nat) : (s.raisePos x c d).wholes = s.wholes := rfl
@[simp] theorem State.raiseLane_wholes (s : State) (l : LaneId) (c : LaneCause) (d : Nat) : (s.raiseLane l c d).wholes = s.wholes := rfl
@[simp] theorem State.writeHalf_wholes (s : State) (a : Nat) (v : Half) : (s.writeHalf a v).wholes = s.wholes := rfl
@[simp] theorem State.writeAt_wholes (s : State) (a : Nat) (l : List (Nat × Byte)) : (s.writeAt a l).wholes = s.wholes := by
  simp [State.wholes]

theorem foldl_wholes {α : Type} {f : State → α → State} (hf : ∀ s x, (f s x).wholes = s.wholes) (l : List α) (s : State) :
    (l.foldl f s).wholes = s.wholes := by
  induction l generalizing s with
  | nil => rfl
  | cons a l ih => rw [List.foldl_cons, ih, hf]

/-! ## Cards and lanes -/

@[simp] theorem State.haltLane_wholes (s : State) (l : LaneId) (r : HaltReason) (o : Nat) : (s.haltLane l r o).wholes = s.wholes := by
  simp [State.haltLane]

@[simp] theorem State.markFinished_wholes (s : State) (l : LaneId) (off : Nat) (note : Bool) (o : CardOutcome) (st : CardState) :
    (s.markFinished l off note o st).wholes = s.wholes := by
  unfold State.markFinished
  dsimp only
  split <;> simp

@[simp] theorem State.closeCard_wholes (s : State) (l : LaneId) (off : Nat) (note : Bool) (r : List (Nat × Byte)) (o : CardOutcome) :
    (s.closeCard l off note r o).wholes = s.wholes := by
  simp [State.closeCard]

@[simp] theorem State.moveOn_wholes (s : State) (l : LaneId) (off : Nat) (k : LinkRead) : (s.moveOn l off k).1.wholes = s.wholes := by
  unfold State.moveOn
  split
  · simp
  · cases k <;> simp

@[simp] theorem State.walk_wholes (n : Nat) (s : State) (l : LaneId) : (State.walk n s l).wholes = s.wholes := by
  induction n generalizing s with
  | zero => rfl
  | succ n ih =>
    unfold State.walk
    dsimp only
    split
    · simp
    · split <;> simp [ih]
    · simp

@[simp] theorem State.follow_wholes (r : State × Bool) (l : LaneId) : (State.follow r l).wholes = r.1.wholes := by
  unfold State.follow
  split <;> simp

@[simp] theorem State.finishCard_wholes (s : State) (l : LaneId) (r : List (Nat × Byte)) (o : CardOutcome) :
    (s.finishCard l r o).wholes = s.wholes := by
  unfold State.finishCard
  split <;> simp

@[simp] theorem State.endWaiting_wholes (s : State) (k : Kind) (r : List (Nat × Byte)) (o : CardOutcome) :
    (s.endWaiting k r o).wholes = s.wholes := by
  unfold State.endWaiting
  split <;> simp

@[simp] theorem State.endStored_wholes (s : State) (l : LaneId) (off : Nat) : (s.endStored l off).wholes = s.wholes := by
  unfold State.endStored
  (repeat' split) <;> simp

/-! ## The reader and the night entry -/

@[simp] theorem State.setDomain_wholes (s : State) (d : Domain) : (s.setDomain d).wholes = s.wholes := rfl
@[simp] theorem State.shutGate_wholes (s : State) : s.shutGate.wholes = s.wholes := rfl

@[simp] theorem State.cutSend_wholes (s : State) : s.cutSend.wholes = s.wholes := by
  unfold State.cutSend State.finishSend
  split <;> simp

@[simp] theorem State.withdrawArmed_wholes (s : State) : s.withdrawArmed.wholes = s.wholes :=
  (foldl_wholes (fun s e => by simp [State.finishArmed]) _ _).trans (s.modRiu_wholes _)

@[simp] theorem State.readerToOff_wholes (s : State) : s.readerToOff.wholes = s.wholes := by
  unfold State.readerToOff
  split <;> simp [State.closeReaderLink]

@[simp] theorem State.requestStep_wholes (s : State) (rs : List RecordId) (q : List Requester) : (s.requestStep rs q).wholes = s.wholes := by
  unfold State.requestStep
  split <;> simp

@[simp] theorem State.examinePositions_wholes (s : State) : s.examinePositions.wholes = s.wholes := by
  unfold State.examinePositions
  split <;> simp [State.readerDown]

@[simp] theorem State.nightReaderDone_wholes (s : State) : s.nightReaderDone.wholes = s.wholes := by
  unfold State.nightReaderDone
  split <;> simp

@[simp] theorem State.setPace_wholes (s : State) (side : Side) : (s.setPace side).wholes = s.wholes := rfl
@[simp] theorem State.setSite_wholes (s : State) (st : SiteState) : (s.setSite st).wholes = s.wholes := rfl

@[simp] theorem State.enterNight_wholes (s : State) : s.enterNight.wholes = s.wholes := by
  unfold State.enterNight
  split <;> simp

/-! ## Positions and prices -/

@[simp] theorem State.postField_wholes (s : State) (side : Side) (f : FieldId) (c : Content) : (s.postField side f c).wholes = s.wholes := rfl

@[simp] theorem State.postAll_wholes (s : State) (side : Side) (fs : List FieldId) (c : FieldId → Content) :
    (s.postAll side fs c).wholes = s.wholes := foldl_wholes (f := fun s f => s.postField side f (c f)) (fun _ _ => rfl) fs s

@[simp] theorem State.postGrade_wholes (s : State) (side : Side) (h : HoseNo) : (s.postGrade side h).wholes = s.wholes := by
  unfold State.postGrade
  split <;> rfl

@[simp] theorem State.postPanels_wholes (s : State) (g : Fin 8) : (s.postPanels g).wholes = s.wholes :=
  foldl_wholes (fun s side => by simpa using foldl_wholes (fun s h => s.postGrade_wholes side h) _ _) _ s

@[simp] theorem State.applyPrice_wholes (s : State) (g : Fin 8) (p : Nat) (c : RoundCode) : (s.applyPrice g p c).wholes = s.wholes := by
  simp [State.applyPrice]

@[simp] theorem State.applyPrices_wholes (s : State) : s.applyPrices.wholes = s.wholes :=
  foldl_wholes (fun s g => by
    split
    · split <;> simp
    · rfl) _ _

@[simp] theorem State.withdrawCheck_wholes (s : State) (side : Side) : (s.withdrawCheck side).wholes = s.wholes := by
  unfold State.withdrawCheck
  split <;> rfl

@[simp] theorem State.releaseClaims_wholes (s : State) (side : Side) (b : Bool) : (s.releaseClaims side b).wholes = s.wholes := by
  unfold State.releaseClaims
  split
  · rfl
  · rw [State.modPos_wholes]
    exact foldl_wholes (fun u c => State.modMeter_wholes ..) _ _

@[simp] theorem State.closeIfClosing_wholes (s : State) (side : Side) : (s.closeIfClosing side).wholes = s.wholes := by
  unfold State.closeIfClosing
  split <;> rfl

@[simp] theorem State.fallBack_wholes (s : State) (side : Side) (r : StartResult) (d : Nat) : (s.fallBack side r d).wholes = s.wholes := by
  unfold State.fallBack State.arriveAuthorized State.arriveOpen State.enterIdle State.abandonStart
  dsimp only
  (repeat' split) <;> simp

@[simp] theorem State.modSale_wholes (s : State) (side : Side) (f : Sale → Sale) : (s.modSale side f).wholes = s.wholes := by
  unfold State.modSale
  split <;> rfl

@[simp] theorem State.lockSale_wholes (s : State) (side : Side) (p : Nat) : (s.lockSale side p).wholes = s.wholes := by
  unfold State.lockSale
  dsimp only
  split <;> simp [State.beginStartCheck]

@[simp] theorem State.gate_wholes (s : State) (side : Side) : (s.gate side).wholes = s.wholes := by
  unfold State.gate
  dsimp only
  (repeat' split) <;> simp

@[simp] theorem State.finishLoad_wholes (s : State) : s.finishLoad.wholes = s.wholes := by
  unfold State.finishLoad
  (repeat' split) <;> simp

/-! ## Stages and store steps -/

@[simp] theorem State.endStage_wholes (s : State) (n : Fin 6) (c : Nat) : (s.endStage n c).wholes = s.wholes := rfl
@[simp] theorem State.beginStage_wholes (s : State) (n : Nat) (t : Option Nat) : (s.beginStage n t).wholes = s.wholes := rfl

@[simp] theorem State.examinePanels_wholes (s : State) : s.examinePanels.wholes = s.wholes := by
  unfold State.examinePanels State.beginMeterSettle
  split <;> simp

@[simp] theorem State.refreshPanel_wholes (s : State) (side : Side) (g : Fin 8) : (s.refreshPanel side g).wholes = s.wholes := rfl

@[simp] theorem State.refreshSide_wholes (s : State) (side : Side) : (s.refreshSide side).wholes = s.wholes :=
  foldl_wholes (f := fun s g => s.refreshPanel side g) (fun _ _ => rfl) _ s

@[simp] theorem State.requestSegment_wholes (s : State) (side : Side) (o g : Bool) : (s.requestSegment side o g).wholes = s.wholes := by
  unfold State.requestSegment
  split <;> simp

@[simp] theorem State.reportRestored_wholes (s : State) : s.reportRestored.wholes = s.wholes := by
  unfold State.reportRestored
  dsimp only
  split <;> simp [State.beginDisplayTest, State.refreshPanels]

@[simp] theorem State.answer_wholes (s : State) (q : Requester) : (s.answer q).wholes = s.wholes := by
  cases q with
  | freeze side => cases side <;> rfl
  | card | loadPrice | nightReader | nightMeters | header | rebuild => simp [State.answer, State.writeIdentity, State.rebuildDone]

@[simp] theorem State.beginStep_wholes (s : State) : s.beginStep.1.wholes = s.wholes := by
  unfold State.beginStep
  split
  · rfl
  · dsimp only
    split
    · rfl
    · split <;> rfl

@[simp] theorem State.runStore_wholes (n : Nat) (s : State) : (State.runStore n s).wholes = s.wholes := by
  induction n generalizing s with
  | zero => rfl
  | succ n ih =>
    unfold State.runStore
    dsimp only
    split
    · rw [ih, State.answerAll, foldl_wholes State.answer_wholes, State.beginStep_wholes]
    · rfl

/-! ## The displays and the end of an event -/

@[simp] theorem State.updateField_wholes (s : State) (side : Side) (f : FieldId) (c : Content) :
    (s.updateField side f c).wholes = s.wholes := rfl

@[simp] theorem State.sendContents_wholes (s : State) (side : Side) : (s.sendContents side).wholes = s.wholes := by
  have hl : (s.sendLegal side).wholes = s.wholes := by
    unfold State.sendLegal
    split
    · rfl
    · exact foldl_wholes (f := fun u f => u.updateField side f ((s.pos side).legalContent f)) (fun _ _ => rfl) _ _
  unfold State.sendContents
  split <;> simp [hl]

@[simp] theorem State.serveLink_wholes (s : State) (side : Side) : (s.serveLink side).wholes = s.wholes := by
  have hs : (s.serve side).wholes = s.wholes := by
    unfold State.serve
    (repeat' split) <;> rfl
  refine Eq.trans (foldl_wholes (fun _ _ => ?_) _ _) hs
  split <;> rfl

/-- The end of an event writes no part of a mirror whole. -/
theorem State.react_wholes (s : State) : s.react.wholes = s.wholes :=
  State.react_induction (R := fun u => u.wholes = s.wholes) rfl
    (fun u hu => by simp [State.examine_def, State.eventEnd, State.sendAll, hu]) fun u hu => by simp [State.serveLinks, hu]

end Sys2Proof.Machine
end

section
/-! PROOFS. The end of a second (R9, R22). -/
namespace Sys2Proof.Machine

variable {s t u v : State} {P : List Part}

/-- A part marked whole is shown as it stands, where the counts of the meters are marked. -/
theorem publish_meterCounts (s0 s : State) (h : MirrorPart.meterCounts ∈ s.wholes) :
    (publish s0 s).mirrored .meterCounts ∧ (publish s0 s).mirrors.genMeter = s.mirrors.genMeter + 2 := by
  have hc : s.mirrors.wholes.contains .meterCounts = true := List.contains_iff_mem.mpr h
  constructor
  · show (if s.mirrors.wholes.contains .meterCounts then s.meterCountsImage.map some else s.mirrors.meterCounts) = _
    rw [if_pos hc]
    rfl
  · show stepGeneration s.mirrors.genMeter (_ || s.mirrors.wholes.contains .meterCounts) = _
    rw [hc, Bool.or_true]
    rfl

theorem State.endSecond_acts (s : State) : Acts s s.endSecond [.meters] := by
  unfold State.endSecond
  exact Acts.writeWhole (Acts.modMiu (.refl s _) _ (by decide)) _

theorem State.endSecond_meter (s : State) (m : MeterNo) :
    s.endSecond.meter m = { s.meter m with rate := (s.meter m).tally, tally := 0 } := by
  simp [State.endSecond, State.meter, State.modMiu]

theorem State.endSecond_routes (s : State) : s.endSecond.miu.routes = s.miu.routes := rfl

theorem State.endSecond_wholes (s : State) : MirrorPart.meterCounts ∈ s.endSecond.wholes :=
  show MirrorPart.meterCounts ∈ MirrorPart.meterCounts :: s.mirrors.wholes from List.mem_cons_self

/-- Settles O18: the counts' image is written whole, and the end of the event leaves rates and tallies. -/
theorem secondSetsCountRates : Obligations.SecondSetsCountRates := by
  intro s hm
  have hr := (Acts.reactAll s.endSecond).mirrors
  have ha := s.endSecond_acts
  obtain ⟨hw1, hw2⟩ := publish_meterCounts s s.endSecond.react (by rw [State.react_wholes]; exact s.endSecond_wholes)
  refine ⟨_, poweredEvent_on hm State.endSecond, fun m => ?_, hw1, hw2.trans ?_, fun hc => ?_⟩
  · have hl := s.endSecond.react_meter m
    rw [publish_meter]
    generalize s.endSecond.react = u at hl ⊢
    rw [hl.rate, hl.tally, hl.lifetime, State.endSecond_meter]
    exact ⟨rfl, rfl, rfl⟩
  · have hg := congrArg Mirrors.genMeter (hr.trans ha.mirrors)
    generalize s.endSecond.react = u at hg ⊢
    exact congrArg (· + 2) hg
  · have hu : s.endSecond.calm := (ha.mono (by decide)).calm_meters s.endSecond_routes hc
    exact Acts.published (Acts.react_calm (ha.mono (by decide)) hu (by decide))

end Sys2Proof.Machine
end

section
/-! PROOFS. The satellite nozzle (R15, R119). -/
namespace Sys2Proof.Machine

variable {s t u v w : State} {P Q : List Part} {side : Side} {x : Sale} {m : MeterNo}

/-! ## Effects narrowed to the parts they change -/

/-- An effect that keeps some of the parts it may touch touches the others. -/
theorem Acts.narrow (ha : Acts s t P) (hk : ∀ p ∈ P, p ∉ Q → Part.kept s t p) : Acts s t Q :=
  ⟨fun p hp => if h : p ∈ P then hk p h hp else ha.frame p h, ha.memory, ha.mirrors, ha.notices⟩

/-- What positions carry on goes on waiting, meters changed and notices raised besides. -/
theorem Acts.calm_sales (ha : Acts v w [.notices, .meters, .positions]) (hr : w.miu.routes = v.miu.routes) (hc : v.calm)
    (hp : ∀ x, (v.pos x).carriesOn (w.pos x)) : w.calm := by
  have hw : Acts v { w with ntc := v.ntc } [.meters, .positions] := by
    refine ⟨fun p hn => ?_, ha.memory, ha.mirrors, .refl _⟩
    by_cases e : p = .notices
    · subst e; rfl
    · have hp := ha.frame p (by simp_all)
      cases p <;> first | exact absurd rfl e | exact hp
  exact calm_carriesOn (t := { w with ntc := v.ntc }) (a := v.pru.accrued) (hw.mono (by decide)) hr (ha.frame .prices (by decide)) hp hc

/-! ## The level -/

theorem State.setSatellite_acts (s : State) (side : Side) (b : Bool) : Acts s (s.setSatellite side b) [.inputs] :=
  Acts.setSatellite (.refl s _) side b (by decide)

theorem State.setSatellite_calm (hc : s.calm) (side : Side) (b : Bool) : (s.setSatellite side b).calm :=
  (s.setSatellite_acts side b).calm hc (by decide) (by decide) (by decide) (fun _ => rfl)
    ((s.setSatellite_acts side b).panelsStand (by decide) (by decide) (by decide) (by decide))

theorem State.setSatellite_satellites (s : State) (side : Side) (b : Bool) : (s.setSatellite side b).iwu.satellites.get side = some b := by
  simp [State.setSatellite, State.modIwu]

/-- A satellite level that does no more than be taken. -/
theorem satellite_level_event (hc : s.calm) (b : Bool) : (publish s (s.setSatellite side b).react).iwu.satellites.get side = some b
    ∧ s.changesOnly (publish s (s.setSatellite side b).react) [.inputs, .displays] := by
  have hr : Acts (s.setSatellite side b) (s.setSatellite side b).react [.displays] :=
    Acts.react_calm (.refl _ _) (State.setSatellite_calm hc side b) (by decide)
  refine ⟨?_, Acts.published (((s.setSatellite_acts side b).mono (by decide)).trans (hr.mono (by decide)))⟩
  rw [publish_iwu, hr.frame .inputs (by decide), State.setSatellite_satellites]

/-! ## The request -/

/-- The position's sale makes a satellite request (R15). -/
def Position.asksSatellite (p : Position) (x : Sale) : Bool :=
  x.satelliteHonoured && !x.claims.isEmpty && !(x.claims.any fun c => c.role == .satellite) && (p.st.isStarting || p.st.isDispensing)

theorem State.requestSatellite_none (h : (s.pos side).sale = none) : s.requestSatellite side = s := by
  unfold State.requestSatellite
  dsimp only
  rw [h]

theorem State.requestSatellite_idle (h : (s.pos side).sale = some x) (ha : (s.pos side).asksSatellite x = false) :
    s.requestSatellite side = s := by
  unfold State.requestSatellite
  dsimp only
  rw [h]
  exact if_neg (by rw [← Position.asksSatellite, ha]; decide)

theorem State.requestSatellite_single (h : (s.pos side).sale = some x) (hm : (s.route side x.hose).secondary = none) :
    s.requestSatellite side = s := by
  unfold State.requestSatellite
  dsimp only
  rw [h]
  dsimp only
  rw [hm]
  dsimp only
  split <;> rfl

theorem State.requestSatellite_asked (h : (s.pos side).sale = some x) (ha : (s.pos side).asksSatellite x = true)
    (hm : (s.route side x.hose).secondary = some m) : s.requestSatellite side =
      if (s.meter m).refuses.isSome then
        (s.modSale side fun sl => { sl with flags := { sl.flags with satelliteBusy := true } }).raisePos side .satelliteBusy (m.val + 1)
      else s.grant side m .satellite := by
  unfold State.requestSatellite
  dsimp only
  rw [h]
  dsimp only
  rw [if_pos (by rw [← Position.asksSatellite, ha]), hm]
  rfl

theorem Meter.refuses_isSome (m : Meter) : m.refuses.isSome = (m.owner.isSome || m.faulted) := by
  unfold Meter.refuses
  cases m.owner <;> cases m.faulted <;> rfl

/-! ## A meter that refuses, and one that grants -/

/-- The flag that a refused satellite request sets. -/
def State.satelliteRefused (s : State) (side : Side) : State :=
  s.modSale side fun sl => { sl with flags := { sl.flags with satelliteBusy := true } }

theorem State.satelliteRefused_acts (h : (s.pos side).sale = some x) : Acts s (s.satelliteRefused side) [.positions] := by
  refine Acts.narrow (s.modSale_acts side _) fun p hp hn => ?_
  obtain rfl | rfl : p = .positions ∨ p = .prices := by simpa using hp
  · exact absurd (by decide) hn
  · show (s.modSale side _).pru = s.pru
    rw [State.modSale_pru_eq h]
    cases hf : s.pru.accrued
    simp [Accrued.gain, ← hf]

theorem State.grant_acts (s : State) (side : Side) (m : MeterNo) (role : Role) : Acts s (s.grant side m role) [.meters, .positions] := by
  have ha : Acts s (s.grant side m role) [.meters, .positions, .prices] := Acts.grant (.refl s _) side m role (List.Subset.refl _)
  refine ha.narrow fun p hp hn => ?_
  obtain rfl | rfl | rfl : p = .meters ∨ p = .positions ∨ p = .prices := by simpa using hp
  · exact absurd (by decide) hn
  · exact absurd (by decide) hn
  · exact State.modSale_pru fun _ => rfl

theorem State.grant_meter (s : State) (side : Side) (m : MeterNo) (role : Role) :
    (s.grant side m role).meter m = { s.meter m with owner := some (side, role), phaseErrors := 0 } := by
  show ((s.grant side m role).miu.meters)[m] = _
  rw [State.grant_miu]
  exact s.modMeter_meter m _

theorem State.grant_routes (s : State) (side : Side) (m : MeterNo) (role : Role) : (s.grant side m role).miu.routes = s.miu.routes := by
  rw [State.grant_miu]; rfl

/-- An event after a satellite's level that changes meters, notices and one side's sale. -/
theorem satellite_event (hc : s.calm) (ha : Acts (s.setSatellite side true) w [.notices, .meters, .positions])
    (hr : w.miu.routes = s.miu.routes) (ho : w.pos (other side) = s.pos (other side)) (hp : (s.pos side).carriesOn (w.pos side)) :
    (publish s w.react).iwu.satellites.get side = some true ∧ (publish s w.react).miu = w.miu
      ∧ (∀ x, (publish s w.react).pos x = w.pos x)
      ∧ s.changesOnly (publish s w.react) [.inputs, .meters, .positions, .notices, .displays] := by
  have hv := s.setSatellite_acts side true
  have hcalm : w.calm := ha.calm_sales hr (State.setSatellite_calm hc side true) fun x => by
    rcases eq_or_other side x with e | e <;> rw [e]
    · exact hp
    · rw [ho]; exact Position.carriesOn_refl _
  have hw : Acts w w.react [.displays] := Acts.react_calm (.refl _ _) hcalm (by decide)
  refine ⟨?_, ?_, fun x => by rw [publish_pos, hw.pos_eq (by decide)],
    Acts.published ((hv.mono (by decide)).trans ((ha.mono (by decide)).trans (hw.mono (by decide))))⟩
  · rw [publish_iwu, hw.frame .inputs (by decide), ha.frame .inputs (by decide), State.setSatellite_satellites]
  · rw [publish_miu, hw.frame .meters (by decide)]

/-! ## The commands -/

theorem exec_satelliteLift (hm : s.mainSupply = true) (hl : s.iwu.satellites.get side ≠ some true) :
    exec (.satelliteNozzleLift side) s = .next (publish s ((s.setSatellite side true).requestSatellite side).react) :=
  eventWhen_on hm (bne_iff_ne.mpr hl) _

theorem exec_satelliteHang (hm : s.mainSupply = true) (hl : s.iwu.satellites.get side ≠ some false) :
    exec (.satelliteNozzleHang side) s = .next (publish s (s.setSatellite side false).react) :=
  eventWhen_on hm (bne_iff_ne.mpr hl) _

/-- A lift whose sale makes no request. -/
theorem satelliteLift_unasked (hc : s.calm) (hn : (s.setSatellite side true).requestSatellite side = s.setSatellite side true) :
    (publish s ((s.setSatellite side true).requestSatellite side).react).iwu.satellites.get side = some true
      ∧ s.changesOnly (publish s ((s.setSatellite side true).requestSatellite side).react) [.inputs, .displays] := by
  rw [hn]
  exact satellite_level_event hc true

theorem satelliteLift_asked (hc : s.calm) (hx : (s.pos side).sale = some x) (hs : (s.route side x.hose).secondary = some m)
    (hq : (s.pos side).asksSatellite x = true) :
    let t := publish s ((s.setSatellite side true).requestSatellite side).react
    t.iwu.satellites.get side = some true ∧ t.pos (other side) = s.pos (other side)
      ∧ s.changesOnly t [.inputs, .meters, .positions, .notices, .displays]
      ∧ ((s.meter m).owner = none → (s.meter m).faulted = false →
          t.meter m = { s.meter m with owner := some (side, .satellite), phaseErrors := 0 }
            ∧ t.pos side = { s.pos side with sale := some { x with
                claims := x.claims ++ [{ meter := m, role := .satellite, n := 0, h := 0, k := (s.meter m).config.k }] } })
      ∧ (((s.meter m).owner.isSome = true ∨ (s.meter m).faulted = true) → t.miu = s.miu
          ∧ t.pos side = { s.pos side with sale := some { x with flags := { x.flags with satelliteBusy := true } } }
          ∧ s.reports t (.position side .satelliteBusy) (m.val + 1)) := by
  have hx' : ((s.setSatellite side true).pos side).sale = some x := hx
  have he : (s.setSatellite side true).requestSatellite side = _ := State.requestSatellite_asked hx' hq hs
  have hmeter : (s.setSatellite side true).meter m = s.meter m := rfl
  intro t
  rw [hmeter, Meter.refuses_isSome] at he
  cases hd : (s.meter m).owner.isSome || (s.meter m).faulted with
  | true =>
    rw [if_pos hd] at he
    have hw : Acts (s.setSatellite side true) ((s.setSatellite side true).satelliteRefused side) [.positions] := State.satelliteRefused_acts hx'
    have hp : ((s.setSatellite side true).satelliteRefused side).pos side = _ := State.modSale_pos_some hx' _
    have ho : ((s.setSatellite side true).satelliteRefused side).pos (other side) = s.pos (other side) :=
      State.modSale_pos_ne _ _ (other_ne side)
    have ha : Acts (s.setSatellite side true) ((s.setSatellite side true).requestSatellite side) [.notices, .meters, .positions] := by
      rw [he]
      exact Acts.raise (hw.mono (by decide)) _ _ (by decide)
    have hmiu : ((s.setSatellite side true).requestSatellite side).miu = s.miu := by
      rw [he]
      exact hw.frame .meters (by decide)
    have hside : ((s.setSatellite side true).requestSatellite side).pos side = _ := (congrArg (State.pos · side) he).trans hp
    have hother : ((s.setSatellite side true).requestSatellite side).pos (other side) = s.pos (other side) :=
      (congrArg (State.pos · (other side)) he).trans ho
    obtain ⟨e1, e2, e3, e4⟩ := satellite_event hc ha (by rw [hmiu]) hother (by rw [hside]; exact ⟨.inl rfl, by rw [hx]; rfl⟩)
    refine ⟨e1, (e3 _).trans hother, e4, fun h1 h2 => ?_, fun _ => ⟨e2.trans hmiu, (e3 _).trans hside, ?_⟩⟩
    · rw [h1, h2] at hd
      exact absurd hd (by decide)
    · refine State.reports.event ?_
      rw [he]
      have hn : ((s.setSatellite side true).satelliteRefused side).ntc = s.ntc := hw.frame .notices (by decide)
      exact State.reports_raise _ (congrArg (fun n : Ntc => n.sources[(Cause.position side .satelliteBusy).source]) hn) (Cause.bit_lt _)
  | false =>
    obtain ⟨h1, h2⟩ := Bool.or_eq_false_iff.mp hd
    rw [if_neg (by rw [hd]; decide)] at he
    have hp := (s.setSatellite side true).grant_pos side m .satellite
    have ho : ((s.setSatellite side true).grant side m .satellite).pos (other side) = s.pos (other side) :=
      State.grant_pos_ne _ m _ (other_ne side)
    obtain ⟨e1, e2, e3, e4⟩ := satellite_event hc (w := (s.setSatellite side true).requestSatellite side)
      (by rw [he]; exact (State.grant_acts _ side m _).mono (by decide)) (by rw [he]; exact State.grant_routes _ side m _)
      (by rw [he]; exact ho) (by rw [he, hp]; exact ⟨.inl rfl, by simp [hx', hx]⟩)
    refine ⟨e1, (e3 _).trans (by rw [he]; exact ho), e4, fun _ _ => ⟨?_, (e3 _).trans ?_⟩, fun h => ?_⟩
    · have hmm := (s.setSatellite side true).grant_meter side m .satellite
      rw [← he] at hmm
      show (State.miu t).meters[m] = _
      rw [e2]
      exact hmm
    · rw [he, hp, hx']
      rfl
    · rw [h1, h2] at h
      exact absurd h (by decide)

/-- Settles O30, by whether the sale makes a satellite request and the meter grants it. -/
theorem satelliteNozzleCommands : Obligations.SatelliteNozzleCommands := by
  refine ⟨fun s side x m hm hc hl hx hs => ⟨_, exec_satelliteLift hm hl, ?_⟩,
    fun s side hm hc hl hn => ⟨_, exec_satelliteLift hm hl, ?_⟩,
    fun s side hm hc hl => ⟨_, exec_satelliteHang hm hl, satellite_level_event hc false⟩⟩
  · cases hq : (s.pos side).asksSatellite x with
    | true =>
      obtain ⟨e1, e2, e3, e4, e5⟩ := satelliteLift_asked hc hx hs hq
      refine ⟨e1, e2, e3, fun _ _ _ _ => ⟨e4, e5⟩, fun hn => ?_⟩
      exfalso
      simp only [Position.asksSatellite, Bool.and_eq_true, Bool.not_eq_true', List.any_eq_false] at hq
      obtain ⟨⟨⟨h1, -⟩, h3⟩, h4⟩ := hq
      rcases hn with h | ⟨c, hmem, hrole⟩ | h
      · exact absurd (h1.symm.trans h) (by decide)
      · exact h3 c hmem (by rw [hrole]; decide)
      · rw [h] at h4
        exact absurd h4 (by decide)
    | false =>
      obtain ⟨e1, e2⟩ := satelliteLift_unasked hc (State.requestSatellite_idle (s := s.setSatellite side true) hx hq)
      have hpos : State.psc _ = s.psc := e2 .positions (by decide)
      refine ⟨e1, by simp only [State.pos, hpos], e2.mono (by decide), fun h1 h2 h3 h4 => ?_, fun _ => e2⟩
      exfalso
      simp only [Position.asksSatellite, h1, Bool.true_and, Bool.and_eq_false_iff, Bool.not_eq_false', List.isEmpty_iff, List.any_eq_true,
        Bool.or_eq_false_iff, beq_iff_eq] at hq
      rcases hq with (h | ⟨c, hmem, hrole⟩) | ⟨h, h'⟩
      · exact h2 h
      · exact h3 c hmem hrole
      · exact h4.elim (fun k => absurd (k.symm.trans h) (by decide)) fun k => absurd (k.symm.trans h') (by decide)
  · refine satelliteLift_unasked hc ?_
    cases hx : (s.pos side).sale with
    | none => exact State.requestSatellite_none (s := s.setSatellite side true) hx
    | some x =>
      rcases hn x hx with h | h
      · refine State.requestSatellite_idle (s := s.setSatellite side true) hx ?_
        simp [Position.asksSatellite, h]
      · exact State.requestSatellite_single (s := s.setSatellite side true) hx h

end Sys2Proof.Machine
end

section
/-! PROOFS. The general input watch (R124 to R126). -/
namespace Sys2Proof.Machine

variable {s t u v w : State} {P Q : List Part} {off : Nat} {c : Card}

/-! ## Patterns -/

theorem bit_of_shift (i j : Fin 8) : (1#8 <<< j.val).getLsbD i.val = (j == i) := by revert i j; decide

theorem foldl_pattern (f : Fin 8 → Bool) (l : List (Fin 8)) (n : Byte) (i : Fin 8) :
    (l.foldl (fun n i => if f i then n ||| (1#8 <<< i.val) else n) n).getLsbD i.val = (n.getLsbD i.val || l.any fun j => f j && j == i) := by
  induction l generalizing n with
  | nil => simp
  | cons j l ih =>
    rw [List.foldl_cons, ih, List.any_cons]
    cases hf : f j with
    | true => rw [if_pos rfl, BitVec.getLsbD_or, bit_of_shift, Bool.true_and, Bool.or_assoc]
    | false => simp

/-- A pattern has the bits of its inputs. -/
theorem patternOf_bit (f : Fin 8 → Bool) (i : Fin 8) : (patternOf f).getLsbD i.val = f i := by
  rw [patternOf, foldl_pattern]
  rw [show (0 : Byte).getLsbD i.val = false from by simp, Bool.false_or, Bool.eq_iff_iff, List.any_eq_true]
  exact ⟨fun ⟨j, _, hj⟩ => by simp_all, fun h => ⟨i, List.mem_finRange i, by simp [h]⟩⟩

theorem Iwu.pattern_bit (u : Iwu) (i : Fin 8) : u.pattern.getLsbD i.val = (u.general[i] == some true && !u.watch.mask.getLsbD i.val) :=
  patternOf_bit _ i

theorem Iwu.matchesCompare_iff (u : Iwu) : u.matchesCompare = true ↔ u.watch.mask ≠ 0xFF
    ∧ ∀ i : Fin 8, u.watch.mask.getLsbD i.val = true ∨ u.general[i] = some (u.watch.compare.getLsbD i.val) := by
  simp [Iwu.matchesCompare]

/-! ## The match and the latch -/

theorem State.evaluateMatch_armed (h1 : s.iwu.matchesCompare = true) (h2 : s.iwu.armed = true) :
    s.evaluateMatch = (s.latch .watchMatch).modIwu fun u => { u with armed := false } := by
  rw [State.evaluateMatch, if_pos h1, if_pos h2]

theorem State.evaluateMatch_spent (h1 : s.iwu.matchesCompare = true) (h2 : s.iwu.armed = false) : s.evaluateMatch = s := by
  rw [State.evaluateMatch, if_pos h1, if_neg (by rw [h2]; decide)]

theorem State.evaluateMatch_arms (h1 : s.iwu.matchesCompare = false) : s.evaluateMatch = s.modIwu fun u => { u with armed := true } := by
  rw [State.evaluateMatch, if_neg (by rw [h1]; decide)]

theorem State.evaluateMatch_acts (s : State) : Acts s s.evaluateMatch [.inputs, .notices] := by
  unfold State.evaluateMatch State.latch
  dsimp only
  split
  · split
    · exact Acts.modIwu (Acts.raise (Acts.modIwu (.refl s _) _ (by decide)) _ _ (by decide)) _ (by decide)
    · exact .refl s _
  · exact Acts.modIwu (.refl s _) _ (by decide)

theorem State.latch_reports (s : State) (c : Cause) : s.reports (s.latch c) c s.iwu.pattern.toNat :=
  State.reports_raise (t := s.modIwu fun u => { u with latched := s.iwu.pattern }) _ rfl (Cause.bit_lt c)

theorem State.latch_acts (s : State) (c : Cause) : Acts s (s.latch c) [.inputs, .notices] :=
  Acts.raise (Acts.modIwu (.refl s _) _ (by decide)) _ _ (by decide)

/-- Levels and notices let nothing go on that waits. -/
theorem Acts.calm_inputs (ha : Acts s u [.inputs, .notices]) (hc : s.calm) : u.calm :=
  ha.calm hc (by decide) (by decide) (by decide) (fun x => ha.pos_eq (by decide) x)
    (ha.panelsStand (by decide) (by decide) (by decide) (by decide))

/-! ## A change of inputs -/

/-- The state once the levels of an instant are taken. -/
def State.generalTaken (s : State) (which levels : Byte) : State := s.modIwu fun u => u.takeGeneral which levels

theorem State.generalTaken_general (s : State) (which levels : Byte) (i : Fin 8) : (s.generalTaken which levels).iwu.general[i] =
    if which.getLsbD i.val then some (levels.getLsbD i.val) else s.iwu.general[i] := by
  simp [State.generalTaken, State.modIwu, Iwu.takeGeneral]

theorem State.generalTaken_acts (s : State) (which levels : Byte) : Acts s (s.generalTaken which levels) [.inputs, .notices] :=
  Acts.modIwu (.refl s _) _ (by decide)

theorem Iwu.changes_iff (u : Iwu) (which levels : Byte) (i : Fin 8) :
    u.changes which levels i = true ↔ which.getLsbD i.val = true ∧ u.general[i] = some (!levels.getLsbD i.val) := by
  simp [Iwu.changes]

theorem State.judgeGeneral_event {which levels : Byte} (h : s.iwu.watch.mode = .event) : s.judgeGeneral which levels =
    if ∃ i, s.iwu.changes which levels i = true ∧ s.iwu.watch.mask.getLsbD i.val = false then (s.generalTaken which levels).latch .watchEvent
    else s.generalTaken which levels := by
  unfold State.judgeGeneral
  dsimp only
  rw [h]
  dsimp only
  simp only [List.any_eq_true, List.mem_finRange, true_and, Bool.and_eq_true, Bool.not_eq_true']
  rfl

theorem State.judgeGeneral_matching {which levels : Byte} (h : s.iwu.watch.mode = .matching) : s.judgeGeneral which levels =
    if ∃ i, s.iwu.changes which levels i = true then (s.generalTaken which levels).evaluateMatch else s.generalTaken which levels := by
  unfold State.judgeGeneral
  dsimp only
  rw [h]
  dsimp only
  simp only [List.any_eq_true, List.mem_finRange, true_and]
  rfl

theorem State.judgeGeneral_acts (s : State) (which levels : Byte) : Acts s (s.judgeGeneral which levels) [.inputs, .notices] := by
  have ht := s.generalTaken_acts which levels
  cases hm : s.iwu.watch.mode with
  | event =>
    rw [State.judgeGeneral_event hm]
    split
    · exact ht.trans (State.latch_acts _ _)
    · exact ht
  | matching =>
    rw [State.judgeGeneral_matching hm]
    split
    · exact ht.trans (State.evaluateMatch_acts _)
    · exact ht

theorem exec_generalInput {which levels : Byte} (hm : s.mainSupply = true)
    (h : ∃ i : Fin 8, which.getLsbD i.val = true ∧ s.iwu.general[i] ≠ some (levels.getLsbD i.val)) :
    exec (.generalInputChange which levels) s = .next (publish s (s.judgeGeneral which levels).react) := by
  refine eventWhen_on hm (bne_iff_ne.mpr fun e => ?_) _
  obtain ⟨i, hi, hne⟩ := h
  have hg := s.generalTaken_general which levels i
  rw [if_pos hi] at hg
  exact hne ((congrArg (fun u : Iwu => u.general[i]) e).symm.trans hg)

/-- The inputs after an event that levels and notices alone begin. -/
theorem inputs_event (ha : Acts s u [.inputs, .notices]) (hc : s.calm) : (publish s u.react).iwu = u.iwu ∧ (publish s u.react).ntc = u.ntc
    ∧ s.changesOnly (publish s u.react) [.inputs, .notices, .displays] := by
  have hr : Acts u u.react [.displays] := Acts.react_calm (.refl _ _) (ha.calm_inputs hc) (by decide)
  refine ⟨?_, ?_, Acts.published ((ha.mono (by decide)).trans (hr.mono (by decide)))⟩
  · rw [publish_iwu, hr.frame .inputs (by decide)]
  · rw [publish_ntc, hr.frame .notices (by decide)]

/-- What a latch leaves in the records and reports. -/
theorem latch_event {cause : Cause} (hv : v.ntc = s.ntc) (hw : w.iwu.latched = v.iwu.pattern) (hn : w.ntc = (v.latch cause).ntc)
    (ht : t.iwu = w.iwu) (htn : t.ntc = w.ntc) : s.reports t cause t.iwu.latched.toNat
      ∧ ∀ i : Fin 8, t.iwu.latched.getLsbD i.val = (v.iwu.general[i] == some true && !v.iwu.watch.mask.getLsbD i.val) := by
  rw [ht, hw]
  refine ⟨?_, v.iwu.pattern_bit⟩
  have hr := v.latch_reports cause
  unfold State.reports State.notified at *
  rwa [htn, hn, ← hv]

theorem generalInput_event {which levels : Byte} (hm : s.mainSupply = true) (hc : s.calm)
    (h : ∃ i : Fin 8, which.getLsbD i.val = true ∧ s.iwu.general[i] ≠ some (levels.getLsbD i.val)) :
    ∃ t, exec (.generalInputChange which levels) s = .next t ∧ t.iwu = (s.judgeGeneral which levels).iwu
      ∧ t.ntc = (s.judgeGeneral which levels).ntc ∧ s.changesOnly t [.inputs, .notices, .displays] :=
  ⟨_, exec_generalInput hm h, inputs_event (s.judgeGeneral_acts which levels) hc⟩

/-! ## SET WATCH -/

/-- The settings of SET WATCH, armed. -/
def State.watchSet (s : State) (c : Card) (m : WatchMode) : State :=
  s.modIwu fun u => { u with watch := { interval := c.b 0, mode := m, mask := c.byte 2, compare := c.byte 3 }, armed := true }

/-- What SET WATCH makes of the watch, the match judged at once in MATCH mode. -/
def State.watchJudged (s : State) (c : Card) (m : WatchMode) : State :=
  match m with
  | .event => s.watchSet c m
  | .matching => (s.watchSet c m).evaluateMatch

theorem WatchMode.ofCode_code (m : WatchMode) : WatchMode.ofCode m.code = some m := by cases m <;> rfl

theorem decideSetWatch_accepts {m : WatchMode} (hw : 1 ≤ c.words.toNat) (h1 : 1 ≤ c.b 0) (h2 : c.b 0 ≤ 20) (hm : c.b 1 = m.code)
    (hs : s.storeClosed = false) :
    decideSetWatch off c s = (((s.watchJudged c m).touch .iwu 25).touch .iwu 26).finishOnConfig .site off := by
  have hshort : c.short .setWatch = false := decide_eq_false (Nat.not_lt.mpr hw)
  unfold decideSetWatch
  rw [if_neg (by rw [hshort]; simp only [Bool.false_eq_true, false_or, not_or]; omega), hm, WatchMode.ofCode_code]
  dsimp only
  rw [if_neg (by rw [hs]; decide)]
  cases m <;> rfl

theorem State.watchSet_acts (s : State) (c : Card) (m : WatchMode) : Acts s (s.watchSet c m) [.inputs, .notices] :=
  Acts.modIwu (.refl s _) _ (by decide)

theorem State.watchJudged_acts (s : State) (c : Card) (m : WatchMode) : Acts s (s.watchJudged c m) [.inputs, .notices] := by
  cases m with
  | event => exact s.watchSet_acts c _
  | matching => exact (s.watchSet_acts c _).trans (State.evaluateMatch_acts _)

theorem State.evaluateMatch_kept (s : State) : s.evaluateMatch.iwu.watch = s.iwu.watch ∧ s.evaluateMatch.iwu.general = s.iwu.general := by
  unfold State.evaluateMatch
  (repeat' split) <;> exact ⟨rfl, rfl⟩

theorem State.watchJudged_kept (s : State) (c : Card) (m : WatchMode) :
    (s.watchJudged c m).iwu.watch = { interval := c.b 0, mode := m, mask := c.byte 2, compare := c.byte 3 }
      ∧ (s.watchJudged c m).iwu.general = s.iwu.general := by
  cases m with
  | event => exact ⟨rfl, rfl⟩
  | matching => exact State.evaluateMatch_kept _

theorem exec_setWatch_accepts {m : WatchMode} (h : s.holds .setWatch off c) (hw : 1 ≤ c.words.toNat) (h1 : 1 ≤ c.b 0) (h2 : c.b 0 ≤ 20)
    (hm : c.b 1 = m.code) (hs : s.storeClosed = false) :
    ∃ t, exec .setWatch s = .next t ∧ t.iwu = (s.watchJudged c m).iwu ∧ (s.watchJudged c m).ntc.Grows t.ntc
      ∧ s.startsStep t [.config] .site off ∧ (s.calm → s.storeFree → s.changesOnly t [.inputs, .notices, .lanes, .store, .displays]) := by
  refine ⟨_, exec_command_on (k := .setWatch) h, ?_⟩
  simp only [Kind.decision]
  rw [decideSetWatch_accepts hw h1 h2 hm hs]
  have hj := s.watchJudged_acts c m
  generalize hu : ((s.watchJudged c m).touch .iwu 25).touch .iwu 26 = u
  have hau : Acts s u [.inputs, .notices] := hu ▸ Acts.touch (Acts.touch hj _ _) _ _
  have hi : u.iwu = (s.watchJudged c m).iwu := by rw [← hu]; rfl
  have hn : u.ntc = (s.watchJudged c m).ntc := by rw [← hu]; rfl
  obtain ⟨e1, e2⟩ := finishOnConfig_event (off := off) hau (by decide) (by decide) (by decide) hau.calm_inputs
  refine ⟨?_, ?_, e1, fun k1 k2 => finishOnConfig_frame hau (e2 k1 k2)⟩
  · rw [publish_iwu, (Acts.reactAll _).frame .inputs (by decide), (Acts.onConfig u off).frame .inputs (by decide), hi]
  · rw [publish_ntc, ← hn]
    exact (Acts.onConfig u off).notices.trans (Acts.reactAll _).notices

/-! ## The obligation -/

/-- The watch in EVENT mode (R124). -/
theorem judgeGeneral_event_mode {which levels : Byte} (hmode : s.iwu.watch.mode = .event) (ht : t.iwu = (s.judgeGeneral which levels).iwu)
    (htn : t.ntc = (s.judgeGeneral which levels).ntc) :
    t.iwu.armed = s.iwu.armed
      ∧ ((∃ i, s.iwu.changes which levels i = true ∧ s.iwu.watch.mask.getLsbD i.val = false) →
          s.reports t .watchEvent t.iwu.latched.toNat ∧ ∀ i : Fin 8, t.iwu.latched.getLsbD i.val =
            ((s.generalTaken which levels).iwu.general[i] == some true && !s.iwu.watch.mask.getLsbD i.val))
      ∧ (¬ (∃ i, s.iwu.changes which levels i = true ∧ s.iwu.watch.mask.getLsbD i.val = false) →
          t.iwu.latched = s.iwu.latched ∧ t.ntc = s.ntc) := by
  have he := State.judgeGeneral_event (levels := levels) (which := which) hmode
  by_cases hx : ∃ i, s.iwu.changes which levels i = true ∧ s.iwu.watch.mask.getLsbD i.val = false
  · rw [if_pos hx] at he
    rw [he] at ht htn
    exact ⟨by rw [ht]; rfl, fun _ => latch_event (v := s.generalTaken which levels) rfl rfl rfl ht htn, fun k => absurd hx k⟩
  · rw [if_neg hx] at he
    rw [he] at ht htn
    exact ⟨by rw [ht]; rfl, fun k => absurd k hx, fun _ => ⟨by rw [ht]; rfl, htn⟩⟩

/-- The watch in MATCH mode (R125). -/
theorem judgeGeneral_match_mode {which levels : Byte} (hmode : s.iwu.watch.mode = .matching) (ht : t.iwu = (s.judgeGeneral which levels).iwu)
    (htn : t.ntc = (s.judgeGeneral which levels).ntc) :
    let v := s.generalTaken which levels
    let changed := ∃ i, s.iwu.changes which levels i = true
    let quiet := t.iwu.latched = s.iwu.latched ∧ t.ntc = s.ntc
    (changed → v.iwu.matchesCompare = true → s.iwu.armed = true →
        (s.reports t .watchMatch t.iwu.latched.toNat ∧ ∀ i : Fin 8, t.iwu.latched.getLsbD i.val =
          (v.iwu.general[i] == some true && !s.iwu.watch.mask.getLsbD i.val)) ∧ t.iwu.armed = false)
      ∧ (changed → v.iwu.matchesCompare = true → s.iwu.armed = false → quiet ∧ t.iwu.armed = false)
      ∧ (changed → ¬ v.iwu.matchesCompare = true → quiet ∧ t.iwu.armed = true)
      ∧ (¬ changed → quiet ∧ t.iwu.armed = s.iwu.armed) := by
  intro v changed quiet
  have he := State.judgeGeneral_matching (levels := levels) (which := which) hmode
  by_cases hx : ∃ i, s.iwu.changes which levels i = true
  · rw [if_pos hx] at he
    rw [he] at ht htn
    refine ⟨fun _ h1 h2 => ?_, fun _ h1 h2 => ?_, fun _ h1 => ?_, fun k => absurd hx k⟩
    · rw [State.evaluateMatch_armed h1 h2] at ht htn
      refine ⟨latch_event (v := v) (w := (v.latch .watchMatch).modIwu fun u => { u with armed := false }) rfl rfl rfl ht htn, ?_⟩
      rw [ht]
      rfl
    · rw [State.evaluateMatch_spent h1 h2] at ht htn
      exact ⟨⟨by rw [ht]; rfl, htn⟩, by rw [ht]; exact h2⟩
    · rw [State.evaluateMatch_arms (by simpa using h1)] at ht htn
      exact ⟨⟨by rw [ht]; rfl, htn⟩, by rw [ht]; rfl⟩
  · rw [if_neg hx] at he
    rw [he] at ht htn
    exact ⟨fun k => absurd k hx, fun k => absurd k hx, fun k => absurd k hx, fun _ => ⟨⟨by rw [ht]; rfl, htn⟩, by rw [ht]; rfl⟩⟩

theorem State.generalTaken_matches (s : State) (which levels : Byte) : (s.generalTaken which levels).iwu.matchesCompare = true ↔
    s.iwu.watch.mask ≠ 0xFF ∧ ∀ i : Fin 8, s.iwu.watch.mask.getLsbD i.val = true
      ∨ (if which.getLsbD i.val then some (levels.getLsbD i.val) else s.iwu.general[i]) = some (s.iwu.watch.compare.getLsbD i.val) := by
  rw [Iwu.matchesCompare_iff]
  simp only [State.generalTaken_general]
  exact Iff.rfl

theorem State.judgeGeneral_kept (s : State) (which levels : Byte) : (s.judgeGeneral which levels).iwu.watch = s.iwu.watch
    ∧ (s.judgeGeneral which levels).iwu.general = (s.generalTaken which levels).iwu.general := by
  cases hm : s.iwu.watch.mode with
  | event => rw [State.judgeGeneral_event hm]; split <;> exact ⟨rfl, rfl⟩
  | matching =>
    rw [State.judgeGeneral_matching hm]
    split
    · exact State.evaluateMatch_kept _
    · exact ⟨rfl, rfl⟩

/-- Settles O42, by the watch's mode, the change and the match. -/
theorem generalInputWatch : Obligations.GeneralInputWatch := by
  constructor
  · intro s which levels hm hc h changed level matched
    obtain ⟨t, ht, hi, hn, hf⟩ := generalInput_event hm hc h
    obtain ⟨k1, k2⟩ := s.judgeGeneral_kept which levels
    have hlevel (i : Fin 8) : (s.generalTaken which levels).iwu.general[i] = level i := s.generalTaken_general which levels i
    have hmatch : (s.generalTaken which levels).iwu.matchesCompare = true ↔ matched := s.generalTaken_matches which levels
    have hchanged (i : Fin 8) : s.iwu.changes which levels i = true ↔ changed i := s.iwu.changes_iff which levels i
    refine ⟨t, ht, fun i => by rw [hi, k2, hlevel], by rw [hi, k1], hf, fun hmode => ?_, fun hmode => ?_⟩
    · obtain ⟨h1, h2, h3⟩ := judgeGeneral_event_mode hmode hi hn
      simp only [hchanged, hlevel] at h2 h3
      exact ⟨h1, h2, fun k => h3 fun ⟨i, hi, hk⟩ => absurd ((k i hi).symm.trans hk) (by decide)⟩
    · obtain ⟨h1, h2, h3, h4⟩ := judgeGeneral_match_mode hmode hi hn
      simp only [hchanged, hlevel, hmatch] at h1 h2 h3 h4
      exact ⟨h1, h2, h3, fun k => h4 fun ⟨i, hi⟩ => k i hi⟩
  · intro s off c m h hw h1 h2 hm hs matched
    obtain ⟨t, ht, hi, hn, hst, hf⟩ := exec_setWatch_accepts h hw h1 h2 hm hs
    obtain ⟨k1, k2⟩ := s.watchJudged_kept c m
    have hmatch : (s.watchSet c m).iwu.matchesCompare = true ↔ matched := Iwu.matchesCompare_iff _
    refine ⟨t, ht, by rw [hi, k1], by rw [hi, k2], hst, fun hx => ?_, fun hx hy => ?_, hf⟩
    · rw [hi]
      cases m with
      | event => exact ⟨rfl, rfl⟩
      | matching =>
        have hno : (s.watchSet c .matching).iwu.matchesCompare = false := by
          rw [← Bool.not_eq_true, hmatch]
          exact hx.resolve_left (by decide)
        rw [State.watchJudged, State.evaluateMatch_arms hno]
        exact ⟨rfl, rfl⟩
    · subst hx
      have he : s.watchJudged c .matching = _ := State.evaluateMatch_armed (s := s.watchSet c .matching) (hmatch.mpr hy) rfl
      have hr : s.reports (s.watchJudged c .matching) .watchMatch (s.watchSet c .matching).iwu.pattern.toNat := by
        rw [he]
        exact (s.watchSet c .matching).latch_reports .watchMatch
      rw [hi, he]
      exact ⟨rfl, hn.reports hr⟩

end Sys2Proof.Machine
end

section
/-! PROOFS. The seal, the doors, the tamper loops and the emergency stop (R62, R117, R120, R122, R123, R149). -/
namespace Sys2Proof.Machine

variable {s t u v w : State} {P Q : List Part} {side : Side} {x : Sale}

/-! ## Levels and their notices -/

/-- The event of a level that is taken, with its notice where it is reported (R117). -/
theorem level_event (hc : s.calm) {f : Iwu → Iwu} {cause : Cause} {d : Nat} (r : Bool) :
    let t := publish s (if r then (s.modIwu f).raise cause d else s.modIwu f).react
    t.iwu = f s.iwu ∧ (r = true → s.reports t cause d) ∧ (r = false → t.ntc = s.ntc) ∧ s.changesOnly t [.inputs, .notices, .displays] := by
  have ha : Acts s (s.modIwu f) [.inputs, .notices] := Acts.modIwu (.refl s _) _ (by decide)
  cases r with
  | true =>
    obtain ⟨e1, -, e3⟩ := inputs_event (Acts.raise ha cause d (by decide)) hc
    exact ⟨e1, fun _ => State.reports.event (State.reports_raise (t := s.modIwu f) d rfl (Cause.bit_lt _)), fun k => absurd k (by decide), e3⟩
  | false =>
    obtain ⟨e1, e2, e3⟩ := inputs_event ha hc
    exact ⟨e1, fun k => absurd k (by decide), fun _ => e2, e3⟩

/-- The notice of a level that is open, or that was recognised before. -/
theorem reports_iff {old : Option Bool} {v : Bool} : (reports old v = true ↔ v = true ∨ old ≠ none)
    ∧ (reports old v = false ↔ v = false ∧ old = none) := by
  cases v <;> cases old <;> simp [reports]

/-- What a change of a level does, as the statement says it. -/
theorem level_change (hc : s.calm) {f : Iwu → Iwu} {cause : Cause} {d : Nat} (old : Option Bool) (v : Bool) :
    let t := publish s (if reports old v then (s.modIwu f).raise cause d else s.modIwu f).react
    t.iwu = f s.iwu ∧ (v = true ∨ old ≠ none → s.reports t cause d) ∧ (v = false → old = none → t.ntc = s.ntc)
      ∧ s.changesOnly t [.inputs, .notices, .displays] := by
  obtain ⟨e1, e2, e3, e4⟩ := level_event hc (f := f) (cause := cause) (d := d) (reports old v)
  exact ⟨e1, fun k => e2 (reports_iff.1.mpr k), fun k1 k2 => e3 (reports_iff.2.mpr ⟨k1, k2⟩), e4⟩

theorem exec_sealChange {b : Bool} (hm : s.mainSupply = true) (hl : s.iwu.calSeal ≠ some b) : exec (.sealChange b) s =
    .next (publish s (if reports s.iwu.calSeal b then (s.modIwu fun u => { u with calSeal := some b }).raise .seal 270
      else s.modIwu fun u => { u with calSeal := some b }).react) :=
  eventWhen_on hm (bne_iff_ne.mpr hl) _

theorem exec_doorChange {d : Door} {b : Bool} (hm : s.mainSupply = true) (hl : s.iwu.door d ≠ some b) : exec (.doorChange d b) s =
    .next (publish s (if reports (s.iwu.door d) b then (s.modIwu fun u => u.setDoor d b).raise .door (doorDetail d)
      else s.modIwu fun u => u.setDoor d b).react) :=
  eventWhen_on hm (bne_iff_ne.mpr hl) _

/-- A level that returns is reported unless it is recognised for the first time. -/
theorem level_return (hc : s.calm) {f : Iwu → Iwu} {cause : Cause} {d : Nat} (old : Option Bool) :
    let t := publish s (if old == none then s.modIwu f else (s.modIwu f).raise cause d).react
    t.iwu = f s.iwu ∧ (old ≠ none → s.reports t cause d) ∧ (old = none → t.ntc = s.ntc) ∧ s.changesOnly t [.inputs, .notices, .displays] := by
  cases old with
  | none =>
    obtain ⟨e1, -, e3, e4⟩ := level_event hc (f := f) (cause := cause) (d := d) false
    exact ⟨e1, fun k => absurd rfl k, fun _ => e3 rfl, e4⟩
  | some b =>
    obtain ⟨e1, e2, -, e4⟩ := level_event hc (f := f) (cause := cause) (d := d) true
    exact ⟨e1, fun _ => e2 rfl, fun k => absurd k (by simp), e4⟩

theorem exec_emergencyRelease (hm : s.mainSupply = true) (hl : s.iwu.emergency ≠ some false) : exec .emergencyStopRelease s =
    .next (publish s (if s.iwu.emergency == none then s.modIwu fun u => { u with emergency := some false }
      else (s.modIwu fun u => { u with emergency := some false }).raise .emergencyStop 271).react) :=
  eventWhen_on hm (bne_iff_ne.mpr hl) _

theorem exec_loopReturned {l : Loop} (hm : s.mainSupply = true) (hl : s.iwu.loop l ≠ some true) : exec (.loopReturned l) s =
    .next (publish s (if s.iwu.loop l == none then s.modIwu fun u => u.setLoop l true
      else (s.modIwu fun u => u.setLoop l true).raise .loopReturned (loopDetail l)).react) :=
  eventWhen_on hm (bne_iff_ne.mpr hl) _

/-! ## Effects that end starts and sales -/

/-- An effect that puts no start at the price gate, and leaves routes, prices and grade fields. -/
structure State.StopsStarts (s u : State) : Prop where
  acts : Acts s u [.inputs, .notices, .meters, .positions, .displays]
  routes : u.miu.routes = s.miu.routes
  boards : ∀ x, (s.board x).gradesLike (u.board x)
  gates : ∀ x, u.pos x = s.pos x ∨ (u.pos x).st ≠ .starting .gate

theorem State.StopsStarts.refl (s : State) : s.StopsStarts s := ⟨.refl s _, rfl, fun _ => ⟨rfl, fun _ => rfl⟩, fun _ => .inl rfl⟩

theorem State.StopsStarts.trans (h : s.StopsStarts u) (k : u.StopsStarts w) : s.StopsStarts w := by
  refine ⟨h.acts.trans k.acts, k.routes.trans h.routes, fun x => (h.boards x).trans (k.boards x), fun x => ?_⟩
  rcases k.gates x with e | e
  · rw [e]; exact h.gates x
  · exact .inr e

theorem State.fallBack_stopsStarts (s : State) (side : Side) (r : StartResult) (d : Nat) : s.StopsStarts (s.fallBack side r d) := by
  refine ⟨(s.fallBack_allActs side r d).mono (by decide), s.fallBack_routes side r d, fun x => s.fallBack_gradesLike side x r d, fun x => ?_⟩
  by_cases e : x = side
  · subst e; exact .inr (s.fallBack_not_gate x r d)
  · exact .inl (s.fallBack_pos_ne r d e)

theorem State.endSale_stopsStarts (s : State) (side : Side) (r : StopReason) : s.StopsStarts (s.endSale side r) := by
  have ha := s.endSale_acts side r
  refine ⟨ha.mono (by decide), congrArg Miu.routes (ha.frame .meters (by decide)), fun x => ?_, fun x => ?_⟩
  · have hd : (s.endSale side r).dlc = s.dlc := ha.frame .displays (by decide)
    rw [show (s.endSale side r).board x = s.board x by simp only [State.board, hd]]
    exact ⟨rfl, fun _ => rfl⟩
  · by_cases e : x = side
    · subst e
      refine .inr ?_
      rw [State.endSale, State.modPos_pos]
      exact fun k => by cases k
    · exact .inl (s.endSale_pos_ne r e)

/-- Nothing else goes on after such an effect, no price pending and the site not CLOSING. -/
theorem State.StopsStarts.calm (h : s.StopsStarts u) (hc : s.calm) (hn : s.noPending) (hs : s.ssu.site ≠ .closing) : u.calm := by
  have es : u.ssu = s.ssu := h.acts.frame .site (by decide)
  have ep : u.pru = s.pru := h.acts.frame .prices (by decide)
  have er : u.rsc = s.rsc := h.acts.frame .store (by decide)
  have eg (g : Fin 8) : u.grade g = s.grade g := by simp only [State.grade, ep]
  obtain ⟨hpan, -, -, hload, hstep, hgate, hst⟩ := hc
  refine ⟨State.panelsWait_congr es ep hpan, fun k => absurd (es ▸ k) hs, fun _ g k => ?_, State.loadWaits_congr es ep hload, ?_, fun x => ?_,
    State.panelsStand_congr (by rw [es]) h.routes ep (fun x => (h.boards x).1) (fun x n => .inl (by rw [(h.boards x).2 n])) hst⟩
  · rw [eg, hn g] at k
    exact absurd k (by decide)
  · unfold State.stepsWait; rw [er]; exact hstep
  · rcases h.gates x with e | e
    · exact State.gateWaits_congr e ep (hgate x)
    · exact fun k => absurd k e

/-- On a CLOSING site the night entry alone goes on after it. -/
theorem State.StopsStarts.nightOnly (h : s.StopsStarts u) (hc : s.calm) (hn : s.noPending) (hs : s.ssu.site = .closing) : u.NightOnly := by
  have es : u.ssu = s.ssu := h.acts.frame .site (by decide)
  have ep : u.pru = s.pru := h.acts.frame .prices (by decide)
  have eg (g : Fin 8) : u.grade g = s.grade g := by simp only [State.grade, ep]
  have hd : s.ssu.site ≠ .powerDown := by rw [hs]; decide
  obtain ⟨-, -, -, hload, hstep, hgate, hst⟩ := hc
  refine ⟨by rw [es, hs]; decide, fun g => by rw [eg]; exact hn g, fun l hl => ?_, fun x => ?_, ?_,
    State.queueOnly_congr (h.acts.frame .store (by decide)) (hstep.queueOnly _)⟩
  · simpa only [State.updating, eg] using hload hd l (by rw [← ep]; exact hl)
  · rcases h.gates x with e | e
    · exact State.gateWaits_congr e ep (hgate x)
    · exact fun k => absurd k e
  · exact State.panelsStandAll_congr h.routes ep (fun x => (h.boards x).1) (fun x n => .inl (by rw [(h.boards x).2 n])) (hst hd)

/-- The event of such an effect touches the night entry besides. -/
theorem State.StopsStarts.frame (h : s.StopsStarts u) (hc : s.calm) (hn : s.noPending) :
    s.changesOnly (publish s u.react) ([.inputs, .meters, .positions, .notices, .displays] ++ s.nightEntry) := by
  by_cases hs : s.ssu.site = .closing
  · have hp := (h.nightOnly hc hn hs).react_pru.trans (h.acts.frame .prices (by decide))
    have ha : Acts s u.react ([.prices, .inputs, .notices, .meters, .positions, .displays] ++ s.nightEntry) := by
      unfold State.nightEntry
      rw [if_pos hs]
      exact (h.acts.mono (by decide)).trans ((Acts.reactAll u).mono (by decide))
    generalize u.react = t at ha hp ⊢
    refine Acts.published (ha.narrow fun p hq hx => ?_)
    have e : p = .prices := by
      simp only [List.mem_append, List.mem_cons, List.not_mem_nil, or_false] at hq hx
      tauto
    subst e
    exact hp
  · have ha : Acts s u.react [.inputs, .notices, .meters, .positions, .displays] :=
      Acts.react_calm h.acts (h.calm hc hn hs) (by decide)
    refine Acts.published (ha.mono (List.Subset.trans ?_ (List.subset_append_left _ _)))
    decide

/-! ## The emergency stop at a position -/

theorem State.emergencyAt_starting (h : (s.pos side).st.isStarting = true) : s.emergencyAt side = s.fallBack side .emergency 0 := by
  rw [State.emergencyAt, if_pos h]

theorem State.emergencyAt_dispensing (h : (s.pos side).st.isDispensing = true) (hp : s.ssu.site ≠ .powerDown) :
    s.emergencyAt side = s.endSale side .emergency := by
  have hst : (s.pos side).st.isStarting = false := by cases k : (s.pos side).st <;> simp_all [PosState.isDispensing, PosState.isStarting]
  simp [State.emergencyAt, hst, h, State.powerDown, hp]

theorem State.emergencyAt_stands (h : (s.pos side).st.isStarting = false)
    (hd : (s.pos side).st.isDispensing = false ∨ s.ssu.site = .powerDown) : s.emergencyAt side = s := by
  rcases hd with hd | hd <;> simp [State.emergencyAt, h, hd, State.powerDown]

theorem State.emergencyAt_stopsStarts (s : State) (side : Side) : s.StopsStarts (s.emergencyAt side) := by
  unfold State.emergencyAt
  dsimp only
  split
  · exact s.fallBack_stopsStarts side _ _
  · split
    · exact s.endSale_stopsStarts side _
    · exact .refl s

theorem State.emergencyAt_pos_ne (s : State) {y : Side} (h : y ≠ side) : (s.emergencyAt side).pos y = s.pos y := by
  unfold State.emergencyAt
  dsimp only
  split
  · exact s.fallBack_pos_ne _ _ h
  · split
    · exact s.endSale_pos_ne _ h
    · rfl

theorem PosCause.source_ne {y : Side} (h : y ≠ side) (c d : PosCause) :
    (Cause.position y c).source ≠ (Cause.position side d).source := by
  cases y <;> cases side <;> first | exact absurd rfl h | simp [Cause.source]

/-- A side's fall-back raises notices of that position alone. -/
theorem State.fallBack_source (s : State) {c : Cause} (h : ∀ e, c.source ≠ (Cause.position side e).source) (r : StartResult) (d : Nat) :
    (s.fallBack side r d).ntc.sources[c.source] = s.ntc.sources[c.source] := by
  have hraise (u : State) (e : PosCause) (n : Nat) : (u.raisePos side e n).ntc.sources[c.source] = u.ntc.sources[c.source] := by
    rw [State.raisePos, Ntc.raise_source, if_neg (h e)]
  have hclose (u : State) : (u.closeIfClosing side).ntc.sources[c.source] = u.ntc.sources[c.source] := by
    unfold State.closeIfClosing State.closePos
    split
    · exact hraise _ _ _
    · rfl
  have hopen (u : State) : (u.arriveOpen side).ntc.sources[c.source] = u.ntc.sources[c.source] := by
    unfold State.arriveOpen
    refine (hclose _).trans ?_
    split <;> rfl
  have hgone : (s.abandonStart side).ntc.sources[c.source] = s.ntc.sources[c.source] :=
    congrArg (fun n : Ntc => n.sources[c.source]) (s.abandonStart_ntc side)
  unfold State.fallBack
  refine (hraise _ _ _).trans (Eq.trans ?_ hgone)
  cases (match (s.pos side).sale with
    | some sl => sl.held
    | none => none).or (s.pos side).auth with
  | some a => exact hclose _
  | none => exact hopen _

theorem State.emergencyAt_source (s : State) {c : Cause} (h : ∀ e, c.source ≠ (Cause.position side e).source) :
    (s.emergencyAt side).ntc.sources[c.source] = s.ntc.sources[c.source] := by
  unfold State.emergencyAt
  dsimp only
  split
  · exact s.fallBack_source h _ _
  · split
    · exact congrArg (fun n : Ntc => n.sources[c.source]) ((s.endSale_acts side _).frame .notices (by decide))
    · rfl

/-- A fall-back stays what it is while notices are added and the position stands. -/
theorem State.fallsBack.later {p : Position} {a : Authorization} {r : StartResult} {d : Nat} (h : s.fallsBack v side p a r d)
    (hn : v.ntc.Grows w.ntc) (hp : w.pos side = v.pos side) : s.fallsBack w side p a r d := by
  obtain ⟨h0, h1, h2⟩ := h
  rw [State.fallsBack, hp]
  exact ⟨hn.notified h0, fun hc => ⟨(h1 hc).1, hn.reports (h1 hc).2⟩, fun hc => ⟨(h2 hc).1, hn.reports (h2 hc).2⟩⟩

/-! ## The emergency stop at both positions -/

/-- The state once the stop's level is taken and both positions have met it. -/
def State.emergencyMet (s : State) : State := ((s.modIwu fun u => { u with emergency := some true }).emergencyAt .a).emergencyAt .b

theorem State.emergencyMet_stopsStarts (s : State) : s.StopsStarts s.emergencyMet := by
  have h0 : s.StopsStarts (s.modIwu fun u => { u with emergency := some true }) :=
    ⟨Acts.modIwu (.refl s _) _ (by decide), rfl, fun _ => ⟨rfl, fun _ => rfl⟩, fun _ => .inl rfl⟩
  exact (h0.trans (State.emergencyAt_stopsStarts _ .a)).trans (State.emergencyAt_stopsStarts _ .b)

theorem State.emergencyMet_iwu (s : State) : s.emergencyMet.iwu = { s.iwu with emergency := some true } := by
  have h (u : State) (y : Side) : (u.emergencyAt y).iwu = u.iwu :=
    (Acts.emergencyAt (.refl u [.notices, .meters, .positions, .prices, .displays]) y (List.Subset.refl _)).frame .inputs (by decide)
  rw [State.emergencyMet, h, h]
  rfl

/-- Each side meets the stop by itself: what stood before it at the side is what the event began with. -/
theorem State.emergencyMet_side (s : State) (side : Side) : ∃ v : State, v.ssu = s.ssu ∧ v.pos side = s.pos side
    ∧ (∀ c : PosCause, v.ntc.sources[(Cause.position side c).source] = s.ntc.sources[(Cause.position side c).source])
    ∧ s.emergencyMet.pos side = (v.emergencyAt side).pos side ∧ (v.emergencyAt side).ntc.Grows s.emergencyMet.ntc := by
  have hssu (u : State) (y : Side) : (u.emergencyAt y).ssu = u.ssu := (u.emergencyAt_stopsStarts y).acts.frame .site (by decide)
  cases side with
  | a => exact ⟨s.modIwu fun u => { u with emergency := some true }, rfl, rfl, fun _ => rfl, State.emergencyAt_pos_ne _ (by decide),
      (State.emergencyAt_stopsStarts _ .b).acts.notices⟩
  | b => exact ⟨_, hssu (s.modIwu fun u => { u with emergency := some true }) .a, State.emergencyAt_pos_ne _ (by decide),
      fun c => State.emergencyAt_source _ (PosCause.source_ne (by decide) c), rfl, .refl _⟩

theorem exec_emergencyStop (hm : s.mainSupply = true) (hl : s.iwu.emergency ≠ some true) :
    exec .emergencyStopAssertion s = .next (publish s (s.emergencyMet.raise .emergencyStop 271).react) :=
  eventWhen_on hm (bne_iff_ne.mpr hl) _

/-- A position that the stop leaves outside the gate is as it leaves it after the event. -/
theorem emergency_pos (h : (s.emergencyMet.pos side).st ≠ .starting .gate) :
    (publish s (s.emergencyMet.raise .emergencyStop 271).react).pos side = s.emergencyMet.pos side :=
  publish_react_pos (s := s.emergencyMet.raise .emergencyStop 271) h

theorem emergency_stands (h1 : (s.pos side).st.isStarting = false)
    (h2 : (s.pos side).st.isDispensing = false ∨ s.ssu.site = .powerDown) :
    (publish s (s.emergencyMet.raise .emergencyStop 271).react).pos side = s.pos side := by
  obtain ⟨v, e1, e2, -, e4, -⟩ := s.emergencyMet_side side
  rw [State.emergencyAt_stands (by rw [e2]; exact h1) (by rw [e1, e2]; exact h2), e2] at e4
  rw [emergency_pos (by rw [e4]; intro k; rw [k] at h1; exact absurd h1 (by decide)), e4]

/-- Settles O41, by the input and, at the emergency stop, the state of each position. -/
theorem inputChangesActAndAreReported : Obligations.InputChangesActAndAreReported := by
  refine ⟨fun s hm hc => ⟨fun v hl => ⟨_, exec_sealChange hm hl, level_change hc _ _⟩, fun v hl => ⟨_, exec_doorChange hm hl, level_change hc _ _⟩,
    fun v hl => ⟨_, exec_doorChange hm hl, level_change hc _ _⟩, fun hl => ⟨_, exec_emergencyRelease hm hl, level_return hc _⟩,
    fun hl => ⟨_, exec_loopReturned hm hl, level_return hc _⟩, fun hl => ⟨_, exec_loopReturned hm hl, level_return hc _⟩⟩, ?_⟩
  intro s hm hc hl
  have hss := s.emergencyMet_stopsStarts
  have hw : s.StopsStarts (s.emergencyMet.raise .emergencyStop 271) :=
    ⟨Acts.raise hss.acts _ _ (by decide), hss.routes, hss.boards, hss.gates⟩
  refine ⟨_, exec_emergencyStop hm hl, ?_, ?_, fun side h => ?_, fun side x a h hx ha => ?_, fun side x h hx hp => ?_, fun side h hp => ?_,
    fun hn => hw.frame hc hn⟩
  · rw [publish_iwu, (Acts.reactAll _).frame .inputs (by decide)]
    exact s.emergencyMet_iwu
  · refine State.reports.event (State.reports_raise _ ?_ (Cause.bit_lt _))
    have hne (y : Side) (e : PosCause) : Cause.emergencyStop.source ≠ (Cause.position y e).source := by cases y <;> simp [Cause.source]
    exact (State.emergencyAt_source _ (hne .b)).trans (State.emergencyAt_source _ (hne .a))
  · refine emergency_stands ?_ (.inl ?_)
    · rcases h with h | h | h | h
      · cases k : (s.pos side).st <;> simp_all [PosState.atRest, PosState.isStarting]
      all_goals rw [h]; rfl
    · rcases h with h | h | h | h
      · cases k : (s.pos side).st <;> simp_all [PosState.atRest, PosState.isDispensing]
      all_goals rw [h]; rfl
  · obtain ⟨v, e1, e2, e3, e4, e5⟩ := s.emergencyMet_side side
    have hb : ((v.pos side).sale.bind Sale.held).or (v.pos side).auth = some a := by rw [e2, hx]; exact ha
    have hf := State.fallBack_fallsBack hb .emergency 0
    rw [e2] at hf
    rw [State.emergencyAt_starting (by rw [e2]; exact h)] at e4 e5
    refine State.fallsBack.event (w := s.emergencyMet.raise .emergencyStop 271) ?_
      (by rw [State.raise_pos, e4]; exact v.fallBack_not_gate side _ _)
    exact (State.fallsBack_congr e1 e3 hf).later (e5.trans (Ntc.grows_raise _ _ _)) e4
  · obtain ⟨v, e1, e2, -, e4, -⟩ := s.emergencyMet_side side
    rw [State.emergencyAt_dispensing (by rw [e2]; exact h) (by rw [e1]; exact hp), State.endSale_endingWith (x := x) (by rw [e2]; exact hx), e2] at e4
    rw [emergency_pos (by rw [e4]; exact fun k => by cases k), e4]
  · exact emergency_stands (by cases k : (s.pos side).st <;> simp_all [PosState.isDispensing, PosState.isStarting]) (.inr hp)

end Sys2Proof.Machine
end

section
/-! PROOFS. The statement about NIGHT NOW and WAKE NOW, which fails in a state that no premise of it rules out: a night over whose store a
check still stands as running (R164, R174, R178, R184). -/
namespace Sys2Proof.Machine

/-- The site lane with the WAKE NOW card at 0900h, its owner not having decided. -/
def wakeNowLane : Lane := { Lane.default with st := .walking, held := some { offset := 0x900, card := wakeNowCard, phase := .undecided } }

/-- The night of `checkedNight`, and the host wakes the site by a card. -/
def checkedNightWakeNow : State :=
  { checkedNight with
    lanes := { dispense := .default, reader := .default, site := wakeNowLane },
    xm := [(0x900, 0x2F), (0x902, 1), (0x904, 1), (0x90A, 1)] }

theorem checkedNightWakeNow_calm : checkedNightWakeNow.calm := checkedNight_calm

theorem checkedNightWakeNow_holds : checkedNightWakeNow.holds .wakeNow 0x900 wakeNowCard := ⟨rfl, rfl, rfl⟩

/-- The wake asks for a check of its own; the HEADER step of the check before it completes in the same event and reports RESTORED. -/
theorem checkedNightWakeNow_restored :
    (decideWakeNow 0x900 wakeNowCard checkedNightWakeNow).rsc.check = .requested
      ∧ (publish checkedNightWakeNow (decideWakeNow 0x900 wakeNowCard checkedNightWakeNow).react).rsc.check = .none := by
  constructor <;> decide +kernel

/-- Refutes O51: a calm state does not tie a running store check to stage 1 of a wake, so that a wake which WAKE NOW begins from NIGHT need
not have its check requested when the event is over. Nothing is said here of NIGHT NOW, nor of the other site states. -/
theorem not_nightAndWakeCards : ¬ Obligations.NightAndWakeCards := by
  unfold Obligations.NightAndWakeCards
  rintro ⟨-, hwake⟩
  obtain ⟨t, ht, -, -, -, hnight⟩ :=
    hwake checkedNightWakeNow 0x900 wakeNowCard checkedNightWakeNow_holds (by decide) checkedNightWakeNow_calm (by decide) rfl
  obtain ⟨-, hcheck, -⟩ := hnight (.inl rfl)
  obtain rfl : publish checkedNightWakeNow (decideWakeNow 0x900 wakeNowCard checkedNightWakeNow).react = t :=
    Host.Outcome.next.inj ((exec_command_on (k := .wakeNow) checkedNightWakeNow_holds).symm.trans ht)
  have hrestored := checkedNightWakeNow_restored.2
  rw [hcheck] at hrestored
  exact absurd hrestored (by decide)

end Sys2Proof.Machine
end

section
/-! PROOFS. Cards of the reader's lane: SEND, ARM RECEIVE, DISARM RECEIVE, and the site lane's SET RELAY FLOOR (R132, R136, R137, R139, R141). -/
namespace Sys2Proof.Machine

variable {s t u v w : State} {P Q : List Part} {off : Nat} {c : Card} {o : CardOutcome}

/-! ## One cause raised -/

theorem SourceRec.gather_causes (r : SourceRec) {bit : Nat} (hb : bit < 16) (d : Half) (p : Bool) (i : Nat) :
    (r.gather bit d p).causes.getLsbD i = (r.causes.getLsbD i || i == bit) := by
  simp only [SourceRec.gather, BitVec.getLsbD_or, BitVec.getLsbD_shiftLeft, BitVec.getLsbD_one]
  congr 1
  rw [Bool.eq_iff_iff]
  simp only [Bool.and_eq_true, decide_eq_true_eq, Bool.not_eq_true', decide_eq_false_iff_not, beq_iff_eq]
  omega

/-- Notices that differ by one raised cause (R207). -/
theorem State.reportsAlone_raise {cause : Cause} {d : Nat} (ht : t.ntc = (u.raise cause d).ntc) (hu : u.ntc = s.ntc) :
    s.reportsAlone t cause d := by
  have hs (i : Fin 13) : t.ntc.sources[i] = if i = cause.source then
      s.ntc.sources[i].gather cause.bit (BitVec.ofNat 16 d) (s.ntc.presented == some cause.source) else s.ntc.sources[i] := by
    rw [ht, Ntc.raise_source, hu]
  have hc := (hs cause.source).trans (if_pos rfl)
  have hp : t.ntc.presented = s.ntc.presented := (congrArg Ntc.presented ht).trans (show u.ntc.presented = _ by rw [hu])
  have he : t.ntc.enable = s.ntc.enable := (congrArg Ntc.enable ht).trans (show u.ntc.enable = _ by rw [hu])
  unfold State.reportsAlone
  dsimp only
  rw [hc]
  exact ⟨rfl, SourceRec.gather_causes _ (Cause.bit_lt cause) _ _, rfl, rfl, fun i hi => (hs i).trans (if_neg hi), hp, he⟩

/-! ## SEND (R141) -/

theorem Card.buffer_eq (h : c.to ≤ 127) : c.buffer = some c.to := if_pos h

theorem State.parityGood_iff (a n : Nat) : s.parityGood a n = true ↔ ∀ b ∈ s.upset, b < a ∨ a + n ≤ b := by
  simp [State.parityGood]

theorem State.bytes_eq (s : State) (a n : Nat) : s.bytes a n = (List.range n).map fun i => Memory.read s.xm (a + i) := by
  induction n generalizing a with
  | zero => rfl
  | succ n ih =>
    rw [State.bytes, ih, List.range_succ_eq_map, List.map_cons, List.map_map]
    congr 1
    exact List.map_congr_left fun i _ => by simp only [Function.comp]; congr 1; omega

/-- The Send that an accepted card begins. -/
def State.newSend (s : State) (off : Nat) (c : Card) : Send :=
  { card := off, buffer := c.to, frame := frameBytes (c.byte 0) (s.bytes (c.to * 256) (c.b 1)), attempts := 0, holds := 0, last := none,
    phase := .sending }

/-- A SEND whose target and body are in range goes through the RIU's checks. -/
theorem decideSend_inRange (h1 : c.to ≤ 127) (h2 : 2 ≤ c.words.toNat) (h3 : c.b 0 = 1 ∨ c.b 0 = 2) (h4 : 1 ≤ c.b 1) (h5 : c.b 1 ≤ 250) :
    decideSend off c s = match s.sendRefusal c.to with
      | some o => s.refuseCard .reader o
      | none =>
        if s.parityGood (c.to * 256) (c.b 1) then (s.modRiu fun r => { r with send := some (s.newSend off c) }).waitCard .reader State.undoSend
        else s.refuseCard .reader .parity := by
  have hshort : c.short .send = false := decide_eq_false (Nat.not_lt.mpr h2)
  have hkind : knownFrameKind (c.byte 0) = true := by
    simp only [knownFrameKind, Bool.or_eq_true, beq_iff_eq]
    exact h3.imp (fun e => BitVec.eq_of_toNat_eq e) fun e => BitVec.eq_of_toNat_eq e
  unfold decideSend
  rw [Card.buffer_eq h1]
  dsimp only
  rw [if_neg (by simp only [hshort, hkind, Bool.not_true, Bool.false_eq_true, false_or, not_or]; omega)]
  rfl

/-- The card of the reader's lane is refused, with its notice. -/
theorem reader_refuse_reports {k : Kind} (h : s.holds k off c) (hk : k.lane = .reader) (hc : s.calm) (hl : s.readLink off = .atEnd)
    (o : CardOutcome) : s.endsCard (publish s (s.refuseCard .reader o).react) .reader off o
      ∧ (publish s (s.refuseCard .reader o).react).riu = s.riu ∧ s.reports (publish s (s.refuseCard .reader o).react) (.lane .reader .refused) off := by
  obtain ⟨-, hr⟩ := State.refusesCard_refuse h o
  obtain ⟨hrep, -⟩ := hr hc hl
  rw [hk] at hrep
  obtain ⟨he, hriu⟩ := reader_refuse_event h hk hc o
  exact ⟨he, hriu, hrep⟩

theorem Riu.any_buffer (r : Riu) (b : Nat) : (r.armed.any fun e => e.buffer == b) = true ↔ ∃ e ∈ r.armed, e.buffer = b := by
  simp

theorem State.sendRefusal_eq (s : State) (b : Nat) : s.sendRefusal b =
    if s.storeClosed then some .busy else if s.riu.domain = .quarantine then some .blocked
    else if b * 256 < s.riu.floor then some .badWindow else if s.riu.domain ≠ .opened then some .linkClosed
    else if ∃ e ∈ s.riu.armed, e.buffer = b then some .inUse else none := by
  simp only [State.sendRefusal, Riu.any_buffer]

/-- Settles O48, by the RIU's checks in their order and the parity of the buffer. -/
theorem sendBeginsItsFirstAttempt : Obligations.SendBeginsItsFirstAttempt := by
  intro s off c h hc hl h1 h2 h3 h4 h5 refusal good payload
  have hgood : s.parityGood (c.to * 256) (c.b 1) = true ↔ good := State.parityGood_iff _ _
  have hdec := decideSend_inRange (s := s) (off := off) h1 h2 h3 h4 h5
  have hrefusal : s.sendRefusal c.to = refusal := s.sendRefusal_eq c.to
  refine ⟨_, exec_command_on (k := .send) h, fun o ho => ?_, fun hn hg => ?_, fun hn hg hs => ?_⟩ <;> rw [Kind.decision, hdec]
  · rw [hrefusal.trans ho]
    exact reader_refuse_reports h rfl hc hl o
  · rw [hrefusal.trans hn]
    dsimp only
    rw [if_neg (mt hgood.mp hg)]
    exact reader_refuse_reports h rfl hc hl _
  · rw [hrefusal.trans hn]
    dsimp only
    rw [if_pos (hgood.mpr hg)]
    obtain ⟨e1, e2, e3⟩ := reader_wait_event (State.reader_held h rfl) hc hs (fun r => { r with send := some (s.newSend off c) }) State.undoSend
    refine ⟨e2.trans ?_, e1, e3⟩
    have hbytes : s.bytes (c.to * 256) (c.b 1) = payload := State.bytes_eq _ _ _
    have hlen : payload.length = c.b 1 := by rw [List.length_map, List.length_range]
    have hframe := congrArg (BitVec.ofNat 8) hlen
    simp only [State.newSend, frameBytes, hbytes, hframe]
    rfl

/-! ## ARM RECEIVE (R137, R202) -/

/-- The receive that an accepted card arms, its link showing END. -/
def Card.armed (c : Card) (off : Nat) : Armed := { card := off, buffer := c.to, note := c.flags.getLsbD 0, toEnd := true }

/-- A lane that has handed its card over and goes no further. -/
def Lane.handedOver (x : Lane) : Lane :=
  if x.stopRequested then { x with held := none, st := .idle, stopRequested := false } else { x with held := none, st := .idle }

/-- The handover of a card whose link shows END. -/
theorem State.armCard_atEnd (hl : s.readLink off = .atEnd) : s.armCard off c c.to =
    ((s.modRiu fun r => { r with armed := r.armed ++ [c.armed off] }).modLane .reader Lane.handedOver).raiseLane .reader
      (if s.lanes.reader.stopRequested then .aborted else .chainEnd) off := by
  unfold State.armCard
  rw [hl]
  unfold State.moveOn State.follow
  cases hs : s.lanes.reader.stopRequested <;>
    simp [State.lane, State.modLane, State.modRiu, hs, Lane.handedOver, Card.armed, Card.note, LinkRead.state]

theorem decideArmReceive_inRange (h1 : c.to ≤ 127) (h2 : 1 ≤ c.words.toNat) :
    decideArmReceive off c s = match s.armRefusal c.to with
      | some o => s.refuseCard .reader o
      | none => s.armCard off c c.to := by
  have hshort : c.short .armReceive = false := decide_eq_false (Nat.not_lt.mpr h2)
  unfold decideArmReceive
  rw [Card.buffer_eq h1]
  dsimp only
  exact (if_neg (by rw [hshort]; decide)).trans rfl

theorem State.armRefusal_eq (s : State) (b : Nat) : s.armRefusal b =
    if s.storeClosed then some .busy else if s.riu.domain = .quarantine then some .blocked
    else if b * 256 < s.riu.floor then some .badWindow
    else if s.riu.domain = .off ∨ s.riu.domain = .powering then some .linkClosed
    else if 8 ≤ s.riu.armed.length then some .listFull
    else if ∃ e ∈ s.riu.armed, e.buffer = b then some .inUse else none := by
  simp only [State.armRefusal, Riu.any_buffer, Config.armedCapacity]

theorem armCard_event (hc : s.calm) (hl : s.readLink off = .atEnd) :
    let t := publish s (s.armCard off c c.to).react
    t.riu = { s.riu with armed := s.riu.armed ++ [c.armed off] } ∧ t.lanes.reader = s.lanes.reader.handedOver
      ∧ s.reportsAlone t (.lane .reader (if s.lanes.reader.stopRequested then .aborted else .chainEnd)) off
      ∧ s.changesOnly t [.lanes, .notices, .reader, .displays] := by
  rw [State.armCard_atEnd hl]
  generalize hcause : (if s.lanes.reader.stopRequested then LaneCause.aborted else LaneCause.chainEnd) = cause
  generalize hw : ((s.modRiu fun r => { r with armed := r.armed ++ [c.armed off] }).modLane .reader Lane.handedOver) = w
  have ha : Acts s w [.lanes, .reader] := hw ▸ Acts.modLane (Acts.modRiu (.refl s _) _ (by decide)) _ _ (by decide)
  have ha' : Acts s (w.raiseLane .reader cause off) [.lanes, .notices, .reader] := Acts.raise (ha.mono (by decide)) _ _ (by decide)
  have hcalm : (w.raiseLane .reader cause off).calm := (ha'.mono (by decide)).calm_reader hc
  refine ⟨?_, ?_, State.reportsAlone_raise (u := w) (hcalm.event_kept s (p := .notices) (by decide)) (ha.frame .notices (by decide)),
    ((ha'.mono (by decide)).react_calm hcalm (by decide)).published⟩
  · have hriu : w.riu = { s.riu with armed := s.riu.armed ++ [c.armed off] } := by rw [← hw]; rfl
    exact (hcalm.event_riu s).trans hriu
  · have hlanes : (publish s (w.raiseLane .reader cause off).react).lanes = w.lanes := hcalm.event_kept s (p := .lanes) (by decide)
    have hlane : w.lanes.reader = s.lanes.reader.handedOver := by rw [← hw]; rfl
    rw [hlanes, hlane]

theorem exec_armReceive (h : s.holds .armReceive off c) (hc : s.calm) (hl : s.readLink off = .atEnd) (h1 : c.to ≤ 127)
    (h2 : 1 ≤ c.words.toNat) : ∃ t, exec .armReceive s = .next t ∧ (∀ o, s.armRefusal c.to = some o → s.endsCard t .reader off o ∧ t.riu = s.riu)
      ∧ (s.armRefusal c.to = none → t.riu = { s.riu with armed := s.riu.armed ++ [c.armed off] } ∧ t.lanes.reader = s.lanes.reader.handedOver
          ∧ s.reportsAlone t (.lane .reader (if s.lanes.reader.stopRequested then .aborted else .chainEnd)) off
          ∧ s.changesOnly t [.lanes, .notices, .reader, .displays]) := by
  refine ⟨_, exec_command_on (k := .armReceive) h, fun o ho => ?_, fun hn => ?_⟩ <;> rw [Kind.decision, decideArmReceive_inRange h1 h2]
  · rw [ho]
    exact reader_refuse_event h rfl hc o
  · rw [hn]
    dsimp only
    obtain ⟨e1, e2, e3, e4⟩ := armCard_event (c := c) hc hl
    exact ⟨e1, by rw [e2], e3, e4⟩

/-! ## DISARM RECEIVE (R139) -/

theorem decideDisarmReceive_eq (h1 : c.to ≤ 127) : decideDisarmReceive off c s =
    match s.riu.armed.find? fun e => e.buffer == c.to with
    | none => s.refuseCard .reader .notFound
    | some e => (((s.modRiu fun r => { r with armed := r.armed.filter fun x => x.buffer != c.to }).withdraw [e]).touch .riu 3).finishCard
        .reader [] .ok := by
  unfold decideDisarmReceive
  rw [Card.buffer_eq h1]
  rfl

theorem find?_of_apart {α : Type} {p : α → Bool} {before after : List α} {e : α} (he : p e = true) (h : ∀ x ∈ before ++ after, p x = false) :
    (before ++ e :: after).find? p = some e ∧ (before ++ e :: after).filter (fun x => !p x) = before ++ after := by
  constructor
  · rw [List.find?_append, List.find?_eq_none.mpr fun x hx => by rw [h x (List.mem_append_left _ hx)]; decide]
    simp [he]
  · rw [List.filter_append, List.filter_cons_of_neg (by simp [he]), ← List.filter_append]
    exact List.filter_eq_self.mpr fun x hx => by rw [h x hx]; rfl

/-- One armed receive withdrawn by the card that the lane holds, which lies apart from it. -/
theorem disarm_event {e : Armed} (h : s.holds .disarmReceive off c) (hc : s.calm) (f : Riu → Riu)
    (hl : s.readLink off = .atEnd) (hapart : e.card + 8 ≤ off ∨ off + 8 ≤ e.card) :
    let t := publish s ((((s.modRiu f).withdraw [e]).touch .riu 3).finishCard .reader [] .ok).react
    t.riu = f s.riu ∧ s.endsCard t .reader off .ok ∧ (e.note = true → s.reports t (.lane .reader .noteCardFinished) e.card)
      ∧ (s.memoryOk → t.half (e.card + 6) = 18 ∧ t.half (e.card + 4) = if e.toEnd then 3 else 2)
      ∧ s.changesOnly t [.memory, .parity, .lanes, .notices, .reader, .displays] := by
  generalize hu : ((s.modRiu f).withdraw [e]).touch .riu 3 = u
  have ha : Acts s u readerParts := hu ▸ Acts.touch ((Acts.modRiu (.refl s _) f (by decide)).trans ((Acts.withdraw _ [e]).mono (by decide))) _ _
  have hcalm : u.calm := ha.calm_reader hc
  have hheld : (u.lane .reader).held = some { offset := off, card := c, phase := .undecided } := by
    rw [← hu, State.touch_lane, State.withdraw_held, State.modRiu_lane]
    exact State.reader_held h rfl
  have hlink : u.readLink off = .atEnd := by
    rw [State.readLink_atEnd] at hl ⊢
    rw [← hu]
    refine ⟨State.withdraw_parityGood [e] hl.1, ?_⟩
    rw [State.touch_half, State.withdraw_half_other _ fun x hx => by rw [List.mem_singleton.mp hx]; omega]
    exact hl.2
  have hfin := State.finishCard_calm hcalm .reader [] .ok
  have hf := Acts.finish u .reader [] .ok
  refine ⟨?_, State.endsCard_finishHeld hheld (fun _ => hcalm) ha.memory (fun _ => hlink) .ok, fun hn => ?_, fun hm => ?_, ?_⟩
  · rw [hfin.event_riu, State.finishCard_riu, ← hu]
    exact State.withdraw_riu _ _
  · refine State.reports.event (hf.notices.reports ?_)
    rw [← hu, State.withdraw_cons, hn]
    exact State.reports_raise _ (by simp) (Cause.bit_lt _)
  · have hxm := (State.finishCard_atEnd (ha.memory hm) hheld hlink [] .ok).2
    have hp : (publish s (u.finishCard .reader [] .ok).react).xm = (u.finishCard .reader [] .ok).xm := hfin.event_kept s (p := .memory) (by decide)
    have hkept {a : Nat} (h' : a + 2 ≤ off + 4 ∨ off + 8 ≤ a) : (publish s (u.finishCard .reader [] .ok).react).half a = u.half a := by
      have e1 : (publish s (u.finishCard .reader [] .ok).react).half a =
          ((u.writeHalf (off + 6) (BitVec.ofNat 16 CardOutcome.ok.code)).writeHalf (off + 4) CardState.finishedEnd.code).half a := by
        simp only [State.half, hp, hxm, State.writeAt]
      rw [e1, State.half_writeHalf_other _ _ (by omega), State.half_writeHalf_other _ _ (by omega)]
    obtain ⟨h6, h4⟩ := State.withdraw_half (s := s.modRiu f) (l := [e]) hm (List.pairwise_singleton _ _) (List.mem_singleton_self e)
    rw [hkept (by omega), hkept (by omega), ← hu, State.touch_half, State.touch_half, h6, h4]
    exact ⟨rfl, rfl⟩
  · exact (ha.trans (hf.mono (by decide))).reader_event hc

/-! ## SET RELAY FLOOR (R132) -/

theorem State.cutSend_floor (s : State) : s.cutSend.riu.floor = s.riu.floor := by
  unfold State.cutSend State.finishSend
  split <;> simp [State.endWaiting_riu]

theorem State.withdrawArmed_floor (s : State) : s.withdrawArmed.riu.floor = s.riu.floor := by
  rw [State.withdrawArmed_withdraws s |>.2]

theorem State.readerToOff_floor (s : State) : s.readerToOff.riu.floor = s.riu.floor := by
  unfold State.readerToOff State.closeReaderLink
  split
  · exact (State.withdrawArmed_floor _).trans (State.cutSend_floor _)
  · exact State.withdrawArmed_floor s
  all_goals rfl

theorem State.examinePositions_floor (s : State) : s.examinePositions.riu.floor = s.riu.floor := by
  unfold State.examinePositions State.readerDown
  split
  · dsimp only
    rw [State.requestStep_riu, State.modRsc_riu, State.endWaiting_riu]
    exact State.readerToOff_floor _
  · rfl

theorem State.enterNight_floor (s : State) : s.enterNight.riu.floor = s.riu.floor := by
  unfold State.enterNight
  split
  · dsimp only
    rw [State.raise_riu, State.endWaiting_riu, State.modSsu_riu, State.setSite_riu, State.endWaiting_riu]
    exact s.readerToOff_floor
  · rfl

theorem State.answer_floor (s : State) (q : Requester) : (s.answer q).riu.floor = s.riu.floor := by
  cases q with
  | nightMeters => exact s.enterNight_floor
  | freeze side => cases side <;> rfl
  | _ => simp [State.answer]

theorem State.runStore_floor (n : Nat) (s : State) : (State.runStore n s).riu.floor = s.riu.floor := by
  have hall (qs : List Requester) (u : State) : (u.answerAll qs).riu.floor = u.riu.floor := by
    unfold State.answerAll
    induction qs generalizing u with
    | nil => rfl
    | cons q qs ih => exact (ih _).trans (u.answer_floor q)
  induction n generalizing s with
  | zero => rfl
  | succ n ih =>
    unfold State.runStore
    dsimp only
    split
    · rw [ih, hall, State.beginStep_riu]
    · rfl

/-- The end of an event leaves the relay floor. -/
theorem State.react_floor (s : State) : s.react.riu.floor = s.riu.floor := by
  refine State.react_induction (R := fun u => u.riu.floor = s.riu.floor) rfl (fun u hu => ?_) fun u hu => by rw [State.serveLinks_riu, hu]
  unfold State.examine
  dsimp only
  rw [State.sendAll_riu, State.finishLoad_riu, State.runStore_floor, State.examinePositions_floor]
  simpa using hu

theorem decideSetRelayFloor_eq (hw : 1 ≤ c.words.toNat) (h1 : 0x4000 ≤ c.h 0) (h2 : c.h 0 ≤ 0x7C00) (h3 : c.h 0 % 0x400 = 0)
    (hs : s.storeClosed = false) : decideSetRelayFloor off c s =
      if s.riu.domain ≠ .off ∨ s.riu.armed ≠ [] then s.refuseCard .site .busy
      else ((s.modRiu fun r => { r with floor := c.h 0 }).writeWhole .riu).finishOnConfig .site off := by
  have hshort : c.short .setRelayFloor = false := decide_eq_false (Nat.not_lt.mpr hw)
  simp [decideSetRelayFloor, hshort, floorOk, h1, h2, h3, hs]

theorem exec_setRelayFloor (h : s.holds .setRelayFloor off c) (hw : 1 ≤ c.words.toNat) (h1 : 0x4000 ≤ c.h 0) (h2 : c.h 0 ≤ 0x7C00)
    (h3 : c.h 0 % 0x400 = 0) (hs : s.storeClosed = false) :
    ∃ t, exec .setRelayFloor s = .next t
      ∧ ((s.riu.domain ≠ .off ∨ s.riu.armed ≠ []) → s.endsCard t .site off .busy ∧ (s.calm → t.riu = s.riu))
      ∧ (s.riu.domain = .off → s.riu.armed = [] → t.riu.floor = c.h 0 ∧ s.startsStep t [.config] .site off
          ∧ (s.calm → s.storeFree → t.riu = { s.riu with floor := c.h 0 } ∧ s.changesOnly t [.lanes, .reader, .store, .displays])) := by
  refine ⟨_, exec_command_on (k := .setRelayFloor) h, fun hb => ?_, fun hd ha => ?_⟩ <;>
    rw [Kind.decision, decideSetRelayFloor_eq hw h1 h2 h3 hs]
  · rw [if_pos hb]
    exact ⟨(State.refusesCard_refuse h .busy).1, fun hc => refuse_keeps hc .site .busy (p := .reader) (by decide) (by decide)⟩
  · rw [if_neg (by simp [hd, ha])]
    generalize hu : (s.modRiu fun r => { r with floor := c.h 0 }).writeWhole .riu = u
    have hau : Acts s u [.reader] := hu ▸ Acts.writeWhole (Acts.modRiu (.refl s _) _ (by decide)) _
    have hr : u.riu = { s.riu with floor := c.h 0 } := by rw [← hu]; rfl
    have hq : (u.finishOnConfig .site off).riu = u.riu := (Acts.onConfig u off).frame .reader (by decide)
    obtain ⟨e1, e2⟩ := finishOnConfig_event (off := off) hau (by decide) (by decide) (by decide) (hau.mono (by decide)).calm_reader
    refine ⟨?_, e1, fun k1 k2 => ⟨?_, finishOnConfig_frame hau (e2 k1 k2) |>.mono (by decide)⟩⟩
    · rw [publish_riu, State.react_floor, hq, hr]
    · rw [publish_riu, (e2 k1 k2).frame .reader (by decide), hr]

/-- Settles O45, by the RIU's checks and by the receive that a card disarms. -/
theorem armedReceiveCards : Obligations.ArmedReceiveCards := by
  refine ⟨fun s off c h hc hl h1 h2 => ?_, fun s off c h hc hl h1 => ?_,
    fun s off c h hw h1 h2 h3 hs => exec_setRelayFloor h hw h1 h2 h3 hs⟩
  · intro refusal
    obtain ⟨t, ht, e1, e2⟩ := exec_armReceive h hc hl h1 h2
    have hrefusal : s.armRefusal c.to = refusal := s.armRefusal_eq c.to
    refine ⟨t, ht, fun o ho => e1 o (hrefusal.trans ho), fun hn => ?_⟩
    obtain ⟨hriu, hlane, hnote, hframe⟩ := e2 (hrefusal.trans hn)
    refine ⟨hriu, ?_, ?_, ?_, hnote, hframe⟩ <;> rw [hlane, Lane.handedOver] <;> split <;> rfl
  · refine ⟨_, exec_command_on (k := .disarmReceive) h,
      ((Acts.refl s readerParts).decideDisarmReceive off c (by decide)).reader_event hc, fun hn => ?_, fun before e after hb he hx hapart => ?_⟩ <;>
      rw [Kind.decision, decideDisarmReceive_eq h1]
    · rw [List.find?_eq_none.mpr fun e he => by simpa using hn e he]
      exact reader_refuse_event h rfl hc _
    · obtain ⟨hfind, hfilter⟩ := find?_of_apart (p := fun x : Armed => x.buffer == c.to) (before := before) (after := after) (e := e)
        (by simpa using he) fun x hmem => by simpa using hx x hmem
      rw [hb, hfind]
      obtain ⟨e1, e2, e3, e4, -⟩ := disarm_event h hc (fun r => { r with armed := r.armed.filter fun x => x.buffer != c.to }) hl hapart
      refine ⟨e1.trans ?_, e2, e3, e4⟩
      rw [← hfilter, ← hb]
      rfl

end Sys2Proof.Machine
end

section
/-! PROOFS. Good inbound frames (R131, R134, R135, R138, R140, R202). -/
namespace Sys2Proof.Machine

variable {s t u v w : State} {P Q : List Part} {off : Nat} {c : Card} {o : CardOutcome} {e : Armed} {rest : List Armed} {kind : Byte} {payload : List Byte}

/-! ## Events of the reader's record -/

/-- A change of the reader's record and nothing else. -/
theorem riu_event (hc : s.calm) (f : Riu → Riu) :
    (publish s (s.modRiu f).react).riu = f s.riu ∧ s.changesOnly (publish s (s.modRiu f).react) [.reader, .displays] := by
  have ha : Acts s (s.modRiu f) [.reader, .displays] := Acts.modRiu (.refl s _) _ (by decide)
  have hu : (s.modRiu f).calm := Acts.calm_reader (Acts.modRiu (.refl s _) _ (by decide)) hc
  exact ⟨hu.event_riu s, (ha.react_calm hu (by decide)).published⟩

theorem State.modRiu_modRiu (s : State) (f g : Riu → Riu) : (s.modRiu f).modRiu g = s.modRiu fun r => g (f r) := rfl

/-! ## A frame judged -/

theorem exec_inboundFrameStart (hm : s.mainSupply = true) (hd : s.riu.domain = .opened) (hr : s.riu.receiver = .outside) :
    exec .inboundFrameStart s = .next (publish s (s.modRiu fun r => { r with receiver := .inside }).react) :=
  eventWhen_on hm (by simp [hd, hr]) _

theorem exec_inboundFrame {f : FrameEnd} (hm : s.mainSupply = true) (hd : s.riu.domain = .opened) (hr : s.riu.receiver = .inside)
    (hf : f.wellFormed = true) : exec (.inboundFrame f) s = .next (publish s (s.judgeFrame (frameNext f) (frameGood f)).react) :=
  eventWhen_on hm (by simp [hd, hr, hf]) _

theorem frameGood_complete (hk : kind = 1 ∨ kind = 2) : frameGood (.complete kind payload (frameCheck kind payload)) = some (kind, payload) :=
  if_pos ⟨rfl, knownFrameKind_iff.mpr (hk.imp (fun e => by rw [e]; rfl) fun e => by rw [e]; rfl)⟩

theorem frameNext_complete (kind : Byte) (payload : List Byte) (check : Half) : frameNext (.complete kind payload check) = .outside := rfl

/-- The receiver takes its next state before a frame is judged. -/
def State.received (s : State) (next : Receiver) : State := s.modRiu fun r => { r with receiver := next }

theorem State.judgeFrame_full (next : Receiver) (good : Option (Byte × List Byte)) (h : 4 ≤ s.riu.answers.length) :
    s.judgeFrame next good = s.received next := if_pos h

theorem State.judgeFrame_room (next : Receiver) (good : Option (Byte × List Byte)) (h : s.riu.answers.length < 4) :
    s.judgeFrame next good = match good with
      | some (kind, payload) => (s.received next).goodFrame kind payload
      | none => (s.received next).badFrame := if_neg (Nat.not_le.mpr h)

/-! ## A frame held back (R138) -/

theorem State.goodFrame_held (h : s.riu.armed = []) (kind : Byte) (payload : List Byte) : s.goodFrame kind payload =
    (s.modRiu fun r => { r with badRun := 0, answers := r.answers ++ [.hold] }).raise .noBuffer (kind.toNat * 256 + payload.length) := by
  unfold State.goodFrame
  rw [h]

/-- A change of the reader's record and a notice. -/
theorem riu_notice_event (hc : s.calm) (f : Riu → Riu) (cause : Cause) (d : Nat) :
    let t := publish s ((s.modRiu f).raise cause d).react
    t.riu = f s.riu ∧ s.reports t cause d ∧ s.changesOnly t [.notices, .reader, .displays] := by
  have ha : Acts s ((s.modRiu f).raise cause d) [.notices, .reader] := Acts.raise (Acts.modRiu (.refl s _) _ (by decide)) _ _ (by decide)
  have hu := (ha.mono (by decide)).calm_reader hc
  exact ⟨hu.event_riu s, State.reports.event (State.reports_raise (t := s.modRiu f) d rfl (Cause.bit_lt _)),
    ((ha.mono (by decide)).react_calm hu (by decide)).published⟩

/-! ## A frame relayed (R138) -/

/-- The result bytes of a relayed frame: its kind and its length. -/
def relayResults (kind : Byte) (payload : List Byte) : List (Nat × Byte) := [(0, kind), (1, BitVec.ofNat 8 payload.length)]

/-- The reader's record once the oldest receive has a frame. -/
def Riu.relayed (rest : List Armed) (r : Riu) : Riu :=
  { r with receiver := .outside, badRun := 0, answers := r.answers ++ [.accept], armed := rest }

/-- The frame relayed to a receive: its payload in the buffer, its card finished OK. -/
def State.relay (s : State) (e : Armed) (kind : Byte) (payload : List Byte) : State :=
  (s.writeBytes (e.buffer * 256) payload).finishArmed e (relayResults kind payload) .ok

theorem State.goodFrame_relayed (h : s.riu.armed = e :: rest) (kind : Byte) (payload : List Byte) :
    (s.received .outside).goodFrame kind payload = (s.modRiu (Riu.relayed rest)).relay e kind payload := by
  unfold State.goodFrame
  rw [show (s.received .outside).riu.armed = e :: rest from h]
  rfl

theorem State.relay_acts (s : State) (e : Armed) (kind : Byte) (payload : List Byte) : Acts s (s.relay e kind payload) cardParts :=
  Acts.finishArmed (Acts.writeBytes (.refl s _) _ _ (by decide)) e _ _ (List.Subset.refl _)

/-- The state that a finished receive's card is given. -/
def Armed.endState (e : Armed) : CardState := if e.toEnd then .finishedEnd else .finishedLink

theorem Armed.endState_code (e : Armed) : e.endState.code = if e.toEnd then 3 else 2 := by
  unfold Armed.endState
  cases e.toEnd <;> rfl

theorem State.finishArmed_eq (s : State) (e : Armed) (r : List (Nat × Byte)) (o : CardOutcome) :
    s.finishArmed e r o = (s.writeAt (e.card + 16) r).markFinished .reader e.card e.note o e.endState := rfl

/-- A byte outside the card's outcome and state is left by marking it finished. -/
theorem State.read_markFinished_other (s : State) (l : LaneId) {x : Nat} (note : Bool) (o : CardOutcome) (st : CardState)
    (h : x < off + 4 ∨ off + 8 ≤ x) : Memory.read (s.markFinished l off note o st).xm x = Memory.read s.xm x := by
  rw [State.markFinished_xm, State.read_writeHalf_other _ _ (by omega) (by omega), State.read_writeHalf_other _ _ (by omega) (by omega)]

theorem State.relay_other (s : State) {x : Nat} (h1 : x < e.card + 4 ∨ e.card + 8 ≤ x ∧ x < e.card + 16 ∨ e.card + 18 ≤ x) :
    Memory.read (s.relay e kind payload).xm x = Memory.read (s.writeBytes (e.buffer * 256) payload).xm x := by
  rw [State.relay, State.finishArmed_eq, State.read_markFinished_other _ _ _ _ _ (by omega), State.read_writeAt_other]
  intro p hp
  rcases List.mem_pair.mp hp with rfl | rfl <;> dsimp only <;> omega

theorem State.relay_result (hm : s.memoryOk) {p : Nat × Byte} (hp : p ∈ relayResults kind payload) :
    Memory.read (s.relay e kind payload).xm (e.card + 16 + p.1) = p.2 := by
  have hw : (s.writeBytes (e.buffer * 256) payload).memoryOk := (Acts.writeBytes (.refl s cardParts) _ payload (by decide)).memory hm
  rw [State.relay, State.finishArmed_eq, State.read_markFinished_other _ _ _ _ _ (by omega)]
  exact State.read_writeAt_same (by simp [relayResults]) hw _ hp

/-- The payload stands in the buffer, which lies behind the card. -/
theorem State.relay_payload (hm : s.memoryOk) (he : e.card + 24 ≤ e.buffer * 256) {i : Nat} (hi : i < payload.length) :
    some (Memory.read (s.relay e kind payload).xm (e.buffer * 256 + i)) = payload[i]? := by
  rw [State.relay_other s (by omega)]
  have hb := State.bytes_writeBytes_same hm.1 (e.buffer * 256) payload
  rw [State.bytes_eq] at hb
  have hi' := congrArg (fun l : List Byte => l[i]?) hb
  simpa [hi] using hi'

theorem State.relay_half (hm : s.memoryOk) : (s.relay e kind payload).half (e.card + 6) = 0
    ∧ (s.relay e kind payload).half (e.card + 4) = if e.toEnd then 3 else 2 := by
  have hw : (s.writeBytes (e.buffer * 256) payload).memoryOk := (Acts.writeBytes (.refl s cardParts) _ payload (by decide)).memory hm
  have hw' : ((s.writeBytes (e.buffer * 256) payload).writeAt (e.card + 16) (relayResults kind payload)).memoryOk :=
    (Acts.writeAt (.refl _ cardParts) _ _ (by decide)).memory hw
  obtain ⟨h6, h4⟩ := State.markFinished_half (l := .reader) (off := e.card) (note := e.note) (o := .ok) (st := e.endState) hw'
  rw [State.relay, State.finishArmed_eq, h6, h4]
  exact ⟨rfl, e.endState_code⟩

theorem State.relay_lastFinished (s : State) : (s.relay e kind payload).lanes.reader.lastFinished = e.card := by
  rw [State.relay, State.finishArmed_eq]
  unfold State.markFinished
  dsimp only
  cases e.note <;> rfl

theorem State.relay_note (s : State) : (e.note = true → (s.relay e kind payload).ntc = (s.raise (.lane .reader .noteCardFinished) e.card).ntc)
    ∧ (e.note = false → (s.relay e kind payload).ntc = s.ntc) := by
  rw [State.relay, State.finishArmed_eq]
  unfold State.markFinished
  dsimp only
  constructor <;> intro hn <;> rw [hn] <;> simp [State.raiseLane, State.raise]

/-- The event of a relayed frame. -/
theorem relay_event (hc : s.calm) (ha : s.riu.armed = e :: rest) (he : e.card + 24 ≤ e.buffer * 256) (hm : s.memoryOk) :
    let t := publish s (((s.received .outside).goodFrame kind payload).react)
    t.riu = Riu.relayed rest s.riu
      ∧ (∀ i, i < payload.length → some (Memory.read t.xm (e.buffer * 256 + i)) = payload[i]?)
      ∧ Memory.read t.xm (e.card + 16) = kind ∧ Memory.read t.xm (e.card + 17) = BitVec.ofNat 8 payload.length
      ∧ t.half (e.card + 6) = 0 ∧ t.half (e.card + 4) = (if e.toEnd then 3 else 2)
      ∧ (∀ a, (a < e.card + 4 ∨ e.card + 8 ≤ a ∧ a < e.card + 16 ∨ e.card + 18 ≤ a) →
          (a < e.buffer * 256 ∨ e.buffer * 256 + payload.length ≤ a) → Memory.read t.xm a = Memory.read s.xm a)
      ∧ (e.note = true → s.reportsAlone t (.lane .reader .noteCardFinished) e.card) ∧ (e.note = false → t.ntc = s.ntc)
      ∧ t.lanes.reader.lastFinished = e.card ∧ s.changesOnly t [.memory, .parity, .lanes, .notices, .reader, .displays] := by
  rw [State.goodFrame_relayed ha]
  have hu : Acts s (s.modRiu (Riu.relayed rest)) readerParts := Acts.modRiu (.refl s _) _ (by decide)
  have hok : (s.modRiu (Riu.relayed rest)).memoryOk := hm
  generalize hv : s.modRiu (Riu.relayed rest) = v at hu hok ⊢
  have hacts := v.relay_acts e kind payload
  have hw : Acts s (v.relay e kind payload) readerParts := hu.trans (hacts.mono (by decide))
  have hcalm := hw.calm_reader hc
  have hxm : (publish s (v.relay e kind payload).react).xm = (v.relay e kind payload).xm := hcalm.event_kept s (p := .memory) (by decide)
  have hntc : (publish s (v.relay e kind payload).react).ntc = (v.relay e kind payload).ntc := hcalm.event_kept s (p := .notices) (by decide)
  have hlanes : (publish s (v.relay e kind payload).react).lanes = (v.relay e kind payload).lanes := hcalm.event_kept s (p := .lanes) (by decide)
  have hhalf (x : Nat) : (publish s (v.relay e kind payload).react).half x = (v.relay e kind payload).half x := by simp only [State.half, hxm]
  have hvn : v.ntc = s.ntc := by rw [← hv]; rfl
  have hvx : v.xm = s.xm := by rw [← hv]; rfl
  obtain ⟨n1, n2⟩ := v.relay_note (e := e) (kind := kind) (payload := payload)
  obtain ⟨h6, h4⟩ := State.relay_half (e := e) (kind := kind) (payload := payload) hok
  refine ⟨?_, fun i hi => ?_, ?_, ?_, (hhalf _).trans h6, (hhalf _).trans h4, fun a h1 h2 => ?_,
    fun hn => State.reportsAlone_raise (hntc.trans (n1 hn)) hvn, fun hn => (hntc.trans (n2 hn)).trans hvn, ?_, hw.reader_event hc⟩
  · rw [hcalm.event_riu, hacts.frame .reader (by decide), ← hv]
    rfl
  · rw [hxm]
    exact State.relay_payload hok he hi
  · rw [hxm]
    exact State.relay_result (p := (0, kind)) hok List.mem_cons_self
  · rw [hxm]
    exact State.relay_result (p := (1, BitVec.ofNat 8 payload.length)) hok (List.mem_cons_of_mem _ List.mem_cons_self)
  · rw [hxm, State.relay_other v h1, State.read_writeBytes_other v payload h2, hvx]
  · rw [hlanes]
    exact v.relay_lastFinished

/-- Settles O46, by the answers owed and the armed list. -/
theorem goodFramesAreRelayed : Obligations.GoodFramesAreRelayed := by
  refine ⟨fun s hm hc hd hr => ⟨_, exec_inboundFrameStart hm hd hr, riu_event hc _⟩, fun s kind payload hm hc hd hr hp hk => ?_⟩
  refine ⟨_, exec_inboundFrame hm hd hr (decide_eq_true hp), fun hfull => ?_, fun hroom harmed => ?_, fun e rest harmed hroom he hok => ?_⟩ <;>
    rw [frameGood_complete hk, frameNext_complete]
  · rw [State.judgeFrame_full _ _ hfull]
    exact riu_event hc _
  · rw [State.judgeFrame_room _ _ hroom]
    dsimp only
    rw [State.goodFrame_held (s := s.received .outside) harmed, State.received, State.modRiu_modRiu]
    exact riu_notice_event hc _ _ _
  · rw [State.judgeFrame_room _ _ hroom]
    dsimp only
    exact relay_event hc harmed he hok

end Sys2Proof.Machine
end

section
/-! PROOFS. Bad inbound frames, and the link that their run closes over a Send and armed receives (R134 to R136, R140, R143). -/
namespace Sys2Proof.Machine

variable {s t u v w : State} {P Q : List Part} {off : Nat} {c : Card} {o : CardOutcome} {e : Armed} {x : Send}

/-! ## What withdrawing receives leaves -/

theorem State.withdraw_read_other (s : State) {l : List Armed} {a : Nat} (h : ∀ e ∈ l, a < e.card + 4 ∨ e.card + 8 ≤ a) :
    Memory.read (s.withdraw l).xm a = Memory.read s.xm a := by
  induction l generalizing s with
  | nil => rfl
  | cons e l ih =>
    obtain ⟨he, hl⟩ := List.forall_mem_cons.mp h
    rw [State.withdraw_cons, ih _ hl, State.read_markFinished_other _ _ _ _ _ he]

theorem State.markFinished_st (s : State) (l k : LaneId) (off : Nat) (note : Bool) (o : CardOutcome) (st : CardState) :
    ((s.markFinished l off note o st).lane k).st = (s.lane k).st := by
  unfold State.markFinished
  split <;> (simp only [State.raiseLane, State.raise_lane, State.modLane_lane_eq]; split <;> simp_all [State.lane])

theorem State.withdraw_st (s : State) (l : List Armed) (k : LaneId) : ((s.withdraw l).lane k).st = (s.lane k).st := by
  induction l generalizing s with
  | nil => rfl
  | cons e l ih => rw [State.withdraw_cons, ih, State.markFinished_st]

/-! ## The walker raises lane causes alone -/

theorem State.source_congr {i : Fin 13} (h : t.ntc = s.ntc) : t.ntc.sources[i] = s.ntc.sources[i] := by rw [h]

section sources
variable {i : Fin 13} (hi : ∀ l c, i ≠ (Cause.lane l c).source)
include hi

theorem State.raiseLane_source (s : State) (l : LaneId) (c : LaneCause) (d : Nat) : (s.raiseLane l c d).ntc.sources[i] = s.ntc.sources[i] := by
  rw [State.raiseLane, Ntc.raise_source, if_neg (hi l c)]

theorem State.markFinished_source (s : State) (l : LaneId) (off : Nat) (note : Bool) (o : CardOutcome) (st : CardState) :
    (s.markFinished l off note o st).ntc.sources[i] = s.ntc.sources[i] := by
  unfold State.markFinished
  dsimp only
  cases note
  · rw [if_neg Bool.false_ne_true]
    exact State.source_congr (by simp)
  · rw [if_pos rfl, State.raiseLane_source hi]
    exact State.source_congr (by simp)

theorem State.withdraw_source (s : State) (l : List Armed) : (s.withdraw l).ntc.sources[i] = s.ntc.sources[i] := by
  induction l generalizing s with
  | nil => rfl
  | cons e l ih => rw [State.withdraw_cons, ih, State.markFinished_source hi]

theorem State.closeCard_source (s : State) (l : LaneId) (off : Nat) (note : Bool) (r : List (Nat × Byte)) (o : CardOutcome) :
    (s.closeCard l off note r o).ntc.sources[i] = s.ntc.sources[i] := by
  unfold State.closeCard
  dsimp only
  rw [State.source_congr (State.modLane_ntc ..), State.markFinished_source hi]
  exact State.source_congr (by simp)

theorem State.moveOn_source (s : State) (l : LaneId) (off : Nat) (link : LinkRead) :
    (s.moveOn l off link).1.ntc.sources[i] = s.ntc.sources[i] := by
  unfold State.moveOn
  cases (s.lane l).stopRequested with
  | true =>
    rw [if_pos rfl, State.raiseLane_source hi]
    exact State.source_congr (by simp)
  | false =>
    rw [if_neg Bool.false_ne_true]
    cases link with
    | next n => exact State.source_congr (by simp)
    | parity =>
      dsimp only
      rw [State.haltLane, State.raiseLane_source hi]
      exact State.source_congr (by simp)
    | atEnd =>
      dsimp only
      rw [State.raiseLane_source hi]
      exact State.source_congr (by simp)

theorem State.walk_source (n : Nat) (s : State) (l : LaneId) : (State.walk n s l).ntc.sources[i] = s.ntc.sources[i] := by
  induction n generalizing s with
  | zero => rfl
  | succ n ih =>
    unfold State.walk
    dsimp only
    cases s.takeResult l (s.lane l).current with
    | halts r =>
      dsimp only
      rw [State.haltLane, State.raiseLane_source hi]
      exact State.source_congr (by simp)
    | given => exact State.source_congr (by simp)
    | refused o =>
      dsimp only
      split
      · rw [ih, State.moveOn_source hi, State.closeCard_source hi, State.raiseLane_source hi]
        exact State.source_congr (by simp)
      · rw [State.moveOn_source hi, State.closeCard_source hi, State.raiseLane_source hi]
        exact State.source_congr (by simp)

theorem State.finishCard_source (s : State) (l : LaneId) (r : List (Nat × Byte)) (o : CardOutcome) :
    (s.finishCard l r o).ntc.sources[i] = s.ntc.sources[i] := by
  unfold State.finishCard
  cases (s.lane l).held with
  | none => rfl
  | some h =>
    dsimp only
    unfold State.follow
    split
    · rw [State.walk_source hi, State.moveOn_source hi, State.closeCard_source hi]
      exact State.source_congr (by simp)
    · rw [State.moveOn_source hi, State.closeCard_source hi]
      exact State.source_congr (by simp)

theorem State.endWaiting_source (s : State) (k : Kind) (r : List (Nat × Byte)) (o : CardOutcome) :
    (s.endWaiting k r o).ntc.sources[i] = s.ntc.sources[i] := by
  unfold State.endWaiting
  split
  · exact State.finishCard_source hi ..
  · rfl

theorem State.cutSend_source (s : State) : s.cutSend.ntc.sources[i] = s.ntc.sources[i] := by
  unfold State.cutSend State.finishSend
  cases s.riu.send with
  | none => rfl
  | some x => exact (State.endWaiting_source hi ..).trans (State.source_congr (by simp))

end sources

/-! ## A card finished with results -/

/-- The result bytes of a card that has finished, its link showing END. -/
theorem State.finishCard_results {l : LaneId} {h : Held} {r : List (Nat × Byte)} (hm : s.memoryOk) (hh : (s.lane l).held = some h)
    (hl : s.readLink h.offset = .atEnd) (hr : (r.map Prod.fst).Nodup) (o : CardOutcome) {p : Nat × Byte} (hp : p ∈ r) :
    Memory.read (s.finishCard l r o).xm (h.offset + 16 + p.1) = p.2 := by
  obtain ⟨-, hxm⟩ := State.finishCard_atEnd hm hh hl r o
  rw [hxm, State.read_writeHalf_other _ _ (by omega) (by omega), State.read_writeHalf_other _ _ (by omega) (by omega)]
  exact State.read_writeAt_same hr hm _ hp

/-! ## The Send that the closing of the link cuts (R143) -/

theorem State.cutSend_riu (s : State) : s.cutSend.riu = { s.riu with send := none } := by
  unfold State.cutSend State.finishSend
  cases h : s.riu.send with
  | none => exact (congrArg (fun y => ({ s.riu with send := y } : Riu)) h)
  | some x => exact State.endWaiting_riu ..

theorem State.cutSend_acts (s : State) : Acts s s.cutSend readerParts := by
  unfold State.cutSend State.finishSend
  split
  · exact Acts.endWaiting (Acts.modRiu (.refl s _) _ (by decide)) _ _ _ (by decide)
  · exact .refl s _

theorem State.cutSend_finish (hx : s.riu.send = some x) (hh : s.lanes.reader.held = some { offset := off, card := c, phase := .waiting })
    (hk : Kind.ofByte c.kind = some .send) :
    s.cutSend = (s.modRiu fun r => { r with send := none }).finishCard .reader x.results .cut := by
  unfold State.cutSend State.finishSend
  rw [hx]
  refine if_pos ?_
  have hw : (s.modRiu fun r => { r with send := none }).waitingKind .reader = some .send := by
    simp [State.waitingKind, State.lane, State.modRiu, hh, hk]
  exact hw

theorem answerCode_byte (a : Option AnswerByte) : BitVec.ofNat 8 (answerCode a) = match a with
    | none => (0 : Byte)
    | some .accept => 1
    | some .hold => 2
    | some .reject => 3 := by
  cases a with
  | none => rfl
  | some a => cases a <;> rfl

/-- The result bytes of a Send whose card has finished with them. -/
theorem Send.results_read (x : Send) {a : Nat} (h : ∀ p ∈ x.results, Memory.read t.xm (a + 16 + p.1) = p.2) :
    Memory.read t.xm (a + 20) = BitVec.ofNat 8 x.attempts ∧ Memory.read t.xm (a + 21) = BitVec.ofNat 8 x.holds
      ∧ Memory.read t.xm (a + 22) = (match x.last with
        | none => 0
        | some .accept => 1
        | some .hold => 2
        | some .reject => 3) :=
  ⟨h (4, _) List.mem_cons_self, h (5, _) (List.mem_cons_of_mem _ List.mem_cons_self),
    (h (6, _) (List.mem_cons_of_mem _ (List.mem_cons_of_mem _ List.mem_cons_self))).trans (answerCode_byte x.last)⟩

theorem Send.results_nodup (x : Send) : (x.results.map Prod.fst).Nodup := by simp [Send.results]

/-! ## The link closed over a Send and armed receives -/

/-- The reader's link as it is shut, before the Send is cut. -/
def State.gateShut (s : State) : State := (s.setDomain .gated).shutGate

theorem State.closeReaderLink_steps (s : State) :
    s.closeReaderLink = (s.gateShut.cutSend.modRiu fun r => { r with armed := [] }).withdraw s.riu.armed := by
  rw [State.closeReaderLink, State.withdrawArmed_eq, State.cutSend_riu]
  rfl

theorem State.closeReaderLink_acts (s : State) : Acts s s.closeReaderLink readerParts := by
  rw [State.closeReaderLink_steps]
  have h0 : Acts s s.gateShut readerParts := by
    unfold State.gateShut State.setDomain State.shutGate
    exact Acts.modRiu (Acts.modRiu (.refl s _) _ (by decide)) _ (by decide)
  exact (Acts.modRiu (h0.trans (State.cutSend_acts _)) _ (by decide)).trans ((Acts.withdraw _ _).mono (by decide))

theorem State.closeReaderLink_riu (s : State) : s.closeReaderLink.riu = s.riu.linkClosed := by
  rw [State.closeReaderLink_steps, State.withdraw_riu, State.modRiu_riu, State.cutSend_riu]
  rfl

theorem State.closeReaderLink_armed (s : State) : s.armedWithdrawn s.closeReaderLink := by
  rw [State.closeReaderLink_steps]
  refine ⟨fun e he hn => State.withdraw_notified _ he hn, fun hm hapart e he => State.withdraw_half ?_ hapart.1 he⟩
  have h0 : s.gateShut.memoryOk := hm
  exact (State.cutSend_acts _).memory h0

/-- The Send's card has finished CUT with its results, and the receives withdrawn after it lie apart. -/
theorem State.closeReaderLink_cut (s : State) : s.sendCut s.closeReaderLink := by
  intro x hx
  have hkey (hm : s.memoryOk) (hapart : s.readerCardsApart) (off : Nat) (c : Card)
      (hh : s.lanes.reader.held = some { offset := off, card := c, phase := .waiting }) (hk : Kind.ofByte c.kind = some .send) :
      (s.closeReaderLink.half (off + 6) = BitVec.ofNat 16 CardOutcome.cut.code ∧ s.closeReaderLink.half (off + 4) = CardState.finishedEnd.code
        ∧ s.closeReaderLink.lanes.reader.st = .idle ∧ s.closeReaderLink.lanes.reader.held = none)
      ∧ ∀ p ∈ x.results, Memory.read s.closeReaderLink.xm (off + 16 + p.1) = p.2 := by
    obtain ⟨hlink, hfar⟩ := hapart.2 _ hh
    dsimp only at hlink hfar
    have hcut := State.cutSend_finish (s := s.gateShut) hx hh hk
    generalize hv : s.gateShut.modRiu (fun r => { r with send := none }) = v at hcut
    have hvm : v.memoryOk := hv ▸ hm
    have hvh : (v.lane .reader).held = some { offset := off, card := c, phase := .waiting } := by rw [← hv]; exact hh
    have hvl : v.readLink off = .atEnd := by rw [← hv]; exact hlink
    obtain ⟨⟨h6, h4, hst, hheld, -⟩, -⟩ := State.finishCard_atEnd hvm hvh hvl x.results .cut
    rw [State.closeReaderLink_steps, hcut]
    generalize hw : (v.finishCard .reader x.results .cut).modRiu (fun r => { r with armed := [] }) = w
    have hwx : w.xm = (v.finishCard .reader x.results .cut).xm := by rw [← hw]; rfl
    have hwl : w.lane .reader = (v.finishCard .reader x.results .cut).lane .reader := by rw [← hw]; rfl
    have hwhalf (a : Nat) : w.half a = (v.finishCard .reader x.results .cut).half a := by simp only [State.half, hwx]
    refine ⟨⟨?_, ?_, ?_, ?_⟩, fun p hp => ?_⟩
    · rw [State.withdraw_half_other _ fun e he => by have := hfar e he; omega, hwhalf]
      exact h6
    · rw [State.withdraw_half_other _ fun e he => by have := hfar e he; omega, hwhalf]
      exact h4
    · exact (w.withdraw_st _ .reader).trans ((congrArg Lane.st hwl).trans hst)
    · exact (w.withdraw_held _ .reader).trans ((congrArg Lane.held hwl).trans hheld)
    · have hlt : p.1 < 7 := by
        simp only [Send.results, List.mem_cons, List.not_mem_nil, or_false] at hp
        rcases hp with rfl | rfl | rfl <;> exact Nat.le_of_ble_eq_true rfl
      rw [State.withdraw_read_other _ fun e he => by have := hfar e he; omega, hwx]
      exact State.finishCard_results hvm hvh hvl x.results_nodup .cut hp
  exact ⟨fun hm hapart off c hh hk => (hkey hm hapart off c hh hk).1,
    fun hm hapart off c hh hk => x.results_read (hkey hm hapart off c hh hk).2⟩

/-! ## The frames -/

theorem State.badFrame_counts (h : s.riu.badRun < 15) :
    s.badFrame = s.modRiu fun r => { r with badRun := r.badRun + 1, answers := r.answers ++ [.reject] } :=
  if_neg (by simp only [Config.badRunLimit]; omega)

theorem State.badFrame_closes (h : 15 ≤ s.riu.badRun) :
    s.badFrame = (s.closeReaderLink.modRiu fun r => { r with badRun := 0 }).raise .linkErrors 16 :=
  if_pos (by simp only [Config.badRunLimit]; omega)

theorem State.closeReaderLink_source {i : Fin 13} (hi : ∀ l c, i ≠ (Cause.lane l c).source) (s : State) :
    s.closeReaderLink.ntc.sources[i] = s.ntc.sources[i] := by
  rw [State.closeReaderLink_steps, State.withdraw_source hi]
  have h : s.gateShut.ntc = s.ntc := rfl
  rw [State.source_congr (State.modRiu_ntc ..), State.cutSend_source hi, h]

/-- What the closing of the link has done to the cards stands in a later state of the same memory and lanes. -/
theorem State.armedWithdrawn.later (h : s.armedWithdrawn v) (hx : t.xm = v.xm) (hn : v.ntc.Grows t.ntc) : s.armedWithdrawn t := by
  have hhalf (a : Nat) : t.half a = v.half a := by simp only [State.half, hx]
  refine ⟨fun e he hn' => hn.notified (h.1 e he hn'), fun hm ha e he => ?_⟩
  rw [hhalf, hhalf]
  exact h.2 hm ha e he

theorem State.sendCut.later (h : s.sendCut v) (hx : t.xm = v.xm) (hl : t.lanes = v.lanes) : s.sendCut t := by
  have hhalf (a : Nat) : t.half a = v.half a := by simp only [State.half, hx]
  intro x hx'
  obtain ⟨h1, h2⟩ := h x hx'
  refine ⟨fun hm ha off c hh hk => ?_, fun hm ha off c hh hk => ?_⟩
  · rw [hhalf, hhalf, hl]
    exact h1 hm ha off c hh hk
  · rw [hx]
    exact h2 hm ha off c hh hk

/-- The event of the bad frame that closes the link. -/
theorem linkErrors_event (hc : s.calm) (next : Receiver) (h : 15 ≤ s.riu.badRun) :
    let t := publish s ((s.received next).badFrame.react)
    t.riu = { s.riu with domain := .gated, settleTimer := none, receiver := .outside, badRun := 0, answers := [], armed := [],
                         send := none, orphan := false }
      ∧ s.reports t .linkErrors 16 ∧ s.armedWithdrawn t ∧ s.sendCut t
      ∧ s.changesOnly t [.memory, .parity, .lanes, .notices, .reader, .displays] := by
  rw [State.badFrame_closes (s := s.received next) h]
  have harmed : s.armedWithdrawn (s.received next).closeReaderLink := (s.received next).closeReaderLink_armed
  have hcut : s.sendCut (s.received next).closeReaderLink := (s.received next).closeReaderLink_cut
  have hriu := (s.received next).closeReaderLink_riu
  have ha : Acts s (s.received next).closeReaderLink readerParts :=
    Acts.trans (Acts.modRiu (.refl s _) _ (by decide)) (State.closeReaderLink_acts _)
  have hsrc : (s.received next).closeReaderLink.ntc.sources[Cause.linkErrors.source] = s.ntc.sources[Cause.linkErrors.source] :=
    State.closeReaderLink_source (fun l _ => by cases l <;> simp [Cause.source]) _
  generalize (s.received next).closeReaderLink = v at *
  generalize hw : (v.modRiu fun r => { r with badRun := 0 }).raise .linkErrors 16 = w
  have haw : Acts s w readerParts := hw ▸ Acts.raise (Acts.modRiu ha _ (by decide)) _ _ (by decide)
  have hu : w.calm := haw.calm_reader hc
  have hx : (publish s w.react).xm = v.xm := (hu.event_kept s (p := .memory) (by decide)).trans (by rw [← hw]; rfl)
  have hl : (publish s w.react).lanes = v.lanes := (hu.event_kept s (p := .lanes) (by decide)).trans (by rw [← hw]; rfl)
  have hn : (publish s w.react).ntc = w.ntc := hu.event_kept s (p := .notices) (by decide)
  have hg : v.ntc.Grows w.ntc := hw ▸ Ntc.grows_raise (v.modRiu fun r => { r with badRun := 0 }) _ _
  refine ⟨?_, ?_, ?_, hcut.later hx hl, haw.reader_event hc⟩
  · have hr : w.riu = { v.riu with badRun := 0 } := by rw [← hw]; rfl
    rw [hu.event_riu, hr, hriu]
    rfl
  · exact State.reports.event (hw ▸ State.reports_raise (t := v.modRiu _) _ hsrc (Cause.bit_lt _))
  · refine harmed.later hx ?_
    rw [hn]
    exact hg

/-! ## The events -/

theorem exec_inboundFrameTimeout (hm : s.mainSupply = true) (hd : s.riu.domain = .opened) (hr : s.riu.receiver = .inside) :
    exec .inboundFrameTimeout s = .next (publish s (s.judgeFrame .outside none).react) :=
  eventWhen_on hm (by simp [hd, hr]) _

/-- The commands that judge a frame bad, with where the receiver goes. -/
theorem exec_badFrame {e : Instr} {next : Receiver} (hm : s.mainSupply = true) (hd : s.riu.domain = .opened) (hr : s.riu.receiver = .inside)
    (he : (e = .inboundFrameTimeout ∧ next = .outside)
      ∨ (∃ n : Byte, 250 < n.toNat ∧ e = .inboundFrame (.badLength n) ∧ next = .discarding)
      ∨ (∃ last : Bool, e = .inboundFrame (.badStop last) ∧ next = if last then .outside else .discarding)
      ∨ ∃ kind payload check, payload.length ≤ 250 ∧ e = .inboundFrame (.complete kind payload check)
          ∧ (check ≠ frameCheck kind payload ∨ (kind ≠ 1 ∧ kind ≠ 2)) ∧ next = .outside) :
    exec e s = .next (publish s (s.judgeFrame next none).react) := by
  rcases he with ⟨rfl, rfl⟩ | ⟨n, hn, rfl, rfl⟩ | ⟨last, rfl, rfl⟩ | ⟨kind, payload, check, hp, rfl, hbad, rfl⟩
  · exact exec_inboundFrameTimeout hm hd hr
  · exact exec_inboundFrame hm hd hr (decide_eq_true hn)
  · exact exec_inboundFrame hm hd hr rfl
  · have hg : frameGood (.complete kind payload check) = none := by
      unfold frameGood
      refine if_neg fun h => ?_
      obtain ⟨h1, h2⟩ := h
      rcases hbad with hb | ⟨n1, n2⟩
      · exact hb h1
      · exact (Bool.or_eq_true _ _ ▸ h2).elim (fun e => n1 (eq_of_beq e)) fun e => n2 (eq_of_beq e)
    have hw : (FrameEnd.complete kind payload check).wellFormed = true := decide_eq_true hp
    exact (exec_inboundFrame hm hd hr hw).trans (by rw [hg]; rfl)

/-- Settles O47. A bad frame ends in one of three ways: dropped while four answers are owed, counted, or the sixteenth of its run. -/
theorem badFramesAreCounted : Obligations.BadFramesAreCounted := by
  unfold Obligations.BadFramesAreCounted
  refine ⟨fun s e next hm hc hd hr he => ?_, fun s hm hc hr => ?_, fun s hm hc hd a rest ha ho hs => ?_⟩
  · refine ⟨_, exec_badFrame hm hd hr he, fun hfull => ?_, fun hroom hrun => ?_, fun hroom hrun => ?_⟩
    · rw [State.judgeFrame_full _ _ hfull]
      exact riu_event hc _
    · rw [State.judgeFrame_room _ _ hroom]
      dsimp only
      rw [State.badFrame_counts (s := s.received next) hrun, State.received, State.modRiu_modRiu]
      exact riu_event hc _
    · rw [State.judgeFrame_room _ _ hroom]
      exact linkErrors_event hc next hrun
  · exact ⟨_, eventWhen_on hm (by simp [hr]) _, riu_event hc _⟩
  · have hsend : s.riu.sending = false := by
      unfold Riu.sending
      rw [ho]
      cases hx : s.riu.send with
      | none => rfl
      | some x => exact beq_false_of_ne (hs x hx)
    refine ⟨_, eventWhen_on hm (by simp [hd, ha, hsend]) _, ?_⟩
    have := riu_event hc fun r => { r with answers := r.answers.tail }
    rwa [ha] at this

end Sys2Proof.Machine
end

section
/-! PROOFS. The attempts of a Send by its answers and its timers (R142). -/
namespace Sys2Proof.Machine

variable {s t u v w : State} {off : Nat} {c : Card} {o : CardOutcome} {x : Send}

/-- The Send that waits on the reader lane, its card's link showing END. -/
structure State.sendWaits (s : State) (x : Send) (off : Nat) (c : Card) : Prop where
  calm : s.calm
  send : s.riu.send = some x
  held : s.lanes.reader.held = some { offset := off, card := c, phase := .waiting }
  kind : c.kind = 0x44
  link : s.readLink off = .atEnd
  memory : s.memoryOk

/-- The event in which a Send finishes. -/
theorem finishSend_event (h : s.sendWaits x off c) (y : Send) (o : CardOutcome) :
    let t := publish s (s.finishSend y o).react
    t.riu = { s.riu with send := none } ∧ t.cardEnded .reader off o
      ∧ Memory.read t.xm (off + 20) = BitVec.ofNat 8 y.attempts ∧ Memory.read t.xm (off + 21) = BitVec.ofNat 8 y.holds
      ∧ Memory.read t.xm (off + 22) = (match y.last with
        | none => 0
        | some .accept => 1
        | some .hold => 2
        | some .reject => 3)
      ∧ s.changesOnly t [.memory, .parity, .lanes, .notices, .reader, .displays] := by
  have hfin : s.finishSend y o = (s.modRiu fun r => { r with send := none }).finishCard .reader y.results o := by
    have hk : Kind.ofByte c.kind = some .send := by rw [h.kind]; rfl
    unfold State.finishSend
    refine if_pos ?_
    have hw : (s.modRiu fun r => { r with send := none }).waitingKind .reader = some .send := by
      simp [State.waitingKind, State.lane, State.modRiu, h.held, hk]
    exact hw
  rw [hfin]
  have ha : Acts s ((s.modRiu fun r => { r with send := none }).finishCard .reader y.results o) readerParts :=
    Acts.finishCard (Acts.modRiu (.refl s _) _ (by decide)) _ _ _ (by decide)
  have hu := ha.calm_reader h.calm
  generalize hv : s.modRiu (fun r => { r with send := none }) = v at *
  have hvm : v.memoryOk := hv ▸ h.memory
  have hvh : (v.lane .reader).held = some { offset := off, card := c, phase := .waiting } := by rw [← hv]; exact h.held
  have hvl : v.readLink off = .atEnd := by rw [← hv]; exact h.link
  have hended := (State.finishCard_atEnd hvm hvh hvl y.results o).1
  have hres := fun p => State.finishCard_results (p := p) hvm hvh hvl y.results_nodup o
  have hriu : (v.finishCard .reader y.results o).riu = { s.riu with send := none } := by
    rw [State.finishCard_riu, ← hv]
    rfl
  generalize v.finishCard .reader y.results o = w at *
  have hx : (publish s w.react).xm = w.xm := hu.event_kept s (p := .memory) (by decide)
  obtain ⟨r1, r2, r3⟩ := y.results_read (t := publish s w.react) (a := off) fun p hp => by rw [hx]; exact hres p hp
  exact ⟨(hu.event_riu s).trans hriu, State.cardEnded_event hu hended, r1, r2, r3, ha.reader_event h.calm⟩

/-- An attempt that is used: the next begins, or the Send finishes. -/
theorem State.attemptUsed_again (last : Option AnswerByte) (h : x.attempts < 2) : s.attemptUsed x last =
    s.modRiu fun r => { r with send := some { x with attempts := x.attempts + 1, last := last, phase := .sending } } :=
  if_pos (by simp only [Config.sendAttempts]; omega)

theorem State.attemptUsed_last (last : Option AnswerByte) (h : 2 ≤ x.attempts) : s.attemptUsed x last =
    s.finishSend { x with attempts := x.attempts + 1, last := last } .noAnswer :=
  if_neg (by simp only [Config.sendAttempts]; omega)

theorem State.sendAnswered_hold (h : x.holds < 40) : s.sendAnswered x .hold =
    s.modRiu fun r => { r with send := some { x with holds := x.holds + 1, last := some .hold, phase := .holding } } :=
  if_pos (by simp only [Config.holdResends]; omega)

theorem State.sendAnswered_held (h : 40 ≤ x.holds) : s.sendAnswered x .hold = s.finishSend { x with last := some .hold } .noAnswer :=
  if_neg (by simp only [Config.holdResends]; omega)

theorem Riu.awaits_eq {r : Riu} {ph : SendPhase} (hx : r.send = some x) (hp : x.phase = ph) : r.awaits ph = true := by
  unfold Riu.awaits
  rw [hx]
  exact beq_iff_eq.mpr hp

theorem exec_readerAnswer (a : AnswerByte) (hm : s.mainSupply = true) (hd : s.riu.domain = .opened) (hr : s.riu.receiver = .outside)
    (hx : s.riu.send = some x) (hp : x.phase = .awaiting) :
    exec (.readerAnswer a) s = .next (publish s (s.sendAnswered x a).react) := by
  refine (eventWhen_on hm (by simp [hd, hr, Riu.awaits_eq hx hp]) _).trans ?_
  rw [hx]

theorem exec_sendAnswerExpiry (hm : s.mainSupply = true) (hx : s.riu.send = some x) (hp : x.phase = .awaiting) :
    exec .sendAnswerExpiry s = .next (publish s (s.attemptUsed x x.last).react) := by
  refine (eventWhen_on hm (Riu.awaits_eq hx hp) _).trans ?_
  rw [hx]

/-- The event in which the Send's record alone changes. -/
theorem send_event (hc : s.calm) (hx : s.riu.send = some x) (f : Send → Send) :
    let t := publish s (s.modRiu fun r => { r with send := r.send.map f }).react
    t.riu = { s.riu with send := some (f x) } ∧ s.changesOnly t [.reader, .displays] := by
  have h := riu_event hc fun r => { r with send := r.send.map f }
  rwa [hx] at h

/-- Settles O49: each answer and each timer goes on with the Send or finishes it. -/
theorem sendAttempts : Obligations.SendAttempts := by
  unfold Obligations.SendAttempts
  intro s x off c hm hc hd hx hh hk hl hok
  have h : s.sendWaits x off c := ⟨hc, hx, hh, hk, hl, hok⟩
  refine ⟨fun ho hp => ?_, fun hr hp => ?_, fun hr hp => ?_, fun hr hp => ?_, fun hp => ?_, fun hp => ?_⟩
  · have hsend : s.riu.sending = true := by
      unfold Riu.sending
      rw [ho, hx, Bool.false_or]
      exact beq_iff_eq.mpr hp
    refine ⟨_, (eventWhen_on hm (by rw [hd, hsend]; rfl) _).trans rfl, ?_⟩
    rw [if_neg (by rw [ho]; decide)]
    exact send_event hc hx _
  · exact ⟨_, exec_readerAnswer .accept hm hd hr hx hp, finishSend_event h _ _⟩
  · refine ⟨_, exec_readerAnswer .reject hm hd hr hx hp, fun hlt => ?_, fun hge => ?_⟩
    · rw [State.sendAnswered, State.attemptUsed_again _ hlt]
      exact riu_event hc _
    · rw [State.sendAnswered, State.attemptUsed_last _ hge]
      exact finishSend_event h _ _
  · refine ⟨_, exec_readerAnswer .hold hm hd hr hx hp, fun hlt => ?_, fun hge => ?_⟩
    · rw [State.sendAnswered_hold hlt]
      exact riu_event hc _
    · rw [State.sendAnswered_held hge]
      exact finishSend_event h _ _
  · refine ⟨_, exec_sendAnswerExpiry hm hx hp, fun hlt => ?_, fun hge => ?_⟩
    · rw [State.attemptUsed_again _ hlt]
      exact riu_event hc _
    · rw [State.attemptUsed_last _ hge]
      exact finishSend_event h _ _
  · exact ⟨_, eventWhen_on hm (Riu.awaits_eq hx hp) _, send_event hc hx _⟩

end Sys2Proof.Machine
end

section
/-! PROOFS. The completion of a sale at the end of its settle window (R64, R36, R66, R186). -/
namespace Sys2Proof.Machine

variable {s t u v w : State} {side : Side} {x : Sale} {l : Lock} {r : StopReason} {m : MeterNo} {e : EndedSale}

/-! ## Claims released with their counts staying -/

/-- A meter whose claim is released, its counts staying (R16). -/
def Meter.freed (m : Meter) : Meter := { m with owner := none, phaseErrors := 0 }

theorem foldl_release_meter (cs : List Claim) (s : State) (m : MeterNo) :
    (cs.foldl (fun s c => s.modMeter c.meter fun x =>
      { x with owner := none, phaseErrors := 0, unclaimed := if false = true then x.unclaimed + BitVec.ofInt 32 c.n else x.unclaimed }) s).meter m
      = if m ∈ cs.map Claim.meter then (s.meter m).freed else s.meter m := by
  induction cs generalizing s with
  | nil => simp
  | cons c cs ih =>
    rw [List.foldl_cons, ih, State.modMeter_meter_eq]
    by_cases h : m = c.meter <;> simp [h, Meter.freed]

theorem State.releaseClaims_freed (h : (s.pos side).sale = some x) (m : MeterNo) :
    (s.releaseClaims side false).meter m = if m ∈ x.claims.map Claim.meter then (s.meter m).freed else s.meter m := by
  unfold State.releaseClaims
  rw [h]
  exact foldl_release_meter x.claims s m

theorem State.finishSale_meter (h : (s.pos side).sale = some x) (e : EndedSale) (m : MeterNo) :
    (s.finishSale side e).meter m = if m ∈ x.claims.map Claim.meter then (s.meter m).freed else s.meter m :=
  State.releaseClaims_freed h m

theorem State.finishSale_routes (s : State) (side : Side) (e : EndedSale) : (s.finishSale side e).miu.routes = s.miu.routes :=
  s.releaseClaims_routes side false

/-- The store's record once the RSC has added an ended sale (R186). -/
def Rsc.grown (q : Rsc) (side : Side) (e : EndedSale) : Rsc :=
  { q with totals := q.totals.set side ((q.totals.get side).set e.hose ((q.totals.get side)[e.hose].add e)) }

theorem State.finishSale_rsc (s : State) (side : Side) (e : EndedSale) : (s.finishSale side e).rsc = s.rsc.grown side e := by
  have h : (s.releaseClaims side false).rsc = s.rsc := (s.releaseClaims_acts side false).frame .store (by decide)
  unfold State.finishSale State.addTotals
  rw [State.modRsc_rsc]
  show (s.releaseClaims side false).rsc.grown side e = _
  rw [h]

theorem State.finishSale_frame (s : State) (side : Side) (e : EndedSale) : Acts s (s.finishSale side e) [.meters, .positions, .store] := by
  unfold State.finishSale State.addTotals
  exact Acts.modRsc (Acts.modPos ((s.releaseClaims_acts side false).mono (by decide)) _ _ (by decide)) _ (by decide)

theorem Rsc.grown_totals (q : Rsc) (side : Side) (e : EndedSale) :
    ((q.grown side e).totals.get side)[e.hose] = (q.totals.get side)[e.hose].add e
      ∧ (∀ k, k ≠ e.hose → ((q.grown side e).totals.get side)[k] = (q.totals.get side)[k])
      ∧ (q.grown side e).totals.get (other side) = q.totals.get (other side) := by
  have h : (q.grown side e).totals.get side = (q.totals.get side).set e.hose ((q.totals.get side)[e.hose].add e) := by
    cases side <;> rfl
  rw [h]
  refine ⟨by simp, fun k hk => ?_, Sides.get_set_other ..⟩
  simp [Fin.val_inj, hk.symm]

/-! ## The ended sale -/

/-- OVERRUN at the completion of ENDING (R36). -/
theorem Sale.overruns_iff (hl : x.lock = some l) (hr : x.stop = some r) :
    x.overruns = true ↔ (r = .preset ∧ ∃ a, l.preset = .amount a ∧ a < x.amount) ∨ (r = .preset ∧ ∃ v, l.preset = .volume v ∧ v < x.v)
      ∨ (r = .limit ∧ l.vt < x.v) := by
  unfold Sale.overruns
  rw [hl, hr]
  cases r with
  | preset => cases h : l.preset <;> simp [h]
  | _ => simp

theorem Sale.ended_eq (hl : x.lock = some l) (overrun recovered : Bool) (now : Stamp) : x.ended r overrun recovered now =
    { tag := x.tag, origin := x.origin, hose := x.hose, grade := x.grade, kind := x.kind, p := l.p, d := l.d, e := l.e,
      mode := l.mode, v := x.v, amount := x.amount, flags := { x.flags with overrun := x.flags.overrun || overrun }, stop := r,
      started := x.started, ended := now, recovered := recovered } := by
  simp [Sale.ended, hl]

/-! ## Where the position arrives -/

/-- The state that a position enters at the completion of ENDING (R64). -/
def State.afterEnding (s : State) (side : Side) : PosState :=
  if (s.board side).sideFault then .closed .display else if s.ssu.site = .closing then .closed .night else .idle

/-- The arrival of the position at the completion of ENDING. -/
def State.arriveEnded (u : State) (side : Side) : State :=
  if (u.board side).sideFault then u.closePos side .display
  else if u.ssu.site = .closing then u.closePos side .night
  else u.enterIdle side

theorem State.arriveEnded_acts (u : State) (side : Side) : Acts u (u.arriveEnded side) [.notices, .positions] := by
  unfold State.arriveEnded
  split
  · exact Acts.closePos (.refl u _) _ _ (by decide)
  · split
    · exact Acts.closePos (.refl u _) _ _ (by decide)
    · exact Acts.enterIdle (.refl u _) _ (by decide)

theorem State.arriveEnded_pos_ne (u : State) {y : Side} (h : y ≠ side) : (u.arriveEnded side).pos y = u.pos y := by
  unfold State.arriveEnded
  split
  · exact State.closePos_pos_ne _ _ h
  · split
    · exact State.closePos_pos_ne _ _ h
    · exact State.enterIdle_pos_ne _ h

theorem State.arriveEnded_pos (u : State) (side : Side) : ((u.arriveEnded side).pos side).st = u.afterEnding side
    ∧ ((u.arriveEnded side).pos side).fast = false ∧ ((u.arriveEnded side).pos side).slow = false
    ∧ ((u.arriveEnded side).pos side).pump = false ∧ ((u.arriveEnded side).pos side).sale = (u.pos side).sale
    ∧ ((u.arriveEnded side).pos side).unpaid = (u.pos side).unpaid ∧ ((u.arriveEnded side).pos side).lastShown = (u.pos side).lastShown
    ∧ ((u.arriveEnded side).pos side).settleTimer = (u.pos side).settleTimer := by
  unfold State.arriveEnded State.afterEnding
  cases (u.board side).sideFault with
  | true =>
    rw [if_pos rfl, if_pos rfl, State.closePos_pos]
    exact ⟨rfl, rfl, rfl, rfl, rfl, rfl, rfl, rfl⟩
  | false =>
    rw [if_neg Bool.false_ne_true, if_neg Bool.false_ne_true]
    by_cases h : u.ssu.site = .closing
    · rw [if_pos h, if_pos h, State.closePos_pos]
      exact ⟨rfl, rfl, rfl, rfl, rfl, rfl, rfl, rfl⟩
    · rw [if_neg h, if_neg h, State.enterIdle_pos]
      exact ⟨rfl, rfl, rfl, rfl, rfl, rfl, rfl, rfl⟩

theorem State.arriveEnded_idle (h : u.afterEnding side = .idle) : (u.arriveEnded side).ntc = u.ntc := by
  unfold State.arriveEnded
  unfold State.afterEnding at h
  split at h
  · cases h
  · split at h
    · cases h
    · rename_i h1 h2
      rw [if_neg h1, if_neg h2]
      rfl

/-! ## The completed sale -/

/-- The state in which the sale has been taken away and its entry has joined the list. -/
def State.withEntry (s : State) (side : Side) (e : EndedSale) : State :=
  (s.finishSale side e).modPos side fun p => { p with settleTimer := none }

theorem State.withEntry_acts (s : State) (side : Side) (e : EndedSale) : Acts s (s.withEntry side e) [.meters, .positions, .store] :=
  Acts.modPos (s.finishSale_frame side e) _ _ (by decide)

theorem State.withEntry_pos (s : State) (side : Side) (e : EndedSale) : (s.withEntry side e).pos side =
    { s.pos side with sale := none, unpaid := (s.pos side).unpaid ++ [e], lastShown := e.shown, settleTimer := none } := by
  rw [State.withEntry, State.modPos_pos, State.finishSale_pos]

theorem State.withEntry_pos_ne (s : State) (e : EndedSale) {y : Side} (h : y ≠ side) : (s.withEntry side e).pos y = s.pos y := by
  rw [State.withEntry, State.modPos_pos_ne _ _ h, State.finishSale_pos_ne _ _ h]

theorem State.afterEnding_congr (h1 : u.dlc = s.dlc) (h2 : u.ssu = s.ssu) : u.afterEnding side = s.afterEnding side := by
  unfold State.afterEnding State.board
  rw [h1, h2]

/-- The sale completed: the step of the store that is asked for, and the notice, apart. -/
def State.endedSale (s : State) (side : Side) (e : EndedSale) : State := (s.withEntry side e).arriveEnded side

theorem State.endedSale_acts (s : State) (side : Side) (e : EndedSale) :
    Acts s (s.endedSale side e) [.notices, .meters, .positions, .store] :=
  ((s.withEntry_acts side e).mono (by decide)).trans ((State.arriveEnded_acts _ side).mono (by decide))

theorem State.endedSale_pos_ne (s : State) (e : EndedSale) {y : Side} (h : y ≠ side) : (s.endedSale side e).pos y = s.pos y := by
  rw [State.endedSale, State.arriveEnded_pos_ne _ h, State.withEntry_pos_ne _ _ h]

theorem State.completeEnding_eq (hx : (s.pos side).sale = some x) (hr : x.stop = some r) : s.completeEnding side =
    ((s.endedSale side (x.ended r x.overruns false s.stamp)).requestStep [.totals, .meters, unpaidRecord side] []).raisePos side .saleEnded
      (x.tag.toNat % 65536) := by
  have ht : ((x.ended r x.overruns false s.stamp).tag.setWidth 16).toNat = x.tag.toNat % 65536 := BitVec.toNat_setWidth 16 x.tag
  rw [← ht]
  unfold State.completeEnding
  rw [hx]
  dsimp only
  rw [hr]
  rfl

/-- Nothing that waits goes on when a sale completes, no price pending and the site not CLOSING. -/
theorem State.endedSale_calm (hc : s.calm) (hn : s.noPending) (hs : s.ssu.site ≠ .closing) (side : Side) (e : EndedSale) :
    (s.endedSale side e).calm := by
  have ha := s.endedSale_acts side e
  have hst : ((s.endedSale side e).pos side).st ≠ .starting .gate := by
    rw [State.endedSale, (State.arriveEnded_pos _ side).1]
    unfold State.afterEnding
    split
    · simp
    · split <;> simp
  have hroutes : (s.endedSale side e).miu.routes = s.miu.routes :=
    (congrArg Miu.routes ((State.arriveEnded_acts _ side).frame .meters (by decide))).trans (s.finishSale_routes side e)
  have hrsc : (s.endedSale side e).rsc = s.rsc.grown side e :=
    ((State.arriveEnded_acts _ side).frame .store (by decide)).trans (s.finishSale_rsc side e)
  have e1 : (s.endedSale side e).ssu = s.ssu := ha.frame .site (by decide)
  have e2 : (s.endedSale side e).pru = s.pru := ha.frame .prices (by decide)
  have e3 : (s.endedSale side e).dlc = s.dlc := ha.frame .displays (by decide)
  have hother (y : Side) (hy : y ≠ side) := s.endedSale_pos_ne e hy
  generalize s.endedSale side e = u at *
  obtain ⟨hpan, -, -, hload, hstep, hgate, hstand⟩ := hc
  refine ⟨State.panelsWait_congr e1 e2 hpan, fun h => absurd h (by rw [e1]; exact hs), fun _ g hg => ?_, State.loadWaits_congr e1 e2 hload, ?_,
    fun y => ?_, State.panelsStand_congr (by rw [e1]) hroutes e2 (fun _ => by simp only [State.board, e3])
      (fun y k => .inl (by simp only [State.board, e3])) hstand⟩
  · have : u.grade g = s.grade g := by simp only [State.grade, e2]
    rw [this, hn g] at hg
    cases hg
  · unfold State.stepsWait
    rw [hrsc]
    exact hstep
  · by_cases hy : y = side
    · rw [hy]
      exact fun h => absurd h hst
    · exact State.gateWaits_congr (hother y hy) e2 (hgate y)

theorem requestStep_raisePos (s : State) (records : List RecordId) (who : List Requester) (side : Side) (c : PosCause) (d : Nat) :
    (s.requestStep records who).raisePos side c d = (s.raisePos side c d).requestStep records who := by
  unfold State.requestStep
  have h : (s.raisePos side c d).powerDown = s.powerDown := rfl
  rw [h]
  cases s.powerDown && !who.any Requester.isFreeze <;> rfl

/-- The completed sale in the event of its settle window's end, the store free and no price pending. -/
theorem endedSale_event (hc : s.calm) (hn : s.noPending) (hf : s.storeFree) (hs : s.ssu.site ≠ .closing) (side : Side) (e : EndedSale)
    (records : List RecordId) (hr : records ≠ allRecords) (d : Nat) :
    let t := publish s (((s.endedSale side e).requestStep records []).raisePos side .saleEnded d).react
    (∃ act, t.rsc.active = some act ∧ act.step.records = records ∧ act.contents = t.liveContents)
      ∧ t.rsc.totals = (s.rsc.grown side e).totals
      ∧ (∀ m, t.meter m = (s.finishSale side e).meter m) ∧ t.pos (other side) = s.pos (other side)
      ∧ s.changesOnly t [.meters, .positions, .notices, .store, .displays] := by
  have hcalm := State.endedSale_calm hc hn hs side e
  have ha := s.endedSale_acts side e
  have hrsc : (s.endedSale side e).rsc = s.rsc.grown side e :=
    ((State.arriveEnded_acts _ side).frame .store (by decide)).trans (s.finishSale_rsc side e)
  have hmeter (m : MeterNo) : (s.endedSale side e).meter m = (s.finishSale side e).meter m := by
    have h := (State.arriveEnded_acts (s.withEntry side e) side).frame .meters (by decide)
    exact congrArg (fun z : Miu => z.meters[m]) h
  have hother := s.endedSale_pos_ne (side := side) (y := other side) e (by cases side <;> decide)
  generalize s.endedSale side e = u at *
  rw [requestStep_raisePos]
  have hw : Acts u (u.raisePos side .saleEnded d) [.notices] := Acts.raise (.refl u _) _ _ (by decide)
  have hwc : (u.raisePos side .saleEnded d).calm := hw.calm hcalm (by decide) (by decide) (by decide)
    (fun y => hw.pos_eq (by decide) y) (hw.panelsStand (by decide) (by decide) (by decide) (by decide))
  have hwr : (u.raisePos side .saleEnded d).rsc = s.rsc.grown side e := (hw.frame .store (by decide)).trans hrsc
  have hall : Acts s (u.raisePos side .saleEnded d) [.notices, .meters, .positions, .store] := ha.trans (hw.mono (by decide))
  have hwm (m : MeterNo) : (u.raisePos side .saleEnded d).meter m = (s.finishSale side e).meter m := hmeter m
  have hwo : (u.raisePos side .saleEnded d).pos (other side) = s.pos (other side) := hother
  generalize u.raisePos side .saleEnded d = w at *
  have hwf : w.storeFree := by
    unfold State.storeFree
    rw [hwr, hall.frame .site (by decide)]
    exact hf
  obtain ⟨g, -, e1, e2, e3⟩ := State.react_asksStep hwc hwf (step := { records := records, requesters := [] }) hr List.not_mem_nil
    (State.requestStep_free hwf (hwf.queue hwc) records [])
  generalize (w.requestStep records []).react = y at e1 e2 e3 ⊢
  refine ⟨⟨_, congrArg Rsc.active e1, rfl, e2.symm.trans rfl⟩, ?_, fun m => ?_, ?_, ((hall.mono (by decide)).trans (e3.mono (by decide))).published⟩
  · rw [publish_rsc, e1, hwr]
    rfl
  · rw [publish_meter, ← hwm m]
    exact congrArg (fun z : Miu => z.meters[m]) (e3.frame .meters (by decide))
  · rw [publish_pos, e3.pos_eq (by decide), hwo]

theorem State.afterEnding_kept (s : State) (side : Side) (e : EndedSale) : (s.withEntry side e).afterEnding side = s.afterEnding side :=
  State.afterEnding_congr ((s.withEntry_acts side e).frame .displays (by decide)) ((s.withEntry_acts side e).frame .site (by decide))

theorem State.afterEnding_open (s : State) (side : Side) : s.afterEnding side ≠ .starting .gate := by
  unfold State.afterEnding
  split
  · simp
  · split <;> simp

/-- The position at the end of its settle window, whatever waits. -/
theorem endedSale_pos (s : State) (side : Side) (e : EndedSale) (records : List RecordId) (d : Nat) :
    let p := (publish s (((s.endedSale side e).requestStep records []).raisePos side .saleEnded d).react).pos side
    p.st = s.afterEnding side ∧ p.fast = false ∧ p.slow = false ∧ p.pump = false ∧ p.sale = none
      ∧ p.unpaid = (s.pos side).unpaid ++ [e] ∧ p.lastShown = e.shown ∧ p.settleTimer = none := by
  have hp : (((s.endedSale side e).requestStep records []).raisePos side .saleEnded d).pos side = (s.endedSale side e).pos side :=
    (Acts.raise (Acts.requestStep (.refl _ [.store, .notices]) _ _ (by decide)) _ _ (by decide)).pos_eq (by decide) side
  have h := State.arriveEnded_pos (s.withEntry side e) side
  rw [State.afterEnding_kept, State.withEntry_pos] at h
  have hst : ((s.endedSale side e).pos side).st ≠ .starting .gate := by
    rw [State.endedSale, h.1]
    exact s.afterEnding_open side
  dsimp only
  rw [publish_react_pos (by rw [hp]; exact hst), hp]
  exact h

/-- SALE ENDED is raised, alone in its source where the position opens. -/
theorem endedSale_notice (s : State) (side : Side) (e : EndedSale) (records : List RecordId) (d : Nat) :
    let t := publish s (((s.endedSale side e).requestStep records []).raisePos side .saleEnded d).react
    t.notified (.position side .saleEnded) ∧ (s.afterEnding side = .idle → s.reports t (.position side .saleEnded) d) := by
  generalize hu : (s.endedSale side e).requestStep records [] = u
  have hr : u.reports (publish s (u.raisePos side .saleEnded d).react) (.position side .saleEnded) d := by
    have h := State.reports_raise (s := u) (t := u) (c := .position side .saleEnded) d rfl (Cause.bit_lt _)
    exact Ntc.Grows.reports (by rw [publish_ntc]; exact (Acts.reactAll _).notices) h
  refine ⟨hr.1, fun h => State.reports_source (State.source_congr ?_) hr⟩
  have h1 : u.ntc = (s.endedSale side e).ntc := by
    rw [← hu]
    exact (Acts.requestStep (.refl _ [.store]) _ _ (by decide)).frame .notices (by decide)
  rw [h1]
  exact (State.arriveEnded_idle ((s.afterEnding_kept side e).trans h)).trans ((s.withEntry_acts side e).frame .notices (by decide))

/-- Settles O29: the position, the notices, and, where nothing waits, totals, meters and the step of the store. -/
theorem settleWindowCompletesTheSale : Obligations.SettleWindowCompletesTheSale := by
  unfold Obligations.SettleWindowCompletesTheSale
  intro s side x l r hm hst htimer hx hl hr
  refine ⟨_, eventWhen_on hm (by simp [hst, htimer]) _, x.flags.overrun || x.overruns, ?_, ?_⟩
  · rw [Bool.or_eq_true, Sale.overruns_iff hl hr]
  rw [State.completeEnding_eq hx hr]
  have hE := Sale.ended_eq (r := r) hl x.overruns false s.stamp
  have hshown : (x.ended r x.overruns false s.stamp).shown = { v := x.v, amount := x.amount, e := l.e } := by rw [hE]; rfl
  have hhose : (x.ended r x.overruns false s.stamp).hose = x.hose := rfl
  have hadd (k : Total) : k.add (x.ended r x.overruns false s.stamp) =
    { volume := (k.volume + x.v) % 10 ^ 15, amount := (k.amount + x.amount) % 10 ^ 13, sales := (k.sales + 1) % 10 ^ 8 } := rfl
  generalize x.ended r x.overruns false s.stamp = e at *
  dsimp only
  rw [← hE]
  obtain ⟨p1, p2, p3, p4, p5, p6, p7, p8⟩ := endedSale_pos s side e [.totals, .meters, unpaidRecord side] (x.tag.toNat % 65536)
  obtain ⟨n1, n2⟩ := endedSale_notice s side e [.totals, .meters, unpaidRecord side] (x.tag.toNat % 65536)
  have hcalm := fun hc hn hf hs => endedSale_event (s := s) hc hn hf hs side e [.totals, .meters, unpaidRecord side] (by cases side <;> decide)
    (x.tag.toNat % 65536)
  dsimp only at hcalm
  generalize publish s _ = t at *
  refine ⟨p6, p7.trans hshown, p5, p8, p1, p2, p3, p4, n1, fun h => n2 (p1.symm.trans h), fun hc hn hf hs => ?_⟩
  obtain ⟨h1, h2, h3, h4, h5⟩ := hcalm hc hn hf hs
  obtain ⟨g1, g2, g3⟩ := s.rsc.grown_totals side e
  rw [h2]
  refine ⟨h1, ?_, ?_, g3, fun c hmem => ?_, fun m hne => ?_, h4, h5⟩
  · rw [← hadd]
    simpa only [hhose] using g1
  · simpa only [hhose] using g2
  · rw [h3, State.finishSale_meter hx, if_pos (List.mem_map_of_mem hmem)]
    rfl
  · rw [h3, State.finishSale_meter hx, if_neg fun hmem => (List.mem_map.mp hmem).elim fun c h => hne c h.1 h.2]

end Sys2Proof.Machine
end

section
/-! PROOFS. The refresh instant (R101, R102, R98): the marks, the contents sent and the links served at the end of its event. -/
namespace Sys2Proof.Machine

variable {s t u v w : State} {side x : Side} {b : Board} {f k : FieldId}

/-! ## The marks -/

/-- A field at a refresh instant (R101). -/
def FieldRec.marked (r : FieldRec) : FieldRec := { r with refreshDue := r.refreshDue || r.st == .current || r.st == .fault }

theorem FieldRec.marked_eq (r : FieldRec) : (if r.st = .current ∨ r.st = .fault then { r with refreshDue := true } else r) = r.marked := by
  unfold FieldRec.marked
  obtain ⟨wanted, shown, st, retries, repost, due, held⟩ := r
  cases st <;> cases due <;> rfl

theorem FieldRec.marked_of_clear {r : FieldRec} (h : r.marked.refreshDue = false) : r.marked = r := by
  obtain ⟨wanted, shown, st, retries, repost, due, held⟩ := r
  cases due with
  | true => cases h
  | false => exact congrArg (fun d => FieldRec.mk wanted shown st retries repost d held) h

/-- A board at a refresh instant. -/
def Board.marked (b : Board) (night : Bool) : Board :=
  { (allFields.foldl (fun b f => b.modField f FieldRec.marked) b) with pass := night }

theorem State.refreshBoard_eq (s : State) (side : Side) : s.refreshBoard side = s.modBoard side fun b => b.marked (s.ssu.site == .night) := by
  unfold State.refreshBoard Board.marked
  simp only [FieldRec.marked_eq]

theorem foldl_modField (g : FieldRec → FieldRec) (fs : List FieldId) (b : Board) :
    ∃ z, fs.foldl (fun b f => b.modField f g) b = { b with fields := z } := by
  induction fs generalizing b with
  | nil => exact ⟨b.fields, rfl⟩
  | cons f fs ih =>
    obtain ⟨z, hz⟩ := ih (b.modField f g)
    exact ⟨z, hz⟩

theorem foldl_modField_field (g : FieldRec → FieldRec) {fs : List FieldId} (hn : fs.Nodup) (b : Board) (k : FieldId) :
    (fs.foldl (fun b f => b.modField f g) b).field k = if k ∈ fs then g (b.field k) else b.field k := by
  induction fs generalizing b with
  | nil => simp
  | cons f fs ih =>
    obtain ⟨hf, hfs⟩ := List.nodup_cons.mp hn
    rw [List.foldl_cons, ih hfs, Board.modField_field]
    by_cases h : k = f
    · simp [h, hf]
    · simp [h]

theorem mem_allFields (f : FieldId) : f ∈ allFields := by
  cases f with
  | grade h => match h with
    | 0 | 1 | 2 | 3 => decide
  | _ => decide

theorem Board.marked_field (b : Board) (night : Bool) (k : FieldId) : (b.marked night).field k = (b.field k).marked :=
  (foldl_modField_field FieldRec.marked (by decide) b k).trans (if_pos (mem_allFields k))

/-- The marks touch the fields and the pass alone. -/
theorem Board.marked_eq (b : Board) (night : Bool) : ∃ z, b.marked night = { b with fields := z, pass := night } := by
  obtain ⟨z, hz⟩ := foldl_modField FieldRec.marked allFields b
  exact ⟨z, by rw [Board.marked, hz]⟩

theorem State.refreshBoard_acts (s : State) (side : Side) : Acts s (s.refreshBoard side) [.displays] := by
  rw [State.refreshBoard_eq]
  exact Acts.modBoard (.refl s _) _ _ (by decide)

theorem State.refreshBoard_board (s : State) (side : Side) :
    (s.refreshBoard side).board side = (s.board side).marked (s.ssu.site == .night) := by
  rw [State.refreshBoard_eq, State.modBoard_board]

theorem State.refreshBoard_board_other (s : State) (h : x ≠ side) : (s.refreshBoard side).board x = s.board x := by
  rw [State.refreshBoard_eq, State.modBoard_board_eq, if_neg h]

theorem State.refreshBoard_panelsStand (h : s.panelsStand) (side : Side) : (s.refreshBoard side).panelsStand := by
  have ha := s.refreshBoard_acts side
  refine State.panelsStand_congr (congrArg Ssu.site (ha.frame .site (by decide))) (congrArg Miu.routes (ha.frame .meters (by decide)))
    (ha.frame .prices (by decide)) (fun y => ?_) (fun y k => .inl ?_) h
  · by_cases hy : y = side
    · subst hy
      obtain ⟨z, hz⟩ := (s.board y).marked_eq (s.ssu.site == .night)
      rw [State.refreshBoard_board, hz]
      rfl
    · rw [State.refreshBoard_board_other s hy]
  · by_cases hy : y = side
    · subst hy
      rw [State.refreshBoard_board, Board.marked_field]
      rfl
    · rw [State.refreshBoard_board_other s hy]

theorem State.refreshBoard_calm (hc : s.calm) (side : Side) : (s.refreshBoard side).calm :=
  (s.refreshBoard_acts side).calm hc (by decide) (by decide) (by decide) (fun y => (s.refreshBoard_acts side).pos_eq (by decide) y)
    fun h => State.refreshBoard_panelsStand h side

/-! ## The links served -/

/-- A board whose link is served (R98, R102). -/
def Board.servedIn (b : Board) (down night : Bool) : Board :=
  if b.attempt.isNone && !down && (!night || b.pass) then
    match b.next with
    | some (f, refresh) => b.attemptField f refresh
    | none => { b with pass := false }
  else b

theorem State.serve_board (s : State) (side : Side) :
    (s.serve side).board side = (s.board side).servedIn s.powerDown (s.ssu.site == .night) := by
  have hl : s.linkFree side = ((s.board side).attempt.isNone && !s.powerDown && (!(s.ssu.site == .night) || (s.board side).pass)) := rfl
  unfold State.serve Board.servedIn
  rw [← hl]
  cases s.linkFree side with
  | false => rfl
  | true =>
    rw [if_pos rfl, if_pos rfl]
    cases (s.board side).next with
    | none => exact State.modBoard_board ..
    | some p => exact State.modBoard_board ..

theorem State.serve_board_ne (s : State) (h : x ≠ side) : (s.serve side).board x = s.board x := by
  unfold State.serve
  split
  · split <;> rw [State.modBoard_board_eq, if_neg h]
  · rfl

theorem State.serve_acts (s : State) (side : Side) : Acts s (s.serve side) [.displays] := Acts.serve (.refl s _) side (by decide)

/-- A board at the end of an event that lets nothing go on. -/
theorem State.react_board (hc : s.calm) (side : Side) :
    s.react.board side = (s.sendAll.board side).servedIn s.powerDown (s.ssu.site == .night) := by
  have ha : Acts s s.sendAll [.displays] := Acts.sendAll (.refl s _) (by decide)
  have hserve (w : State) (hw : w.ssu = s.ssu) (y : Side) : (w.serve y).board y = (w.board y).servedIn s.powerDown (s.ssu.site == .night) := by
    rw [State.serve_board, hw]
    simp only [State.powerDown, hw]
  have h1 : s.sendAll.ssu = s.ssu := ha.frame .site (by decide)
  have h2 : (s.sendAll.serve .a).ssu = s.ssu := ((s.sendAll.serve_acts .a).frame .site (by decide)).trans h1
  rw [State.react_calm hc]
  cases side with
  | a => rw [State.serve_board_ne _ (by decide), hserve _ h1]
  | b => rw [hserve _ h2, State.serve_board_ne _ (by decide)]

/-! ## The contents sent -/

/-- A board to which contents are sent: of each field what is wanted and the state may change (R99). -/
structure Board.Sent (b c : Board) : Prop where
  rest : ∃ z, c = { b with fields := z }
  field : ∀ f, (c.field f).refreshDue = (b.field f).refreshDue ∧ (c.field f).shown = (b.field f).shown ∧ (c.field f).retries = (b.field f).retries

theorem Board.Sent.refl (b : Board) : b.Sent b := ⟨⟨_, rfl⟩, fun _ => ⟨rfl, rfl, rfl⟩⟩

theorem Board.Sent.trans {a b c : Board} (h : a.Sent b) (k : b.Sent c) : a.Sent c := by
  obtain ⟨z, hz⟩ := h.rest
  obtain ⟨y, hy⟩ := k.rest
  refine ⟨⟨y, by rw [hy, hz]⟩, fun f => ?_⟩
  obtain ⟨h1, h2, h3⟩ := h.field f
  obtain ⟨k1, k2, k3⟩ := k.field f
  exact ⟨k1.trans h1, k2.trans h2, k3.trans h3⟩

theorem State.updateField_sent (s : State) (side x : Side) (f : FieldId) (c : Content) : (s.board x).Sent ((s.updateField side f c).board x) := by
  unfold State.updateField
  rw [State.modBoard_board_eq]
  split
  · subst_vars
    refine ⟨⟨_, rfl⟩, fun k => ?_⟩
    rw [Board.modField_field]
    split
    · subst_vars
      unfold FieldRec.update
      split <;> exact ⟨rfl, rfl, rfl⟩
    · exact ⟨rfl, rfl, rfl⟩
  · exact .refl _

theorem State.sendContents_boards (s : State) (side x : Side) : (s.board x).Sent ((s.sendContents side).board x) := by
  have hl : (s.board x).Sent ((s.sendLegal side).board x) := by
    unfold State.sendLegal
    split
    · exact .refl _
    · exact ((s.updateField_sent ..).trans (State.updateField_sent ..)).trans (State.updateField_sent ..)
  unfold State.sendContents
  split
  · exact .refl _
  · exact s.updateField_sent ..
  · exact hl.trans (State.updateField_sent ..)

theorem State.sendAll_boards (s : State) (x : Side) : (s.board x).Sent (s.sendAll.board x) :=
  (s.sendContents_boards .a x).trans ((s.sendContents .a).sendContents_boards .b x)

/-! Contents that are wanted already change nothing (R99). -/

theorem Fields.set_get (z : Fields) (f : FieldId) : z.set f (z.get f) = z := by
  cases f <;> simp [Fields.set, Fields.get]

theorem State.updateField_same {c : Content} (h : ((s.board side).field f).wanted = c) : (s.updateField side f c).board side = s.board side := by
  unfold State.updateField
  rw [State.modBoard_board]
  unfold Board.modField
  dsimp only
  have hf : ((s.board side).fields.get f).update c = (s.board side).fields.get f := if_pos h
  rw [hf, Fields.set_get]

theorem State.sendLegal_same (h : ∀ f ∈ legalFields, ((s.board side).field f).wanted = (s.pos side).legalContent f) :
    (s.sendLegal side).board side = s.board side := by
  unfold State.sendLegal
  split
  · rfl
  · simp only [legalFields, List.foldl_cons, List.foldl_nil]
    have h1 := State.updateField_same (h .amount (by decide))
    generalize s.updateField side .amount _ = u at h1
    have h2 := State.updateField_same (s := u) (h1 ▸ h .volume (by decide))
    generalize u.updateField side .volume _ = v at h2
    rw [h1] at h2
    rw [State.updateField_same (s := v) (h2 ▸ h .price (by decide)), h2]

theorem State.sendContents_same (h : s.contentsSent side) : (s.sendContents side).board side = s.board side := by
  obtain ⟨hlegal, hstatus⟩ := h
  unfold State.sendContents
  cases ht : (s.board side).test with
  | some z =>
    cases z with
    | segment ph o g => rfl
    | startCheck ph => exact State.updateField_same (hstatus (by simp [Board.segment, ht]))
  | none =>
    have hl : (s.sendLegal side).board side = s.board side := by
      by_cases hf : s.freezeMade = true
      · rw [State.sendLegal, if_pos hf]
      · refine State.sendLegal_same (hlegal ht fun k => hf ?_)
        simpa [State.freezeMade, State.powerDown] using k
    dsimp only
    rw [State.updateField_same, hl]
    rw [hl]
    exact hstatus (by simp [Board.segment, ht])

theorem State.sendAll_same (h : s.contentsSent side) : s.sendAll.board side = s.board side := by
  have ha : Acts s (s.sendContents .a) [.displays] := Acts.sendContents (.refl s _) .a (by decide)
  cases side with
  | a => exact ((s.sendContents .a).sendContents_board_other .b).trans (State.sendContents_same h)
  | b =>
    have ho : (s.sendContents .a).board .b = s.board .b := s.sendContents_board_other .a
    refine (State.sendContents_same ?_).trans ho
    exact State.contentsSent_congr (by rw [ho]; exact .refl _) (ha.frame .positions (by decide)) (ha.frame .inputs (by decide))
      (ha.frame .site (by decide)) (ha.frame .store (by decide)) h

theorem State.refreshBoard_sent (h : s.contentsSent side) : (s.refreshBoard side).contentsSent side := by
  have ha := s.refreshBoard_acts side
  refine State.contentsSent_congr ?_ (ha.frame .positions (by decide)) (ha.frame .inputs (by decide)) (ha.frame .site (by decide))
    (ha.frame .store (by decide)) h
  rw [State.refreshBoard_board]
  obtain ⟨z, hz⟩ := (s.board side).marked_eq (s.ssu.site == .night)
  exact ⟨by rw [hz], fun f => by rw [Board.marked_field]; rfl⟩

/-! ## The attempt that begins -/

theorem Board.next_pending (h : allFields.find? (fun f => (b.field f).st == .pending) = some f) : b.next = some (f, false) := by
  unfold Board.next
  rw [h]

theorem Board.next_refresh (hp : ∀ f, ((b.field f).st == .pending) = false) (h : allFields.find? (fun f => (b.field f).refreshDue) = some f) :
    b.next = some (f, true) := by
  have hn : allFields.find? (fun f => (b.field f).st == .pending) = none := List.find?_eq_none.mpr fun f _ => by rw [hp f]; decide
  unfold Board.next
  rw [hn, h]
  rfl

theorem Board.next_none (hp : ∀ f, ((b.field f).st == .pending) = false) (h : ∀ f, (b.field f).refreshDue = false) : b.next = none := by
  have hn : allFields.find? (fun f => (b.field f).st == .pending) = none := List.find?_eq_none.mpr fun f _ => by rw [hp f]; decide
  have hm : allFields.find? (fun f => (b.field f).refreshDue) = none := List.find?_eq_none.mpr fun f _ => by rw [h f]; decide
  unfold Board.next
  rw [hn, hm]
  rfl

theorem Board.attemptField_field (b : Board) (f k : FieldId) (refresh : Bool) : (b.attemptField f refresh).field k =
    if k = f then (if refresh then { b.field f with refreshDue := false } else { b.field f with st := .writing }) else b.field k :=
  Board.modField_field b f k fun r => if refresh then { r with refreshDue := false } else { r with st := .writing }

/-- The board of a free link after a refresh instant. -/
theorem refresh_board (hc : s.calm) (hs : s.contentsSent side) (hd : s.ssu.site ≠ .powerDown) (ha : (s.board side).attempt = none) :
    let b := (s.board side).marked (s.ssu.site == .night)
    (publish s (s.refreshBoard side).react).board side = match b.next with
      | some (f, refresh) => b.attemptField f refresh
      | none => { b with pass := false } := by
  dsimp only
  have hdown : s.powerDown = false := by simpa [State.powerDown] using hd
  have hsite : (s.refreshBoard side).ssu = s.ssu := (s.refreshBoard_acts side).frame .site (by decide)
  rw [publish_board, State.react_board (State.refreshBoard_calm hc side), State.sendAll_same (State.refreshBoard_sent hs),
    State.refreshBoard_board, hsite]
  have hdown' : (s.refreshBoard side).powerDown = false := by rw [State.powerDown, hsite]; exact hdown
  obtain ⟨z, hz⟩ := (s.board side).marked_eq (s.ssu.site == .night)
  unfold Board.servedIn
  rw [if_pos]
  rw [hz, hdown']
  cases hn : s.ssu.site == .night <;> simp [ha]

/-- The board of a busy link after a refresh instant: what is sent to it apart, the marks alone. -/
theorem State.calm.refreshBoard_busy (hc : s.calm) (ha : (s.board side).attempt.isSome = true) :
    ((s.board side).marked (s.ssu.site == .night)).Sent ((publish s (s.refreshBoard side).react).board side) := by
  have h := (s.refreshBoard side).sendAll_boards side
  rw [State.refreshBoard_board] at h
  obtain ⟨y, hy⟩ := h.rest
  obtain ⟨z, hz⟩ := (s.board side).marked_eq (s.ssu.site == .night)
  rw [publish_board, State.react_board (State.refreshBoard_calm hc side)]
  unfold Board.servedIn
  rw [if_neg]
  · exact h
  · obtain ⟨a, ha⟩ := Option.isSome_iff_exists.mp ha
    rw [hy, hz]
    simp [ha]

/-! ## A segment test's panels follow the attempt that begins -/

/-- The prices' rest, and the policy: what the end of an event looks at where nothing waits. -/
structure State.Rests (s t : State) : Prop where
  acts : Acts s t [.prices, .displays]
  pending : ∀ g, (t.grade g).pending = (s.grade g).pending
  loading : t.pru.loading = s.pru.loading
  policy : t.dlc.policy = s.dlc.policy

theorem State.Rests.refl (s : State) : s.Rests s := ⟨.refl s _, fun _ => rfl, rfl, rfl⟩

theorem State.Rests.trans (h : s.Rests t) (k : t.Rests u) : s.Rests u :=
  ⟨h.acts.trans k.acts, fun g => (k.pending g).trans (h.pending g), k.loading.trans h.loading, k.policy.trans h.policy⟩

theorem State.Rests.idle (h : s.Rests t) (hi : s.idle) : t.idle := by
  obtain ⟨h1, h2, h3, h4, h5, h6⟩ := hi
  have e1 : t.ssu = s.ssu := h.acts.frame .site (by decide)
  have e2 : t.rsc = s.rsc := h.acts.frame .store (by decide)
  refine ⟨by rw [e1]; exact h1, by rw [e1]; exact h2, fun g => (h.pending g).trans (h3 g), h.loading.trans h4, by rw [e2]; exact h5, fun x => ?_⟩
  rw [h.acts.pos_eq (by decide) x]
  exact h6 x

/-- The same with the side's board and panels. -/
structure State.SideLike (side : Side) (s t : State) : Prop where
  rests : s.Rests t
  board : t.board side = s.board side
  panels : ∀ g, (t.grade g).panels.get side = (s.grade g).panels.get side

theorem State.SideLike.refl (s : State) : s.SideLike side s := ⟨.refl s, rfl, fun _ => rfl⟩

theorem State.SideLike.trans (h : State.SideLike side s t) (k : State.SideLike side t u) : State.SideLike side s u :=
  ⟨h.rests.trans k.rests, k.board.trans h.board, fun g => (k.panels g).trans (h.panels g)⟩

theorem State.modPanel_panels (s : State) (g k : Fin 8) (x y : Side) (f : Panel → Panel) : ((s.modPanel g x f).grade k).panels.get y =
    if k = g ∧ y = x then f ((s.grade k).panels.get y) else (s.grade k).panels.get y := by
  have hg : (s.modPanel g x f).grade k = if k = g then { s.grade g with panels := (s.grade g).panels.set x (f ((s.grade g).panels.get x)) }
      else s.grade k := State.modGrade_grade_eq ..
  rw [hg]
  by_cases h : k = g
  · subst h
    rw [if_pos rfl, Sides.get_set]
    by_cases hy : y = x
    · simp [hy]
    · simp [hy]
  · rw [if_neg h, if_neg fun e => h e.1]

theorem State.refreshPanel_rests (s : State) (x : Side) (g : Fin 8) : s.Rests (s.refreshPanel x g) := by
  refine ⟨Acts.refreshPanel (.refl s _) x g (by decide), fun k => ?_, rfl, rfl⟩
  refine (congrArg Grade.pending (State.modGrade_grade_eq ..)).trans ?_
  split
  · subst_vars; rfl
  · rfl

theorem State.refreshPanel_sideLike (s : State) {x : Side} (h : side ≠ x) (g : Fin 8) : State.SideLike side s (s.refreshPanel x g) :=
  ⟨s.refreshPanel_rests x g, rfl, fun k => (s.modPanel_panels g k x side _).trans (if_neg fun e => h e.2)⟩

theorem State.serve_rests (s : State) (x : Side) : s.Rests (s.serve x) := by
  have ha := s.serve_acts x
  have hp : (s.serve x).pru = s.pru := ha.frame .prices (by decide)
  exact ⟨ha.mono (by decide), fun g => by simp only [State.grade, hp], by rw [hp], congrArg Settings.policy (s.serve_settings x)⟩

theorem State.serve_sideLike (s : State) {x : Side} (h : side ≠ x) : State.SideLike side s (s.serve x) := by
  have hp : (s.serve x).pru = s.pru := (s.serve_acts x).frame .prices (by decide)
  exact ⟨s.serve_rests x, s.serve_board_ne h, fun g => by simp only [State.grade, hp]⟩

theorem State.sendAll_rests (s : State) : s.Rests s.sendAll := by
  have ha : Acts s s.sendAll [.displays] := Acts.sendAll (.refl s _) (by decide)
  have hp : s.sendAll.pru = s.pru := ha.frame .prices (by decide)
  have hs : s.sendAll.settings = s.settings := by simp [State.sendAll]
  exact ⟨ha.mono (by decide), fun g => by simp only [State.grade, hp], by rw [hp], congrArg Settings.policy hs⟩

/-- A segment test holds the contents back (R110). -/
theorem State.sendAll_segment (h : (s.board side).segment = true) : State.SideLike side s s.sendAll := by
  have ha : Acts s s.sendAll [.displays] := Acts.sendAll (.refl s _) (by decide)
  have hp : s.sendAll.pru = s.pru := ha.frame .prices (by decide)
  have held (u : State) (hu : (u.board side).segment = true) : (u.sendContents side).board side = u.board side := by
    unfold State.sendContents
    unfold Board.segment at hu
    split
    · rfl
    · rename_i e
      rw [e] at hu
      cases hu
    · rename_i e
      rw [e] at hu
      cases hu
  refine ⟨s.sendAll_rests, ?_, fun g => by simp only [State.grade, hp]⟩
  cases side with
  | a => exact ((s.sendContents .a).sendContents_board_other .b).trans (held s h)
  | b =>
    have ho : (s.sendContents .a).board .b = s.board .b := s.sendContents_board_other .a
    exact (held _ (by rw [ho]; exact h)).trans ho

/-- What holds of a state after each report of a fold of reports. -/
theorem State.reportFields_induction {R : State → Prop} (hr : ∀ u g, R u → R (u.refreshPanel x g)) (hs : R s) (before : Fields) :
    R (s.reportFields x before) := by
  unfold State.reportFields
  generalize List.finRange 8 = l
  induction l generalizing s with
  | nil => exact hs
  | cons g l ih =>
    rw [List.foldl_cons]
    split
    · exact ih (hr s g hs)
    · exact ih hs

theorem State.reportFields_rests (s : State) (x : Side) (before : Fields) : s.Rests (s.reportFields x before) :=
  State.reportFields_induction (fun u g h => h.trans (u.refreshPanel_rests x g)) (.refl s) before

theorem State.serveLink_sideLike (s : State) {x : Side} (h : side ≠ x) : State.SideLike side s (s.serveLink x) :=
  State.reportFields_induction (fun u g hu => hu.trans (u.refreshPanel_sideLike h g)) (s.serve_sideLike h) _

theorem State.serveLink_rests (s : State) (x : Side) : s.Rests (s.serveLink x) :=
  (s.serve_rests x).trans (State.reportFields_rests ..)

/-- Fields that stand give no report. -/
theorem State.reportFields_same (s : State) (x : Side) : s.reportFields x (s.board x).fields = s := by
  unfold State.reportFields
  generalize List.finRange 8 = l
  induction l with
  | nil => rfl
  | cons g l ih =>
    rw [List.foldl_cons, if_neg]
    · exact ih
    · simp [Board.field]

/-- A link with an attempt in flight rests (R98). -/
theorem State.serveLink_busy (h : (s.board side).attempt.isSome = true) : s.serveLink side = s := by
  have hl : s.linkFree side = false := by
    obtain ⟨a, ha⟩ := Option.isSome_iff_exists.mp h
    simp [State.linkFree, ha]
  have hs : s.serve side = s := by
    unfold State.serve
    rw [hl]
    rfl
  unfold State.serveLink
  rw [hs]
  exact s.reportFields_same side

/-- The panel of a grade after the reports of a side's fields (R79). -/
theorem State.reportFields_panel (s : State) (x : Side) (before : Fields) (g : Fin 8) :
    ((s.reportFields x before).grade g).panels.get x =
      if (s.members g x).any (fun h => (before.get (.grade h)).st != ((s.board x).field (.grade h)).st) = true
      then ((s.grade g).panels.get x).become (s.panelState g x) s.dlc.policy.action else (s.grade g).panels.get x := by
  have key (l : List (Fin 8)) (hl : l.Nodup) (u : State) (hm : u.miu = s.miu) (hd : u.dlc = s.dlc) :
      ((l.foldl (fun u k => if (u.members k x).any (fun h => (before.get (.grade h)).st != ((u.board x).field (.grade h)).st) then
          u.refreshPanel x k else u) u).grade g).panels.get x =
        if g ∈ l ∧ (s.members g x).any (fun h => (before.get (.grade h)).st != ((s.board x).field (.grade h)).st) = true
        then ((u.grade g).panels.get x).become (s.panelState g x) s.dlc.policy.action else (u.grade g).panels.get x := by
    induction l generalizing u with
    | nil => simp
    | cons k l ih =>
      obtain ⟨hk, hl⟩ := List.nodup_cons.mp hl
      have hmem : u.members k x = s.members k x := by simp only [State.members, State.route, hm]
      have hb : u.board x = s.board x := by simp only [State.board, hd]
      have hst : u.panelState k x = s.panelState k x := by simp only [State.panelState, hmem, hb]
      rw [List.foldl_cons, hmem, hb]
      by_cases hany : (s.members k x).any (fun h => (before.get (.grade h)).st != ((s.board x).field (.grade h)).st) = true
      · rw [if_pos hany, ih hl (u.refreshPanel x k) hm hd, State.refreshPanel, State.modPanel_panels, hst, hd]
        by_cases hg : g = k
        · subst hg
          rw [if_neg fun e => hk e.1, if_pos ⟨rfl, rfl⟩, if_pos ⟨List.mem_cons_self, hany⟩]
        · rw [if_neg (fun e : g = k ∧ x = x => hg e.1)]
          simp [hg]
      · rw [if_neg hany, ih hl _ hm hd]
        by_cases hg : g = k
        · subst hg
          rw [if_neg fun e => hk e.1, if_neg fun e => hany e.2]
        · simp [hg]
  exact (key (List.finRange 8) (List.nodup_finRange 8) s rfl rfl).trans (by simp [List.mem_finRange])

theorem State.examine_idle (h : s.idle) : s.examine = s.sendAll := by
  obtain ⟨h1, h2, h3, h4, h5, h6⟩ := h
  have e3 : s.applyPrices = s := State.applyPrices_idle fun _ g hg => by rw [h3 g] at hg; cases hg
  have e4 : s.gate .a = s := State.gate_idle fun hst => absurd hst (h6 .a)
  have e5 : s.gate .b = s := State.gate_idle fun hst => absurd hst (h6 .b)
  have e6 : s.examinePanels = s := State.examinePanels_idle fun a b => absurd b (h1 a)
  have e7 : s.examinePositions = s := State.examinePositions_idle fun a b => absurd b (h2 a)
  have e8 : s.finishLoad = s := State.finishLoad_idle fun _ l hl => by rw [h4] at hl; cases hl
  simp only [State.examine, e3, e4, e5, e6, e7, State.runStore_idle (.inl h5), e8]

/-- Where nothing waits, a board under a segment test whose link is busy, and its panels, stand to the end of the event. -/
theorem State.settle_sideLike (n : Nat) (hi : s.idle) (hb : (s.board side).segment = true) (ha : (s.board side).attempt.isSome = true) :
    State.SideLike side s (State.settle n s) := by
  induction n generalizing s with
  | zero => exact .refl s
  | succ n ih =>
    have h1 : State.SideLike side s s.examine := by
      rw [State.examine_idle hi]
      exact State.sendAll_segment hb
    have h2 : State.SideLike side s.examine s.examine.serveLinks := by
      have hbusy : (s.examine.board side).attempt.isSome = true := by rw [h1.board]; exact ha
      unfold State.serveLinks
      cases side with
      | a =>
        rw [State.serveLink_busy hbusy]
        exact State.serveLink_sideLike _ (by decide)
      | b =>
        have h := s.examine.serveLink_sideLike (side := .b) (x := .a) (by decide)
        rw [State.serveLink_busy (s := s.examine.serveLink .a) (by rw [h.board]; exact hbusy)]
        exact h
    have h := h1.trans h2
    rw [State.settle]
    split
    · exact h
    · exact h.trans (ih (h.rests.idle hi) (by rw [h.board]; exact hb) (by rw [h.board]; exact ha))

theorem State.mem_members {h : HoseNo} {g : Fin 8} : h ∈ s.members g side ↔ (s.route side h).fitted = true ∧ (s.route side h).grade = g := by
  simp [State.members]

/-- A grade field is served during a segment test: its report sets its panel again from the members (R79, R110). -/
theorem State.serveLink_grade {h : HoseNo} {g : Fin 8} (hf : s.linkFree side = true) (hn : (s.board side).next = some (.grade h, false))
    (hp : ((s.board side).field (.grade h)).st = .pending) (hseg : (s.board side).segment = true) (hm : h ∈ s.members g side) :
    (s.serveLink side).board side = (s.board side).attemptField (.grade h) false
      ∧ ((s.serveLink side).grade g).panels.get side = ((s.grade g).panels.get side).become
          (if ∃ k ∈ s.members g side, ((s.board side).field (.grade k)).st = .fault then .fault else .updating) s.dlc.policy.action := by
  have ha := s.serve_acts side
  have hb : (s.serve side).board side = (s.board side).attemptField (.grade h) false := by
    unfold State.serve
    rw [if_pos hf, hn]
    exact State.modBoard_board ..
  have hd : (s.serveLink side).dlc = (s.serve side).dlc :=
    (show Acts (s.serve side) (s.serveLink side) [.prices] from Acts.reportFields (.refl _ _) side _ (by decide)).frame .displays (by decide)
  refine ⟨(congrArg (fun d : Dlc => d.boards.get side) hd).trans hb, ?_⟩
  have hmem : (s.serve side).members g side = s.members g side := by
    have hmiu : (s.serve side).miu = s.miu := ha.frame .meters (by decide)
    simp only [State.members, State.route, hmiu]
  have hg : (s.serve side).grade g = s.grade g := by
    have hpru : (s.serve side).pru = s.pru := ha.frame .prices (by decide)
    simp only [State.grade, hpru]
  have hst (k : HoseNo) : (((s.serve side).board side).field (.grade k)).st =
      if k = h then .writing else ((s.board side).field (.grade k)).st := by
    rw [hb, Board.attemptField_field]
    by_cases e : k = h <;> simp [e]
  have hchanged : ((s.serve side).members g side).any
      (fun k => ((s.board side).fields.get (.grade k)).st != (((s.serve side).board side).field (.grade k)).st) = true := by
    rw [hmem, List.any_eq_true]
    refine ⟨h, hm, ?_⟩
    have hp' : ((s.board side).fields.get (.grade h)).st = .pending := hp
    rw [hst, if_pos rfl, hp']
    decide
  have hpanel : (s.serve side).panelState g side =
      if ∃ k ∈ s.members g side, ((s.board side).field (.grade k)).st = .fault then .fault else .updating := by
    have hne : (s.members g side).isEmpty = false := by
      cases hms : s.members g side with
      | nil => rw [hms] at hm; cases hm
      | cons => rfl
    have hsg : ((s.serve side).board side).segment = true := by rw [hb]; exact hseg
    have hany : ((s.members g side).any fun k => (((s.serve side).board side).field (.grade k)).st == .fault) =
        decide (∃ k ∈ s.members g side, ((s.board side).field (.grade k)).st = .fault) := by
      rw [Bool.eq_iff_iff, List.any_eq_true, decide_eq_true_iff]
      refine exists_congr fun k => and_congr_right fun _ => ?_
      rw [hst, beq_iff_eq]
      by_cases e : k = h
      · rw [if_pos e, e, hp]
        decide
      · rw [if_neg e]
    unfold State.panelState
    dsimp only
    rw [hmem, hne, hany, hsg]
    simp
  unfold State.serveLink
  rw [State.reportFields_panel, if_pos hchanged, hpanel, hg, (s.serve_rests side).policy]

/-- The event of a refresh instant in which a grade field is served during a segment test. -/
theorem refresh_segment {h : HoseNo} {g : Fin 8} (hi : s.idle) (hd : s.ssu.site ≠ .powerDown) (hseg : (s.board side).segment = true)
    (ha : (s.board side).attempt = none) (hn : allFields.find? (fun f => ((s.board side).field f).st == .pending) = some (.grade h))
    (hm : h ∈ s.members g side) :
    let t := publish s (s.refreshBoard side).react
    t.board side = ((s.board side).marked (s.ssu.site == .night)).attemptField (.grade h) false
      ∧ (t.grade g).panels.get side = ((s.grade g).panels.get side).become
          (if ∃ k ∈ s.members g side, ((s.board side).field (.grade k)).st = .fault then .fault else .updating) s.dlc.policy.action
      ∧ s.changesOnly t [.prices, .displays] := by
  have hp : ((s.board side).field (.grade h)).st = .pending := by simpa using List.find?_some hn
  have hacts := s.refreshBoard_acts side
  have hrests : s.Rests (s.refreshBoard side) := by
    have hpru : (s.refreshBoard side).pru = s.pru := hacts.frame .prices (by decide)
    refine ⟨hacts.mono (by decide), fun g => by simp only [State.grade, hpru], by rw [hpru], ?_⟩
    rw [State.refreshBoard_eq]
    rfl
  have hboard := s.refreshBoard_board side
  have hgrade : (s.refreshBoard side).grade g = s.grade g := by
    have hpru : (s.refreshBoard side).pru = s.pru := hacts.frame .prices (by decide)
    simp only [State.grade, hpru]
  obtain ⟨z, hz⟩ := (s.board side).marked_eq (s.ssu.site == .night)
  have hfield (k : FieldId) : (((s.board side).marked (s.ssu.site == .night)).field k).st = ((s.board side).field k).st := by
    rw [Board.marked_field]; rfl
  have hnext : ((s.board side).marked (s.ssu.site == .night)).next = some (.grade h, false) := by
    refine Board.next_pending ?_
    simpa only [hfield] using hn
  -- what a state has that is like the marked one on the side
  have key (v : State) (hv : State.SideLike side (s.refreshBoard side) v) :
      (v.serveLink side).board side = ((s.board side).marked (s.ssu.site == .night)).attemptField (.grade h) false
        ∧ ((v.serveLink side).grade g).panels.get side = ((s.grade g).panels.get side).become
          (if ∃ k ∈ s.members g side, ((s.board side).field (.grade k)).st = .fault then .fault else .updating) s.dlc.policy.action
        ∧ s.Rests (v.serveLink side) := by
    have hall := hrests.trans hv.rests
    have hb : v.board side = (s.board side).marked (s.ssu.site == .night) := hv.board.trans hboard
    have hssu : v.ssu = s.ssu := hall.acts.frame .site (by decide)
    have hmiu : v.miu = s.miu := hall.acts.frame .meters (by decide)
    have hms : v.members g side = s.members g side := by simp only [State.members, State.route, hmiu]
    have hfree : v.linkFree side = true := by
      have hdown : (s.ssu.site == .powerDown) = false := by simpa using hd
      unfold State.linkFree State.powerDown
      rw [hb, hz, hssu, hdown]
      cases hnight : s.ssu.site == .night <;> simp [ha, bne, hnight]
    obtain ⟨h1, h2⟩ := State.serveLink_grade (s := v) (g := g) hfree (by rw [hb]; exact hnext) (by rw [hb, hfield]; exact hp)
      (by rw [hb, hz]; exact hseg) (by rw [hms]; exact hm)
    refine ⟨h1.trans (by rw [hb]), h2.trans ?_, hall.trans (v.serveLink_rests side)⟩
    rw [hv.panels, hgrade, hms, hall.policy, hb]
    simp only [hfield]
  have hsent := State.sendAll_segment (s := s.refreshBoard side) (side := side) (by rw [hboard, hz]; exact hseg)
  have hround : ((s.refreshBoard side).sendAll.serveLinks.board side = ((s.board side).marked (s.ssu.site == .night)).attemptField (.grade h) false
      ∧ ((s.refreshBoard side).sendAll.serveLinks.grade g).panels.get side = ((s.grade g).panels.get side).become
          (if ∃ k ∈ s.members g side, ((s.board side).field (.grade k)).st = .fault then .fault else .updating) s.dlc.policy.action)
      ∧ s.Rests (s.refreshBoard side).sendAll.serveLinks := by
    generalize (s.refreshBoard side).sendAll = v at hsent
    cases side with
    | a =>
      obtain ⟨h1, h2, h3⟩ := key v hsent
      have ho := (v.serveLink .a).serveLink_sideLike (side := .a) (x := .b) (by decide)
      exact ⟨⟨ho.board.trans h1, (ho.panels g).trans h2⟩, h3.trans ho.rests⟩
    | b =>
      obtain ⟨h1, h2, h3⟩ := key (v.serveLink .a) (hsent.trans (v.serveLink_sideLike (side := .b) (x := .a) (by decide)))
      exact ⟨⟨h1, h2⟩, h3⟩
  have hexamine : (s.refreshBoard side).examine = (s.refreshBoard side).sendAll := State.examine_idle (hrests.idle hi)
  obtain ⟨⟨h1, h2⟩, h3⟩ := hround
  have hend : State.SideLike side (s.refreshBoard side).sendAll.serveLinks (s.refreshBoard side).react := by
    unfold State.react settleFuel
    rw [State.settle, hexamine]
    split
    · exact .refl _
    · refine State.settle_sideLike 2 (h3.idle hi) ?_ ?_
      · rw [h1, hz]
        exact hseg
      · rw [h1]
        rfl
  have hall := (h3.trans hend.rests).acts
  have e1 := hend.board.trans h1
  have e2 := (hend.panels g).trans h2
  generalize (s.refreshBoard side).react = y at e1 e2 hall ⊢
  exact ⟨e1, e2, hall.published⟩

/-! ## The obligation -/

/-- The first field in the order of service (R98), as a search finds it. -/
theorem find?_of_first {p : FieldId → Bool} (h : ∃ before after, allFields = before ++ f :: after ∧ p f = true ∧ ∀ x ∈ before, p x = false) :
    allFields.find? p = some f := by
  obtain ⟨before, after, he, hp, hb⟩ := h
  rw [List.find?_eq_some_iff_append]
  exact ⟨hp, before, after, he, fun x hx => by rw [hb x hx]; rfl⟩

/-- Settles O40: by whether an attempt is in flight, what is served next, and whether a segment test runs. -/
theorem refreshInstantMarksFields : Obligations.RefreshInstantMarksFields := by
  unfold Obligations.RefreshInstantMarksFields
  refine ⟨fun s side hm hc hd ha => ?_, fun s side hm hc hd hs ha => ?_, fun s side h hm hi hd hseg ha hl hk hp hf => ?_⟩
  all_goals
    have hdown : (!s.powerDown) = true := by simpa [State.powerDown] using hd
    refine ⟨_, eventWhen_on hm hdown _, ?_⟩
  · have hb := hc.refreshBoard_busy ha
    have hw : s.changesOnly (publish s (s.refreshBoard side).react) [.displays] :=
      (Acts.react_calm (s.refreshBoard_acts side) (State.refreshBoard_calm hc side) (by decide)).published
    generalize publish s _ = t at *
    obtain ⟨z, hz⟩ := (s.board side).marked_eq (s.ssu.site == .night)
    obtain ⟨y, hy⟩ := hb.rest
    have hfield (f : FieldId) := hb.field f
    simp only [Board.marked_field] at hfield
    exact ⟨fun f => (hfield f).1, by rw [hy, hz], by rw [hy, hz], fun f => (hfield f).2, hw⟩
  · have hb := refresh_board hc hs hd ha
    have hw : s.changesOnly (publish s (s.refreshBoard side).react) [.displays] :=
      (Acts.react_calm (s.refreshBoard_acts side) (State.refreshBoard_calm hc side) (by decide)).published
    generalize publish s _ = t at *
    obtain ⟨z, hz⟩ := (s.board side).marked_eq (s.ssu.site == .night)
    have hfield := (s.board side).marked_field (s.ssu.site == .night)
    generalize (s.board side).marked (s.ssu.site == .night) = b at *
    dsimp only at hb
    have hpend (f : FieldId) : ((b.field f).st == .pending) = (((s.board side).field f).st == .pending) := by rw [hfield]; rfl
    have hdue (f : FieldId) : (b.field f).refreshDue =
      (((s.board side).field f).refreshDue || ((s.board side).field f).st == .current || ((s.board side).field f).st == .fault) := by
        rw [hfield]; rfl
    have hattempt (f : FieldId) (refresh : Bool) (h : t.board side = b.attemptField f refresh) :
        (t.board side).attempt = some { field := f, number := (s.board side).writeNumber, sent := ((s.board side).field f).wanted }
          ∧ (t.board side).writeNumber = (s.board side).writeNumber + 1 ∧ (t.board side).pass = (s.ssu.site == .night) := by
      have hwanted : (b.field f).wanted = ((s.board side).field f).wanted := by rw [hfield]; rfl
      rw [h, Board.attemptField, hwanted, hz]
      exact ⟨rfl, rfl, rfl⟩
    have hrest : (t.board side).test = (s.board side).test ∧ (t.board side).sideFault = (s.board side).sideFault := by
      rw [hb]
      cases b.next with
      | none => rw [hz]; exact ⟨rfl, rfl⟩
      | some p => rw [hz]; exact ⟨rfl, rfl⟩
    refine ⟨hw, hrest.1, hrest.2, fun f hf => ?_, fun hp f hf => ?_, fun hp hn => ?_⟩
    · have hn := Board.next_pending (b := b) (f := f) (by simpa only [hpend] using find?_of_first hf)
      rw [hn] at hb
      obtain ⟨h1, h2, h3⟩ := hattempt f false hb
      refine ⟨h1, h2, h3, fun x => ?_⟩
      rw [hb, Board.attemptField_field, hfield, hfield]
      by_cases hx : x = f
      · subst hx
        rw [if_pos rfl]
        exact (if_pos rfl).symm
      · rw [if_neg hx, if_neg hx]
        rfl
    · have hn := Board.next_refresh (b := b) (f := f) (fun k => (hpend k).trans (hp k)) (by simpa only [hdue] using find?_of_first hf)
      rw [hn] at hb
      obtain ⟨h1, h2, h3⟩ := hattempt f true hb
      refine ⟨h1, h2, h3, fun x => ?_⟩
      rw [hb, Board.attemptField_field, hfield, hfield]
      by_cases hx : x = f
      · subst hx
        rw [if_pos rfl]
        exact (if_pos rfl).symm
      · rw [if_neg hx, if_neg hx]
        rfl
    · have hno := Board.next_none (b := b) (fun k => (hpend k).trans (hp k)) fun k => (hdue k).trans (hn k)
      rw [hno] at hb
      have hkept (x : FieldId) : b.field x = (s.board side).field x := by
        have h := (hdue x).trans (hn x)
        rw [hfield] at h ⊢
        exact FieldRec.marked_of_clear h
      refine ⟨by rw [hb, hz]; exact ha, by rw [hb, hz], by rw [hb], fun x => ?_⟩
      rw [hb]
      exact hkept x
  · have hfind : allFields.find? (fun f => ((s.board side).field f).st == .pending) = some (.grade h) := by
      refine find?_of_first ?_
      have hgrades : ∃ before after, allFields = before ++ .grade h :: after
          ∧ ∀ x ∈ before, x ∈ legalFields ∨ ∃ k, k < h ∧ x = .grade k := by
        match h with
        | 0 => exact ⟨[.amount, .volume, .price], [.grade 1, .grade 2, .grade 3, .status], rfl, by simp [legalFields]⟩
        | 1 => exact ⟨[.amount, .volume, .price, .grade 0], [.grade 2, .grade 3, .status], rfl, by simp [legalFields]⟩
        | 2 => exact ⟨[.amount, .volume, .price, .grade 0, .grade 1], [.grade 3, .status], rfl, by simp [legalFields]⟩
        | 3 => exact ⟨[.amount, .volume, .price, .grade 0, .grade 1, .grade 2], [.status], rfl, by simp [legalFields]⟩
      obtain ⟨before, after, he, hb⟩ := hgrades
      refine ⟨before, after, he, by rw [hp]; rfl, fun x hx => ?_⟩
      rcases hb x hx with h | ⟨k, hlt, rfl⟩
      · exact beq_false_of_ne (hl x h)
      · exact beq_false_of_ne (hk k hlt)
    obtain ⟨h1, h2, h3⟩ := refresh_segment (g := (s.route side h).grade) hi hd hseg ha hfind (State.mem_members.mpr ⟨hf, rfl⟩)
    have hwanted : (((s.board side).marked (s.ssu.site == .night)).field (.grade h)).wanted = ((s.board side).field (.grade h)).wanted := by
      rw [Board.marked_field]; rfl
    obtain ⟨z, hz⟩ := (s.board side).marked_eq (s.ssu.site == .night)
    have hfaulted : (∃ k ∈ s.members (s.route side h).grade side, ((s.board side).field (.grade k)).st = .fault) ↔
        ∃ k, (s.route side k).fitted = true ∧ (s.route side k).grade = (s.route side h).grade ∧ ((s.board side).field (.grade k)).st = .fault :=
      exists_congr fun k => by rw [State.mem_members, and_assoc]
    generalize publish s _ = t at *
    refine ⟨?_, ?_, fun hx => ?_, fun hx => ?_, h3⟩
    · rw [h1, Board.attemptField_field, if_pos rfl]
      rfl
    · rw [h1, Board.attemptField, hwanted, hz]
    · rw [h2, if_pos (hfaulted.mpr hx)]
      rfl
    · rw [h2, if_neg (mt hfaulted.mp hx)]
      rfl

end Sys2Proof.Machine
end

section
/-! PROOFS. The notice registers and the host's accesses of exchange memory (R190 to R192, R206 to R210). -/
namespace Sys2Proof.Machine

variable {s t u v w : State} {P : List Part} {i : Fin 13}

/-! ## An event that lets nothing go on -/

theorem State.calm.event_changes (hw : w.calm) (h : ∀ p, p ∉ P → p.kept s w) (hd : Part.displays ∈ P) :
    s.changesOnly (publish s w.react) P :=
  fun p hp => Part.kept_same (Part.kept_trans (h p hp) (hw.event_kept s fun e => hp (e ▸ hd)))

/-- The state after a command that changes the notices alone. -/
theorem notices_event (hc : s.calm) (f : Ntc → Ntc) :
    (publish s (s.modNtc f).react).ntc = f s.ntc ∧ (publish s (s.modNtc f).react).hostReset = s.hostReset
      ∧ s.changesOnly (publish s (s.modNtc f).react) [.notices, .displays] := by
  have hu : (s.modNtc f).calm := hc
  refine ⟨hu.event_kept s (p := .notices) (by decide), (hu.event_kept s (p := .lines) (by decide)).2, hu.event_changes (fun p hp => ?_) (by decide)⟩
  cases p with
  | notices => exact absurd (by decide) hp
  | lines => exact ⟨rfl, rfl⟩
  | _ => rfl

/-! ## NOTICE_N (R210) -/

theorem Ntc.lowest_isSome (n : Ntc) : n.lowest.isSome = true ↔ ∃ i : Fin 13, n.sources[i].pending = true ∧ n.enable.getLsbD i.val = true := by
  simp [Ntc.lowest, Ntc.eligible, List.find?_isSome]

theorem State.line_driven (t : State) : t.lineDriven := by
  unfold State.lineDriven State.noticeLine
  rw [Bool.or_eq_true, Ntc.lowest_isSome]

theorem Ntc.lowest_none {n : Ntc} (h : ∀ i : Fin 13, n.sources[i].pending = false ∨ n.enable.getLsbD i.val = false) : n.lowest = none := by
  rw [← Option.not_isSome_iff_eq_none, Ntc.lowest_isSome]
  rintro ⟨i, h1, h2⟩
  rcases h i with e | e
  · rw [e] at h1; cases h1
  · rw [e] at h2; cases h2

theorem Ntc.lowest_eq {n : Ntc} (h1 : n.sources[i].pending = true) (h2 : n.enable.getLsbD i.val = true)
    (h3 : ∀ j : Fin 13, j < i → n.sources[j].pending = false ∨ n.enable.getLsbD j.val = false) : n.lowest = some i := by
  have hi : n.eligible i = true := by simp only [Ntc.eligible, h1, h2, Bool.and_self]
  have hlow : ∀ j : Fin 13, j < i → n.eligible j = false := fun j hj => by
    unfold Ntc.eligible
    rcases h3 j hj with e | e
    · rw [e]; rfl
    · rw [e, Bool.and_false]
  unfold Ntc.lowest
  rw [List.find?_eq_some_iff_getElem]
  refine ⟨hi, i.val, by simp, by simp, fun j hj => ?_⟩
  rw [List.getElem_finRange, hlow _ (by simpa [Fin.lt_def] using hj)]
  rfl

/-! ## The cause slot (R208) -/

theorem State.read_writeBytes {l : List Byte} (h : Memory.wf s.xm = true) (a : Nat) {n : Nat} (hn : n < l.length) :
    Memory.read (s.writeBytes a l).xm (a + n) = l[n] := by
  have hb := State.bytes_writeBytes_same h a l
  rw [State.bytes_eq] at hb
  have he := congrArg (fun z : List Byte => z[n]?) hb
  simpa [hn] using he

theorem half_of_bytes (v : Half) : ((v >>> 8).setWidth 8 ++ v.setWidth 8 : BitVec 16) = v := by
  ext i hi
  simp only [BitVec.getElem_append, BitVec.getElem_setWidth, BitVec.getLsbD_ushiftRight]
  split
  · rfl
  · rw [show 8 + (i - 8) = i by omega]; rfl

theorem State.present_half (h : Memory.wf s.xm = true) (i : Fin 13) :
    let slot := 0x40 + 8 * i.val
    (s.present i).half slot = s.ntc.sources[i].causes ∧ (s.present i).half (slot + 2) = s.ntc.sources[i].first
      ∧ (s.present i).half (slot + 4) = BitVec.ofNat 16 (i.val + 1) ∧ (s.present i).half (slot + 6) = 0 := by
  have hr (n : Nat) (hn : n < 8) : Memory.read (s.present i).xm (0x40 + 8 * i.val + n) = (s.ntc.sources[i].slot i)[n] :=
    State.read_writeBytes h _ hn
  refine ⟨?_, ?_, ?_, ?_⟩
  · exact (congrArg₂ (fun a b : Byte => (a ++ b : BitVec 16)) (hr 1 (by decide)) (hr 0 (by decide))).trans (half_of_bytes _)
  · exact (congrArg₂ (fun a b : Byte => (a ++ b : BitVec 16)) (hr 3 (by decide)) (hr 2 (by decide))).trans (half_of_bytes _)
  · refine (congrArg₂ (fun a b : Byte => (a ++ b : BitVec 16)) (hr 5 (by decide)) (hr 4 (by decide))).trans ?_
    show ((0 : Byte) ++ BitVec.ofNat 8 (i.val + 1) : BitVec 16) = BitVec.ofNat 16 (i.val + 1)
    clear hr
    revert i
    decide
  · exact (congrArg₂ (fun a b : Byte => (a ++ b : BitVec 16)) (hr 7 (by decide)) (hr 6 (by decide))).trans (show ((0 : Byte) ++ (0 : Byte) : BitVec 16) = 0 by decide)

theorem State.present_other (s : State) (i : Fin 13) {a : Nat} (h : a < 0x40 + 8 * i.val ∨ 0x40 + 8 * i.val + 8 ≤ a) :
    Memory.read (s.present i).xm a = Memory.read s.xm a := by
  have hx : (s.present i).xm = (s.writeBytes (0x40 + 8 * i.val) (s.ntc.sources[i].slot i)).xm := rfl
  have hlen : (s.ntc.sources[i].slot i).length = 8 := rfl
  rw [hx]
  exact State.read_writeBytes_other s _ (by rw [hlen]; exact h)

theorem exec_noticeRead_presents (hm : s.mainSupply = true) (hr : s.hostReset = false) (hp : s.ntc.presented = none)
    (hl : s.ntc.lowest = some i) : exec .noticeRead s = .next (publish s (s.present i).react) := by
  refine (show exec .noticeRead s = execNoticeRead s from rfl).trans ?_
  unfold execNoticeRead
  rw [hostEvent_on hm hr, hp, hl]

theorem exec_noticeRead_rests (hm : s.mainSupply = true) (hr : s.hostReset = false)
    (h : s.ntc.presented.isSome = true ∨ s.ntc.lowest = none) : exec .noticeRead s = .next (publish s s.react) := by
  refine (show exec .noticeRead s = execNoticeRead s from rfl).trans ?_
  unfold execNoticeRead
  rw [hostEvent_on hm hr]
  cases hp : s.ntc.presented with
  | some i => simp only
  | none =>
    rw [hp] at h
    simp only [h.resolve_left Bool.false_ne_true]

/-- The event in which a source is presented. -/
theorem present_event (hc : s.calm) (hm : s.memoryOk) (hr : s.hostReset = false) (i : Fin 13) :
    let t := publish s (s.present i).react
    let slot := 0x40 + 8 * i.val
    t.ntc.presented = some i ∧ t.ntc.enable = s.ntc.enable ∧ t.registerAt 0x06 = BitVec.ofNat 16 (i.val + 1) ∧ t.noticeLine = true
      ∧ t.ntc.sources[i] = { causes := 0, first := 0, pending := false, overrun := s.ntc.sources[i].overrun }
      ∧ (∀ j : Fin 13, j ≠ i → t.ntc.sources[j] = s.ntc.sources[j])
      ∧ t.half slot = s.ntc.sources[i].causes ∧ t.half (slot + 2) = s.ntc.sources[i].first
      ∧ t.half (slot + 4) = BitVec.ofNat 16 (i.val + 1) ∧ t.half (slot + 6) = 0
      ∧ (∀ a, (a < slot ∨ slot + 8 ≤ a) → Memory.read t.xm a = Memory.read s.xm a)
      ∧ s.changesOnly t [.memory, .parity, .notices, .displays] := by
  have ha : Acts s (s.writeBytes (0x40 + 8 * i.val) (s.ntc.sources[i].slot i)) [.memory, .parity] := Acts.writeBytes (.refl s _) _ _ (by decide)
  have hu : (s.present i).calm := (ha.mono (by decide)).calm_reader hc
  have hw : s.changesOnly (publish s (s.present i).react) [.memory, .parity, .notices, .displays] := by
    refine hu.event_changes (fun p hp => ?_) (by decide)
    have h := ha.frame p fun hm => hp (by revert hm; cases p <;> decide)
    cases p with
    | notices => exact absurd (by decide) hp
    | _ => exact h
  have hn : (publish s (s.present i).react).ntc = (s.present i).ntc := hu.event_kept s (p := .notices) (by decide)
  have hx : (publish s (s.present i).react).xm = (s.present i).xm := hu.event_kept s (p := .memory) (by decide)
  have hl : (publish s (s.present i).react).hostReset = false :=
    ((hu.event_kept s (p := .lines) (by decide)).2.trans (ha.frame .lines (by decide)).2).trans hr
  have hhalf (a : Nat) : (publish s (s.present i).react).half a = (s.present i).half a := by simp only [State.half, hx]
  have hp : (s.present i).ntc.presented = some i := rfl
  have hsource : (s.present i).ntc.sources[i] = { causes := 0, first := 0, pending := false, overrun := s.ntc.sources[i].overrun } :=
    Vector.getElem_set_self ..
  have hothers (j : Fin 13) (hj : j ≠ i) : (s.present i).ntc.sources[j] = s.ntc.sources[j] :=
    Vector.getElem_set_ne (hi := i.isLt) (hj := j.isLt) fun e => hj (Fin.ext e.symm)
  have he : (s.present i).ntc.enable = s.ntc.enable := rfl
  obtain ⟨s1, s2, s3, s4⟩ := State.present_half hm.1 i
  have hother := fun a => s.present_other i (a := a)
  generalize s.present i = y at *
  generalize publish s y.react = t at *
  refine ⟨by rw [hn, hp], by rw [hn, he], ?_, ?_, by rw [hn, hsource], fun j hj => by rw [hn, hothers j hj], (hhalf _).trans s1, (hhalf _).trans s2,
    (hhalf _).trans s3, (hhalf _).trans s4, fun a ha => by rw [hx, hother a ha], hw⟩
  · show t.noticeRegister = _
    unfold State.noticeRegister
    rw [hl, hn, hp]
    rfl
  · unfold State.noticeLine
    rw [hn, hp]
    rfl

/-! ## Accesses of exchange memory (R190 to R192) -/

theorem exec_hostWrite_refused (offset : BitVec 15) (x : Half) (hm : s.mainSupply = true) (hr : s.hostReset = false)
    (h : offset.toNat - offset.toNat % 2 < 0x800) : exec (.hostWrite offset x) s =
      .next (publish s (s.raise .writeRefused (offset.toNat - offset.toNat % 2)).react) := by
  show execHostWrite offset x s = _
  unfold execHostWrite
  rw [hostEvent_on hm hr]
  exact congrArg (fun y : State => Host.Outcome.next (publish s y.react)) (if_pos h)

theorem exec_hostWrite_stored (offset : BitVec 15) (x : Half) (hm : s.mainSupply = true) (hr : s.hostReset = false)
    (h : 0x800 ≤ offset.toNat - offset.toNat % 2) : exec (.hostWrite offset x) s =
      .next (publish s (s.writeHalf (offset.toNat - offset.toNat % 2) x).react) := by
  show execHostWrite offset x s = _
  unfold execHostWrite
  rw [hostEvent_on hm hr]
  exact congrArg (fun y : State => Host.Outcome.next (publish s y.react)) (if_neg (Nat.not_lt.mpr h))

theorem State.writeHalf_upset (s : State) (a b : Nat) (x : Half) : b ∈ (s.writeHalf a x).upset ↔ b ∈ s.upset ∧ b ≠ a ∧ b ≠ a + 1 := by
  simp [State.writeHalf, State.writeByte, and_comm]

theorem State.failParity_upset (s : State) (a b : Nat) : b ∈ (s.failParity a).upset ↔ b ∈ s.upset ∨ 0x800 ≤ a ∧ b = a := by
  unfold State.failParity
  split
  · rename_i h
    rw [mem_insertRising, or_comm]
    exact or_congr_right ⟨fun e => ⟨h, e⟩, And.right⟩
  · rename_i h
    exact ⟨.inl, fun e => e.resolve_right fun k => h k.1⟩

/-- The event in which a cause of the memory is raised, parity marks changed or not. -/
theorem memory_notice_event (hc : u.calm) (ha : ∀ p : Part, p ≠ .parity → p.kept s u) (c : Cause) (d : Nat) :
    let t := publish s (u.raise c d).react
    s.reportsAlone t c d ∧ t.lineDriven ∧ t.upset = u.upset ∧ s.changesOnly t [.parity, .notices, .displays]
      ∧ (u.upset = s.upset → s.changesOnly t [.notices, .displays]) := by
  have hr : Acts u (u.raise c d) [.notices] := Acts.raise (.refl u _) _ _ (by decide)
  have hu : (u.raise c d).calm := (hr.mono (by decide)).calm_reader hc
  have hx : (publish s (u.raise c d).react).upset = u.upset := hu.event_kept s (p := .parity) (by decide)
  refine ⟨State.reportsAlone_raise (hu.event_kept s (p := .notices) (by decide)) (ha .notices (by decide)), State.line_driven _, hx,
    hu.event_changes (fun p hp => ?_) (by decide), fun he => hu.event_changes (fun p hp => ?_) (by decide)⟩
  · exact Part.kept_trans (ha p (by rintro rfl; exact hp (by decide))) (hr.frame p (by revert hp; cases p <;> decide))
  · refine Part.kept_trans ?_ (hr.frame p (by revert hp; cases p <;> decide))
    by_cases e : p = .parity
    · rw [e]
      exact he
    · exact ha p e

/-- The event in which the host stores a halfword. -/
theorem hostWrite_event (hc : s.calm) (hm : s.memoryOk) (a : Nat) (x : Half) :
    let t := publish s (s.writeHalf a x).react
    t.half a = x ∧ (∀ b, b ≠ a → b ≠ a + 1 → Memory.read t.xm b = Memory.read s.xm b)
      ∧ (∀ b, b ∈ t.upset ↔ b ∈ s.upset ∧ b ≠ a ∧ b ≠ a + 1) ∧ s.changesOnly t [.memory, .parity, .displays] := by
  have hw : Acts s (s.writeHalf a x) [.memory, .parity] := Acts.writeHalf (.refl s _) _ _ (by decide)
  have hu : (s.writeHalf a x).calm := (hw.mono (by decide)).calm_reader hc
  have hxm : (publish s (s.writeHalf a x).react).xm = (s.writeHalf a x).xm := hu.event_kept s (p := .memory) (by decide)
  have hup : (publish s (s.writeHalf a x).react).upset = (s.writeHalf a x).upset := hu.event_kept s (p := .parity) (by decide)
  refine ⟨?_, fun b h0 h1 => ?_, fun b => ?_, hu.event_changes (hw.mono (Q := [.memory, .parity, .displays]) (by decide)).frame (by decide)⟩
  · have hhalf : (publish s (s.writeHalf a x).react).half a = (s.writeHalf a x).half a := by simp only [State.half, hxm]
    exact hhalf.trans (State.half_writeHalf_same hm.1 a x)
  · rw [hxm]
    exact State.read_writeHalf_other s x h0 h1
  · rw [hup]
    exact s.writeHalf_upset a b x

/-! ## The obligation -/

theorem State.noticeLine_congr (h1 : t.ntc.presented = s.ntc.presented) (h2 : t.ntc.enable = s.ntc.enable)
    (h3 : ∀ i : Fin 13, t.ntc.sources[i].pending = s.ntc.sources[i].pending) : t.noticeLine = s.noticeLine := by
  have he : t.ntc.eligible = s.ntc.eligible := funext fun i => by simp only [Ntc.eligible, h2, h3]
  simp only [State.noticeLine, Ntc.lowest, h1, he]

theorem setWidth_low13 (v : Half) : (v.setWidth 13).setWidth 16 = v &&& 0x1FFF := by
  refine BitVec.eq_of_toNat_eq ?_
  have h := Nat.and_two_pow_sub_one_eq_mod v.toNat 13
  have hv := v.isLt
  have hn : (0x1FFF : Half).toNat = 2 ^ 13 - 1 := by decide
  rw [BitVec.toNat_setWidth, BitVec.toNat_setWidth, BitVec.toNat_and, hn, h]
  omega

/-- A command of the host while HRESET_N is asserted (R191). -/
theorem hostEvent_reset (h : s.hostReset = true) (f : State → State) : hostEvent s f = .next s := if_pos h

/-- Settles O60: command by command. -/
theorem hostAccesses : Obligations.HostAccesses := by
  unfold Obligations.HostAccesses
  refine ⟨fun s i hm hr hc hp h1 h2 h3 hok => ?_, fun s hm hr hc h => ?_, fun s v hm hr hc => ⟨?_, ?_, ?_⟩, fun s offset v hm hr hc hok => ⟨?_, ?_⟩,
    fun s offset v => ⟨⟨s, rfl, rfl⟩, s.registerAt_other⟩, fun s c hr hcmd => ?_⟩
  · exact ⟨_, exec_noticeRead_presents hm hr hp (Ntc.lowest_eq h1 h2 h3), present_event hc hok hr i⟩
  · have hl := h.imp_right Ntc.lowest_none
    refine ⟨_, exec_noticeRead_rests hm hr hl, ?_, hc.event_changes (Acts.refl s [.displays]).frame (by decide)⟩
    have hn : (publish s s.react).ntc = s.ntc := hc.event_kept s (p := .notices) (by decide)
    unfold State.noticeLine
    rw [hn]
    rcases hl with e | e
    · rw [e, Bool.true_or]
    · rw [e, Option.isSome_none, Bool.or_false]
  · obtain ⟨e1, -, e3⟩ := notices_event hc fun n => { n with presented := none }
    exact ⟨_, hostEvent_on hm hr _, e1, State.line_driven _, e3⟩
  · obtain ⟨e1, -, e3⟩ := notices_event hc fun n => { n with
      sources := Vector.ofFn fun i => { n.sources[i] with overrun := n.sources[i].overrun && !v.getLsbD i.val } }
    have hs (i : Fin 13) : (Vector.ofFn (n := 13) fun i =>
        ({ s.ntc.sources[i] with overrun := s.ntc.sources[i].overrun && !v.getLsbD i.val } : SourceRec))[i] =
          { s.ntc.sources[i] with overrun := s.ntc.sources[i].overrun && !v.getLsbD i.val } := Vector.getElem_ofFn i.isLt
    refine ⟨_, hostEvent_on hm hr _, by rw [e1], by rw [e1], fun i => ?_, State.noticeLine_congr (by rw [e1]) (by rw [e1]) fun i => ?_, e3⟩
    · rw [e1]
      exact hs i
    · rw [e1]
      have hp := congrArg SourceRec.pending (hs i)
      exact hp
  · obtain ⟨e1, e2, e3⟩ := notices_event hc fun n => { n with enable := v.setWidth 13 }
    refine ⟨_, hostEvent_on hm hr _, e1, ?_, State.line_driven _, e3⟩
    rw [State.registerAt_enable, State.enableRegister, e2, hr, if_neg Bool.false_ne_true, e1]
    exact setWidth_low13 v
  · by_cases ha : offset.toNat - offset.toNat % 2 < 0x800
    · obtain ⟨e1, e2, -, -, e5⟩ := memory_notice_event (s := s) hc (fun p _ => (Acts.refl s []).frame p List.not_mem_nil) .writeRefused (offset.toNat - offset.toNat % 2)
      exact ⟨_, exec_hostWrite_refused offset v hm hr ha, fun _ => ⟨e1, e2, e5 rfl⟩, fun h => absurd ha (Nat.not_lt.mpr h)⟩
    · exact ⟨_, exec_hostWrite_stored offset v hm hr (Nat.le_of_not_lt ha), fun h => absurd h ha, fun _ => hostWrite_event hc hok _ v⟩
  · obtain ⟨z, hz⟩ := s.failParity_eq offset.toNat
    have hw (p : Part) (hp : p ≠ .parity) : p.kept s (s.failParity offset.toNat) := by
      rw [hz]
      cases p with
      | parity => exact absurd rfl hp
      | lines => exact ⟨rfl, rfl⟩
      | _ => rfl
    have hcu : (s.failParity offset.toNat).calm := by rw [hz]; exact hc
    obtain ⟨e1, e2, e3, e4, -⟩ := memory_notice_event hcu hw .hostParity (offset.toNat - offset.toNat % 2)
    refine ⟨_, hostEvent_on hm hr _, e1, e2, fun b => ?_, e4⟩
    rw [← s.failParity_upset, ← e3]
    rfl
  · rcases hcmd with ⟨l, v, rfl⟩ | ⟨l, v, rfl⟩ | rfl | ⟨v, rfl⟩ | ⟨v, rfl⟩ | ⟨v, rfl⟩ | ⟨o, v, rfl⟩ | ⟨o, rfl⟩ <;> exact hostEvent_reset hr _

end Sys2Proof.Machine
end

section
/-! PROOFS. The reset of the host port and its release (R204, R191), and the mirrors at an event that lets nothing go on (R194). -/
namespace Sys2Proof.Machine

variable {s t u v w : State} {side x : Side} {p : MirrorPart}

/-! ## Mirrors that an event does not update (R194) -/

theorem State.sendContents_mirrors (s : State) (side : Side) : (s.sendContents side).mirrors = s.mirrors := by
  have hl : (s.sendLegal side).mirrors = s.mirrors := by
    unfold State.sendLegal
    split
    · rfl
    · rfl
  unfold State.sendContents
  split
  · rfl
  · rfl
  · exact hl

theorem State.serve_mirrors (s : State) (side : Side) : (s.serve side).mirrors = s.mirrors := by
  unfold State.serve
  split
  · split <;> rfl
  · rfl

/-- What the boards are sent at the end of an event updates no mirror. -/
theorem State.calm.react_mirrors (h : s.calm) : s.react.mirrors = s.mirrors := by
  rw [State.react_calm h, State.serve_mirrors, State.serve_mirrors, State.sendAll, State.sendContents_mirrors, State.sendContents_mirrors]

theorem State.partUpdate_same {m : MirrorEntries} (hi : u.image p = s.image p) (ht : u.mirrors.touched = []) (hw : u.mirrors.wholes = []) :
    State.partUpdate s u p m = (m, false) := by
  unfold State.partUpdate updatePart
  rw [hi, ht, hw]
  simp

/-- The mirrors but the site mirror stand where their images stand. -/
def Mirrors.standsAs (m n : Mirrors) : Prop :=
  n.genPositionA = m.genPositionA ∧ n.genPositionB = m.genPositionB ∧ n.genPrice = m.genPrice ∧ n.genTotals = m.genTotals
    ∧ n.genMeter = m.genMeter
    ∧ ∀ p ∈ [MirrorPart.positionA, .positionB, .price, .totals, .meterState, .meterCounts], n.fields p = m.fields p

theorem publish_standsAs (hm : u.mirrors = s.mirrors) (ht : s.mirrors.touched = []) (hw : s.mirrors.wholes = [])
    (hi : ∀ p ∈ [MirrorPart.positionA, .positionB, .price, .totals, .meterState], u.image p = s.image p) :
    s.mirrors.standsAs (publish s u).mirrors := by
  have hp (p : MirrorPart) (h : p ∈ [MirrorPart.positionA, .positionB, .price, .totals, .meterState]) (m : MirrorEntries) :
      State.partUpdate s u p m = (m, false) := State.partUpdate_same (hi p h) (by rw [hm]; exact ht) (by rw [hm]; exact hw)
  have hc : u.mirrors.wholes.contains .meterCounts = false := by rw [hm, hw]; rfl
  unfold publish Mirrors.standsAs
  dsimp only
  rw [hp .positionA (by decide), hp .positionB (by decide), hp .price (by decide), hp .totals (by decide), hp .meterState (by decide), hc, hm]
  refine ⟨rfl, rfl, rfl, rfl, rfl, fun p hp => ?_⟩
  simp only [List.mem_cons, List.not_mem_nil, or_false] at hp
  rcases hp with rfl | rfl | rfl | rfl | rfl | rfl <;> rfl

/-! ## What the images show -/

theorem Board.servedIn_sideFault (b : Board) (down night : Bool) : (b.servedIn down night).sideFault = b.sideFault := by
  unfold Board.servedIn
  split
  · cases b.next <;> rfl
  · rfl

theorem State.calm.react_sideFault (h : s.calm) (side : Side) : (s.react.board side).sideFault = (s.board side).sideFault := by
  obtain ⟨z, hz⟩ := (s.sendAll_boards side).rest
  rw [State.react_board h, Board.servedIn_sideFault, hz]

theorem State.positionImage_congr (hp : t.psc = s.psc) (hm : t.miu = s.miu) (hi : t.iwu = s.iwu)
    (hb : (t.board side).sideFault = (s.board side).sideFault) : t.positionImage side = s.positionImage side := by
  have h1 : t.pos side = s.pos side := congrArg (fun z : Sides Position => z.get side) hp
  have h2 (h : HoseNo) : t.isLifted side h = s.isLifted side h := by simp only [State.isLifted, State.route, hm, hi]
  unfold State.positionImage
  simp only [h1, h2, hb]

/-! ## The reset -/

/-- A requester that a host reset abandons is a card or the LOAD PRICE card. -/
theorem StoreStep.withoutHost_eq (n : StoreStep) :
    { n with requesters := n.requesters.filter fun q => !Requester.ofHost q } = n.withoutHost := by
  unfold StoreStep.withoutHost
  congr 1
  refine List.filter_congr fun q _ => ?_
  cases q <;> rfl

/-- The store's record after a host reset. -/
def Rsc.withoutHost (r : Rsc) : Rsc :=
  { r with queue := r.queue.map StoreStep.withoutHost, active := r.active.map fun a => { a with step := a.step.withoutHost } }

/-- What the totals mirror shows of the store's record stays. -/
theorem State.totalsImage_withoutHost (h : t.rsc = s.rsc.withoutHost) : t.totalsImage = s.totalsImage := by
  unfold State.totalsImage
  rw [h]
  unfold Rsc.withoutHost
  cases ha : s.rsc.active <;> simp [StoreStep.withoutHost, ha]

/-- The reader's record after a host reset. -/
def Riu.withoutHost (r : Riu) : Riu := { r with armed := [], send := none, orphan := r.orphan || r.awaits .sending }

theorem State.undoSend_disarmed (s : State) :
    (s.undoSend.modRiu fun r => { r with armed := [] }) = { s with riu := s.riu.withoutHost } := by
  unfold State.undoSend Riu.withoutHost
  cases h : s.riu.send <;> simp [State.modRiu, Riu.awaits, h]

theorem State.dismiss_ofHost (s : State) : s.dismiss Requester.ofHost = { s with rsc := s.rsc.withoutHost } := by
  unfold State.dismiss
  simp only [StoreStep.withoutHost_eq]
  rfl

/-- The state after HRESET_N has been asserted. -/
theorem State.resetHost_eq (s : State) : s.resetHost = { s with
    lanes := { dispense := s.lanes.dispense.hostReset, site := s.lanes.site.hostReset, reader := s.lanes.reader.hostReset },
    riu := s.riu.withoutHost, pru := { s.pru with loading := none }, rsc := s.rsc.withoutHost, ntc := .default, hostReset := true } := by
  unfold State.resetHost
  dsimp only
  rw [State.undoSend_disarmed, State.dismiss_ofHost]
  rfl

theorem State.resetHost_calm (hc : s.calm) : s.resetHost.calm := by
  rw [State.resetHost_eq]
  obtain ⟨h1, h2, h3, -, h5, h6, h7⟩ := hc
  refine ⟨h1, h2, h3, fun _ l hl => (by cases hl), ?_, h6, h7⟩
  unfold State.stepsWait at h5 ⊢
  dsimp only [Rsc.withoutHost]
  simpa using h5

/-- Settles O58: the record of the reset state, which the end of the event leaves but for the boards, and the mirrors. -/
theorem hostResetAndRelease : Obligations.HostResetAndRelease := by
  unfold Obligations.HostResetAndRelease
  refine ⟨fun s hm hc hr => ?_, fun s hm => ?_, fun s hr => if_pos hr, fun s => ⟨_, rfl, rfl⟩⟩
  · have hu := State.resetHost_calm hc
    have hrun : exec .hostReset s = .next (publish s s.resetHost.react) := by
      show execHostReset s = _
      unfold execHostReset
      rw [hr, hm]
      rfl
    refine ⟨_, hrun, ?_⟩
    have hw : s.changesOnly (publish s s.resetHost.react) [.lines, .lanes, .notices, .prices, .displays, .reader, .store] := by
      refine hu.event_changes (fun p hp => ?_) (by decide)
      rw [State.resetHost_eq]
      revert hp
      cases p with
      | lines | lanes | notices | prices | displays | reader | store => exact fun h => absurd (by decide) h
      | _ => exact fun _ => rfl
    have hlines := hu.event_kept s (p := .lines) (by decide)
    have hlanes := hu.event_kept s (p := .lanes) (by decide)
    have hntc := hu.event_kept s (p := .notices) (by decide)
    have hriu := hu.event_riu s
    have hpru := hu.event_kept s (p := .prices) (by decide)
    have hrsc := hu.event_kept s (p := .store) (by decide)
    have hmir := State.calm.react_mirrors hu
    have hmirrors : s.mirrors.touched = [] → s.mirrors.wholes = [] → s.mirrors.standsAs (publish s s.resetHost.react).mirrors := by
      intro ht hwh
      have hr := Acts.react_calm (.refl s.resetHost [.displays]) hu (by decide)
      have hx (p : Part) (h1 : p.kept s s.resetHost) (h2 : p ≠ .displays) : p.kept s s.resetHost.react :=
        Part.kept_trans h1 (hr.frame p (by simpa using h2))
      have eside (x : Side) : (s.resetHost.react.board x).sideFault = (s.board x).sideFault :=
        (hu.react_sideFault x).trans (by rw [State.resetHost_eq]; rfl)
      have epsc : s.resetHost.react.psc = s.psc := hx .positions (by rw [State.resetHost_eq]; rfl) (by decide)
      have emiu : s.resetHost.react.miu = s.miu := hx .meters (by rw [State.resetHost_eq]; rfl) (by decide)
      have eiwu : s.resetHost.react.iwu = s.iwu := hx .inputs (by rw [State.resetHost_eq]; rfl) (by decide)
      have epru : s.resetHost.react.pru = { s.pru with loading := none } :=
        (hr.frame .prices (by decide)).trans (by rw [State.resetHost_eq])
      have ersc : s.resetHost.react.rsc = s.rsc.withoutHost := (hr.frame .store (by decide)).trans (by rw [State.resetHost_eq])
      refine publish_standsAs (hmir.trans (by rw [State.resetHost_eq])) ht hwh fun p hp => ?_
      generalize s.resetHost.react = u at *
      simp only [List.mem_cons, List.not_mem_nil, or_false] at hp
      rcases hp with rfl | rfl | rfl | rfl | rfl
      · exact State.positionImage_congr epsc emiu eiwu (eside .a)
      · exact State.positionImage_congr epsc emiu eiwu (eside .b)
      · show u.priceImage = s.priceImage
        unfold State.priceImage
        rw [epru]
      · exact State.totalsImage_withoutHost ersc
      · show u.meterStateImage = s.meterStateImage
        unfold State.meterStateImage
        rw [emiu]
    have ereset := s.resetHost_eq
    generalize publish s s.resetHost.react = t at *
    rw [ereset] at hlines hlanes hntc hriu hpru hrsc
    refine ⟨hlines.2, hlines.1.trans hm, fun l => ?_, hntc.trans rfl, by rw [hriu]; rfl, by rw [hriu]; rfl, by rw [hriu]; rfl, by rw [hriu]; rfl,
      by rw [hriu]; rfl, by rw [hriu]; rfl, by rw [hriu]; rfl, by rw [hriu]; rfl, by rw [hriu]; rfl, ?_, hpru, hrsc, hmirrors, hw⟩
    · unfold State.lane
      rw [hlanes]
      cases l <;> rfl
    · unfold State.noticeLine
      rw [hntc]
      exact (by decide : (Ntc.default.presented.isSome || Ntc.default.lowest.isSome) = false)
  · show ∃ t, execHostReset s = _ ∧ _
    unfold execHostReset
    cases hr : s.hostReset with
    | true => exact ⟨s, rfl, by rw [← hr]⟩
    | false => exact ⟨_, by rw [hm]; rfl, rfl⟩

end Sys2Proof.Machine
end

section
/-! PROOFS. The freeze of a supply warning and its release (R178, R182, R183). -/
namespace Sys2Proof.Machine

variable {s t u v w : State} {side y : Side} {x : Sale} {m : MeterNo} {step : StoreStep} {rest : List StoreStep} {g : Nat}

/-! ## The first of several steps begins (R178) -/

/-- The store's record once the first of its waiting steps has begun. -/
def Rsc.begunFirst (r : Rsc) (step : StoreStep) (rest : List StoreStep) (g : Nat) (contents : Contents) : Rsc :=
  { r with queue := rest, active := some { step := step, generation := g, contents := contents } }

theorem State.runStore_first (hq : s.rsc.queue = step :: rest) (ha : s.rsc.active = none) (hk : s.rsc.check = .none)
    (hg : s.rsc.generation = some g) (hr : Requester.rebuild ∉ step.requesters) (hn : step.records ≠ allRecords) :
    State.runStore storeFuel s = s.modRsc fun r => r.begunFirst step rest g s.liveContents := by
  have hb : s.beginStep = (s.modRsc fun r => r.begunFirst step rest g s.liveContents, []) := by
    simp [State.beginStep, hq, hg, hr, hn, Rsc.begunFirst]
  have hc : s.rsc.canBegin = true := by simp [Rsc.canBegin, hq, ha, hk]
  have hc' : (s.modRsc fun r => r.begunFirst step rest g s.liveContents).rsc.canBegin = false := by simp [Rsc.canBegin, Rsc.begunFirst]
  simp only [storeFuel, State.runStore, hc, hb, if_true, State.answerAll, List.foldl_nil, hc']
  simp

/-- Where what waits goes on waiting, the store apart, its first step begins with the live values. -/
theorem State.react_first (h0 : s.panelsWait) (h1 : s.closingWaits) (h2 : s.pricesWait) (h3 : s.loadWaits) (h5 : ∀ side, s.gateWaits side)
    (h6 : s.panelsStand) (hq : s.rsc.queue = step :: rest) (ha : s.rsc.active = none) (hk : s.rsc.check = .none)
    (hg : s.rsc.generation = some g) (hr : Requester.rebuild ∉ step.requesters) (hn : step.records ≠ allRecords) :
    s.react.rsc = s.rsc.begunFirst step rest g s.liveContents ∧ s.react.liveContents = s.liveContents
      ∧ Acts s s.react [.store, .displays] := by
  have hrun := State.runStore_first hq ha hk hg hr hn
  have hload : (s.modRsc fun r => r.begunFirst step rest g s.liveContents).finishLoad =
      s.modRsc fun r => r.begunFirst step rest g s.liveContents := State.finishLoad_idle (State.loadWaits_congr rfl rfl h3)
  have hreact := State.react_once (s := s) (t := s.modRsc fun r => r.begunFirst step rest g s.liveContents) (by
    simp only [State.examine, State.applyPrices_idle h2, State.gate_idle (h5 .a), State.gate_idle (h5 .b), State.examinePanels_idle h0,
      State.examinePositions_idle h1, hrun, hload]) (show State.panelsStand (s.modRsc _) from h6)
  have hw : Acts s (s.modRsc fun r => r.begunFirst step rest g s.liveContents) [.store] := Acts.modRsc (.refl s _) _ (by decide)
  have hlive : (s.modRsc fun r => r.begunFirst step rest g s.liveContents).liveContents = s.liveContents := rfl
  have hrsc : (s.modRsc fun r => r.begunFirst step rest g s.liveContents).rsc = s.rsc.begunFirst step rest g s.liveContents := rfl
  generalize (s.modRsc fun r => r.begunFirst step rest g s.liveContents) = w at *
  have hs : Acts w ((w.sendAll.serve .a).serve .b) [.displays] := Acts.sent (.refl w _) (by decide)
  rw [hreact]
  have hr : ((w.sendAll.serve .a).serve .b).rsc = w.rsc := hs.frame .store (by decide)
  refine ⟨hr.trans hrsc, (State.liveContents_congr (hs.frame .meters (by decide)) (hs.frame .positions (by decide))
    (hs.frame .prices (by decide)) w.sent_policy (hs.frame .inputs (by decide)) (hs.frame .reader (by decide)) (hs.frame .site (by decide))
    (by rw [hr]; exact ⟨rfl, rfl, rfl⟩)).trans hlive, (hw.mono (by decide)).trans (hs.mono (by decide))⟩

/-! ## The freeze at a position (R182) -/

/-- The state after the freeze step's event at a position. -/
def State.frozenAt (s : State) (side : Side) : State := (s.freezePosition side).1

theorem State.freezePosition_none (h : (s.pos side).sale = none) : s.freezePosition side = (s, false) := by
  unfold State.freezePosition
  rw [h]

theorem State.freezePosition_some (h : (s.pos side).sale = some x) :
    s.freezePosition side = ((s.finishSale side (x.ended .power false true s.stamp)).closePos side .power, true) := by
  unfold State.freezePosition
  rw [h]

theorem State.freezePosition_snd (s : State) (side : Side) : (s.freezePosition side).2 = (s.pos side).sale.isSome := by
  cases h : (s.pos side).sale with
  | none => rw [State.freezePosition_none h]; rfl
  | some x => rw [State.freezePosition_some h]; rfl

theorem State.frozenAt_acts (s : State) (side : Side) : Acts s (s.frozenAt side) [.notices, .meters, .positions, .store] :=
  Acts.freezePosition (.refl s _) side (by decide)

theorem State.frozenAt_pos_ne (s : State) (h : y ≠ side) : (s.frozenAt side).pos y = s.pos y := by
  unfold State.frozenAt
  cases hx : (s.pos side).sale with
  | none => rw [State.freezePosition_none hx]
  | some x => rw [State.freezePosition_some hx, State.closePos_pos_ne _ _ h, State.finishSale_pos_ne _ _ h]

/-- A position whose frozen sale has ended. -/
def Position.ended (p : Position) (e : EndedSale) : Position :=
  { p with st := .closed .power, fast := false, slow := false, pump := false, auth := none, authTimer := none, sale := none,
           unpaid := p.unpaid ++ [e], lastShown := e.shown }

theorem State.frozenAt_pos (h : (s.pos side).sale = some x) :
    (s.frozenAt side).pos side = (s.pos side).ended (x.ended .power false true s.stamp) := by
  unfold State.frozenAt
  rw [State.freezePosition_some h, State.closePos_pos, State.finishSale_pos]
  rfl

theorem State.frozenAt_same (h : (s.pos side).sale = none) : s.frozenAt side = s := by
  unfold State.frozenAt
  rw [State.freezePosition_none h]

theorem State.frozenAt_sale (s : State) (side : Side) : ((s.frozenAt side).pos side).sale = none := by
  cases hx : (s.pos side).sale with
  | none => rw [State.frozenAt_same hx, hx]
  | some x => rw [State.frozenAt_pos hx]; rfl

theorem State.frozenAt_rsc (h : (s.pos side).sale = some x) :
    (s.frozenAt side).rsc = s.rsc.grown side (x.ended .power false true s.stamp) := by
  unfold State.frozenAt
  rw [State.freezePosition_some h]
  exact s.finishSale_rsc ..

theorem State.frozenAt_freed (h : (s.pos side).sale = some x) (m : MeterNo) :
    (s.frozenAt side).meter m = if m ∈ x.claims.map Claim.meter then (s.meter m).freed else s.meter m := by
  unfold State.frozenAt
  rw [State.freezePosition_some h]
  exact State.finishSale_meter h (x.ended .power false true s.stamp) m

theorem State.frozenAt_routes (s : State) (side : Side) : (s.frozenAt side).miu.routes = s.miu.routes := by
  unfold State.frozenAt
  cases hx : (s.pos side).sale with
  | none => rw [State.freezePosition_none hx]
  | some x => rw [State.freezePosition_some hx]; exact s.finishSale_routes side (x.ended .power false true s.stamp)

/-- A freeze changes of the store's record the totals alone. -/
theorem State.frozenAt_store (s : State) (side : Side) : ∃ z, (s.frozenAt side).rsc = { s.rsc with totals := z } := by
  cases hx : (s.pos side).sale with
  | none => exact ⟨s.rsc.totals, by rw [State.frozenAt_same hx]⟩
  | some x => exact ⟨_, State.frozenAt_rsc hx⟩

theorem State.frozenAt_totals_other (s : State) (side : Side) :
    (s.frozenAt side).rsc.totals.get (other side) = s.rsc.totals.get (other side) := by
  cases hx : (s.pos side).sale with
  | none => rw [State.frozenAt_same hx]
  | some x => rw [State.frozenAt_rsc hx]; exact (s.rsc.grown_totals side _).2.2

/-! ## The freeze of both positions -/

/-- The state in which the frozen sales of both positions have ended. -/
def State.bothFrozen (s : State) : State := (s.frozenAt .a).frozenAt .b

theorem State.bothFrozen_acts (s : State) : Acts s s.bothFrozen [.notices, .meters, .positions, .store] :=
  (s.frozenAt_acts .a).trans ((s.frozenAt .a).frozenAt_acts .b)

theorem State.bothFrozen_routes (s : State) : s.bothFrozen.miu.routes = s.miu.routes :=
  ((s.frozenAt .a).frozenAt_routes .b).trans (s.frozenAt_routes .a)

theorem State.bothFrozen_sale (s : State) (side : Side) : (s.bothFrozen.pos side).sale = none := by
  cases side with
  | a => rw [State.bothFrozen, State.frozenAt_pos_ne _ (by decide)]; exact s.frozenAt_sale .a
  | b => exact (s.frozenAt .a).frozenAt_sale .b

theorem State.bothFrozen_pos_same (h : (s.pos side).sale = none) : s.bothFrozen.pos side = s.pos side := by
  cases side with
  | a => rw [State.bothFrozen, State.frozenAt_pos_ne _ (by decide), State.frozenAt_same h]
  | b =>
    have hb : (s.frozenAt .a).pos .b = s.pos .b := s.frozenAt_pos_ne (by decide)
    rw [State.bothFrozen, State.frozenAt_same (by rw [hb]; exact h), hb]

theorem State.bothFrozen_pos (h : (s.pos side).sale = some x) :
    s.bothFrozen.pos side = (s.pos side).ended (x.ended .power false true s.stamp) := by
  cases side with
  | a => rw [State.bothFrozen, State.frozenAt_pos_ne _ (by decide), State.frozenAt_pos h]
  | b =>
    have hb : (s.frozenAt .a).pos .b = s.pos .b := s.frozenAt_pos_ne (by decide)
    have hs : (s.frozenAt .a).stamp = s.stamp := by
      have hssu : (s.frozenAt .a).ssu = s.ssu := (s.frozenAt_acts .a).frame .site (by decide)
      simp only [State.stamp, hssu]
    rw [State.bothFrozen, State.frozenAt_pos (by rw [hb]; exact h), hb, hs]

/-- A sale in progress claims the meter. -/
def State.claims (s : State) (side : Side) (m : MeterNo) : Prop := ∃ x, (s.pos side).sale = some x ∧ m ∈ x.claims.map Claim.meter

theorem State.frozenAt_meter (s : State) (side : Side) (m : MeterNo) :
    (s.claims side m → (s.frozenAt side).meter m = (s.meter m).freed) ∧ (¬ s.claims side m → (s.frozenAt side).meter m = s.meter m) := by
  cases hx : (s.pos side).sale with
  | none =>
    refine ⟨fun ⟨x, h, _⟩ => ?_, fun _ => by rw [State.frozenAt_same hx]⟩
    rw [hx] at h
    cases h
  | some x =>
    rw [State.frozenAt_freed hx]
    refine ⟨fun ⟨z, hz, hm⟩ => ?_, fun h => if_neg fun hm => h ⟨x, hx, hm⟩⟩
    rw [hx] at hz
    cases hz
    exact if_pos hm

theorem Meter.freed_freed (m : Meter) : m.freed.freed = m.freed := rfl

theorem State.bothFrozen_meter (s : State) (m : MeterNo) :
    ((∃ side, s.claims side m) → s.bothFrozen.meter m = (s.meter m).freed) ∧ ((∀ side, ¬ s.claims side m) → s.bothFrozen.meter m = s.meter m) := by
  obtain ⟨ha1, ha2⟩ := s.frozenAt_meter .a m
  obtain ⟨hb1, hb2⟩ := (s.frozenAt .a).frozenAt_meter .b m
  have hb : (s.frozenAt .a).claims .b m ↔ s.claims .b m := by
    have hp : (s.frozenAt .a).pos .b = s.pos .b := s.frozenAt_pos_ne (by decide)
    unfold State.claims
    rw [hp]
  rw [hb] at hb1 hb2
  unfold State.bothFrozen
  refine ⟨fun ⟨side, h⟩ => ?_, fun h => (hb2 (h .b)).trans (ha2 (h .a))⟩
  by_cases hcb : s.claims .b m
  · rw [hb1 hcb]
    by_cases hca : s.claims .a m
    · rw [ha1 hca, Meter.freed_freed]
    · rw [ha2 hca]
  · rw [hb2 hcb]
    cases side with
    | a => exact ha1 h
    | b => exact absurd h hcb

theorem State.bothFrozen_totals_same (h : (s.pos side).sale = none) :
    s.bothFrozen.rsc.totals.get side = s.rsc.totals.get side := by
  cases side with
  | a =>
    rw [State.bothFrozen, show Side.a = other .b from rfl, State.frozenAt_totals_other]
    exact congrArg (fun z : State => z.rsc.totals.get .a) (State.frozenAt_same h)
  | b =>
    have hb : (s.frozenAt .a).pos .b = s.pos .b := s.frozenAt_pos_ne (by decide)
    rw [State.bothFrozen, State.frozenAt_same (by rw [hb]; exact h)]
    exact s.frozenAt_totals_other .a

theorem State.bothFrozen_totals (h : (s.pos side).sale = some x) :
    (s.bothFrozen.rsc.totals.get side)[x.hose] = (s.rsc.totals.get side)[x.hose].add (x.ended .power false true s.stamp)
      ∧ ∀ k, k ≠ x.hose → (s.bothFrozen.rsc.totals.get side)[k] = (s.rsc.totals.get side)[k] := by
  have key (u : State) (hu : (u.pos side).sale = some x) (ht : u.rsc.totals.get side = s.rsc.totals.get side) (hs : u.stamp = s.stamp) :
      ((u.frozenAt side).rsc.totals.get side)[x.hose] = (s.rsc.totals.get side)[x.hose].add (x.ended .power false true s.stamp)
        ∧ ∀ k, k ≠ x.hose → ((u.frozenAt side).rsc.totals.get side)[k] = (s.rsc.totals.get side)[k] := by
    obtain ⟨h1, h2, -⟩ := u.rsc.grown_totals side (x.ended .power false true u.stamp)
    rw [State.frozenAt_rsc hu, ← ht, ← hs]
    exact ⟨h1, h2⟩
  cases side with
  | a =>
    have he : s.bothFrozen.rsc.totals.get .a = (s.frozenAt .a).rsc.totals.get .a := (s.frozenAt .a).frozenAt_totals_other .b
    rw [he]
    exact key s h rfl rfl
  | b =>
    have hb : (s.frozenAt .a).pos .b = s.pos .b := s.frozenAt_pos_ne (by decide)
    have hs : (s.frozenAt .a).stamp = s.stamp := by
      have hssu : (s.frozenAt .a).ssu = s.ssu := (s.frozenAt_acts .a).frame .site (by decide)
      simp only [State.stamp, hssu]
    exact key (s.frozenAt .a) (by rw [hb]; exact h) (s.frozenAt_totals_other .a) hs

theorem State.bothFrozen_store (s : State) : ∃ z, s.bothFrozen.rsc = { s.rsc with totals := z } := by
  obtain ⟨y, hy⟩ := s.frozenAt_store .a
  obtain ⟨z, hz⟩ := (s.frozenAt .a).frozenAt_store .b
  exact ⟨z, by rw [State.bothFrozen, hz, hy]⟩

/-- The store's record once both freeze steps have been asked for. -/
def Rsc.freezing (r : Rsc) (n : Nat) : Rsc :=
  { r with freeze := .steps, frozen := n,
           queue := [{ records := [.totals, .meters, .unpaidA, .reader], requesters := [.freeze .a] },
                     { records := [.totals, .meters, .unpaidB], requesters := [.freeze .b] }] }

theorem State.freezeAll_eq (hq : s.rsc.queue = []) : s.freezeAll =
    s.bothFrozen.modRsc fun r => r.freezing (([Side.a, .b].filter fun side => (s.pos side).sale.isSome).length) := by
  have hn : (if (s.freezePosition .a).2 then 1 else 0) + (if ((s.freezePosition .a).1.freezePosition .b).2 then 1 else 0) =
      ([Side.a, .b].filter fun side => (s.pos side).sale.isSome).length := by
    have hb : (s.freezePosition .a).1.pos .b = s.pos .b := s.frozenAt_pos_ne (side := .a) (y := .b) (by decide)
    rw [State.freezePosition_snd, State.freezePosition_snd, hb]
    cases ha : (s.pos .a).sale <;> cases hb : (s.pos .b).sale <;> simp [ha, hb]
  have hreq (u : State) (rs : List RecordId) (x : Side) : u.requestStep rs [.freeze x] = u.modRsc fun r => { r with queue := joinQueue rs [.freeze x] r.queue } := by
    unfold State.requestStep
    rw [show [Requester.freeze x].any Requester.isFreeze = true from rfl]
    simp
  have hbq : s.bothFrozen.rsc.queue = [] := by
    obtain ⟨z, hz⟩ := s.bothFrozen_store
    rw [hz]
    exact hq
  unfold State.freezeAll
  dsimp only
  have hu : ((s.freezePosition .a).1.freezePosition .b).1 = s.bothFrozen := by simp only [State.bothFrozen, State.frozenAt]
  rw [hn, hreq, hreq, hu]
  generalize s.bothFrozen = u at hbq ⊢
  have hjoin (r : Rsc) (n : Nat) (h : r.queue = []) : ({ r with
      queue := joinQueue [.totals, .meters, .unpaidB] [.freeze .b] (joinQueue [.totals, .meters, .unpaidA, .reader] [.freeze .a] r.queue),
      freeze := .steps, frozen := n } : Rsc) = r.freezing n := by
    rw [h]
    rfl
  exact congrArg (fun r => ({ u with rsc := r } : State)) (hjoin u.rsc _ hbq)

/-- The event of the freeze window's end: A's step begins with the values of the ended sales. -/
theorem freezeAll_event (hc : s.calm) (hsite : s.ssu.site = .powerDown) (ha : s.rsc.active = none) (hk : s.rsc.check = .none)
    (hg : s.rsc.generation = some g) :
    let t := publish s s.freezeAll.react
    let n := ([Side.a, .b].filter fun side => (s.pos side).sale.isSome).length
    t.rsc = (s.bothFrozen.rsc.freezing n).begunFirst { records := [.totals, .meters, .unpaidA, .reader], requesters := [.freeze .a] }
        [{ records := [.totals, .meters, .unpaidB], requesters := [.freeze .b] }] g t.liveContents
      ∧ (∀ side, t.pos side = s.bothFrozen.pos side) ∧ (∀ m, t.meter m = s.bothFrozen.meter m)
      ∧ s.changesOnly t [.notices, .meters, .positions, .store, .displays] := by
  dsimp only
  obtain ⟨h1, -, -, -, h5, -⟩ := hc
  have hq : s.rsc.queue = [] := by
    rcases h5 with h | h | h
    · exact h
    · rw [ha] at h; cases h
    · rw [hk] at h; cases h
  rw [State.freezeAll_eq hq]
  generalize ([Side.a, .b].filter fun side => (s.pos side).sale.isSome).length = n
  have hacts := s.bothFrozen_acts
  have hsale := s.bothFrozen_sale
  obtain ⟨z, hz⟩ := s.bothFrozen_store
  generalize s.bothFrozen = u at *
  have hssu : u.ssu = s.ssu := hacts.frame .site (by decide)
  have hdown : u.ssu.site = .powerDown := by rw [hssu]; exact hsite
  have hw : Acts u (u.modRsc fun r => r.freezing n) [.store] := Acts.modRsc (.refl u _) _ (by decide)
  have hall := hacts.trans (hw.mono (by decide))
  have hrsc : (u.modRsc fun r => r.freezing n).rsc = u.rsc.freezing n := rfl
  have hpos (y : Side) : (u.modRsc fun r => r.freezing n).pos y = u.pos y := rfl
  have hmeter (m : MeterNo) : (u.modRsc fun r => r.freezing n).meter m = u.meter m := rfl
  have hsite' : (u.modRsc fun r => r.freezing n).ssu.site = .powerDown := hdown
  generalize (u.modRsc fun r => r.freezing n) = w at *
  obtain ⟨e1, e2, e3⟩ := State.react_first (s := w) (g := g) (fun h => by rw [hsite'] at h; cases h) (fun h => by rw [hsite'] at h; cases h)
    (fun h => absurd hsite' h) (fun h => absurd hsite' h)
    (fun y _ x hx => by rw [hpos, hsale] at hx; cases hx) (fun h => absurd hsite' h) (by rw [hrsc]; rfl)
    (by rw [hrsc, hz]; exact ha) (by rw [hrsc, hz]; exact hk) (by rw [hrsc, hz]; exact hg) (by decide) (by decide)
  generalize w.react = y at *
  refine ⟨?_, fun side => ?_, fun m => ?_, ((hall.mono (by decide)).trans (e3.mono (by decide))).published⟩
  · rw [publish_rsc, e1, hrsc, ← e2]
    rfl
  · rw [publish_pos, e3.pos_eq (by decide), hpos]
  · rw [publish_meter, ← hmeter]
    exact congrArg (fun z : Miu => z.meters[m]) (e3.frame .meters (by decide))

/-- The event in which the store's record changes but for queue, step in progress and check. -/
theorem rsc_event (hc : s.calm) (f : Rsc → Rsc) (h1 : (f s.rsc).queue = s.rsc.queue) (h2 : (f s.rsc).active = s.rsc.active)
    (h3 : (f s.rsc).check = s.rsc.check) :
    (publish s (s.modRsc f).react).rsc = f s.rsc ∧ s.changesOnly (publish s (s.modRsc f).react) [.store, .displays] := by
  have ha : Acts s (s.modRsc f) [.store] := Acts.modRsc (.refl s _) _ (by decide)
  have hu : (s.modRsc f).calm := by
    obtain ⟨c1, c2, c3, c4, c5, c6, c7⟩ := hc
    refine ⟨c1, c2, c3, c4, ?_, c6, c7⟩
    unfold State.stepsWait at c5 ⊢
    rw [State.modRsc_rsc, h1, h2, h3]
    exact c5
  exact ⟨hu.event_kept s (p := .store) (by decide), hu.event_changes (ha.mono (Q := [.store, .displays]) (by decide)).frame (by decide)⟩

theorem exec_secondWarning (hm : s.mainSupply = true) (hsite : s.ssu.site = .powerDown) (hw : s.rsc.supplyWarn ≠ some true) :
    exec .supplyWarning s = .next (publish s (s.modRsc fun r => { r with supplyWarn := some true, coldWait := false }).react) := by
  refine (eventWhen_on hm (bne_iff_ne.mpr hw) _).trans ?_
  have hdown : (s.modRsc fun r => { r with supplyWarn := some true }).powerDown = true := by
    show (s.ssu.site == .powerDown) = true
    rw [hsite]
    rfl
  exact congrArg (fun y : State => Host.Outcome.next (publish s y.react)) (if_pos hdown)

/-- Settles O54: the end of the freeze window, the release, and a second assertion. -/
theorem freezeEndsTheFrozenSales : Obligations.FreezeEndsTheFrozenSales := by
  unfold Obligations.FreezeEndsTheFrozenSales
  refine ⟨fun s hm hc hsite hf ha hk hg => ?_, fun s hm hc hw => ?_, fun s hm hc hsite hw => ?_⟩
  · obtain ⟨g, hg⟩ := Option.isSome_iff_exists.mp hg
    obtain ⟨e1, e2, e3, e4⟩ := freezeAll_event hc hsite ha hk hg
    have hdown : s.powerDown = true := by simp [State.powerDown, hsite]
    refine ⟨_, eventWhen_on hm (by rw [hdown, hf]; rfl) _, ?_⟩
    generalize publish s s.freezeAll.react = t at *
    refine ⟨by rw [e1]; rfl, ⟨_, congrArg Rsc.active e1, rfl, hg.symm, rfl⟩, by rw [e1]; rfl, by rw [e1]; rfl,
      fun side hside => ⟨by rw [e2, State.bothFrozen_pos_same hside], ?_⟩, fun side x l hx hl => ⟨?_, ?_, fun k hk => ?_, fun c hmem => ?_⟩,
      fun m hno => ?_, e4⟩
    · rw [e1]
      exact State.bothFrozen_totals_same hside
    · rw [e2, State.bothFrozen_pos hx, Sale.ended_eq hl, Bool.or_false]
      rfl
    · rw [e1]
      exact (State.bothFrozen_totals hx).1
    · rw [e1]
      exact (State.bothFrozen_totals hx).2 k hk
    · rw [e3, (s.bothFrozen_meter c.meter).1 ⟨side, x, hx, List.mem_map_of_mem hmem⟩]
      rfl
    · rw [e3, (s.bothFrozen_meter m).2 fun side ⟨x, hx, hmem⟩ => (List.mem_map.mp hmem).elim fun c h => hno side x hx c h.1 h.2]
  · have hcold : (!(s.rsc.supplyWarn == none) && s.powerDown) = (s.rsc.supplyWarn.isSome && s.ssu.site == .powerDown) := by
      cases s.rsc.supplyWarn <;> rfl
    have h := rsc_event hc (fun r => { r with supplyWarn := some false, coldWait := !(s.rsc.supplyWarn == none) && s.powerDown }) rfl rfl rfl
    exact ⟨_, eventWhen_on hm (bne_iff_ne.mpr hw) _, h.1.trans (by rw [hcold]), h.2⟩
  · exact ⟨_, exec_secondWarning hm hsite hw, rsc_event hc _ rfl rfl rfl⟩

end Sys2Proof.Machine
end

section
/-! PROOFS. The supply warning (R180, R112, R151). -/
namespace Sys2Proof.Machine

variable {s t u v w : State} {side y : Side} {x : Sale} {m : MeterNo}

/-! ## A position at the supply warning -/

/-- What a supply warning makes of a position but for its outputs and timers. -/
def Position.warned (p : Position) : Position :=
  let q := if p.st.isStarting then { p with sale := none, motorTimer := none } else p
  if p.st.isClosed then q.enter (.closed .power)
  else if p.st.isDispensing || p.st == .ending then q
  else { q.enter (.closed .power) with auth := none, authTimer := none }

/-- A position with its outputs dropped and its timers stopped. -/
def Position.dropped (p : Position) : Position :=
  { p with fast := false, slow := false, pump := false, flowTimer := none, settleTimer := none, motorTimer := none, authTimer := none }

/-- The start that a supply warning loses is abandoned. -/
def State.lostStart (s : State) (side : Side) : State := if (s.pos side).st.isStarting then s.abandonStart side else s

/-- The position enters CLOSED(POWER), unless it keeps a frozen sale. -/
def State.enterPower (s : State) (side : Side) (st : PosState) : State :=
  if st.isClosed then s.setReason side .power
  else if st.isDispensing || st == .ending then s
  else s.closePos side .power

theorem State.powerDownAt_eq (s : State) (side : Side) :
    s.powerDownAt side = ((s.lostStart side).enterPower side (s.pos side).st).modPos side Position.dropped := rfl

theorem State.lostStart_acts (s : State) (side : Side) : Acts s (s.lostStart side) [.meters, .positions, .displays] := by
  unfold State.lostStart
  split
  · exact s.abandonStart_acts side
  · exact .refl _ _

theorem State.enterPower_acts (s : State) (side : Side) (st : PosState) : Acts s (s.enterPower side st) [.notices, .positions] := by
  unfold State.enterPower
  split
  · exact Acts.setReason (.refl s _) _ _ (by decide)
  · split
    · exact .refl _ _
    · exact Acts.closePos (.refl s _) _ _ (by decide)

theorem State.powerDownAt_acts (s : State) (side : Side) : Acts s (s.powerDownAt side) [.notices, .meters, .positions, .displays] :=
  Acts.powerDownAt (.refl s _) side (by decide)

theorem State.powerDownAt_pos (s : State) (side : Side) : (s.powerDownAt side).pos side = (s.pos side).warned.dropped := by
  rw [State.powerDownAt_eq, State.modPos_pos]
  have h1 : (s.lostStart side).pos side = if (s.pos side).st.isStarting then { s.pos side with sale := none, motorTimer := none } else s.pos side := by
    unfold State.lostStart
    split
    · exact s.abandonStart_pos side
    · rfl
  have h2 (u : State) (st : PosState) : (u.enterPower side st).pos side =
      if st.isClosed then (u.pos side).enter (.closed .power)
      else if st.isDispensing || st == .ending then u.pos side
      else { (u.pos side).enter (.closed .power) with auth := none, authTimer := none } := by
    unfold State.enterPower
    split
    · exact u.setReason_pos side .power
    · split
      · rfl
      · exact u.closePos_pos side .power
  rw [h2, h1]
  rfl

theorem State.powerDownAt_pos_ne (s : State) (h : y ≠ side) : (s.powerDownAt side).pos y = s.pos y := by
  rw [State.powerDownAt_eq, State.modPos_pos_ne _ _ h]
  have h1 : (s.lostStart side).pos y = s.pos y := by
    unfold State.lostStart
    split
    · exact State.abandonStart_pos_ne _ h
    · rfl
  have h2 (u : State) (st : PosState) : (u.enterPower side st).pos y = u.pos y := by
    unfold State.enterPower
    split
    · exact State.setReason_pos_ne _ _ h
    · split
      · rfl
      · exact State.closePos_pos_ne _ _ h
  rw [h2, h1]

/-- What a position keeps at a supply warning, and where it arrives. -/
theorem Position.warned_keeps (p : Position) : p.warned.dropped.unpaid = p.unpaid ∧ p.warned.dropped.config = p.config
    ∧ (p.st.isDispensing = true ∨ p.st = .ending → p.warned.dropped.st = p.st ∧ p.warned.dropped.sale = p.sale)
    ∧ (p.st.isDispensing = false → p.st ≠ .ending → p.warned.dropped.st = .closed .power)
    ∧ (p.st.isDispensing = false → p.st ≠ .ending → p.st.isClosed = false → p.warned.dropped.auth = none)
    ∧ (p.st.isStarting = true → p.warned.dropped.sale = none) ∧ p.warned.dropped.st ≠ .starting .gate := by
  unfold Position.warned
  cases h : p.st <;>
    simp [h, Position.dropped, Position.enter, PosState.isStarting, PosState.isClosed, PosState.isDispensing]

/-! ## The claims of the starts that are lost (R16, R57) -/

/-- The claims of the start that a supply warning loses at a position. -/
def State.lostClaims (s : State) (side : Side) : List Claim :=
  if (s.pos side).st.isStarting then ((s.pos side).sale.map Sale.claims).getD [] else []

theorem State.mem_lostClaims {c : Claim} : c ∈ s.lostClaims side ↔
    (s.pos side).st.isStarting = true ∧ ∃ x, (s.pos side).sale = some x ∧ c ∈ x.claims := by
  unfold State.lostClaims
  cases (s.pos side).st.isStarting with
  | false => simp
  | true => cases (s.pos side).sale <;> simp

theorem State.abandonStart_miu (s : State) (side : Side) :
    (s.abandonStart side).miu = (s.returnClaims (((s.pos side).sale.map Sale.claims).getD [])).miu := by
  have hw : (s.withdrawCheck side).miu = s.miu := (show Acts s (s.withdrawCheck side) [.displays] by simp).frame .meters (by decide)
  have hp := s.withdrawCheck_pos side side
  have hcongr (l : List Claim) (u v : State) (h : u.miu = v.miu) : (u.returnClaims l).miu = (v.returnClaims l).miu := by
    induction l generalizing u v with
    | nil => exact h
    | cons c l ih =>
      refine ih _ _ ?_
      simp only [State.modMeter, State.modMiu, h]
  show ((s.withdrawCheck side).releaseClaims side true).miu = _
  cases hx : (s.pos side).sale with
  | none =>
    have : ((s.withdrawCheck side).pos side).sale = none := by rw [hp, hx]
    unfold State.releaseClaims
    rw [this]
    exact hw
  | some x =>
    rw [State.releaseClaims_miu (x := x) (by rw [hp, hx])]
    exact hcongr _ _ _ hw

theorem State.powerDownAt_miu (s : State) (side : Side) : (s.powerDownAt side).miu = (s.returnClaims (s.lostClaims side)).miu := by
  have h : (s.powerDownAt side).miu = (s.lostStart side).miu := by
    rw [State.powerDownAt_eq]
    exact ((s.lostStart side).enterPower_acts side _).frame .meters (by decide)
  rw [h]
  unfold State.lostStart State.lostClaims
  split
  · exact s.abandonStart_miu side
  · rfl

/-! ## Notices raised besides SUPPLY WARNING -/

theorem State.powerDownAt_source (s : State) {c : Cause} (h : ∀ e, c.source ≠ (Cause.position side e).source) :
    (s.powerDownAt side).ntc.sources[c.source] = s.ntc.sources[c.source] := by
  have hlost : (s.lostStart side).ntc = s.ntc := (s.lostStart_acts side).frame .notices (by decide)
  have hpower (u : State) (st : PosState) : (u.enterPower side st).ntc.sources[c.source] = u.ntc.sources[c.source] := by
    unfold State.enterPower
    split
    · rfl
    · split
      · rfl
      · unfold State.closePos
        rw [State.raisePos, Ntc.raise_source, if_neg (h _)]
        rfl
  rw [State.powerDownAt_eq]
  exact (hpower _ _).trans (State.source_congr hlost)

theorem State.powerDownAt_notified (s : State) (h1 : (s.pos side).st.isDispensing = false) (h2 : (s.pos side).st ≠ .ending)
    (h3 : (s.pos side).st.isClosed = false) : (s.powerDownAt side).notified (.position side .closed) := by
  rw [State.powerDownAt_eq]
  have h : (s.lostStart side).enterPower side (s.pos side).st = (s.lostStart side).closePos side .power := by
    have he : ((s.pos side).st == .ending) = false := beq_false_of_ne h2
    unfold State.enterPower
    rw [h1, h3, he]
    rfl
  rw [h]
  exact (State.reports_raise (s := (s.lostStart side).modPos side _) (t := (s.lostStart side).modPos side _) _ rfl (Cause.bit_lt _)).1

/-! ## Both positions -/

/-- The positions and the reader shut at the supply warning. -/
def State.bothWarned (s : State) : State := (s.riuPowerDown.powerDownAt .a).powerDownAt .b

theorem State.riuPowerDown_acts (s : State) : Acts s s.riuPowerDown [.reader, .store] := Acts.riuPowerDown (.refl s _) (by decide)

theorem State.bothWarned_acts (s : State) : Acts s s.bothWarned [.notices, .meters, .positions, .displays, .reader, .store] :=
  (s.riuPowerDown_acts.mono (by decide)).trans
    (((State.powerDownAt_acts _ .a).mono (by decide)).trans ((State.powerDownAt_acts _ .b).mono (by decide)))

theorem State.bothWarned_pos (s : State) (side : Side) : s.bothWarned.pos side = (s.pos side).warned.dropped := by
  have h0 (y : Side) : s.riuPowerDown.pos y = s.pos y := s.riuPowerDown_acts.pos_eq (by decide) y
  cases side with
  | a => rw [State.bothWarned, State.powerDownAt_pos_ne _ (by decide), State.powerDownAt_pos, h0]
  | b => rw [State.bothWarned, State.powerDownAt_pos, State.powerDownAt_pos_ne _ (by decide), h0]

theorem State.returnClaims_congr {l : List Claim} (h : t.miu = s.miu) : (t.returnClaims l).miu = (s.returnClaims l).miu := by
  induction l generalizing s t with
  | nil => exact h
  | cons c l ih => exact ih (by simp only [State.modMeter, State.modMiu, h])

theorem State.bothWarned_miu (s : State) :
    s.bothWarned.miu = ((s.returnClaims (s.lostClaims .a)).returnClaims (s.lostClaims .b)).miu := by
  have h0 (y : Side) : s.riuPowerDown.pos y = s.pos y := s.riuPowerDown_acts.pos_eq (by decide) y
  have hl (u : State) (y : Side) (h : u.pos y = s.pos y) : u.lostClaims y = s.lostClaims y := by unfold State.lostClaims; rw [h]
  rw [State.bothWarned, State.powerDownAt_miu, hl _ .b (by rw [State.powerDownAt_pos_ne _ (by decide), h0])]
  refine State.returnClaims_congr ?_
  rw [State.powerDownAt_miu, hl _ .a (h0 .a)]
  exact State.returnClaims_congr (s.riuPowerDown_acts.frame .meters (by decide))

/-- The meters of the starts that are lost, and the others. -/
theorem State.bothWarned_meter (s : State) :
    (∀ side x, (s.pos side).st.isStarting = true → (s.pos side).sale = some x → ∀ c ∈ x.claims, (s.bothWarned.meter c.meter).owner = none
      ∧ (s.claimsAgree → (x.claims.map Claim.meter).Nodup → s.bothWarned.meter c.meter = { s.meter c.meter with
          owner := none, phaseErrors := 0, unclaimed := (s.meter c.meter).unclaimed + BitVec.ofInt 32 c.n }))
      ∧ ∀ m, (∀ side x, (s.pos side).st.isStarting = true → (s.pos side).sale = some x → ∀ c ∈ x.claims, c.meter ≠ m) →
          s.bothWarned.meter m = s.meter m := by
  have hm (m : MeterNo) : s.bothWarned.meter m = ((s.returnClaims (s.lostClaims .a)).returnClaims (s.lostClaims .b)).meter m :=
    congrArg (fun z : Miu => z.meters[m]) s.bothWarned_miu
  have hlost (side : Side) (x : Sale) (hst : (s.pos side).st.isStarting = true) (hx : (s.pos side).sale = some x) : s.lostClaims side = x.claims := by
    unfold State.lostClaims
    rw [hst, hx]
    rfl
  -- the other position claims no meter that this one claims
  have hapart (hc : s.claimsAgree) (side : Side) (x : Sale) (hx : (s.pos side).sale = some x) (c : Claim) (hmem : c ∈ x.claims) :
      ∀ k ∈ s.lostClaims (other side), k.meter ≠ c.meter := by
    intro k hk he
    obtain ⟨-, z, hz, hkz⟩ := State.mem_lostClaims.mp hk
    have h1 := hc.1 side x hx c hmem
    have h2 := hc.1 (other side) z hz k hkz
    rw [he, h1] at h2
    have h3 := congrArg Prod.fst (Option.some.inj h2)
    cases side <;> cases h3
  refine ⟨fun side x hst hx c hmem => ⟨?_, fun hc hn => ?_⟩, fun m hno => ?_⟩
  · rw [hm]
    have hl := hlost side x hst hx
    cases side with
    | a => exact State.returnClaims_owner _ (.inl (State.returnClaims_owner _ (.inr ⟨c, by rw [hl]; exact hmem, rfl⟩)))
    | b => exact State.returnClaims_owner _ (.inr ⟨c, by rw [hl]; exact hmem, rfl⟩)
  · rw [hm]
    have hl := hlost side x hst hx
    have ho := hapart hc side x hx c hmem
    cases side with
    | a => rw [State.returnClaims_meter_other _ (l := s.lostClaims .b) ho, hl, State.returnClaims_meter _ hn hmem]
    | b => rw [hl, State.returnClaims_meter _ hn hmem, State.returnClaims_meter_other _ (l := s.lostClaims .a) ho]
  · have hne (side : Side) : ∀ c ∈ s.lostClaims side, c.meter ≠ m := fun c hc => by
      obtain ⟨h1, x, h2, h3⟩ := State.mem_lostClaims.mp hc
      exact hno side x h1 h2 c h3
    rw [hm, State.returnClaims_meter_other _ (hne .b), State.returnClaims_meter_other _ (hne .a)]

theorem State.bothWarned_source (s : State) {c : Cause} (h : ∀ side e, c.source ≠ (Cause.position side e).source) :
    s.bothWarned.ntc.sources[c.source] = s.ntc.sources[c.source] := by
  rw [State.bothWarned, State.powerDownAt_source _ (h .b), State.powerDownAt_source _ (h .a)]
  exact State.source_congr (s.riuPowerDown_acts.frame .notices (by decide))

theorem State.bothWarned_notified (s : State) (side : Side) (h1 : (s.pos side).st.isDispensing = false) (h2 : (s.pos side).st ≠ .ending)
    (h3 : (s.pos side).st.isClosed = false) : s.bothWarned.notified (.position side .closed) := by
  have h0 (y : Side) : s.riuPowerDown.pos y = s.pos y := s.riuPowerDown_acts.pos_eq (by decide) y
  cases side with
  | a =>
    exact (State.powerDownAt_acts _ .b).notices.notified
      (State.powerDownAt_notified (side := .a) s.riuPowerDown (by rw [h0]; exact h1) (by rw [h0]; exact h2) (by rw [h0]; exact h3))
  | b =>
    have hb : (s.riuPowerDown.powerDownAt .a).pos .b = s.pos .b := (State.powerDownAt_pos_ne _ (by decide)).trans (h0 .b)
    exact State.powerDownAt_notified (side := .b) _ (by rw [hb]; exact h1) (by rw [hb]; exact h2) (by rw [hb]; exact h3)

/-! ## The whole warning -/

/-- What follows on the site, the boards, the lanes and the store once the positions are shut. -/
def State.linksDropped (s : State) : State :=
  let u := (s.setSite .powerDown).modSsu fun u => { u with closingOrigin := none, closingPhase := none, stageTimer := none }
  (((u.modBoard .a Board.stopLink).modBoard .b Board.stopLink).dropCards.emptyQueue).modRsc
    fun r => { r with freeze := .window, frozen := 0, coldWait := false }

theorem State.warnSupply_eq (s : State) : s.warnSupply = (s.bothWarned.linksDropped).raise .supplyWarning 0 := rfl

theorem State.linksDropped_acts (s : State) : Acts s s.linksDropped [.lanes, .displays, .site, .store] := by
  unfold State.linksDropped
  exact Acts.modRsc (Acts.emptyQueue (Acts.dropCards (Acts.modBoard (Acts.modBoard (Acts.modSsu (Acts.setSite (.refl s _) _ (by decide)) _
    (by decide)) _ _ (by decide)) _ _ (by decide)) (by decide)) (by decide)) _ (by decide)

theorem State.linksDropped_ssu (s : State) : s.linksDropped.ssu =
    { s.ssu with site := .powerDown, closingOrigin := none, closingPhase := none, stageTimer := none } := by
  unfold State.linksDropped
  dsimp only
  rw [State.modRsc_ssu, State.emptyQueue_ssu, State.dropCards_ssu]
  rfl

theorem State.linksDropped_board (s : State) (side : Side) :
    (s.linksDropped.board side).attempt = none ∧ (s.linksDropped.board side).test = none := by
  unfold State.linksDropped
  dsimp only
  generalize ((s.setSite .powerDown).modSsu fun u => { u with closingOrigin := none, closingPhase := none, stageTimer := none }) = u
  generalize hv : (u.modBoard .a Board.stopLink).modBoard .b Board.stopLink = v
  have hb : v.board side = (u.board side).stopLink := by
    rw [← hv]
    cases side <;> rfl
  have ha : Acts v (v.dropCards.emptyQueue.modRsc fun r => { r with freeze := .window, frozen := 0, coldWait := false }) [.lanes, .store] :=
    Acts.modRsc (Acts.emptyQueue (Acts.dropCards (.refl v _) (by decide)) (by decide)) _ (by decide)
  have hd : (v.dropCards.emptyQueue.modRsc fun r => { r with freeze := .window, frozen := 0, coldWait := false }).board side = v.board side :=
    congrArg (fun z : Dlc => z.boards.get side) (ha.frame .displays (by decide))
  rw [hd, hb]
  exact ⟨rfl, rfl⟩

/-- The step in progress goes on, its requesters apart. -/
def ActiveStep.work (a : ActiveStep) : List RecordId × Nat × Contents := (a.step.records, a.generation, a.contents)

theorem State.linksDropped_rsc (s : State) : ∃ a, a.map ActiveStep.work = s.rsc.active.map ActiveStep.work ∧ s.linksDropped.rsc =
    { s.rsc with queue := [], check := .none, active := a, freeze := .window, frozen := 0, coldWait := false } := by
  unfold State.linksDropped
  dsimp only
  generalize hu : ((s.setSite .powerDown).modSsu fun u => { u with closingOrigin := none, closingPhase := none, stageTimer := none }) = u
  generalize hv : ((u.modBoard .a Board.stopLink).modBoard .b Board.stopLink).dropCards = v
  have hr : v.rsc = s.rsc := by
    have ha : Acts u v [.displays, .lanes] := hv ▸ Acts.dropCards (Acts.modBoard (Acts.modBoard (.refl u _) _ _ (by decide)) _ _ (by decide)) (by decide)
    have h0 : u.rsc = s.rsc := by rw [← hu]; rfl
    exact (ha.frame .store (by decide)).trans h0
  unfold State.emptyQueue State.dismiss
  dsimp only
  rw [State.modRsc_rsc, State.modRsc_rsc, State.modRsc_rsc, hr]
  refine ⟨_, ?_, rfl⟩
  cases s.rsc.active <;> rfl

/-- The whole warning lets nothing go on: in POWER DOWN nothing is examined, no step waits, no start stands at the gate. -/
theorem State.warnSupply_calm (s : State) : s.warnSupply.calm := by
  have hsite : s.warnSupply.ssu.site = .powerDown := congrArg Ssu.site s.bothWarned.linksDropped_ssu
  have hqueue : s.warnSupply.rsc.queue = [] := by
    obtain ⟨a, -, h⟩ := s.bothWarned.linksDropped_rsc
    exact congrArg Rsc.queue h
  have hgate (side : Side) : (s.warnSupply.pos side).st ≠ .starting .gate := by
    have hp : s.warnSupply.pos side = s.bothWarned.pos side := s.bothWarned.linksDropped_acts.pos_eq (by decide) side
    rw [hp, State.bothWarned_pos]
    exact (s.pos side).warned_keeps.2.2.2.2.2.2
  exact ⟨fun h _ => absurd (hsite.symm.trans h) (by decide), fun h _ => absurd (hsite.symm.trans h) (by decide), fun h => absurd hsite h,
    fun h => absurd hsite h, .inl hqueue, fun side h => absurd h (hgate side), fun h => absurd hsite h⟩

theorem State.riuPowerDown_riu (s : State) : s.riuPowerDown.riu = { s.riu with
    domain := if s.riu.domain = .quarantine then .quarantine else .off, settleTimer := none, answers := [], receiver := .outside,
    orphan := false, armed := [], send := none, badRun := 0, resuming := false } := by
  unfold State.riuPowerDown State.setDomain State.shutGate
  by_cases h : s.riu.domain = .quarantine <;> simp [State.modRiu, State.modRsc, h]

theorem exec_supplyWarning (hm : s.mainSupply = true) (hw : s.rsc.supplyWarn ≠ some true) (hs : s.ssu.site ≠ .powerDown) :
    exec .supplyWarning s = .next (publish s (s.modRsc fun r => { r with supplyWarn := some true }).warnSupply.react) := by
  refine (eventWhen_on hm (bne_iff_ne.mpr hw) _).trans ?_
  have hdown : ¬ (s.modRsc fun r => { r with supplyWarn := some true }).powerDown = true := by
    show ¬ (s.ssu.site == .powerDown) = true
    exact fun h => hs (eq_of_beq h)
  exact congrArg (fun y : State => Host.Outcome.next (publish s y.react)) (if_neg hdown)

/-- A closed position's legal fields are sent dashes, unless a freeze has been made (R105). -/
theorem State.contentsSent.dashes (h : s.contentsSent side) (ht : (s.board side).test = none) (hf : s.rsc.freeze = .window) {r : CloseReason}
    (hst : (s.pos side).st = .closed r) {f : FieldId} (hmem : f ∈ legalFields) : ((s.board side).field f).wanted = dashes f := by
  rw [h.1 ht (fun k => by rw [hf] at k; exact k.2.elim nofun nofun) f hmem]
  unfold Position.legalContent
  rw [hst]

theorem State.bothWarned_riu (s : State) : s.bothWarned.riu = s.riuPowerDown.riu :=
  ((State.powerDownAt_acts _ .b).frame .reader (by decide)).trans ((State.powerDownAt_acts _ .a).frame .reader (by decide))

theorem State.bothWarned_rsc (s : State) : s.bothWarned.rsc =
    { s.rsc with reader := if s.ssu.site = .night then s.rsc.reader else s.riu.domain == .opened } :=
  ((State.powerDownAt_acts _ .b).frame .store (by decide)).trans ((State.powerDownAt_acts _ .a).frame .store (by decide))

theorem State.returnClaims_rest (s : State) (l : List Claim) : ∃ z, (s.returnClaims l).miu = { s.miu with meters := z } := by
  induction l generalizing s with
  | nil => exact ⟨s.miu.meters, rfl⟩
  | cons c l ih =>
    obtain ⟨z, hz⟩ := ih (s.modMeter c.meter fun x =>
      { x with owner := none, phaseErrors := 0, unclaimed := x.unclaimed + BitVec.ofInt 32 c.n })
    exact ⟨z, hz⟩

theorem State.bothWarned_rest (s : State) : s.bothWarned.miu = { s.miu with meters := s.bothWarned.miu.meters } := by
  obtain ⟨y, hy⟩ := s.returnClaims_rest (s.lostClaims .a)
  obtain ⟨z, hz⟩ := (s.returnClaims (s.lostClaims .a)).returnClaims_rest (s.lostClaims .b)
  rw [s.bothWarned_miu, hz, hy]

/-- The boards' links and tests stop, and none begins in POWER DOWN (R112). -/
theorem State.warnSupply_boards (s s0 : State) (side : Side) : ((publish s0 s.warnSupply.react).board side).attempt = none
    ∧ ((publish s0 s.warnSupply.react).board side).test = none := by
  obtain ⟨h1, h2⟩ := s.bothWarned.linksDropped_board side
  have hb : s.warnSupply.board side = s.bothWarned.linksDropped.board side := rfl
  have hdown : s.warnSupply.powerDown = true := by
    have hsite : s.warnSupply.ssu.site = .powerDown := congrArg Ssu.site s.bothWarned.linksDropped_ssu
    rw [State.powerDown, hsite]
    rfl
  obtain ⟨z, hz⟩ := (s.warnSupply.sendAll_boards side).rest
  rw [publish_board, State.react_board s.warnSupply_calm, hdown]
  unfold Board.servedIn
  rw [if_neg (by simp), hz, hb]
  exact ⟨h1, h2⟩

/-- Settles O53: the records of the warning, which lets nothing go on. -/
theorem supplyWarningFreezesThePart : Obligations.SupplyWarningFreezesThePart := by
  unfold Obligations.SupplyWarningFreezesThePart
  intro s hm hw hs
  refine ⟨_, exec_supplyWarning hm hw hs, ?_⟩
  generalize hs' : (s.modRsc fun r => { r with supplyWarn := some true }) = s'
  have hpos (side : Side) : s'.pos side = s.pos side := by rw [← hs']; rfl
  have hmeter (m : MeterNo) : s'.meter m = s.meter m := by rw [← hs']; rfl
  have hagree : s.claimsAgree → s'.claimsAgree := fun h => by rw [← hs']; exact h
  have hbase : Acts s s' [.store] := hs' ▸ Acts.modRsc (.refl s _) _ (by decide)
  have hrsc' : s'.rsc = { s.rsc with supplyWarn := some true } := by rw [← hs']; rfl
  have hcalm := s'.warnSupply_calm
  have hdrop := s'.bothWarned.linksDropped_acts
  have hraise : Acts s'.bothWarned.linksDropped s'.warnSupply [.notices] := Acts.raise (.refl _ _) _ _ (by decide)
  have hlate : Acts s'.bothWarned s'.warnSupply [.lanes, .displays, .site, .store, .notices] := (hdrop.mono (by decide)).trans (hraise.mono (by decide))
  have hall : Acts s s'.warnSupply [.lanes, .notices, .meters, .positions, .displays, .reader, .site, .store] :=
    (hbase.mono (by decide)).trans ((s'.bothWarned_acts.mono (by decide)).trans (hlate.mono (by decide)))
  have hchanges := (hall.react_calm hcalm (by decide)).published
  have hsent (side : Side) : (publish s s'.warnSupply.react).contentsSent side := publish_contentsSent.mpr (State.react_sent _)
  have hkept (p : Part) (hp : p ≠ .displays) : p.kept s'.warnSupply (publish s s'.warnSupply.react) := hcalm.event_kept s hp
  have hboard (side : Side) := s'.warnSupply_boards s side
  have hposT (side : Side) : (publish s s'.warnSupply.react).pos side = (s.pos side).warned.dropped := by
    rw [← hpos, ← State.bothWarned_pos, ← hlate.pos_eq (by decide) side]
    exact congrArg (fun z : Sides Position => z.get side) (hkept .positions (by decide))
  have hmiuT : (publish s s'.warnSupply.react).miu = s'.bothWarned.miu := (hkept .meters (by decide)).trans (hlate.frame .meters (by decide))
  have hriuT := (hkept .reader (by decide)).trans ((hlate.frame .reader (by decide)).trans s'.bothWarned_riu)
  have hssuT := (hkept .site (by decide)).trans s'.bothWarned.linksDropped_ssu
  obtain ⟨a, ha, hr⟩ := s'.bothWarned.linksDropped_rsc
  have hrscT : (publish s s'.warnSupply.react).rsc = _ := (hkept .store (by decide)).trans hr
  rw [s'.bothWarned_rsc] at hrscT ha
  have hssu0 : s'.bothWarned.ssu = s.ssu := (s'.bothWarned_acts.frame .site (by decide)).trans (hbase.frame .site (by decide))
  have hriu0 : s'.riu = s.riu := hbase.frame .reader (by decide)
  have hsite0 : s'.ssu = s.ssu := hbase.frame .site (by decide)
  have hreport : s.reports (publish s s'.warnSupply.react) .supplyWarning 0 := by
    refine State.reports.event (State.reports_raise (t := s'.bothWarned.linksDropped) 0 ?_ (Cause.bit_lt _))
    rw [State.source_congr (hdrop.frame .notices (by decide)), State.bothWarned_source _ fun side e => by cases side <;> simp [Cause.source]]
    exact State.source_congr (hbase.frame .notices (by decide))
  have hclosed (side : Side) (h1 : (s.pos side).st.isDispensing = false) (h2 : (s.pos side).st ≠ .ending) (h3 : (s.pos side).st.isClosed = false) :
      (publish s s'.warnSupply.react).notified (.position side .closed) := by
    have h := s'.bothWarned_notified side (by rw [hpos]; exact h1) (by rw [hpos]; exact h2) (by rw [hpos]; exact h3)
    refine Ntc.Grows.notified ?_ (hlate.notices.notified h)
    rw [publish_ntc]
    exact (Acts.reactAll _).notices
  obtain ⟨hm1, hm2⟩ := s'.bothWarned_meter
  generalize publish s s'.warnSupply.react = t at *
  have hmeterT (m : MeterNo) : t.meter m = s'.bothWarned.meter m := congrArg (fun z : Miu => z.meters[m]) hmiuT
  have hkeeps (side : Side) := (s.pos side).warned_keeps
  have hsite : t.ssu = { s.ssu with site := .powerDown, closingOrigin := none, closingPhase := none, stageTimer := none } := by
    rw [hssuT, hssu0]
  have hriu : t.riu = { s.riu with
      domain := if s.riu.domain = .quarantine then .quarantine else .off, settleTimer := none, answers := [], receiver := .outside,
      orphan := false, armed := [], send := none, badRun := 0, resuming := false } := by
    rw [hriuT, State.riuPowerDown_riu, hriu0]
  have hfreeze : t.rsc.freeze = .window := by rw [hrscT]
  refine ⟨hreport, hsite, fun side => ?_, fun side h => ?_, fun side h1 h2 => ?_, fun side x hst hx c hc => ?_, fun m hno => ?_, ?_, hsent,
    fun side hst f hf => (hsent side).dashes (hboard side).2 hfreeze hst hf, by rw [hriu], by rw [hriu], by rw [hriu], by rw [hriu], by rw [hriu],
    by rw [hriu], by rw [hriu], fun h => ?_, fun h => ?_, hboard, by rw [hrscT], hfreeze, ?_, by rw [hrscT, hrsc'], by rw [hrscT, hrsc'], hchanges⟩
  · rw [hposT]
    exact ⟨rfl, rfl, rfl, rfl, rfl, rfl, rfl, (hkeeps side).1, (hkeeps side).2.1⟩
  · rw [hposT]
    exact (hkeeps side).2.2.1 h
  · obtain ⟨-, -, -, k1, k2, k3, -⟩ := hkeeps side
    rw [hposT]
    exact ⟨k1 h1 h2, fun h3 => ⟨k2 h1 h2 h3, hclosed side h1 h2 h3⟩, k3⟩
  · rw [hmeterT, ← hmeter]
    obtain ⟨k1, k2⟩ := hm1 side x (by rw [hpos]; exact hst) (by rw [hpos]; exact hx) c hc
    exact ⟨k1, fun hag => k2 (hagree hag)⟩
  · rw [hmeterT, ← hmeter]
    exact hm2 m fun side x h1 h2 => hno side x (by rw [← hpos]; exact h1) (by rw [← hpos]; exact h2)
  · have hmiu0 : s'.miu = s.miu := hbase.frame .meters (by decide)
    rw [hmiuT, ← hmiu0]
    exact s'.bothWarned_rest
  · rw [hrscT, hriu0, hsite0]
    exact if_neg h
  · rw [hrscT, hsite0, hrsc']
    exact if_pos h
  · rw [hrscT]
    refine ha.trans ?_
    rw [hrsc']
    rfl

end Sys2Proof.Machine
end

section
/-! PROOFS. Power (R157, R179, R183 to R185): power-on and cold start, the fall of the supply, the battery. -/
namespace Sys2Proof.Machine

variable {s t u v w : State} {side x : Side} {st : Store} {c : Contents} {r q : RecordId} {a : ActiveStep}

/-! ## What a power-on sets -/

/-- The NTC after a cause has been raised (R207). -/
def Ntc.told (n : Ntc) (c : Cause) (detail : Nat) : Ntc :=
  { n with sources := n.sources.set c.source (n.sources[c.source].gather c.bit (BitVec.ofNat 16 detail) (n.presented == some c.source)) }

/-- The NTC after a power-on: WAKING, and CLOCK LOST where the clock was lost (R157, R163). -/
def Ntc.atPowerOn (cut : Bool) : Ntc :=
  if cut then (Ntc.default.told .waking 0).told .clockLost 0 else Ntc.default.told .waking 0

theorem State.powerOnEffects_eq (s : State) : s.powerOnBase.powerOnEffects =
    { s.powerOnBase with ntc := .atPowerOn s.rsc.batteryCut, mirrors := { Mirrors.default with wholes := [.ssu, .riu, .iwu] } } := by
  unfold State.powerOnEffects State.powerOnBase
  cases s.rsc.batteryCut
  · rfl
  · rfl

theorem State.powerOnBase_grade (s : State) (g : Fin 8) : s.powerOnBase.grade g = .default := by
  show (Vector.replicate 8 Grade.default)[g] = _
  simp

theorem State.powerOnBase_unused (s : State) (side : Side) (g : Fin 8) : s.powerOnBase.panelState g side = .unused := by
  have hm : s.powerOnBase.members g side = [] := by
    refine List.filter_eq_nil_iff.mpr fun h _ => ?_
    have hf : (s.powerOnBase.route side h).fitted = false :=
      (by decide : ∀ x ∈ [Side.a, .b], ∀ h : HoseNo, ((defaultRoutes.get x)[h]).fitted = false) side (by cases side <;> decide) h
    simp [hf]
  unfold State.panelState
  rw [hm]
  rfl

/-- Nothing waits after a power-on. -/
theorem State.powerOnEffects_calm (s : State) : s.powerOnBase.powerOnEffects.calm := by
  rw [State.powerOnEffects_eq]
  refine State.calm_of_closed (fun _ h => ?_) (fun h => ?_) (fun g => ?_) rfl (.inl rfl) (fun side => ?_) s.powerOnBase_unused
  · exact absurd (show (1 : Nat) = 3 from h) (by decide)
  · exact absurd (show SiteState.waking = .closing from h) (by decide)
  · exact congrArg Grade.pending (s.powerOnBase_grade g)
  · exact congrArg (fun p : Position => p.st.isClosed) (s.powerOnBase_pos side)

theorem State.powerOnBase_board (s : State) (side : Side) : s.powerOnBase.board side = .default := by cases side <;> rfl

/-- The boards of a power-on want the contents of CLOSED from the first (R93, R105). -/
theorem State.powerOnBase_sent (s : State) (side : Side) : s.powerOnBase.contentsSent side := by
  refine ⟨fun _ _ f hf => ?_, fun _ => ?_⟩
  · rw [State.powerOnBase_board, State.powerOnBase_pos]
    exact (by decide : ∀ f ∈ legalFields, (Board.default.field f).wanted = Position.default.legalContent f) f hf
  · rw [State.powerOnBase_board]
    unfold State.statusContent
    rw [State.powerOnBase_pos]
    rfl

theorem State.powerOnEffects_kept (s : State) (p : Part) (hp : p ≠ .notices) : p.kept s.powerOnBase s.powerOnBase.powerOnEffects := by
  rw [State.powerOnEffects_eq]
  cases p with
  | notices => exact absurd rfl hp
  | lines => exact ⟨rfl, rfl⟩
  | _ => rfl

/-- Each board's first attempt begins at once (R98, R112). -/
theorem State.powerOn_board (s : State) (side : Side) : s.powerOnBase.powerOnEffects.react.board side = .atReset := by
  have hk := s.powerOnEffects_kept
  have hd : s.powerOnBase.powerOnEffects.dlc = s.powerOnBase.dlc := hk .displays (by decide)
  have hsite : s.powerOnBase.powerOnEffects.ssu = s.powerOnBase.ssu := hk .site (by decide)
  have hsent : s.powerOnBase.powerOnEffects.contentsSent side :=
    State.contentsSent_congr (by simp only [State.board, hd]; exact .refl _) (hk .positions (by decide)) (hk .inputs (by decide)) hsite
      (hk .store (by decide)) (s.powerOnBase_sent side)
  have hb : s.powerOnBase.powerOnEffects.board side = .default := by
    rw [← s.powerOnBase_board side]
    simp only [State.board, hd]
  rw [State.react_board s.powerOnEffects_calm, State.sendAll_same hsent, hb, State.powerDown, hsite]
  rfl

/-- States whose parts and mirrors are the same are the same. -/
theorem State.eq_of_kept (h : ∀ p : Part, p.kept s t) (hm : t.mirrors = s.mirrors) : t = s := by
  obtain ⟨h1, h2⟩ := h .lines
  have h3 := h .queue
  have h4 := h .memory
  have h5 := h .parity
  have h6 := h .lanes
  have h7 := h .notices
  have h8 := h .meters
  have h9 := h .positions
  have h10 := h .prices
  have h11 := h .displays
  have h12 := h .inputs
  have h13 := h .reader
  have h14 := h .site
  have h15 := h .store
  have h16 := h .free
  cases s
  cases t
  dsimp only [Part.kept] at *
  subst_vars
  rfl

/-- The state after a power-on, before its mirrors: the power-on values, the notices of the wake, each board's first attempt. -/
def State.poweredOn (s : State) : State :=
  { s.powerOnBase with
    ntc := .atPowerOn s.rsc.batteryCut, mirrors := { Mirrors.default with wholes := [.ssu, .riu, .iwu] },
    dlc := { boards := { a := .atReset, b := .atReset }, policy := .default } }

theorem State.powerOn_react (s : State) : s.powerOnBase.powerOnEffects.react = s.poweredOn := by
  have ha := s.powerOn_board .a
  have hb := s.powerOn_board .b
  have hp : s.powerOnBase.powerOnEffects.react.dlc.policy = .default := by
    rw [State.react_calm s.powerOnEffects_calm, State.sent_policy, s.powerOnEffects_kept .displays (by decide)]
    rfl
  have hf := (Acts.react_calm (.refl s.powerOnBase.powerOnEffects [.displays]) s.powerOnEffects_calm (by decide)).frame
  have hm := State.calm.react_mirrors s.powerOnEffects_calm
  have he := s.powerOnEffects_eq
  generalize s.powerOnBase.powerOnEffects.react = w at *
  rw [he] at hf hm
  refine State.eq_of_kept (fun p => ?_) hm
  by_cases hd : p = .displays
  · subst hd
    show w.dlc = _
    have hw : w.dlc = { boards := { a := w.board .a, b := w.board .b }, policy := w.dlc.policy } := rfl
    rw [hw, ha, hb, hp]
    rfl
  · have h := hf p (by simpa using hd)
    cases p with
    | displays => exact absurd rfl hd
    | _ => exact h

/-! ## The mirrors of a power-on (R194) -/

theorem State.partUpdate_whole {m : MirrorEntries} {p : MirrorPart} (h : u.mirrors.wholes.contains p = true) :
    State.partUpdate s u p m = ((u.image p).map some, true) := by
  unfold State.partUpdate updatePart
  rw [h, if_pos rfl]

theorem State.partUpdate_unmarked {m : MirrorEntries} {p : MirrorPart} (hi : u.image p = s.image p) (ht : u.mirrors.touched = [])
    (hw : u.mirrors.wholes.contains p = false) : State.partUpdate s u p m = (m, false) := by
  unfold State.partUpdate updatePart
  rw [hi, ht, hw]
  simp

theorem State.partUpdate_changed {m : MirrorEntries} {p : MirrorPart} (hi : s.image p ≠ u.image p) : (State.partUpdate s u p m).2 = true := by
  unfold State.partUpdate updatePart
  rw [if_neg (show ¬ (s.image p = u.image p ∧ _) from fun h => hi h.1)]
  split <;> rfl

/-- The mirrors of a power-on (R76, R194; log 55): the site mirror has had an update of each of its owners, the others none. -/
theorem publish_poweredOn (s : State) :
    let t := publish s.powerOnBase s.poweredOn
    t.mirrors.genPositionA = 0 ∧ t.mirrors.genPositionB = 0 ∧ t.mirrors.genPrice = 0 ∧ t.mirrors.genTotals = 0
      ∧ t.mirrors.genMeter = 0 ∧ t.mirrors.genSite = 8 ∧ t.mirrored .iwu ∧ t.mirrored .riu ∧ t.mirrored .ssu := by
  have hsame (p : MirrorPart) (hp : p ∈ [MirrorPart.positionA, .positionB, .price, .totals, .meterState]) (m : MirrorEntries) :
      State.partUpdate s.powerOnBase s.poweredOn p m = (m, false) := by
    simp only [List.mem_cons, List.not_mem_nil, or_false] at hp
    rcases hp with rfl | rfl | rfl | rfl | rfl
    · exact State.partUpdate_unmarked (State.positionImage_congr rfl rfl rfl rfl) rfl rfl
    · exact State.partUpdate_unmarked (State.positionImage_congr rfl rfl rfl rfl) rfl rfl
    · exact State.partUpdate_unmarked rfl rfl rfl
    · exact State.partUpdate_unmarked rfl rfl rfl
    · exact State.partUpdate_unmarked rfl rfl rfl
  have hwhole (p : MirrorPart) (hp : p ∈ [MirrorPart.ssu, .riu, .iwu]) (m : MirrorEntries) :
      State.partUpdate s.powerOnBase s.poweredOn p m = ((s.poweredOn.image p).map some, true) :=
    State.partUpdate_whole (List.contains_iff_mem.mpr hp)
  have hdlc (m : MirrorEntries) : (State.partUpdate s.powerOnBase s.poweredOn .dlc m).2 = true := by
    refine State.partUpdate_changed fun h => ?_
    have hh := congrArg List.head? h
    have hb : (s.powerOnBase.image .dlc).head? = (boardImage .default).head? := rfl
    have ha : (s.poweredOn.image .dlc).head? = (boardImage .atReset).head? := rfl
    rw [hb, ha] at hh
    exact absurd hh (by decide)
  unfold publish State.mirrored
  dsimp only
  rw [hsame .positionA (by decide), hsame .positionB (by decide), hsame .price (by decide), hsame .totals (by decide), hsame .meterState (by decide),
    hwhole .iwu (by decide), hwhole .riu (by decide), hwhole .ssu (by decide), hdlc]
  exact ⟨rfl, rfl, rfl, rfl, rfl, rfl, rfl, rfl, rfl⟩

/-! ## A record that a step does not write stands (R179) -/

theorem Contents.agrees_refl (c : Contents) (r : RecordId) : c.agrees c r := by cases r <;> rfl

theorem Contents.agrees.trans {c d e : Contents} (h : c.agrees d r) (k : d.agrees e r) : c.agrees e r := by
  cases r <;> exact Eq.trans h k

theorem Contents.put_agrees_other (c d : Contents) (h : q ≠ r) : (c.put d q).agrees c r := by
  revert h
  cases q <;> cases r <;> simp [Contents.put, Contents.agrees]

theorem RecordId.number_ne (h : q ≠ r) : q.number ≠ r.number := by
  revert h
  cases q <;> cases r <;> decide

/-- A record stands the same in two stores: its contents and its seal. -/
def Store.keeps (st st' : Store) (r : RecordId) : Prop := st'.seal r = st.seal r ∧ st'.contents.agrees st.contents r

theorem Store.cut_keeps (st : Store) (a : ActiveStep) (lost : Bool) (free : Nat) (h : r ∉ a.step.records) : st.keeps (st.cut a lost free) r := by
  unfold Store.cut
  generalize a.step.records = records at h
  induction records generalizing st with
  | nil => exact ⟨rfl, Contents.agrees_refl _ _⟩
  | cons q rest ih =>
    have hq : q ≠ r := fun e => h (by simp [e])
    obtain ⟨hseal, hcontents⟩ := ih (match Config.cutRecord free q.number.val with
      | none => st.spoil q
      | some true => st.writeRecord q a.generation a.contents (q != .header || !lost)
      | some false => st) fun e => h (by simp [e])
    rw [List.foldl_cons]
    refine ⟨hseal.trans ?_, hcontents.trans ?_⟩
    · split
      · exact Store.spoil_seal_other _ (RecordId.number_ne hq)
      · exact Store.writeRecord_seal_other _ _ _ _ (RecordId.number_ne hq)
      · rfl
    · split
      · exact Contents.agrees_refl _ _
      · exact Contents.put_agrees_other _ _ hq
      · exact Contents.agrees_refl _ _

/-- The fall of the supply (R179). -/
theorem exec_supplyFall (h : s.mainSupply = true) :
    ∃ t, exec .supplyFall s = .next t ∧ t.mainSupply = false ∧ t.rsc.active = none
      ∧ (s.rsc.active = none → t.rsc.store = s.rsc.store)
      ∧ (∀ a r, s.rsc.active = some a → r ∉ a.step.records → s.rsc.store.keeps t.rsc.store r)
      ∧ t.rsc = { s.rsc with store := t.rsc.store, active := none, batteryCut := s.rsc.batteryLow }
      ∧ s.changesOnly t [.lines, .store, .free] := by
  have hrun : exec .supplyFall s = .next _ := if_pos h
  refine ⟨_, hrun, rfl, rfl, fun ha => ?_, fun a r ha hr => ?_, rfl, ?_⟩
  · rw [ha]
    rfl
  · have hcut := Store.cut_keeps s.rsc.store a (s.rsc.lost && a.step.records != allRecords) s.free hr
    rw [ha]
    exact hcut
  · intro p hp
    cases p with
    | lines | store | free => exact absurd (by decide) hp
    | memory => exact fun _ => rfl
    | _ => rfl

/-! ## The battery (R157, R185) -/

/-- A battery loss before its notices. -/
def State.batteryGone (s : State) : State :=
  { s with rsc := { s.rsc with batteryLow := true, lost := true, store := s.rsc.store.spoil .header },
           ssu := { s.ssu with clock := { day := 0, second := 0, lost := true } } }

theorem State.loseBattery_eq (s : State) : s.loseBattery = (s.batteryGone.raise .batteryLost 0).raise .clockLost 0 := rfl

theorem State.loseBattery_calm (hc : s.calm) : s.loseBattery.calm := hc

/-- The battery's loss while main supply is present (R157, R185). -/
theorem exec_batteryLoss (hm : s.mainSupply = true) (hc : s.calm) (hb : s.rsc.batteryLow = false) :
    ∃ t, exec .batteryLoss s = .next t ∧ s.reports t .batteryLost 0 ∧ s.reports t .clockLost 0 ∧ t.rsc.lost = true
      ∧ t.ssu = { s.ssu with clock := { day := 0, second := 0, lost := true } } ∧ (t.rsc.store.seals[0]).check = none
      ∧ t.rsc.store.contents = s.rsc.store.contents ∧ (∀ i : Fin 8, i ≠ 0 → t.rsc.store.seals[i] = s.rsc.store.seals[i])
      ∧ s.changesOnly t [.notices, .site, .store, .displays] := by
  have hu := State.loseBattery_calm hc
  have hrun : exec .batteryLoss s = .next (publish s s.loseBattery.react) := by
    show execBatteryLoss s = _
    unfold execBatteryLoss
    rw [hm, hb]
    rfl
  have hlost : s.reports s.loseBattery .batteryLost 0 :=
    Ntc.Grows.reports (Acts.raise (.refl _ [.notices]) _ _ (by decide)).notices (State.reports_raise (t := s.batteryGone) 0 rfl (by decide))
  have hclock : s.reports s.loseBattery .clockLost 0 := by
    refine State.reports_raise 0 ?_ (by decide)
    rw [Ntc.raise_source, if_neg (by decide)]
    rfl
  have hrsc : (publish s s.loseBattery.react).rsc = s.batteryGone.rsc := hu.event_kept s (p := .store) (by decide)
  refine ⟨_, hrun, hlost.event, hclock.event, by rw [hrsc]; rfl, hu.event_kept s (p := .site) (by decide), ?_, by rw [hrsc]; rfl, fun i hi => ?_, ?_⟩
  · rw [hrsc]
    exact congrArg Seal.check (Store.spoil_seal s.rsc.store .header)
  · rw [hrsc]
    have hne : (0 : Nat) ≠ i.val := fun e => hi (Fin.ext e.symm)
    simp [State.batteryGone, Store.spoil, RecordId.number, hne]
  · exact hu.event_changes ((Acts.loseBattery (.refl s [.notices, .site, .store]) (by decide)).mono (by decide)).frame (by decide)

/-! ## The commands -/

theorem exec_powersOn {c : Instr} (h : (c = .powerOn ∧ s.mainSupply = false) ∨ (c = .coldStart ∧ s.mainSupply = true
    ∧ s.ssu.site = .powerDown ∧ s.rsc.freeze = .done ∧ s.rsc.coldWait = true ∧ s.rsc.supplyWarn = some false)) :
    exec c s = .next (publish s.powerOnBase s.poweredOn) := by
  rw [← State.powerOn_react]
  rcases h with ⟨rfl, hm⟩ | ⟨rfl, hm, hs, hf, hw, hr⟩
  · show execPowerOn s = _
    unfold execPowerOn
    rw [hm]
    rfl
  · show execColdStart s = _
    unfold execColdStart State.powerDown
    rw [hm, hs, hf, hw, hr]
    rfl

/-- What the notices of a power-on are (R163, R207). -/
theorem Ntc.atPowerOn_holds (cut : Bool) :
    let n := Ntc.atPowerOn cut
    let x := n.sources[Cause.waking.source]
    (x.pending = true ∧ x.causes.getLsbD Cause.waking.bit = true) ∧ (cut = true → x.causes.getLsbD Cause.clockLost.bit = true)
      ∧ n.presented = none ∧ n.enable = 0x1FFF
      ∧ (∀ i : Fin 13, n.sources[i].overrun = false ∧ (n.sources[i].pending = true → i = Cause.waking.source)) ∧ x.first = 0 := by
  cases cut <;> decide

/-- What each board is after a power-on (R93, R98, R112). -/
theorem Board.atReset_holds :
    let b := Board.atReset
    b.sideFault = false ∧ b.test = none ∧ b.pass = false ∧ b.refreshPeriod = 1000 ∧ b.writeNumber = 1
      ∧ b.attempt = some { field := .amount, number := 0, sent := dashes .amount } ∧ (b.field .amount).st = .writing
      ∧ (∀ f, (b.field f).shown = none ∧ (b.field f).retries = 3 ∧ (b.field f).repost = false ∧ (b.field f).refreshDue = false
          ∧ (b.field f).heldPost = false ∧ (f ≠ .amount → (b.field f).st = .pending))
      ∧ (∀ f ∈ legalFields, (b.field f).wanted = dashes f) ∧ (b.field .status).wanted = .lamps false false true false
      ∧ ∀ h, (b.field (.grade h)).wanted = blank (.grade h) := by
  have hgrade (h : HoseNo) : Board.atReset.field (.grade h) = .default (.digits (List.replicate 5 .blank)) := by
    show (Vector.replicate 4 (FieldRec.default (.digits (List.replicate 5 .blank))))[h] = _
    simp
  refine ⟨rfl, rfl, rfl, rfl, rfl, rfl, rfl, fun f => ?_, by decide, rfl, fun h => by rw [hgrade]; rfl⟩
  cases f with
  | grade h =>
    rw [hgrade]
    exact ⟨rfl, rfl, rfl, rfl, rfl, fun _ => rfl⟩
  | amount => exact ⟨rfl, rfl, rfl, rfl, rfl, fun h => absurd rfl h⟩
  | volume | price | status => exact ⟨rfl, rfl, rfl, rfl, rfl, fun _ => rfl⟩

/-- Settles O55: power-on ends in the power-on values with its notices and each board's first attempt; a fall leaves the records that no
step writes; the battery's loss spoils the HEADER. -/
theorem powerCommands : Obligations.PowerCommands := by
  unfold Obligations.PowerCommands
  refine ⟨fun s c h => ?_, fun s h => exec_supplyFall h, fun s hm hc hb => exec_batteryLoss hm hc hb, fun s hm => ⟨_, ?_, rfl⟩,
    fun s => ⟨_, rfl, rfl⟩⟩
  · refine ⟨_, exec_powersOn h, rfl, rfl, rfl, rfl, rfl, rfl, rfl, rfl, rfl, rfl, rfl, rfl, rfl, rfl, rfl, rfl, rfl, rfl, rfl, rfl, rfl, rfl, rfl, rfl,
      rfl, rfl, rfl, fun side => ?_, ?_⟩
    · have hb : (publish s.powerOnBase s.poweredOn).board side = .atReset := by cases side <;> rfl
      rw [hb]
      exact Board.atReset_holds
    · obtain ⟨h1, h2, h3, h4, h5, h6, h7, h8, h9⟩ := publish_poweredOn s
      obtain ⟨n1, n2, n3, n4, n5, n6⟩ := Ntc.atPowerOn_holds s.rsc.batteryCut
      have hn : (publish s.powerOnBase s.poweredOn).ntc = .atPowerOn s.rsc.batteryCut := rfl
      have hkept : s.rsc.batteryCut = false →
          s.powerOnBase.ssu.clock = s.ssu.clock ∧ s.powerOnBase.rsc.store = s.rsc.store ∧ s.powerOnBase.rsc.lost = false := by
        intro hb
        unfold State.powerOnBase
        rw [hb]
        exact ⟨rfl, rfl, rfl⟩
      have hgone : s.rsc.batteryCut = true →
          s.powerOnBase.ssu.clock = { day := 0, second := 0, lost := true } ∧ s.powerOnBase.rsc.lost = true := by
        intro hb
        unfold State.powerOnBase
        rw [hb]
        exact ⟨rfl, rfl⟩
      refine ⟨h1, h2, h3, h4, h5, h6, h7, h8, h9, ?_⟩
      unfold State.notified
      rw [hn]
      exact ⟨n1, n3, n4, n5, n6, hkept, fun hb => ⟨(hgone hb).1, (hgone hb).2, n1.1, n2 hb⟩⟩
  · exact if_neg (by simp [hm])

end Sys2Proof.Machine
end

section
/-! PROOFS. What the end of an event leaves while both positions are CLOSED and no price is pending: meters, positions, inputs, the reader's and
the site's records, the prices, the settings, the tests, totals and READER (R164, R178, R184). -/
namespace Sys2Proof.Machine

variable {s t u v w : State} {side : Side} {P : List Part}

/-! ## What stands -/

/-- What the end of an event leaves alone when nothing but store steps and LOAD PRICE can go on. -/
structure Standing where
  miu : Miu
  psc : Sides Position
  iwu : Iwu
  riu : Riu
  ssu : Ssu
  prices : Vector (Option Nat × RoundCode × Option (Nat × RoundCode)) 8
  siteMode : RoundMode
  totalsForm : Form
  policy : DisplayPolicy
  testA : Option Test
  testB : Option Test
  totals : Sides (Vector Total 4)
  reader : Bool

/-- A grade's price, its rounding code and what is pending. -/
def Grade.priced (g : Grade) : Option Nat × RoundCode × Option (Nat × RoundCode) := (g.price, g.code, g.pending)

def State.standing (s : State) : Standing :=
  { miu := s.miu, psc := s.psc, iwu := s.iwu, riu := s.riu, ssu := s.ssu, prices := s.pru.grades.map Grade.priced,
    siteMode := s.pru.siteMode, totalsForm := s.pru.totalsForm, policy := s.dlc.policy, testA := (s.board .a).test,
    testB := (s.board .b).test, totals := s.rsc.totals, reader := s.rsc.reader }

theorem State.standing_ssu (h : t.standing = s.standing) : t.ssu = s.ssu := congrArg Standing.ssu h

theorem State.standing_test (h : t.standing = s.standing) (side : Side) : (t.board side).test = (s.board side).test := by
  cases side with
  | a => exact congrArg Standing.testA h
  | b => exact congrArg Standing.testB h

theorem State.standing_grade (h : t.standing = s.standing) (g : Fin 8) : (t.grade g).priced = (s.grade g).priced := by
  have hv (u : State) : (u.grade g).priced = u.standing.prices[g] := by
    show _ = (u.pru.grades.map Grade.priced)[g]
    simp [State.grade]
  rw [hv, hv, h]

/-- What stands, the tests apart. -/
def Standing.untested (z : Standing) : Standing := { z with testA := none, testB := none }

/-- What the live contents hold besides the restart count stands. -/
theorem State.untested_liveContents (h : t.standing.untested = s.standing.untested) :
    t.liveContents = { s.liveContents with restart := t.rsc.restart } := by
  have hp (u : State) : (u.pru.grades.map fun g => (g.price, g.code)) = u.standing.untested.prices.map fun x => (x.1, x.2.1) := by
    show _ = (u.pru.grades.map Grade.priced).map _
    rw [Vector.map_map]
    rfl
  have hm : t.miu = s.miu := congrArg Standing.miu h
  have hps : t.psc = s.psc := congrArg Standing.psc h
  have hi : t.iwu = s.iwu := congrArg Standing.iwu h
  have hri : t.riu = s.riu := congrArg Standing.riu h
  have hss : t.ssu = s.ssu := congrArg Standing.ssu h
  have h1 : t.pru.siteMode = s.pru.siteMode := congrArg Standing.siteMode h
  have h2 : t.pru.totalsForm = s.pru.totalsForm := congrArg Standing.totalsForm h
  have h3 : t.dlc.policy = s.dlc.policy := congrArg Standing.policy h
  have h4 : t.rsc.totals = s.rsc.totals := congrArg Standing.totals h
  have h5 : t.rsc.reader = s.rsc.reader := congrArg Standing.reader h
  simp only [State.liveContents, State.liveConfig, hp, h, hm, hps, hi, hri, hss, h1, h2, h3, h4, h5]

theorem State.standing_liveContents (h : t.standing = s.standing) (hr : t.rsc.restart = s.rsc.restart) : t.liveContents = s.liveContents := by
  rw [State.untested_liveContents (congrArg Standing.untested h), hr]
  rfl

/-! ## What the operations leave standing -/

/-- The parts that nothing of what stands is in. -/
def cardLike : List Part := [.memory, .parity, .lanes, .notices]

theorem Acts.standing (h : Acts s t cardLike) : t.standing = s.standing := by
  have h1 : t.miu = s.miu := h.frame .meters (by decide)
  have h2 : t.psc = s.psc := h.frame .positions (by decide)
  have h3 : t.iwu = s.iwu := h.frame .inputs (by decide)
  have h4 : t.riu = s.riu := h.frame .reader (by decide)
  have h5 : t.ssu = s.ssu := h.frame .site (by decide)
  have h6 : t.pru = s.pru := h.frame .prices (by decide)
  have h7 : t.dlc = s.dlc := h.frame .displays (by decide)
  have h8 : t.rsc = s.rsc := h.frame .store (by decide)
  simp only [State.standing, State.board, h1, h2, h3, h4, h5, h6, h7, h8]

theorem State.modBoard_standing (s : State) (side : Side) {f : Board → Board} (hf : ∀ b, (f b).test = b.test) :
    (s.modBoard side f).standing = s.standing := by
  have h (x : Side) : ((s.modBoard side f).board x).test = (s.board x).test := by
    rw [State.modBoard_board_eq]
    split
    · subst_vars; exact hf _
    · rfl
  have ha := h .a
  have hb := h .b
  simp only [State.standing, ha, hb]
  rfl

theorem State.modGrade_standing (s : State) (g : Fin 8) {f : Grade → Grade} (hf : ∀ x, (f x).priced = x.priced) :
    (s.modGrade g f).standing = s.standing := by
  have h : (s.modGrade g f).pru.grades.map Grade.priced = s.pru.grades.map Grade.priced := by
    ext i hi : 1
    show ((s.pru.grades.set g (f s.pru.grades[g])).map Grade.priced)[i] = _
    simp only [Vector.getElem_map, Vector.getElem_set]
    split
    · subst_vars; exact hf _
    · rfl
  unfold State.standing
  rw [h]
  rfl

theorem State.modPanel_standing (s : State) (g : Fin 8) (side : Side) (f : Panel → Panel) : (s.modPanel g side f).standing = s.standing :=
  s.modGrade_standing g fun _ => rfl

theorem foldl_standing {α : Type} {f : State → α → State} (hf : ∀ s x, (f s x).standing = s.standing) (l : List α) (s : State) :
    (l.foldl f s).standing = s.standing := by
  induction l generalizing s with
  | nil => rfl
  | cons a l ih => rw [List.foldl_cons, ih, hf]

theorem State.finishLoad_standing (s : State) : s.finishLoad.standing = s.standing := by
  unfold State.finishLoad
  cases s.pru.loading with
  | none => rfl
  | some l =>
    dsimp only
    split
    · exact (Acts.standing (Acts.endWaiting (.refl _ cardLike) _ _ _ (by decide))).trans rfl
    · rfl

theorem State.updateField_standing (s : State) (side : Side) (f : FieldId) (c : Content) : (s.updateField side f c).standing = s.standing :=
  s.modBoard_standing side fun _ => rfl

theorem State.sendContents_standing (s : State) (side : Side) : (s.sendContents side).standing = s.standing := by
  have hl : (s.sendLegal side).standing = s.standing := by
    unfold State.sendLegal
    split
    · rfl
    · exact foldl_standing (fun _ _ => State.updateField_standing ..) _ _
  unfold State.sendContents
  split
  · rfl
  · exact State.updateField_standing ..
  · exact (State.updateField_standing ..).trans hl

theorem State.sendAll_standing (s : State) : s.sendAll.standing = s.standing :=
  (State.sendContents_standing ..).trans (State.sendContents_standing ..)

theorem Board.attemptField_test (b : Board) (f : FieldId) (r : Bool) : (b.attemptField f r).test = b.test := rfl

theorem State.serveLink_standing (s : State) (side : Side) : (s.serveLink side).standing = s.standing := by
  have hs : (s.serve side).standing = s.standing := by
    unfold State.serve
    split
    · split
      · exact State.modBoard_standing _ _ fun b => b.attemptField_test _ _
      · exact State.modBoard_standing _ _ fun _ => rfl
    · rfl
  refine Eq.trans (foldl_standing (fun v g => ?_) _ _) hs
  split
  · exact State.modPanel_standing ..
  · rfl

theorem State.serveLinks_standing (s : State) : s.serveLinks.standing = s.standing :=
  (State.serveLink_standing ..).trans (State.serveLink_standing ..)

/-- The answers to a step's requesters outside a closing and outside stage 1 of a wake. -/
theorem State.answer_standing (hc : s.ssu.site ≠ .closing) (hw : s.ssu.site ≠ .waking) (q : Requester) : (s.answer q).standing = s.standing := by
  cases q with
  | card l off => exact Acts.standing (Acts.endStored (.refl s cardLike) l off (by decide))
  | loadPrice => exact (State.finishLoad_standing _).trans rfl
  | nightReader => exact congrArg State.standing (if_neg fun h => hc h.1)
  | nightMeters => exact congrArg State.standing (if_neg fun h => hc h.1)
  | header =>
    have hsite : s.writeIdentity.ssu = s.ssu := rfl
    have hr : s.writeIdentity.reportRestored = s.writeIdentity.modRsc fun r => { r with lastCheck := .restored, check := .none } := by
      unfold State.reportRestored
      exact if_neg fun h => hw h.1
    show s.writeIdentity.reportRestored.standing = _
    rw [hr]
    rfl
  | rebuild => rfl
  | freeze side => cases side <;> rfl

theorem State.beginStep_standing (s : State) : s.beginStep.1.standing = s.standing := by
  unfold State.beginStep
  split
  · rfl
  · dsimp only
    split
    · rfl
    · split <;> rfl

/-- A step that begins with the live generation present is answered later; one that begins without it is no step of the site in a wake. -/
theorem State.beginStep_answers (hg : s.rsc.generation.isSome = true) : s.beginStep.2 = [] ∧ s.beginStep.1.rsc.generation.isSome = true := by
  unfold State.beginStep
  split
  · exact ⟨rfl, hg⟩
  · dsimp only
    split
    · exact ⟨rfl, rfl⟩
    · split
      · rename_i h
        rw [h] at hg
        cases hg
      · exact ⟨rfl, hg⟩

/-! ## The end of an event -/

/-- Both positions are CLOSED, no price is pending, the site takes no step of its own; a wake has the live generation. -/
structure State.Settles (s : State) : Prop where
  closed : ∀ side, (s.pos side).st.isClosed = true
  priced : s.noPending
  site : s.ssu.site ≠ .closing
  stage : s.ssu.site = .waking → s.ssu.wake.stage ≠ 3
  live : s.ssu.site = .waking → s.rsc.generation.isSome = true

theorem State.Settles.congr (hs : s.Settles) (h : t.standing = s.standing) (hg : t.ssu.site = .waking → t.rsc.generation.isSome = true) :
    t.Settles := by
  have hp : t.psc = s.psc := congrArg Standing.psc h
  have hss : t.ssu = s.ssu := congrArg Standing.ssu h
  refine ⟨fun side => ?_, fun g => ?_, hss ▸ hs.site, hss ▸ hs.stage, hg⟩
  · rw [State.pos, hp]
    exact hs.closed side
  · exact (congrArg (fun x => x.2.2) (State.standing_grade h g)).trans (hs.priced g)

theorem State.runStore_settles (hs : s.Settles) (n : Nat) :
    (State.runStore n s).standing = s.standing ∧ (s.ssu.site = .waking → (State.runStore n s).rsc.generation.isSome = true) := by
  induction n generalizing s with
  | zero => exact ⟨rfl, hs.live⟩
  | succ n ih =>
    unfold State.runStore
    dsimp only
    split
    · have hb := s.beginStep_standing
      have key : (s.beginStep.1.answerAll s.beginStep.2).standing = s.standing
          ∧ (s.ssu.site = .waking → (s.beginStep.1.answerAll s.beginStep.2).rsc.generation.isSome = true) := by
        by_cases hw : s.ssu.site = .waking
        · obtain ⟨h1, h2⟩ := State.beginStep_answers (hs.live hw)
          rw [h1]
          exact ⟨hb, fun _ => h2⟩
        · refine ⟨?_, fun h => absurd h hw⟩
          have hall (l : List Requester) (u : State) (hu : u.standing = s.standing) : (u.answerAll l).standing = s.standing := by
            induction l generalizing u with
            | nil => exact hu
            | cons q l ih' =>
              have hss : u.ssu = s.ssu := State.standing_ssu hu
              exact ih' _ ((State.answer_standing (by rw [hss]; exact hs.site) (by rw [hss]; exact hw) q).trans hu)
          exact hall _ _ hb
      obtain ⟨k1, k2⟩ := key
      have hss : (s.beginStep.1.answerAll s.beginStep.2).ssu = s.ssu := State.standing_ssu k1
      obtain ⟨i1, i2⟩ := ih (hs.congr k1 fun h => k2 (hss ▸ h))
      exact ⟨i1.trans k1, fun h => i2 (hss.symm ▸ h)⟩
    · exact ⟨rfl, hs.live⟩

/-- The conditions of the positions, the prices and the panels are found idle. -/
theorem State.Settles.examine (hs : s.Settles) : s.examine = (State.runStore storeFuel s).finishLoad.sendAll := by
  have hgate (x : Side) : s.gate x = s := by
    refine State.gate_idle fun h => ?_
    have hc := hs.closed x
    rw [h] at hc
    cases hc
  have hprices : s.applyPrices = s := State.applyPrices_idle fun _ g h => by rw [hs.priced g] at h; cases h
  have hpanels : s.examinePanels = s := State.examinePanels_idle fun h h3 => absurd h3 (hs.stage h)
  have hpositions : s.examinePositions = s := State.examinePositions_idle fun h => absurd h hs.site
  rw [State.examine_def, State.eventEnd, hprices, hgate, hgate, hpanels, hpositions]

theorem State.finishedSent_rsc (v : State) : v.finishLoad.sendAll.rsc = v.rsc := by
  have h1 : Acts v v.finishLoad [.memory, .parity, .lanes, .notices, .prices] := Acts.finishLoad (.refl v _) (by decide)
  have h2 : Acts v.finishLoad v.finishLoad.sendAll [.displays] := Acts.sendAll (.refl _ _) (by decide)
  exact (h2.frame .store (by decide)).trans (h1.frame .store (by decide))

theorem State.Settles.examine_settles (hs : s.Settles) : s.examine.standing = s.standing ∧ s.examine.Settles := by
  obtain ⟨h1, h2⟩ := State.runStore_settles hs storeFuel
  rw [hs.examine]
  generalize State.runStore storeFuel s = v at h1 h2 ⊢
  have hx : v.finishLoad.sendAll.standing = s.standing := by rw [State.sendAll_standing, State.finishLoad_standing, h1]
  have hss : v.finishLoad.sendAll.ssu = s.ssu := State.standing_ssu hx
  exact ⟨hx, hs.congr hx fun hw => by rw [State.finishedSent_rsc]; exact h2 (hss ▸ hw)⟩

theorem State.serveLinks_rsc (s : State) : s.serveLinks.rsc = s.rsc :=
  (Acts.serveLinks (.refl s [.prices, .displays]) (by decide)).frame .store (by decide)

theorem State.Settles.serveLinks_settles (hs : s.Settles) : s.serveLinks.Settles := by
  have hx := s.serveLinks_standing
  have hss : s.serveLinks.ssu = s.ssu := State.standing_ssu hx
  exact hs.congr hx fun hw => by rw [State.serveLinks_rsc]; exact hs.live (hss ▸ hw)

/-- What stands, stands at the end of the event. -/
theorem State.Settles.react (hs : s.Settles) : s.react.standing = s.standing := by
  refine (State.react_induction (R := fun u => u.standing = s.standing ∧ u.Settles) ⟨rfl, hs⟩ (fun u hu => ?_) fun u hu => ?_).1
  · obtain ⟨h, hu⟩ := hu
    obtain ⟨h1, h2⟩ := hu.examine_settles
    exact ⟨h1.trans h, h2⟩
  · obtain ⟨h, hu⟩ := hu
    exact ⟨u.serveLinks_standing.trans h, hu.serveLinks_settles⟩

end Sys2Proof.Machine
end

section
/-! PROOFS. The records that a store check takes into the live values (R131, R136, R184). -/
namespace Sys2Proof.Machine

variable {s t u v w : State} {side : Side} {P : List Part} {c d e : Contents} {r : RecordId} {keep : List RecordId}

/-! ## What taking a record leaves -/

/-- What taking records leaves of positions, prices, site and store. -/
structure State.Takes (s w : State) : Prop where
  st : ∀ side, (w.pos side).st = (s.pos side).st
  pending : ∀ g, (w.grade g).pending = (s.grade g).pending
  site : ∃ x, w.ssu = { s.ssu with schedule := x }
  store : ∃ x y, w.rsc = { s.rsc with totals := x, reader := y }

theorem State.Takes.refl (s : State) : s.Takes s := ⟨fun _ => rfl, fun _ => rfl, ⟨_, rfl⟩, ⟨_, _, rfl⟩⟩

theorem State.Takes.trans (h : s.Takes v) (k : v.Takes w) : s.Takes w := by
  obtain ⟨x, hx⟩ := h.site
  obtain ⟨y, hy⟩ := k.site
  obtain ⟨a, b, hab⟩ := h.store
  obtain ⟨p, q, hpq⟩ := k.store
  exact ⟨fun x => (k.st x).trans (h.st x), fun g => (k.pending g).trans (h.pending g), ⟨y, by rw [hy, hx]⟩, ⟨p, q, by rw [hpq, hab]⟩⟩

/-- The parts that taking a record other than CONFIG touches. -/
def takenParts : List Part := [.meters, .positions, .prices, .displays, .store]

/-- A record is taken, or left as it is: the live values agree with what is taken. -/
structure State.TakesRecord (s w : State) (c : Contents) (r : RecordId) : Prop where
  takes : s.Takes w
  live : w.liveContents = s.liveContents.put c r

theorem State.takePrices_takes (s : State) (c : Contents) : s.TakesRecord (s.takePrices c.prices) c .prices := by
  refine ⟨⟨fun _ => rfl, fun g => ?_, ⟨_, rfl⟩, ⟨_, _, rfl⟩⟩, ?_⟩
  · show (Vector.ofFn fun i : Fin 8 => ({ s.pru.grades[i] with price := c.prices[i].1, code := c.prices[i].2 } : Grade))[g].pending = _
    simp [State.grade]
  · have h : ((Vector.ofFn fun i : Fin 8 => ({ s.pru.grades[i] with price := c.prices[i].1, code := c.prices[i].2 } : Grade)).map
        fun g => (g.price, g.code)) = c.prices := by
      ext i hi : 1
      simp
    exact congrArg (fun x => ({ s.liveContents with prices := x } : Contents)) h

theorem State.takeTotals_takes (s : State) (c : Contents) : s.TakesRecord (s.modRsc fun x => { x with totals := c.totals }) c .totals :=
  ⟨⟨fun _ => rfl, fun _ => rfl, ⟨_, rfl⟩, ⟨_, _, rfl⟩⟩, rfl⟩

theorem State.takeReader_takes (s : State) (c : Contents) : s.TakesRecord (s.modRsc fun x => { x with reader := c.reader }) c .reader :=
  ⟨⟨fun _ => rfl, fun _ => rfl, ⟨_, rfl⟩, ⟨_, _, rfl⟩⟩, rfl⟩

theorem State.takeMeters_takes (s : State) (c : Contents) : s.TakesRecord (s.takeMeters c.meters) c .meters := by
  refine ⟨⟨fun _ => rfl, fun _ => rfl, ⟨_, rfl⟩, ⟨_, _, rfl⟩⟩, ?_⟩
  have hc : ((Vector.ofFn fun i : Fin 8 => ({ s.miu.meters[i] with
      lifetime := c.meters[i].lifetime, unclaimed := c.meters[i].unclaimed } : Meter)).map Meter.config) = s.miu.meters.map Meter.config := by
    ext i hi : 1
    simp
  have hm : ((Vector.ofFn fun i : Fin 8 => ({ s.miu.meters[i] with
      lifetime := c.meters[i].lifetime, unclaimed := c.meters[i].unclaimed } : Meter)).map
        fun m => ({ lifetime := m.lifetime, unclaimed := m.unclaimed } : MeterCounts)) = c.meters := by
    ext i hi : 1
    simp
  exact congrArg₂ (fun x y => ({ s.liveContents with config := { s.liveConfig with meters := x }, meters := y } : Contents)) hc hm

theorem State.takeUnpaid_a_takes (s : State) (c : Contents) : s.TakesRecord (s.takeUnpaid .a c.unpaid.a) c .unpaidA :=
  ⟨⟨fun side => by cases side <;> rfl, fun _ => rfl, ⟨_, rfl⟩, ⟨_, _, rfl⟩⟩, rfl⟩

theorem State.takeUnpaid_b_takes (s : State) (c : Contents) : s.TakesRecord (s.takeUnpaid .b c.unpaid.b) c .unpaidB :=
  ⟨⟨fun side => by cases side <;> rfl, fun _ => rfl, ⟨_, rfl⟩, ⟨_, _, rfl⟩⟩, rfl⟩

/-! ## CONFIG and the relay floor (R131, R136) -/

/-- The reader's record with another relay floor: receives armed at the old one are withdrawn. -/
def Riu.floored (x : Riu) (floor : Nat) : Riu := { x with floor := floor, armed := if floor = x.floor then x.armed else [] }

theorem State.checkFloor_riu (s : State) (floor : Nat) : (s.checkFloor floor).riu = s.riu.floored floor := by
  unfold State.checkFloor Riu.floored
  by_cases h : s.riu.floor = floor
  · rw [if_pos h, if_pos h.symm]
    rfl
  · rw [if_neg h, if_neg (Ne.symm h), State.modRiu_riu, s.withdrawArmed_withdraws.2]

theorem State.checkFloor_acts (s : State) (floor : Nat) : Acts s (s.checkFloor floor) readerParts := by
  unfold State.checkFloor
  refine Acts.modRiu ?_ _ (by decide)
  split
  · exact .refl s _
  · exact s.withdrawArmed_withdraws.1.acts

/-- The blocks that take CONFIG, the reader apart. -/
def State.configured (s : State) (c : ConfigRecord) : State :=
  let s := s.modMiu fun u => { u with
    routes := c.routes, enables := c.enables, meters := Vector.ofFn fun i => { u.meters[i] with config := c.meters[i] } }
  let s := (s.modPos .a fun p => { p with config := c.positions.a }).modPos .b fun p => { p with config := c.positions.b }
  let s := s.modPru fun u => { u with siteMode := c.siteMode, totalsForm := c.totalsForm }
  ((s.modDlc fun u => { u with policy := c.policy }).modIwu fun u => { u with watch := c.watch }).modSsu fun u => { u with schedule := c.schedule }

theorem State.takeConfig_eq (s : State) (c : ConfigRecord) : s.takeConfig c = (s.configured c).checkFloor c.floor := by
  unfold State.takeConfig State.configured
  dsimp only

theorem State.configured_miu (s : State) (c : ConfigRecord) : (s.configured c).miu = { s.miu with
    routes := c.routes, enables := c.enables, meters := Vector.ofFn fun i => { s.miu.meters[i] with config := c.meters[i] } } := rfl

theorem State.configured_psc (s : State) (c : ConfigRecord) : (s.configured c).psc =
    { a := { s.psc.a with config := c.positions.a }, b := { s.psc.b with config := c.positions.b } } := rfl

theorem State.configured_pru (s : State) (c : ConfigRecord) :
    (s.configured c).pru = { s.pru with siteMode := c.siteMode, totalsForm := c.totalsForm } := rfl

theorem State.configured_dlc (s : State) (c : ConfigRecord) : (s.configured c).dlc = { s.dlc with policy := c.policy } := rfl
theorem State.configured_iwu (s : State) (c : ConfigRecord) : (s.configured c).iwu = { s.iwu with watch := c.watch } := rfl
theorem State.configured_ssu (s : State) (c : ConfigRecord) : (s.configured c).ssu = { s.ssu with schedule := c.schedule } := rfl
theorem State.configured_rsc (s : State) (c : ConfigRecord) : (s.configured c).rsc = s.rsc := by simp [State.configured]
theorem State.configured_riu (s : State) (c : ConfigRecord) : (s.configured c).riu = s.riu := by simp [State.configured]

/-- Replacing the meters' configurations leaves their counts. -/
theorem meters_configured (m : Vector Meter 8) (k : Vector MeterConfig 8) :
    (Vector.ofFn fun i : Fin 8 => ({ m[i] with config := k[i] } : Meter)).map Meter.config = k
      ∧ (Vector.ofFn fun i : Fin 8 => ({ m[i] with config := k[i] } : Meter)).map
          (fun x => ({ lifetime := x.lifetime, unclaimed := x.unclaimed } : MeterCounts))
        = m.map fun x => ({ lifetime := x.lifetime, unclaimed := x.unclaimed } : MeterCounts) := by
  constructor
  · ext i hi : 1
    simp
  · ext i hi : 1
    simp

theorem State.takeConfig_takes (s : State) (c : Contents) : s.TakesRecord (s.takeConfig c.config) c .config := by
  rw [State.takeConfig_eq]
  obtain ⟨hm, hcounts⟩ := meters_configured s.miu.meters c.config.meters
  have ha := (s.configured c.config).checkFloor_acts c.config.floor
  have hr := (s.configured c.config).checkFloor_riu c.config.floor
  generalize (s.configured c.config).checkFloor c.config.floor = w at *
  have h1 : w.miu = _ := (ha.frame .meters (by decide)).trans (s.configured_miu c.config)
  have h2 : w.psc = _ := (ha.frame .positions (by decide)).trans (s.configured_psc c.config)
  have h3 : w.iwu = _ := (ha.frame .inputs (by decide)).trans (s.configured_iwu c.config)
  have h5 : w.ssu = _ := (ha.frame .site (by decide)).trans (s.configured_ssu c.config)
  have h6 : w.pru = _ := (ha.frame .prices (by decide)).trans (s.configured_pru c.config)
  have h7 : w.dlc = _ := (ha.frame .displays (by decide)).trans (s.configured_dlc c.config)
  have h8 : w.rsc = _ := (ha.frame .store (by decide)).trans (s.configured_rsc c.config)
  rw [State.configured_riu] at hr
  refine ⟨⟨fun side => ?_, fun g => ?_, ⟨_, h5⟩, ⟨s.rsc.totals, s.rsc.reader, h8⟩⟩, ?_⟩
  · rw [State.pos, h2]
    cases side <;> rfl
  · rw [State.grade, h6]
    rfl
  · simp only [State.liveContents, State.liveConfig, h1, h2, h3, h5, h6, h7, h8, hr, hm, hcounts]
    rfl

/-! ## The fields of the grades, and the mirrors (R90, R107, R189) -/

theorem State.updateGrade_standing (s : State) (side : Side) (h : HoseNo) : (s.updateGrade side h).standing = s.standing := by
  unfold State.updateGrade
  split
  · rfl
  · exact State.updateField_standing ..

theorem State.postGrade_standing (s : State) (side : Side) (h : HoseNo) : (s.postGrade side h).standing = s.standing := by
  unfold State.postGrade
  split
  · exact s.modBoard_standing side fun _ => rfl
  · exact s.modBoard_standing side fun _ => rfl

theorem State.changeMember_standing (s : State) (side : Side) (h : HoseNo) (old : HoseRoute) :
    (s.changeMember side h old).standing = s.standing := by
  unfold State.changeMember
  dsimp only
  split
  · split
    · rfl
    · exact s.postGrade_standing side h
  · exact s.updateGrade_standing side h

theorem State.refreshSide_standing (s : State) (side : Side) : (s.refreshSide side).standing = s.standing :=
  foldl_standing (fun _ _ => State.modPanel_standing ..) _ _

theorem State.allMembership_standing (s : State) (old : Sides (Vector HoseRoute 4)) : (s.allMembership old).standing = s.standing := by
  unfold State.allMembership State.refreshPanels
  rw [State.refreshSide_standing, State.refreshSide_standing]
  exact foldl_standing (fun _ _ => foldl_standing (fun _ _ => (State.updateGrade_standing ..).trans (State.changeMember_standing ..)) _ _) _ _

theorem State.allMembership_acts (s : State) (old : Sides (Vector HoseRoute 4)) : Acts s (s.allMembership old) [.prices, .displays] :=
  Acts.allMembership (.refl s _) old (by decide)

/-- What takes nothing that stands takes no record. -/
theorem State.Takes.of_standing (h : t.standing = s.standing) (hr : t.rsc = s.rsc) : s.Takes t := by
  have hp : t.psc = s.psc := congrArg Standing.psc h
  refine ⟨fun side => ?_, fun g => congrArg (fun x => x.2.2) (State.standing_grade h g), ⟨s.ssu.schedule, State.standing_ssu h⟩,
    ⟨s.rsc.totals, s.rsc.reader, hr⟩⟩
  simp only [State.pos, hp]

/-- The mirrors that the end of a store check writes whole (R22, R76, R92, R189). -/
def checkMirrors : List MirrorPart := [.positionA, .positionB, .price, .totals, .meterState, .meterCounts]

theorem State.writeCheckMirrors_wholes (s : State) : ∀ p ∈ checkMirrors, p ∈ s.writeCheckMirrors.wholes := by
  have h : s.writeCheckMirrors.wholes = [.meterCounts, .meterState, .totals, .price, .positionB, .positionA] ++ s.wholes := rfl
  intro p hp
  rw [h, List.mem_append]
  left
  revert p
  decide

theorem State.writeCheckMirrors_acts (s : State) : Acts s s.writeCheckMirrors [] :=
  Acts.writeCheckMirrors (.refl s _)

theorem State.writeCheckMirrors_standing (s : State) : s.writeCheckMirrors.standing = s.standing := Acts.standing ((State.writeCheckMirrors_acts s).mono (by simp))

/-! ## All the records (R184) -/

/-- The records that are not kept, taken one after the other. -/
def Contents.takeAll (x c : Contents) (keep : List RecordId) (l : List RecordId) : Contents :=
  l.foldl (fun x r => if keep.contains r then x else x.put c r) x

theorem Contents.put_agrees (x c : Contents) (r : RecordId) : (x.put c r).agrees c r := by cases r <;> rfl

theorem Contents.takeAll_agrees (x c : Contents) (keep : List RecordId) {l : List RecordId} (hl : l.Nodup) (r : RecordId) :
    (x.takeAll c keep l).agrees (if r ∈ l ∧ keep.contains r = false then c else x) r := by
  induction l generalizing x with
  | nil => exact Contents.agrees_refl _ _
  | cons q l ih =>
    obtain ⟨hq, hl⟩ := List.nodup_cons.mp hl
    refine (ih (if keep.contains q then x else x.put c q) hl).trans ?_
    by_cases hr : r = q
    · subst hr
      rw [if_neg fun h => hq h.1]
      cases hk : keep.contains r with
      | true => simp [Contents.agrees_refl]
      | false => simpa using Contents.put_agrees x c r
    · have hmem : (r ∈ q :: l ∧ keep.contains r = false) ↔ (r ∈ l ∧ keep.contains r = false) := by simp [hr]
      simp only [hmem]
      split
      · exact Contents.agrees_refl _ _
      · split
        · exact Contents.agrees_refl _ _
        · exact Contents.put_agrees_other _ _ (Ne.symm hr)

/-- The records but for the HEADER, in the order in which they are taken. -/
def takenRecords : List RecordId := [.config, .prices, .totals, .meters, .unpaidA, .unpaidB, .reader]

theorem mem_takenRecords (h : r ≠ .header) : r ∈ takenRecords := by
  revert h
  cases r <;> decide

/-- The state in which CONFIG has been taken or kept. -/
def State.configTaken (s : State) (c : Contents) (keep : List RecordId) : State :=
  if keep.contains .config then s else s.takeConfig c.config

/-- What taking all records leaves and sets. -/
structure State.TakesAll (s w : State) (c : Contents) (keep : List RecordId) : Prop where
  takes : s.Takes w
  live : ∀ r, r ≠ .header → w.liveContents.agrees (if keep.contains r then s.liveContents else c) r
  counting : w.miu.counting = true
  wholes : ∀ p ∈ checkMirrors, p ∈ w.wholes
  quiet : Acts (s.configTaken c keep) w takenParts

theorem State.TakesRecord.opt (h : s.TakesRecord w c r) (b : Bool) :
    s.Takes (if b then s else w) ∧ (if b then s else w).liveContents = if b then s.liveContents else s.liveContents.put c r := by
  cases b
  · exact ⟨h.takes, h.live⟩
  · exact ⟨.refl s, rfl⟩

theorem Acts.opt (h : Acts s w P) (b : Bool) : Acts s (if b then s else w) P := by
  cases b
  · exact h
  · exact .refl s P

theorem State.takeContents_takes (s : State) (c : Contents) (keep : List RecordId) : s.TakesAll (s.takeContents c keep) c keep := by
  unfold State.takeContents
  extract_lets old s1 s2 s3 s4 s5 s6 s7
  obtain ⟨t1, l1⟩ : s.Takes s1 ∧ _ := (s.takeConfig_takes c).opt (keep.contains .config)
  obtain ⟨t2, l2⟩ : s1.Takes s2 ∧ _ := (s1.takePrices_takes c).opt (keep.contains .prices)
  obtain ⟨t3, l3⟩ : s2.Takes s3 ∧ _ := (s2.takeTotals_takes c).opt (keep.contains .totals)
  obtain ⟨t4, l4⟩ : s3.Takes s4 ∧ _ := (s3.takeMeters_takes c).opt (keep.contains .meters)
  obtain ⟨t5, l5⟩ : s4.Takes s5 ∧ _ := (s4.takeUnpaid_a_takes c).opt (keep.contains .unpaidA)
  obtain ⟨t6, l6⟩ : s5.Takes s6 ∧ _ := (s5.takeUnpaid_b_takes c).opt (keep.contains .unpaidB)
  obtain ⟨t7, l7⟩ : s6.Takes s7 ∧ _ := (s6.takeReader_takes c).opt (keep.contains .reader)
  have a2 : Acts s1 s2 takenParts := Acts.opt (Acts.takePrices (.refl _ _) _ (by decide)) _
  have a3 : Acts s2 s3 takenParts := Acts.opt (Acts.modRsc (.refl _ _) _ (by decide)) _
  have a4 : Acts s3 s4 takenParts := Acts.opt (Acts.takeMeters (.refl _ _) _ (by decide)) _
  have a5 : Acts s4 s5 takenParts := Acts.opt (Acts.takeUnpaid (.refl _ _) _ _ (by decide)) _
  have a6 : Acts s5 s6 takenParts := Acts.opt (Acts.takeUnpaid (.refl _ _) _ _ (by decide)) _
  have a7 : Acts s6 s7 takenParts := Acts.opt (Acts.modRsc (.refl _ _) _ (by decide)) _
  have e1 : s1 = s.configTaken c keep := rfl
  have hlive : s7.liveContents = s.liveContents.takeAll c keep takenRecords := by
    simp only [Contents.takeAll, takenRecords, List.foldl_cons, List.foldl_nil]
    rw [l7, l6, l5, l4, l3, l2, l1]
  have htakes : s.Takes s7 := t1.trans (t2.trans (t3.trans (t4.trans (t5.trans (t6.trans t7)))))
  have hacts : Acts s1 s7 takenParts := a2.trans (a3.trans (a4.trans (a5.trans (a6.trans a7))))
  rw [e1] at hacts
  clear_value s7
  have hu : s7.Takes (s7.modMiu fun u => { u with counting := true }) := ⟨fun _ => rfl, fun _ => rfl, ⟨_, rfl⟩, ⟨_, _, rfl⟩⟩
  have hul : (s7.modMiu fun u => { u with counting := true }).liveContents = s7.liveContents := rfl
  have huc : (s7.modMiu fun u => { u with counting := true }).miu.counting = true := rfl
  have hua : Acts s7 (s7.modMiu fun u => { u with counting := true }) takenParts := Acts.modMiu (.refl _ _) _ (by decide)
  generalize s7.modMiu (fun u => { u with counting := true }) = u at *
  have hst := u.allMembership_standing old
  have ha := u.allMembership_acts old
  have hwst := (u.allMembership old).writeCheckMirrors_standing
  have hwa := (u.allMembership old).writeCheckMirrors_acts
  have hwh := (u.allMembership old).writeCheckMirrors_wholes
  generalize (u.allMembership old).writeCheckMirrors = w at *
  have hws : w.standing = u.standing := hwst.trans hst
  have hr : w.rsc = u.rsc := (hwa.frame .store (by decide)).trans (ha.frame .store (by decide))
  refine ⟨htakes.trans (hu.trans (.of_standing hws hr)), fun r hne => ?_, ?_, hwh,
    hacts.trans (hua.trans ((ha.mono (by decide)).trans (hwa.mono (by simp))))⟩
  · rw [State.standing_liveContents hws (by rw [hr]), hul, hlive]
    have h := s.liveContents.takeAll_agrees c keep (l := takenRecords) (by decide) r
    cases hk : keep.contains r with
    | true =>
      rw [if_neg fun k => Bool.noConfusion (hk.symm.trans k.2)] at h
      exact h
    | false =>
      rw [if_pos ⟨mem_takenRecords hne, hk⟩] at h
      exact h
  · rw [show w.miu = u.miu from congrArg Standing.miu hws]
    exact huc

end Sys2Proof.Machine
end

section
/-! PROOFS. What the end of a store check leaves of cards, memory and the store's record (R131, R136, R178, R184). -/
namespace Sys2Proof.Machine

variable {s t u v w : State} {side : Side} {P : List Part} {m : Memory} {x : Option Held}

/-! ## Memory beyond the card of the site lane -/

/-- Of the memory `m` above the host's page, the card `x` of the site lane has been written at most, and the lane holds it or nothing. -/
structure State.Spares (t : State) (m : Memory) (x : Option Held) : Prop where
  ok : t.memoryOk
  held : (t.lane .site).held = none ∨ (t.lane .site).held = x
  link : ∀ h, (t.lane .site).held = some h → t.readLink h.offset = .atEnd ∧ 0x800 ≤ h.offset
  read : ∀ a, 0x800 ≤ a → (∀ h, x = some h → a < h.offset ∨ h.offset + 64 ≤ a) → Memory.read t.xm a = Memory.read m a

theorem State.readLink_congr (hx : t.xm = s.xm) (hu : t.upset = s.upset) (off : Nat) : t.readLink off = s.readLink off := by
  have hp : t.parityGood (off + 2) 2 = s.parityGood (off + 2) 2 := by simp only [State.parityGood, hu]
  have hh : t.half (off + 2) = s.half (off + 2) := by simp only [State.half, hx]
  unfold State.readLink
  rw [hp, hh]

theorem State.Spares.acts (h : s.Spares m x) (ha : Acts s t P) (h1 : Part.memory ∉ P) (h2 : Part.parity ∉ P) (h3 : Part.lanes ∉ P) :
    t.Spares m x := by
  have hx : t.xm = s.xm := ha.frame .memory h1
  have hu : t.upset = s.upset := ha.frame .parity h2
  have hl : t.lane .site = s.lane .site := State.lane_congr (ha.frame .lanes h3) .site
  refine ⟨ha.memory h.ok, by rw [hl]; exact h.held, fun y hy => ?_, fun a h0 hfar => by rw [hx]; exact h.read a h0 hfar⟩
  rw [State.readLink_congr hx hu]
  exact h.link y (hl ▸ hy)

theorem State.Spares.endWaiting (hs : s.Spares m x) {k : Kind} (hk : k.lane = .site) {r : List (Nat × Byte)} (hr : ∀ p ∈ r, p.1 < 48)
    (o : CardOutcome) : (s.endWaiting k r o).Spares m x := by
  unfold State.endWaiting
  rw [hk]
  split
  case isFalse => exact hs
  case isTrue hw =>
    cases hh : (s.lane .site).held with
    | none => simp [State.waitingKind, hh] at hw
    | some h =>
      have hx : x = some h := by
        rcases hs.held with e | e
        · rw [hh] at e; cases e
        · rw [← e, hh]
      obtain ⟨hl, h0⟩ := hs.link h hh
      obtain ⟨⟨-, -, -, hheld, -⟩, hxm⟩ := State.finishCard_atEnd hs.ok hh hl r o
      refine ⟨(Acts.finishCard (.refl s cardLike) _ _ _ (by decide)).memory hs.ok, .inl hheld, fun y hy => ?_, fun a ha hfar => ?_⟩
      · rw [hheld] at hy; cases hy
      · have hf := hfar h hx
        rw [hxm, State.read_writeHalf_other _ _ (by omega) (by omega), State.read_writeHalf_other _ _ (by omega) (by omega),
          State.read_writeAt_other _ _ fun p hp => by have := hr p hp; omega]
        exact hs.read a ha hfar

/-- The wake's result stands in the host's page. -/
theorem State.Spares.writeWakeResult (hs : s.Spares m x) (n : Nat) : (s.writeWakeResult n).Spares m x := by
  refine ⟨(Acts.writeWakeResult (.refl s cardLike) n (by decide)).memory hs.ok, hs.held, fun h hh => ?_, fun a ha hfar => ?_⟩
  · obtain ⟨hl, h0⟩ := hs.link h hh
    refine ⟨?_, h0⟩
    rw [State.readLink_atEnd] at hl ⊢
    exact ⟨State.parityGood_writeHalf _ _ _ hl.1, by rw [State.writeWakeResult, State.half_writeHalf_other _ _ (by omega)]; exact hl.2⟩
  · rw [State.writeWakeResult, State.read_writeHalf_other _ _ (by omega) (by omega)]
    exact hs.read a ha hfar

theorem State.Spares.finishLoad (hs : s.Spares m x) : s.finishLoad.Spares m x := by
  unfold State.finishLoad
  cases s.pru.loading with
  | none => exact hs
  | some l =>
    dsimp only
    split
    · have hv : (s.modPru fun u => { u with loading := none }).Spares m x :=
        hs.acts (P := [.prices]) (Acts.modPru (.refl s _) _ (by decide)) (by decide) (by decide) (by decide)
      refine hv.endWaiting rfl (fun p hp => ?_) _
      simp only [Grade.loadResults, List.mem_cons, List.not_mem_nil, or_false] at hp
      rcases hp with rfl | rfl <;> exact Nat.le_of_ble_eq_true rfl
    · exact hs

/-! ## The end of an event in which no store step is answered -/

/-- No step waits, or the one that begins is answered at its completion. -/
def State.unanswered (s : State) : Prop := s.rsc.queue = [] ∨ s.rsc.generation.isSome = true

theorem State.runStore_unanswered (h : s.unanswered) (n : Nat) :
    Acts s (State.runStore n s) [.store] ∧ (State.runStore n s).unanswered := by
  induction n generalizing s with
  | zero => exact ⟨.refl s _, h⟩
  | succ n ih =>
    unfold State.runStore
    dsimp only
    split
    case isFalse => exact ⟨.refl s _, h⟩
    case isTrue hc =>
      have hg : s.rsc.generation.isSome = true := by
        rcases h with h | h
        · simp [Rsc.canBegin, h] at hc
        · exact h
      obtain ⟨h1, h2⟩ := State.beginStep_answers hg
      rw [h1]
      obtain ⟨i1, i2⟩ := ih (s := s.beginStep.1) (.inr h2)
      exact ⟨(Acts.beginStep (.refl s _) (by decide)).trans i1, i2⟩

theorem State.unanswered_congr (h : s.unanswered) (hr : t.rsc = s.rsc) : t.unanswered := by
  unfold State.unanswered at *
  rwa [hr]

theorem State.Settles.examine_spares (hs : s.Settles) (hu : s.unanswered) (h : s.Spares m x) :
    s.examine.Spares m x ∧ s.examine.unanswered := by
  obtain ⟨ha, hr⟩ := State.runStore_unanswered hu storeFuel
  rw [hs.examine]
  generalize State.runStore storeFuel s = v at ha hr ⊢
  have hv := (h.acts ha (by decide) (by decide) (by decide)).finishLoad
  exact ⟨hv.acts (P := [.displays]) (Acts.sendAll (.refl _ _) (by decide)) (by decide) (by decide) (by decide),
    State.unanswered_congr hr v.finishedSent_rsc⟩

/-- The end of the event finishes no card but that of a LOAD PRICE. -/
theorem State.Settles.react_spares (hs : s.Settles) (hu : s.unanswered) (h : s.Spares m x) : s.react.Spares m x := by
  refine (State.react_induction (R := fun v => v.Settles ∧ v.unanswered ∧ v.Spares m x) ⟨hs, hu, h⟩ (fun v hv => ?_) fun v hv => ?_).2.2
  · obtain ⟨h1, h2, h3⟩ := hv
    obtain ⟨k1, k2⟩ := h1.examine_spares h2 h3
    exact ⟨h1.examine_settles.2, k2, k1⟩
  · obtain ⟨h1, h2, h3⟩ := hv
    exact ⟨h1.serveLinks_settles, State.unanswered_congr h2 v.serveLinks_rsc,
      h3.acts (P := [.prices, .displays]) (Acts.serveLinks (.refl _ _) (by decide)) (by decide) (by decide) (by decide)⟩

/-! ## The store's record at the end of the event -/

theorem State.runStore_empty (h : s.rsc.queue = []) (n : Nat) : State.runStore n s = s := by
  cases n with
  | zero => rfl
  | succ n =>
    unfold State.runStore
    rw [if_neg (by simp [Rsc.canBegin, h])]

/-- What holds after one examination and is kept by those after it holds at the end of the event. -/
theorem State.react_after {R : State → Prop} (h0 : R s.examine) (he : ∀ u, R u → R u.examine) (hl : ∀ u, R u → R u.serveLinks) : R s.react := by
  have h (n : Nat) (u : State) (hu : R u.examine) : R (State.settle (n + 1) u) := by
    induction n generalizing u with
    | zero =>
      rw [State.settle]
      split
      · exact hl _ hu
      · exact hl _ hu
    | succ n ih =>
      rw [State.settle]
      split
      · exact hl _ hu
      · exact ih _ (he _ (hl _ hu))
  exact h 2 s h0

theorem State.Settles.react_rsc_after {r : Rsc} (hs : s.Settles) (hr : (State.runStore storeFuel s).rsc = r) (hq : r.queue = []) :
    s.react.rsc = r := by
  refine (State.react_after (R := fun u => u.Settles ∧ u.rsc = r) ⟨hs.examine_settles.2, ?_⟩ (fun u hu => ?_) fun u hu => ?_).2
  · rw [hs.examine, State.finishedSent_rsc, hr]
  · obtain ⟨h1, h2⟩ := hu
    refine ⟨h1.examine_settles.2, ?_⟩
    rw [h1.examine, State.finishedSent_rsc, State.runStore_empty (by rw [h2]; exact hq), h2]
  · obtain ⟨h1, h2⟩ := hu
    exact ⟨h1.serveLinks_settles, u.serveLinks_rsc.trans h2⟩

/-- With no step waiting the store's record stays. -/
theorem State.Settles.react_rsc (hs : s.Settles) (hq : s.rsc.queue = []) : s.react.rsc = s.rsc :=
  hs.react_rsc_after (by rw [State.runStore_empty hq]) hq

/-- The one step that waits begins, the live generation being present. -/
theorem State.Settles.react_begins (hs : s.Settles) {step : StoreStep} {g : Nat} (hq : s.rsc.queue = [step]) (ha : s.rsc.active = none)
    (hk : s.rsc.check ≠ .running) (hg : s.rsc.generation = some g) (hr : Requester.rebuild ∉ step.requesters) (hn : step.records ≠ allRecords) :
    s.react.rsc = s.rsc.begun step g s.liveContents := by
  refine hs.react_rsc_after ?_ rfl
  have hb : s.beginStep = (s.modRsc fun r => r.begun step g s.liveContents, []) := by
    simp [State.beginStep, hq, hg, hr, hn, Rsc.begun]
  have hc : s.rsc.canBegin = true := by simp [Rsc.canBegin, hq, ha, hk]
  show (State.runStore (15 + 1) s).rsc = _
  unfold State.runStore
  rw [if_pos hc, hb]
  exact congrArg State.rsc (State.runStore_empty (s := s.modRsc fun r => r.begun step g s.liveContents) rfl 15)

/-! ## Mirror parts written whole (R22, R189, R194) -/

/-- A part of a mirror written whole shows its entries as they stand. -/
theorem publish_whole {p : MirrorPart} (h : p ∈ u.wholes) : (publish s u).mirrored p := by
  have hc : u.mirrors.wholes.contains p = true := List.contains_iff_mem.mpr h
  have hp (m : MirrorEntries) : State.partUpdate s u p m = ((u.image p).map some, true) := State.partUpdate_whole hc
  have hi : (publish s u).image p = u.image p := by cases p <;> rfl
  unfold State.mirrored
  rw [hi]
  cases p with
  | meterCounts =>
    show (if u.mirrors.wholes.contains .meterCounts then u.meterCountsImage.map some else u.mirrors.meterCounts) = _
    rw [hc]
    rfl
  | _ => exact congrArg Prod.fst (hp _)

end Sys2Proof.Machine
end

section
/-! PROOFS. The end of the store check as one event: all records sound, or one of them not (R164, R184). -/
namespace Sys2Proof.Machine

variable {s t u v w : State} {side : Side} {P : List Part} {c : Contents} {r : RecordId} {keep : List RecordId}

/-! ## What the check leaves -/

/-- What the end of a store check leaves, whatever its outcome, `keep` naming the records not taken from `c`. -/
structure State.CheckEnds (s u : State) (c : Contents) (keep : List RecordId) : Prop where
  settles : u.Settles
  live : ∀ r, r ≠ .header → u.liveContents.agrees (if keep.contains r then s.liveContents else c) r
  counting : u.miu.counting = true
  wholes : ∀ p ∈ checkMirrors, p ∈ u.wholes
  riu : u.riu = (s.configTaken c keep).riu
  notices : (s.configTaken c keep).ntc.Grows u.ntc
  spares : ∀ m x, (s.configTaken c keep).Spares m x → u.Spares m x

theorem State.TakesAll.riu (h : s.TakesAll w c keep) : w.riu = (s.configTaken c keep).riu := h.quiet.frame .reader (by decide)
theorem State.TakesAll.ntc (h : s.TakesAll w c keep) : w.ntc = (s.configTaken c keep).ntc := h.quiet.frame .notices (by decide)

theorem State.TakesAll.spares (h : s.TakesAll w c keep) {m : Memory} {x : Option Held} (hs : (s.configTaken c keep).Spares m x) : w.Spares m x :=
  hs.acts h.quiet (by decide) (by decide) (by decide)

theorem State.untested_agrees (h : t.standing.untested = s.standing.untested) (hr : r ≠ .header) : t.liveContents.agrees s.liveContents r := by
  rw [State.untested_liveContents h]
  revert hr
  cases r with
  | header => exact fun h => absurd rfl h
  | _ => exact fun _ => rfl

theorem State.standing_agrees (h : t.standing = s.standing) (hr : r ≠ .header) : t.liveContents.agrees s.liveContents r :=
  State.untested_agrees (congrArg Standing.untested h) hr

theorem State.untested_st (h : t.standing.untested = s.standing.untested) (side : Side) : (t.pos side).st = (s.pos side).st := by
  have hp : t.psc = s.psc := congrArg Standing.psc h
  simp only [State.pos, hp]

theorem State.untested_pending (h : t.standing.untested = s.standing.untested) (g : Fin 8) : (t.grade g).pending = (s.grade g).pending := by
  have hv (u : State) : (u.grade g).priced = u.standing.untested.prices[g] := by
    show _ = (u.pru.grades.map Grade.priced)[g]
    simp [State.grade]
  exact congrArg (fun x => x.2.2) ((hv t).trans ((congrArg (fun z : Standing => z.prices[g]) h).trans (hv s).symm))

theorem State.untested_miu (h : t.standing.untested = s.standing.untested) : t.miu = s.miu := congrArg Standing.miu h
theorem State.untested_riu (h : t.standing.untested = s.standing.untested) : t.riu = s.riu := congrArg Standing.riu h
theorem State.untested_ssu (h : t.standing.untested = s.standing.untested) : t.ssu = s.ssu := congrArg Standing.ssu h

/-! ## Stage 2 begins (R164, R165) -/

theorem State.postAll_standing (s : State) (side : Side) (fs : List FieldId) (k : FieldId → Content) :
    (s.postAll side fs k).standing = s.standing :=
  foldl_standing (f := fun v f => v.postField side f (k f)) (fun v _ => v.modBoard_standing side fun _ => rfl) fs s

theorem State.modBoard_untested (s : State) (side : Side) (f : Board → Board) : (s.modBoard side f).standing.untested = s.standing.untested := rfl

theorem State.requestSegment_untested (s : State) (side : Side) (o g : Bool) :
    (s.requestSegment side o g).standing.untested = s.standing.untested := by
  unfold State.requestSegment
  split
  · rfl
  · rw [State.postAll_standing]
    rfl

theorem State.requestSegment_tests (s : State) (side : Side) (o g : Bool) :
    ((s.requestSegment side o g).board side).test.isSome = true
      ∧ ∀ x, x ≠ side → ((s.requestSegment side o g).board x).test = (s.board x).test := by
  unfold State.requestSegment
  split
  · refine ⟨?_, fun x hx => ?_⟩
    · rw [State.modBoard_board_eq, if_pos rfl]
      rfl
    · rw [State.modBoard_board_eq, if_neg hx]
  · refine ⟨?_, fun x hx => ?_⟩
    · rw [State.standing_test (State.postAll_standing ..), State.modBoard_board_eq, if_pos rfl]
      rfl
    · rw [State.standing_test (State.postAll_standing ..), State.modBoard_board_eq, if_neg hx]

/-- The site's record once stage 2 has begun. -/
def Ssu.displayStage (x : Ssu) : Ssu :=
  { x with stageTimer := some 30000, wake := { x.wake with stage := 2 }, results := { a := none, b := none } }

theorem State.beginDisplayTest_untested (s : State) :
    s.beginDisplayTest.standing.untested = { s.standing.untested with ssu := s.ssu.displayStage } := by
  unfold State.beginDisplayTest State.refreshPanels
  rw [State.refreshSide_standing, State.refreshSide_standing, State.requestSegment_untested, State.requestSegment_untested]
  rfl

theorem State.beginDisplayTest_tests (s : State) (side : Side) : (s.beginDisplayTest.board side).test.isSome = true := by
  unfold State.beginDisplayTest State.refreshPanels
  dsimp only
  rw [State.standing_test (State.refreshSide_standing ..), State.standing_test (State.refreshSide_standing ..)]
  generalize (s.beginStage 2 (some 30000)).modSsu _ = v
  cases side with
  | a => rw [((v.requestSegment .a false true).requestSegment_tests .b false true).2 .a (by decide)]; exact (v.requestSegment_tests .a false true).1
  | b => exact ((v.requestSegment .a false true).requestSegment_tests .b false true).1

/-- The site's record after RESTORED has ended stage 1 of a wake. -/
def Ssu.restored (x : Ssu) : Ssu :=
  ({ x with stageTimer := none, wake := { x.wake with outcomes := x.wake.outcomes.set 0 (some 1) } } : Ssu).displayStage

/-- The state in which stage 1 has ended with RESTORED. -/
def State.stageOneEnded (s : State) : State := (s.modRsc fun r => { r with lastCheck := .restored, check := .none }).endStage 0 1

theorem State.reportRestored_stageOne (hw : s.ssu.site = .waking) (hg : s.ssu.wake.stage = 1) :
    s.reportRestored = s.stageOneEnded.beginDisplayTest := by
  unfold State.reportRestored
  exact if_pos ⟨hw, hg⟩

theorem State.stageOneEnded_ssu (s : State) : s.stageOneEnded.ssu.displayStage = s.ssu.restored := rfl

theorem State.reportRestored_untested (hw : s.ssu.site = .waking) (hg : s.ssu.wake.stage = 1) :
    s.reportRestored.standing.untested = { s.standing.untested with ssu := s.ssu.restored } := by
  rw [State.reportRestored_stageOne hw hg, State.beginDisplayTest_untested, State.stageOneEnded_ssu]
  rfl

/-! ## The check passed -/

theorem State.calm.noPending (hc : s.calm) (hw : s.ssu.site = .waking) (hcl : s.allClosed) : s.noPending := by
  obtain ⟨-, -, hp, -⟩ := hc
  intro g
  cases hx : (s.grade g).pending with
  | none => rfl
  | some y =>
    have hl := hp (by rw [hw]; decide) g (by rw [hx]; rfl)
    simp [State.lockedOn, bothSides, (hcl .a).2, (hcl .b).2] at hl

/-- The state in which a passed check has taken the records, its store's record renewed. -/
def State.passed (w : State) (g n : Nat) : State := ((w.writeWhole .riu).touch .ssu 1).modRsc fun r => { r with generation := some g, restart := n }

theorem State.passed_standing (w : State) (g n : Nat) : (w.passed g n).standing = w.standing := rfl

theorem State.passed_rsc (w : State) (g n : Nat) : (w.passed g n).rsc = { w.rsc with generation := some g, restart := n } := rfl

theorem State.passed_acts (w : State) (g n : Nat) : Acts w (w.passed g n) [.store] :=
  Acts.modRsc (Acts.touch (Acts.writeWhole (.refl w _) _) _ _) _ (by decide)

theorem State.modRsc_standing (s : State) {f : Rsc → Rsc} (h1 : (f s.rsc).totals = s.rsc.totals) (h2 : (f s.rsc).reader = s.rsc.reader) :
    (s.modRsc f).standing = s.standing := by
  unfold State.standing
  rw [State.modRsc_rsc, h1, h2]
  rfl

/-- What a passed check keeps: at a cold start all that a waiting step is not to write is taken, at another wake METERS stays. -/
def State.keeps (s : State) : List RecordId :=
  s.rsc.queue.flatMap StoreStep.records ++ (if s.ssu.wake.origin == .coldStart then [] else [RecordId.meters])

theorem State.requestHeader (hp : s.ssu.site = .waking) : s.requestStep [.header] [.header] =
    s.modRsc fun r => { r with queue := joinQueue [.header] [.header] r.queue } := by
  unfold State.requestStep
  rw [if_neg]
  simp [State.powerDown, hp]

theorem State.checkPassed_cold (ho : s.ssu.wake.origin = .coldStart) : s.checkPassed =
    (((s.takeContents s.rsc.store.contents s.keeps).passed (s.rsc.store.seal .header).generation
      ((s.rsc.store.contents.restart + 1) % 65536)).modRsc fun r => { r with check := .headerStep }).requestStep [.header] [.header] := by
  have h : (s.ssu.wake.origin == .coldStart) = true := by simp [ho]
  unfold State.checkPassed State.keeps
  simp only [h, if_true]
  rfl

theorem State.checkPassed_warm (ho : s.ssu.wake.origin ≠ .coldStart) : s.checkPassed =
    ((s.takeContents s.rsc.store.contents s.keeps).passed (s.rsc.store.seal .header).generation s.rsc.store.contents.restart).reportRestored := by
  have h : (s.ssu.wake.origin == .coldStart) = false := by simp [ho]
  unfold State.checkPassed State.keeps
  simp only [h, Bool.false_eq_true, if_false]
  rfl

theorem State.passed_wholes (w : State) (g n : Nat) : (w.passed g n).wholes = .riu :: w.wholes := rfl

/-- A check that every record has passed, at a cold start. -/
theorem State.checkPassed_ends_cold (hcl : s.allClosed) (hn : s.noPending) (hw : s.ssu.site = .waking) (hg : s.ssu.wake.stage = 1)
    (ho : s.ssu.wake.origin = .coldStart) :
    s.CheckEnds s.checkPassed s.rsc.store.contents s.keeps
      ∧ (∃ x, s.checkPassed.ssu = { s.ssu with schedule := x })
      ∧ ∃ x y, s.checkPassed.rsc = { s.rsc with
          totals := x, reader := y, generation := some (s.rsc.store.seal .header).generation,
          restart := (s.rsc.store.contents.restart + 1) % 65536, check := .headerStep,
          queue := joinQueue [.header] [.header] s.rsc.queue } := by
  have ht := s.takeContents_takes s.rsc.store.contents s.keeps
  rw [State.checkPassed_cold ho]
  generalize (s.rsc.store.contents.restart + 1) % 65536 = n
  generalize (s.rsc.store.seal .header).generation = g
  generalize s.takeContents s.rsc.store.contents s.keeps = w at ht ⊢
  obtain ⟨x, hx⟩ := ht.takes.site
  obtain ⟨y, z, hyz⟩ := ht.takes.store
  have hws : w.ssu.site = .waking := by rw [hx]; exact hw
  rw [State.requestHeader (s := (w.passed g n).modRsc fun r => { r with check := .headerStep }) hws]
  have hv := w.passed_standing g n
  have hvr := w.passed_rsc g n
  have hva := w.passed_acts g n
  have hvw := w.passed_wholes g n
  generalize w.passed g n = v at hv hvr hva hvw ⊢
  generalize hu : State.modRsc _ _ = u
  have hst : u.standing = w.standing := by rw [← hu, State.modRsc_standing, State.modRsc_standing, hv] <;> rfl
  have hssu : u.ssu = w.ssu := State.standing_ssu hst
  have hrsc : u.rsc = { w.rsc with
      generation := some g, restart := n, check := .headerStep, queue := joinQueue [.header] [.header] w.rsc.queue } := by
    rw [← hu, State.modRsc_rsc, State.modRsc_rsc, hvr]
  have hacts : Acts w u [.store] := by
    rw [← hu]
    exact Acts.modRsc (Acts.modRsc hva _ (by decide)) _ (by decide)
  have hwh : u.wholes = .riu :: w.wholes := by rw [← hu, State.modRsc_wholes, State.modRsc_wholes, hvw]
  refine ⟨⟨⟨fun side => ?_, fun q => ?_, by rw [hssu, hws]; decide, fun _ => ?_, fun _ => by rw [hrsc]; rfl⟩, fun r hr => ?_, ?_, fun p hp => ?_,
    ?_, ?_, fun m x hs => ?_⟩, ⟨x, hssu.trans hx⟩, y, z, ?_⟩
  · rw [State.untested_st (congrArg Standing.untested hst), ht.takes.st]
    exact (hcl side).1
  · rw [State.untested_pending (congrArg Standing.untested hst), ht.takes.pending]
    exact hn q
  · rw [hssu, hx]
    exact fun e => absurd (hg.symm.trans e) (by decide)
  · exact (State.standing_agrees hst hr).trans (ht.live r hr)
  · rw [State.untested_miu (congrArg Standing.untested hst)]
    exact ht.counting
  · rw [hwh]
    exact List.mem_cons_of_mem _ (ht.wholes p hp)
  · rw [State.untested_riu (congrArg Standing.untested hst), ht.riu]
  · rw [← ht.ntc]
    exact hacts.notices
  · exact (ht.spares hs).acts hacts (by decide) (by decide) (by decide)
  · rw [hrsc, hyz]

theorem State.modSsu_live (s : State) {f : Ssu → Ssu} (h : (f s.ssu).schedule = s.ssu.schedule) : (s.modSsu f).liveContents = s.liveContents := by
  have hl : (s.modSsu f).liveConfig = s.liveConfig := by
    unfold State.liveConfig
    rw [State.modSsu_ssu, h]
    rfl
  unfold State.liveContents
  rw [hl]
  rfl

/-- A check that every record has passed, at another wake: RESTORED at once, and stage 2 begins. -/
theorem State.checkPassed_ends_warm (hcl : s.allClosed) (hn : s.noPending) (hw : s.ssu.site = .waking) (hg : s.ssu.wake.stage = 1)
    (ho : s.ssu.wake.origin ≠ .coldStart) :
    s.CheckEnds s.checkPassed s.rsc.store.contents s.keeps
      ∧ (∃ x, s.checkPassed.ssu = { s.ssu.restored with schedule := x })
      ∧ (∃ x y, s.checkPassed.rsc = { s.rsc with
          totals := x, reader := y, generation := some (s.rsc.store.seal .header).generation,
          restart := s.rsc.store.contents.restart, lastCheck := .restored, check := .none })
      ∧ (∀ side, (s.checkPassed.board side).test.isSome = true)
      ∧ ∃ v : State, v.ntc = (s.configTaken s.rsc.store.contents s.keeps).ntc ∧ (v.raise .stage 257).ntc.Grows s.checkPassed.ntc := by
  have ht := s.takeContents_takes s.rsc.store.contents s.keeps
  rw [State.checkPassed_warm ho]
  generalize s.rsc.store.contents.restart = n
  generalize (s.rsc.store.seal .header).generation = g
  generalize s.takeContents s.rsc.store.contents s.keeps = w at ht ⊢
  obtain ⟨x, hx⟩ := ht.takes.site
  obtain ⟨y, z, hyz⟩ := ht.takes.store
  have hv := w.passed_standing g n
  have hvr := w.passed_rsc g n
  have hva := w.passed_acts g n
  have hvw := w.passed_wholes g n
  generalize w.passed g n = v at hv hvr hva hvw ⊢
  have hvs : v.ssu = w.ssu := State.standing_ssu hv
  have hsite : v.ssu.site = .waking := by rw [hvs, hx]; exact hw
  have hstage : v.ssu.wake.stage = 1 := by rw [hvs, hx]; exact hg
  have hst := State.reportRestored_untested hsite hstage
  have htests : ∀ side, (v.reportRestored.board side).test.isSome = true := by
    rw [State.reportRestored_stageOne hsite hstage]
    exact State.beginDisplayTest_tests _
  have hcells : ∃ v' : State, v'.ntc = w.ntc ∧ (v'.raise .stage 257).ntc.Grows v.reportRestored.ntc := by
    refine ⟨v, hva.frame .notices (by decide), ?_⟩
    rw [State.reportRestored_stageOne hsite hstage]
    have hraise : (v.raise .stage 257).ntc = v.stageOneEnded.ntc := rfl
    rw [hraise]
    exact (Acts.beginDisplayTest (.refl v.stageOneEnded [.prices, .displays, .site]) (by decide)).notices
  have hrsc : v.reportRestored.rsc = { v.rsc with lastCheck := .restored, check := .none } := by
    rw [State.reportRestored_stageOne hsite hstage]
    exact ((Acts.beginDisplayTest (.refl v.stageOneEnded [.prices, .displays, .site]) (by decide)).frame .store (by decide)).trans rfl
  have hacts : Acts w v.reportRestored [.notices, .site, .store, .prices, .displays] :=
    (hva.mono (by decide)).trans (Acts.reportRestored (.refl v _) (by decide))
  have hwh : v.reportRestored.wholes = .riu :: w.wholes := (State.reportRestored_wholes v).trans hvw
  generalize v.reportRestored = u at *
  have hst' : u.standing.untested = (v.modSsu Ssu.restored).standing.untested := hst
  have hssu : u.ssu = w.ssu.restored := (State.untested_ssu hst').trans (congrArg Ssu.restored hvs)
  have hlive (r : RecordId) (hr : r ≠ .header) : u.liveContents.agrees w.liveContents r := by
    have h := State.untested_agrees hst' hr
    rw [State.modSsu_live v rfl] at h
    exact h.trans (State.standing_agrees hv hr)
  obtain ⟨v', hv', hgrows⟩ := hcells
  refine ⟨⟨⟨fun side => ?_, fun q => ?_, by rw [hssu, hx]; simp [Ssu.restored, Ssu.displayStage, hw], fun _ => ?_, fun _ => by rw [hrsc, hvr]; rfl⟩,
    fun r hr => (hlive r hr).trans (ht.live r hr), ?_, fun p hp => ?_, ?_, ?_, fun m x hs => ?_⟩, ⟨x, ?_⟩, ⟨y, z, ?_⟩, htests,
    v', hv'.trans ht.ntc, hgrows⟩
  · rw [State.untested_st hst', State.modSsu_pos, State.untested_st (congrArg Standing.untested hv), ht.takes.st]
    exact (hcl side).1
  · rw [State.untested_pending hst', State.modSsu_grade, State.untested_pending (congrArg Standing.untested hv), ht.takes.pending]
    exact hn q
  · rw [hssu]
    exact fun e => absurd (show (2 : Nat) = 3 from e) (by decide)
  · rw [State.untested_miu hst', State.modSsu_miu, State.untested_miu (congrArg Standing.untested hv)]
    exact ht.counting
  · rw [hwh]
    exact List.mem_cons_of_mem _ (ht.wholes p hp)
  · rw [State.untested_riu hst', State.modSsu_riu, State.untested_riu (congrArg Standing.untested hv), ht.riu]
  · rw [← ht.ntc]
    exact hacts.notices
  · exact (ht.spares hs).acts hacts (by decide) (by decide) (by decide)
  · rw [hssu, hx]
    rfl
  · rw [hrsc, hvr, hyz]

/-! ## The check failed -/

theorem State.setSite_standing (s : State) (x : SiteState) : (s.setSite x).standing = (s.modSsu fun u => { u with site := x }).standing := by
  have hp (v : State) (side : Side) : (v.setPace side).standing = v.standing := v.modBoard_standing side fun _ => rfl
  unfold State.setSite
  rw [hp, hp]

/-- What the site's fault does to the cards: the wake's result, and the card that waits for it. -/
def State.faultTold (s : State) (result : Nat) : State := (s.writeWakeResult result).endWaiting .wakeNow (wakeResult result) .blocked

theorem State.faultTold_acts (s : State) (result : Nat) : Acts s (s.faultTold result) cardLike :=
  Acts.endWaiting (Acts.writeWakeResult (.refl s _) _ (by decide)) _ _ _ (by decide)

theorem State.Spares.faultTold {m : Memory} {x : Option Held} (hs : s.Spares m x) (n : Nat) : (s.faultTold n).Spares m x := by
  refine (hs.writeWakeResult n).endWaiting rfl (fun p hp => ?_) _
  simp only [wakeResult, List.mem_cons, List.not_mem_nil, or_false] at hp
  subst hp
  exact Nat.le_of_ble_eq_true rfl

theorem State.endFaulted_eq (s : State) (r : FaultedReason) (n : Nat) :
    s.endFaulted r n = ((s.setSite (.faulted r)).raise .faulted r.code).faultTold n := rfl

theorem State.faultTold_wholes (s : State) (n : Nat) : (s.faultTold n).wholes = s.wholes := by
  unfold State.faultTold State.writeWakeResult
  simp

/-- The state of a failed check before the site's fault. -/
def State.failed (w : State) (i : Nat) : State :=
  ((w.modRsc fun r => { r with generation := none, restart := 0, lastCheck := .failed i, check := .none }).raise .storeFailed i).endStage 0 2

theorem State.failed_rsc (w : State) (i : Nat) :
    (w.failed i).rsc = { w.rsc with generation := none, restart := 0, lastCheck := .failed i, check := .none } := rfl

theorem State.failed_standing (w : State) (i : Nat) : (w.failed i).standing = (w.modSsu fun u => { u with
    stageTimer := none, wake := { u.wake with outcomes := u.wake.outcomes.set 0 (some 2) } }).standing := rfl

theorem State.failed_notified (w : State) (i : Nat) : (w.failed i).notified .storeFailed := by
  have h : ((w.modRsc fun r => { r with generation := none, restart := 0, lastCheck := .failed i, check := .none }).raise .storeFailed i).notified
      .storeFailed := (State.reports_raise (s := w.modRsc _) i rfl (by decide)).1
  exact Ntc.Grows.notified (Acts.endStage (.refl _ [.notices, .site]) 0 2 (by decide)).notices h

/-- The site's record after a failed check. -/
def Ssu.checkFailed (x : Ssu) : Ssu :=
  { x with site := .faulted .store, stageTimer := none, wake := { x.wake with outcomes := x.wake.outcomes.set 0 (some 2) } }

theorem State.checkFails_eq (s : State) (i : Nat) :
    (s.checkFails i).stageOneFails 2 = ((s.takeContents (Contents.default 0) []).failed i).endFaulted .store 4 := rfl

/-- A check that a record has failed: the power-on values, and FAULTED(STORE). -/
theorem State.checkFails_ends (hcl : s.allClosed) (hn : s.noPending) (i : Nat) :
    let u := (s.checkFails i).stageOneFails 2
    s.CheckEnds u (Contents.default 0) [] ∧ (∃ x, u.ssu = { s.ssu.checkFailed with schedule := x })
      ∧ (∃ x y, u.rsc = { s.rsc with
          totals := x, reader := y, generation := none, restart := 0, lastCheck := .failed i, check := .none })
      ∧ u.notified .storeFailed := by
  have ht := s.takeContents_takes (Contents.default 0) []
  rw [State.checkFails_eq]
  generalize s.takeContents (Contents.default 0) [] = w at ht ⊢
  obtain ⟨x, hx⟩ := ht.takes.site
  obtain ⟨y, z, hyz⟩ := ht.takes.store
  have hv := w.failed_standing i
  have hvr := w.failed_rsc i
  have hva : Acts w (w.failed i) [.notices, .site, .store] :=
    Acts.endStage (Acts.raise (Acts.modRsc (.refl w _) _ (by decide)) _ _ (by decide)) _ _ (by decide)
  have hvn : (w.failed i).notified .storeFailed := w.failed_notified i
  have hvw : (w.failed i).wholes = w.wholes := rfl
  generalize w.failed i = v at hv hvr hva hvn hvw ⊢
  have hsite : (v.setSite (.faulted .store)).standing = (w.modSsu Ssu.checkFailed).standing := by
    rw [State.setSite_standing]
    exact congrArg (fun z : Standing => { z with ssu := { z.ssu with site := .faulted .store } }) hv
  have hsa : Acts v ((v.setSite (.faulted .store)).raise .faulted FaultedReason.store.code) [.notices, .site, .displays] :=
    Acts.raise (Acts.setSite (.refl v _) _ (by decide)) _ _ (by decide)
  have hsw : ((v.setSite (.faulted .store)).raise .faulted FaultedReason.store.code).wholes = w.wholes :=
    ((State.raise_wholes ..).trans (State.setSite_wholes ..)).trans hvw
  have hstr : ((v.setSite (.faulted .store)).raise .faulted FaultedReason.store.code).standing = (v.setSite (.faulted .store)).standing := rfl
  rw [State.endFaulted_eq]
  generalize (v.setSite (.faulted .store)).raise .faulted FaultedReason.store.code = f at hsa hsw hstr ⊢
  have hta := f.faultTold_acts 4
  have htw := f.faultTold_wholes 4
  have hts : ∀ m x, f.Spares m x → (f.faultTold 4).Spares m x := fun m x h => h.faultTold 4
  generalize f.faultTold 4 = u at hta htw hts ⊢
  have hst : u.standing = (w.modSsu Ssu.checkFailed).standing := hta.standing.trans (hstr.trans hsite)
  have hun := congrArg Standing.untested hst
  have hssu : u.ssu = w.ssu.checkFailed := State.untested_ssu hun
  have hrsc : u.rsc = v.rsc := (hta.frame .store (by decide)).trans (hsa.frame .store (by decide))
  have hlive (r : RecordId) (hr : r ≠ .header) : u.liveContents.agrees w.liveContents r := by
    have h := State.untested_agrees hun hr
    rwa [State.modSsu_live w rfl] at h
  have hnotices : w.ntc.Grows u.ntc := hva.notices.trans (hsa.notices.trans hta.notices)
  refine ⟨⟨⟨fun side => ?_, fun q => ?_, by rw [hssu]; simp [Ssu.checkFailed], fun h => ?_, fun h => ?_⟩,
    fun r hr => (hlive r hr).trans (ht.live r hr), ?_, fun p hp => ?_, ?_, ?_, fun m x hs => ?_⟩, ⟨x, ?_⟩, ⟨y, z, ?_⟩,
    (hsa.notices.trans hta.notices).notified hvn⟩
  · rw [State.untested_st hun, State.modSsu_pos, ht.takes.st]
    exact (hcl side).1
  · rw [State.untested_pending hun, State.modSsu_grade, ht.takes.pending]
    exact hn q
  · rw [hssu] at h
    cases h
  · rw [hssu] at h
    cases h
  · rw [State.untested_miu hun, State.modSsu_miu]
    exact ht.counting
  · rw [htw, hsw]
    exact ht.wholes p hp
  · rw [State.untested_riu hun, State.modSsu_riu, ht.riu]
  · rw [← ht.ntc]
    exact hnotices
  · exact hts m x (((ht.spares hs).acts hva (by decide) (by decide) (by decide)).acts hsa (by decide) (by decide) (by decide))
  · rw [hssu, hx]
    rfl
  · rw [hrsc, hvr, hyz]

end Sys2Proof.Machine
end

section
/-! PROOFS. The store check, restoring every live value or faulting the site (R131, R136, R164, R184). -/
namespace Sys2Proof.Machine

variable {s t u v w : State} {side : Side} {P : List Part} {c : Contents} {r : RecordId} {keep : List RecordId}

/-! ## The event of a check's end -/

theorem publish_standing (s u : State) : (publish s u).standing = u.standing := rfl

theorem State.CheckEnds.standing (h : s.CheckEnds u c keep) : (publish s u.react).standing = u.standing := by
  rw [publish_standing, h.settles.react]

theorem State.CheckEnds.event_live (h : s.CheckEnds u c keep) (hr : r ≠ .header) :
    (publish s u.react).liveContents.agrees (if keep.contains r then s.liveContents else c) r :=
  (State.standing_agrees h.standing hr).trans (h.live r hr)

theorem State.CheckEnds.event_mirrored (h : s.CheckEnds u c keep) (p : MirrorPart) (hp : p ∈ checkMirrors) : (publish s u.react).mirrored p :=
  publish_whole ((State.react_wholes u).symm ▸ h.wholes p hp)

theorem State.configTaken_riu (s : State) (c : Contents) (keep : List RecordId) :
    (s.configTaken c keep).riu = if keep.contains .config then s.riu else s.riu.floored c.config.floor := by
  unfold State.configTaken
  split
  · rfl
  · rw [State.takeConfig_eq, State.checkFloor_riu, State.configured_riu]

theorem State.CheckEnds.event_riu (h : s.CheckEnds u c keep) :
    (publish s u.react).riu = if keep.contains .config then s.riu else s.riu.floored c.config.floor := by
  rw [State.untested_riu (congrArg Standing.untested h.standing), h.riu, State.configTaken_riu]

theorem State.CheckEnds.event_notices (h : s.CheckEnds u c keep) : u.ntc.Grows (publish s u.react).ntc := by
  rw [publish_ntc]
  exact (Acts.reactAll u).notices

/-! ## The receives that another relay floor withdraws (R131, R136) -/

theorem State.armedWithdrawn_of (hr : u.riu = s.riu) (hx : u.xm = s.xm) (hu : u.upset = s.upset) (hl : u.lanes = s.lanes)
    (h : u.armedWithdrawn t) : s.armedWithdrawn t := by
  obtain ⟨h1, h2⟩ := h
  have hok : u.memoryOk ↔ s.memoryOk := by simp only [State.memoryOk, hx, hu]
  have hlink (off : Nat) : u.readLink off = s.readLink off := State.readLink_congr hx hu off
  have hapart : u.readerCardsApart ↔ s.readerCardsApart := by simp only [State.readerCardsApart, hr, hl, hlink]
  rw [hr] at h1 h2
  exact ⟨h1, fun hm ha => h2 (hok.mpr hm) (hapart.mpr ha)⟩

theorem State.configured_cards (s : State) (c : ConfigRecord) : (s.configured c).xm = s.xm ∧ (s.configured c).upset = s.upset
    ∧ (s.configured c).lanes = s.lanes :=
  ⟨by simp [State.configured], by simp [State.configured], by simp [State.configured]⟩

/-- The site lane's card lies apart from the armed ones. -/
def State.siteCardApart (s : State) : Prop :=
  ∀ h, s.lanes.site.held = some h → ∀ e ∈ s.riu.armed, e.card + 8 ≤ h.offset ∨ h.offset + 64 ≤ e.card

/-- Another floor withdraws the armed receives and leaves the card of the site lane. -/
theorem State.configTaken_withdraws (hk : keep.contains .config = false) (hf : c.config.floor ≠ s.riu.floor) :
    s.armedWithdrawn (s.configTaken c keep)
      ∧ (s.memoryOk → s.cardsEnd → s.siteCardApart → (s.configTaken c keep).Spares (s.configTaken c keep).xm s.lanes.site.held) := by
  obtain ⟨hx, hu, hl⟩ := s.configured_cards c.config
  have hr := s.configured_riu c.config
  have he : s.configTaken c keep = (s.configured c.config).withdrawArmed.modRiu fun x => { x with floor := c.config.floor } := by
    unfold State.configTaken
    rw [hk, if_neg Bool.false_ne_true, State.takeConfig_eq]
    unfold State.checkFloor
    rw [if_neg (by rw [hr]; exact Ne.symm hf)]
  obtain ⟨hw, -⟩ := (s.configured c.config).withdrawArmed_withdraws
  have hheld : ((s.configured c.config).withdrawArmed.lane .site).held = ((s.configured c.config).lane .site).held :=
    State.withdraw_held _ _ .site
  have hlane : (s.configured c.config).lane .site = s.lane .site := State.lane_congr hl .site
  have hlink : ∀ off, s.readLink off = .atEnd → (∀ e ∈ s.riu.armed, e.card + 8 ≤ off ∨ off + 64 ≤ e.card) →
      (s.configured c.config).withdrawArmed.readLink off = .atEnd := fun off hoff hfar =>
    hw.link ((State.readLink_congr hx hu off).trans hoff) (by rw [hr]; exact hfar)
  have harmed := State.armedWithdrawn_of hr hx hu hl hw.armed
  have hok : s.memoryOk → (s.configured c.config).withdrawArmed.memoryOk := fun h =>
    hw.acts.memory (by simpa only [State.memoryOk, hx, hu] using h)
  rw [he]
  generalize (s.configured c.config).withdrawArmed = v at *
  refine ⟨State.armedWithdrawn_congr (State.modRiu_xm ..) (State.modRiu_ntc ..) harmed, fun hm hce hapart => ⟨hok hm, .inr ?_, fun h hh => ?_, fun _ _ _ => rfl⟩⟩
  · exact hheld.trans (congrArg Lane.held hlane)
  · have hs : s.lanes.site.held = some h := (congrArg Lane.held hlane).symm.trans (hheld.symm.trans hh)
    obtain ⟨h0, hend, -⟩ := hce.1 .site h hs
    exact ⟨hlink _ hend fun e he => hapart h hs e he, h0⟩

/-- The armed receives withdrawn by another floor are so at the end of the event. -/
theorem State.CheckEnds.event_withdrawn (h : s.CheckEnds u c keep) (hk : keep.contains .config = false) (hf : c.config.floor ≠ s.riu.floor)
    (hu : u.unanswered) (hce : s.cardsEnd) (hapart : s.siteCardApart) : s.armedWithdrawn (publish s u.react) := by
  obtain ⟨⟨hnote, hhalf⟩, hspares⟩ := State.configTaken_withdraws hk hf
  refine ⟨fun e he hn => h.event_notices.notified (h.notices.notified (hnote e he hn)), fun hm ha e he => ?_⟩
  have hs := h.settles.react_spares hu (h.spares _ _ (hspares hm hce hapart))
  have h0 := hce.2 e he
  generalize u.react = y at hs ⊢
  have hread (a : Nat) (h1 : e.card ≤ a) (h2 : a < e.card + 8) : Memory.read y.xm a = Memory.read (s.configTaken c keep).xm a :=
    hs.read a (by omega) fun g hg => by have := hapart g hg e he; omega
  have hkept (a : Nat) (h1 : e.card ≤ a) (h2 : a + 1 < e.card + 8) : (publish s y).half a = (s.configTaken c keep).half a :=
    congrArg₂ (fun x z : Byte => (x ++ z : BitVec 16)) (hread (a + 1) (by omega) h2) (hread a h1 (by omega))
  rw [hkept _ (by omega) (by omega), hkept _ (by omega) (by omega)]
  exact hhalf hm ha e he

/-! ## Which record fails (R176, R184) -/

/-- A record passes the check (R176). -/
def Store.passes (st : Store) (r : RecordId) : Prop :=
  (st.seal .header).check = some (st.contents.checkWord .header (st.seal .header).generation)
    ∧ (st.seal r).check = some (st.contents.checkWord r (st.seal r).generation)
    ∧ (st.seal r).generation = (st.seal .header).generation

theorem Store.sound_iff (st : Store) (r : RecordId) : st.sound r = true ↔ st.passes r := by
  simp only [Store.sound, Store.intact, Store.passes, Bool.and_eq_true, beq_iff_eq, and_assoc]

theorem mem_allRecords (r : RecordId) : r ∈ allRecords := by cases r <;> decide

theorem Rsc.firstUnsound_none {x : Rsc} : x.firstUnsound = none ↔ x.lost = false ∧ ∀ r, x.store.passes r := by
  unfold Rsc.firstUnsound
  cases x.lost with
  | true => simp
  | false =>
    rw [if_neg Bool.false_ne_true, Option.map_eq_none_iff, List.find?_eq_none]
    refine ⟨fun h => ⟨rfl, fun r => (Store.sound_iff ..).mp ?_⟩, fun h r _ => ?_⟩
    · simpa using h r (mem_allRecords r)
    · simp [(Store.sound_iff _ r).mpr (h.2 r)]

theorem Rsc.firstUnsound_some {x : Rsc} {i : Fin 8} (h : x.firstUnsound = some i) :
    (x.lost = true ∧ i.val = 0) ∨ (x.lost = false ∧ ∃ r : RecordId, r.number.val = i.val ∧ ¬ x.store.passes r
      ∧ ∀ q : RecordId, q.number < r.number → x.store.passes q) := by
  unfold Rsc.firstUnsound at h
  cases hl : x.lost with
  | true =>
    rw [hl, if_pos rfl] at h
    exact .inl ⟨rfl, by rw [← Option.some.inj h]; rfl⟩
  | false =>
    rw [hl, if_neg Bool.false_ne_true, Option.map_eq_some_iff] at h
    obtain ⟨r, hr, rfl⟩ := h
    obtain ⟨hbad, before, after, hall, hgood⟩ := List.find?_eq_some_iff_append.mp hr
    refine .inr ⟨rfl, r, rfl, fun hp => ?_, fun q hq => ?_⟩
    · rw [← Store.sound_iff] at hp
      simp [hp] at hbad
    · have hord : (before ++ r :: after).Pairwise fun a b => a.number < b.number := hall ▸ (by decide)
      have hmem : q ∈ before ++ r :: after := hall ▸ mem_allRecords q
      rw [List.pairwise_append, List.pairwise_cons] at hord
      obtain ⟨-, ⟨hafter, -⟩, -⟩ := hord
      rcases List.mem_append.mp hmem with hb | hb
      · exact (Store.sound_iff ..).mp (by simpa using hgood q hb)
      · rcases List.mem_cons.mp hb with rfl | hb
        · exact absurd hq (lt_irrefl _)
        · exact absurd (lt_trans hq (hafter q hb)) (lt_irrefl _)

/-! ## What the live values read -/

theorem State.config_read {k : ConfigRecord} (h : t.liveConfig = k) : t.miu.routes = k.routes ∧ t.miu.enables = k.enables
    ∧ (∀ m, (t.meter m).config = k.meters[m]) ∧ (∀ side, (t.pos side).config = k.positions.get side)
    ∧ t.pru.siteMode = k.siteMode ∧ t.pru.totalsForm = k.totalsForm ∧ t.dlc.policy = k.policy
    ∧ t.iwu.watch = k.watch ∧ t.ssu.schedule = k.schedule ∧ t.riu.floor = k.floor := by
  subst h
  refine ⟨rfl, rfl, fun m => ?_, fun side => ?_, rfl, rfl, rfl, rfl, rfl, rfl⟩
  · simp [State.liveConfig, State.meter]
  · cases side <;> rfl

theorem State.prices_read {p : Vector (Option Nat × RoundCode) 8} (h : t.liveContents.prices = p) (g : Fin 8) :
    ((t.grade g).price, (t.grade g).code) = p[g] := by
  subst h
  simp [State.liveContents, State.grade]

theorem State.meters_read {m : Vector MeterCounts 8} (h : t.liveContents.meters = m) (i : MeterNo) :
    (t.meter i).lifetime = (m[i]).lifetime ∧ (t.meter i).unclaimed = (m[i]).unclaimed := by
  subst h
  simp [State.liveContents, State.meter]

/-! ## The obligation -/

/-- No waiting step is to write the record. -/
def State.restores (s : State) (r : RecordId) : Prop := ∀ n ∈ s.rsc.queue, r ∉ n.records

theorem State.keeps_contains (s : State) (r : RecordId) : s.keeps.contains r = false ↔
    s.restores r ∧ (s.ssu.wake.origin ≠ .coldStart → r ≠ .meters) := by
  unfold State.keeps State.restores
  rw [← Bool.not_eq_true, List.contains_iff_mem, List.mem_append, not_or, List.mem_flatMap]
  refine and_congr (by simp) ?_
  by_cases ho : s.ssu.wake.origin = .coldStart
  · simp [ho]
  · simp [ho]

theorem State.keeps_restores (h : s.restores r) (hr : r ≠ .meters) : s.keeps.contains r = false := (s.keeps_contains r).mpr ⟨h, fun _ => hr⟩

theorem State.keeps_not (h : ¬ s.restores r) : s.keeps.contains r = true := by
  cases hk : s.keeps.contains r with
  | true => rfl
  | false => exact absurd ((s.keeps_contains r).mp hk).1 h

theorem State.restores_config (hq : s.rsc.queue = []) : s.restores .config := by
  unfold State.restores
  rw [hq]
  exact fun n hn => by cases hn

/-- What the end of a check has made of a record that it takes, and of one that it keeps. -/
theorem State.CheckEnds.event_taken (h : s.CheckEnds u c keep) (hr : r ≠ .header) (hk : keep.contains r = false) :
    (publish s u.react).liveContents.agrees c r := by
  have := h.event_live hr
  rwa [hk, if_neg Bool.false_ne_true] at this

theorem State.CheckEnds.event_left (h : s.CheckEnds u c keep) (hr : r ≠ .header) (hk : keep.contains r = true) :
    (publish s u.react).liveContents.agrees s.liveContents r := by
  have := h.event_live hr
  rwa [hk, if_pos rfl] at this

/-- What the end of a check does to the reader: another floor withdraws the armed receives. -/
theorem State.CheckEnds.event_moves (h : s.CheckEnds u c keep) (hk : keep.contains .config = false)
    (hu : s.rsc.queue = [] → u.unanswered) :
    (publish s u.react).riu = s.riu.floored c.config.floor
      ∧ (c.config.floor ≠ s.riu.floor → s.rsc.queue = [] → s.cardsEnd → s.siteCardApart → s.armedWithdrawn (publish s u.react)) := by
  refine ⟨?_, fun hf hq hce hapart => h.event_withdrawn hk hf (hu hq) hce hapart⟩
  rw [h.event_riu, hk, if_neg Bool.false_ne_true]

/-- The live values that a passed check restores. -/
theorem State.CheckEnds.event_restored (h : s.CheckEnds u c s.keeps) :
    let t := publish s u.react
    (s.restores .config → t.miu.routes = c.config.routes ∧ t.miu.enables = c.config.enables
      ∧ (∀ m, (t.meter m).config = c.config.meters[m]) ∧ (∀ side, (t.pos side).config = c.config.positions.get side)
      ∧ t.pru.siteMode = c.config.siteMode ∧ t.pru.totalsForm = c.config.totalsForm ∧ t.dlc.policy = c.config.policy
      ∧ t.iwu.watch = c.config.watch ∧ t.ssu.schedule = c.config.schedule ∧ t.riu.floor = c.config.floor)
    ∧ (s.restores .prices → ∀ g, ((t.grade g).price, (t.grade g).code) = c.prices[g])
    ∧ (s.restores .totals → t.rsc.totals = c.totals) ∧ (s.restores .unpaidA → (t.pos .a).unpaid = c.unpaid.a)
    ∧ (s.restores .unpaidB → (t.pos .b).unpaid = c.unpaid.b) ∧ (s.restores .reader → t.rsc.reader = c.reader)
    ∧ t.miu.counting = true := by
  have htaken (r : RecordId) (hr : s.restores r) (h1 : r ≠ .header) (h2 : r ≠ .meters) : (publish s u.react).liveContents.agrees c r :=
    h.event_taken h1 (State.keeps_restores hr h2)
  have hcount : (publish s u.react).miu.counting = true := by
    rw [State.untested_miu (congrArg Standing.untested h.standing)]
    exact h.counting
  generalize publish s u.react = t at *
  exact ⟨fun hr => State.config_read (htaken _ hr (by decide) (by decide)), fun hr => State.prices_read (htaken _ hr (by decide) (by decide)),
    fun hr => htaken _ hr (by decide) (by decide), fun hr => htaken _ hr (by decide) (by decide), fun hr => htaken _ hr (by decide) (by decide),
    fun hr => htaken _ hr (by decide) (by decide), hcount⟩

theorem State.configTaken_source {i : Fin 13} (s : State) (hi : ∀ l k, i ≠ (Cause.lane l k).source) (c : Contents) (keep : List RecordId) :
    (s.configTaken c keep).ntc.sources[i] = s.ntc.sources[i] := by
  have hn : (s.configured c.config).ntc = s.ntc := by simp [State.configured]
  unfold State.configTaken
  split
  · rfl
  · rw [State.takeConfig_eq]
    refine Eq.trans ?_ (State.source_congr hn)
    unfold State.checkFloor
    split
    · exact State.source_congr (State.modRiu_ntc ..)
    · rw [State.source_congr (State.modRiu_ntc ..), State.withdrawArmed_eq, State.withdraw_source hi]
      exact State.source_congr (State.modRiu_ntc ..)

/-- The check at a cold start with no step waiting: the HEADER step begins. -/
theorem checkPassed_cold_event (hcl : s.allClosed) (hn : s.noPending) (hw : s.ssu.site = .waking) (hg : s.ssu.wake.stage = 1)
    (ho : s.ssu.wake.origin = .coldStart) (hq : s.rsc.queue = []) (ha : s.rsc.active = none) :
    let t := publish s s.checkPassed.react
    t.rsc.generation = some (s.rsc.store.seal .header).generation ∧ t.rsc.restart = (s.rsc.store.contents.restart + 1) % 65536
      ∧ t.rsc.check = .headerStep ∧ t.ssu.wake.stage = 1
      ∧ ∃ a, t.rsc.active = some a ∧ a.step = { records := [.header], requesters := [.header] } ∧ a.contents = t.liveContents := by
  obtain ⟨h, ⟨x, hssu⟩, y, z, hrsc⟩ := State.checkPassed_ends_cold hcl hn hw hg ho
  generalize s.checkPassed = u at *
  have hr : u.react.rsc = u.rsc.begun { records := [.header], requesters := [.header] } (s.rsc.store.seal .header).generation u.liveContents := by
    refine h.settles.react_begins ?_ ?_ ?_ ?_ (by decide) (by decide)
    · rw [hrsc, hq]
      rfl
    · rw [hrsc]
      exact ha
    · rw [hrsc]
      exact CheckState.noConfusion
    · rw [hrsc]
  have hlive : (publish s u.react).liveContents = u.liveContents :=
    State.standing_liveContents h.standing (by rw [publish_rsc, hr]; rfl)
  have hts : (publish s u.react).ssu = u.ssu := State.standing_ssu h.standing
  have htr := publish_rsc (s0 := s) (s := u.react)
  rw [hr, hrsc] at htr
  generalize publish s u.react = t at *
  refine ⟨by rw [htr]; rfl, by rw [htr]; rfl, by rw [htr]; rfl, by rw [hts, hssu]; exact hg, _, by rw [htr]; rfl, rfl, hlive.symm⟩

/-- The check at another wake with no step waiting: RESTORED, and stage 2 begins. -/
theorem checkPassed_warm_event (hcl : s.allClosed) (hn : s.noPending) (hw : s.ssu.site = .waking) (hg : s.ssu.wake.stage = 1)
    (ho : s.ssu.wake.origin ≠ .coldStart) (hq : s.rsc.queue = []) :
    let t := publish s s.checkPassed.react
    t.rsc.generation = some (s.rsc.store.seal .header).generation ∧ t.rsc.restart = s.rsc.store.contents.restart ∧ t.rsc.check = .none
      ∧ t.rsc.lastCheck = .restored ∧ t.ssu.wake.stage = 2 ∧ t.ssu.wake.outcomes[0] = some 1 ∧ s.reports t .stage 257
      ∧ ∀ side, (t.board side).test.isSome = true := by
  obtain ⟨h, ⟨x, hssu⟩, ⟨y, z, hrsc⟩, htests, v, hv, hgrows⟩ := State.checkPassed_ends_warm hcl hn hw hg ho
  have hsrc : v.ntc.sources[Cause.stage.source] = s.ntc.sources[Cause.stage.source] := by
    have hi : ∀ l c, Cause.stage.source ≠ (Cause.lane l c).source := fun l c => by cases l <;> simp [Cause.source]
    exact (State.source_congr hv).trans (s.configTaken_source hi _ _)
  have hrep : s.reports s.checkPassed .stage 257 := hgrows.reports (State.reports_raise 257 hsrc (by decide))
  generalize s.checkPassed = u at *
  have hr : u.react.rsc = u.rsc := h.settles.react_rsc (by rw [hrsc]; exact hq)
  have hts : (publish s u.react).ssu = u.ssu := State.standing_ssu h.standing
  have htr := publish_rsc (s0 := s) (s := u.react)
  rw [hr, hrsc] at htr
  refine ⟨by rw [htr], by rw [htr], by rw [htr], by rw [htr], by rw [hts, hssu]; rfl, ?_, hrep.event, fun side => ?_⟩
  · rw [hts, hssu]
    exact Vector.getElem_set_self _
  · rw [State.standing_test h.standing]
    exact htests side

/-- The check that a record has failed. -/
theorem checkFails_event (hcl : s.allClosed) (hn : s.noPending) {i : Fin 8} (hi : s.rsc.firstUnsound = some i) :
    let t := publish s ((s.checkFails i.val).stageOneFails 2).react
    t.ssu.site = .faulted .store
      ∧ t.rsc.reader = false ∧ t.liveConfig = (Contents.default 0).config ∧ t.miu.routes = defaultRoutes
      ∧ t.ssu.schedule = none ∧ t.riu.floor = 0x7000
      ∧ (∀ side, (t.pos side).unpaid = []) ∧ (∀ g, (t.grade g).price = none ∧ (t.grade g).code = .site)
      ∧ t.rsc.totals = { a := Vector.replicate 4 .zero, b := Vector.replicate 4 .zero } ∧ t.miu.counting = true
      ∧ (∀ m, (t.meter m).lifetime = 0) ∧ (∀ m, (t.meter m).unclaimed = 0)
      ∧ t.ssu.wake.outcomes[0] = some 2 ∧ t.notified .storeFailed
      ∧ (s.rsc.queue = [] → t.rsc.generation = none ∧ t.rsc.restart = 0 ∧ t.rsc.check = .none
        ∧ ∃ i, t.rsc.lastCheck = .failed i ∧ ((s.rsc.lost = true ∧ i = 0) ∨ (s.rsc.lost = false ∧ ∃ r : RecordId, r.number.val = i
          ∧ ¬ s.rsc.store.passes r ∧ ∀ q : RecordId, q.number < r.number → s.rsc.store.passes q))) := by
  obtain ⟨h, ⟨x, hssu⟩, ⟨y, z, hrsc⟩, hnote⟩ := State.checkFails_ends hcl hn i.val
  generalize (s.checkFails i.val).stageOneFails 2 = u at *
  have htaken (r : RecordId) (h1 : r ≠ .header) : (publish s u.react).liveContents.agrees (Contents.default 0) r := h.event_taken h1 rfl
  have hts : (publish s u.react).ssu = u.ssu := State.standing_ssu h.standing
  have hcount : (publish s u.react).miu.counting = true := by
    rw [State.untested_miu (congrArg Standing.untested h.standing)]
    exact h.counting
  have htr : s.rsc.queue = [] → (publish s u.react).rsc = u.rsc := fun hq => by
    rw [publish_rsc, h.settles.react_rsc (by rw [hrsc]; exact hq)]
  have htn := h.event_notices.notified hnote
  generalize publish s u.react = t at *
  have hconfig : t.liveConfig = (Contents.default 0).config := htaken .config (by decide)
  obtain ⟨c1, -, -, -, -, -, -, -, c2, c3⟩ := State.config_read hconfig
  have hprices := State.prices_read (htaken .prices (by decide))
  have hmeters := State.meters_read (htaken .meters (by decide))
  refine ⟨by rw [hts, hssu]; rfl, htaken .reader (by decide), hconfig, c1, c2, c3, fun side => ?_, fun g => ?_, htaken .totals (by decide), hcount,
    fun m => ?_, fun m => ?_, ?_, htn, fun hq => ?_⟩
  · cases side with
    | a => exact htaken .unpaidA (by decide)
    | b => exact htaken .unpaidB (by decide)
  · have hg : (Contents.default 0).prices[g] = (none, .site) := by simp [Contents.default]
    exact Prod.mk.inj ((hprices g).trans hg)
  · rw [(hmeters m).1]
    simp [Contents.default]
  · rw [(hmeters m).2]
    simp [Contents.default]
  · rw [hts, hssu]
    exact Vector.getElem_set_self _
  · have hr := htr hq
    rw [hrsc] at hr
    refine ⟨by rw [hr], by rw [hr], by rw [hr], i.val, by rw [hr], Rsc.firstUnsound_some hi⟩

theorem exec_storeCheckEnd (hm : s.mainSupply = true) (hk : s.rsc.check = .running) :
    exec .storeCheckEnd s = .next (publish s s.storeCheckEnds.react) := eventWhen_on hm (by simp [hk]) _

/-- Settles O56: the check begins when the store rests; every record sound, its values are taken; one unsound, those of power-on are. -/
theorem storeCheckRestoresOrFaults : Obligations.StoreCheckRestoresOrFaults := by
  unfold Obligations.StoreCheckRestoresOrFaults
  refine ⟨fun s hm hc hk ha => ?_, fun s hm hc hk ha hw hcl hg => ?_⟩
  · have hq : s.rsc.queue = [] := by
      obtain ⟨-, -, -, -, h, -⟩ := hc
      simpa [State.stepsWait, ha, hk] using h
    have hu : (s.modRsc fun r => { r with check := .running }).calm := by
      obtain ⟨c1, c2, c3, c4, -, c6, c7⟩ := hc
      exact ⟨c1, c2, c3, c4, .inl hq, c6, c7⟩
    exact ⟨_, eventWhen_on hm (by simp [hk, ha, hq]) _, hu.event_kept s (p := .store) (by decide),
      hu.event_changes (Acts.frame (ps := [.store, .displays]) (Acts.modRsc (.refl s _) _ (by decide))) (by decide)⟩
  · have hn := State.calm.noPending hc hw hcl
    intro k x whole passes sound restores restored moves
    refine ⟨_, exec_storeCheckEnd hm hk, ?_⟩
    cases hi : s.rsc.firstUnsound with
    | none =>
      have hs : sound := Rsc.firstUnsound_none.mp hi
      have hends : s.storeCheckEnds = s.checkPassed := by unfold State.storeCheckEnds; rw [hi]
      have hcheck : s.CheckEnds s.checkPassed k s.keeps ∧ s.checkPassed.rsc.generation.isSome = true := by
        by_cases ho : s.ssu.wake.origin = .coldStart
        · obtain ⟨h, -, y, z, hr⟩ := State.checkPassed_ends_cold hcl hn hw hg ho
          exact ⟨h, by rw [hr]; rfl⟩
        · obtain ⟨h, -, ⟨y, z, hr⟩, -⟩ := State.checkPassed_ends_warm hcl hn hw hg ho
          exact ⟨h, by rw [hr]; rfl⟩
      obtain ⟨h, hgen⟩ := hcheck
      have hcold := checkPassed_cold_event hcl hn hw hg
      have hwarm := checkPassed_warm_event hcl hn hw hg
      rw [hends]
      have hmoves (hr : s.restores .config) := h.event_moves (State.keeps_restores hr (by decide)) fun _ => .inr hgen
      have hstays (hr : ¬ s.restores .config) : (publish s s.checkPassed.react).riu = s.riu := by
        rw [h.event_riu, State.keeps_not hr, if_pos rfl]
      have hrestored := h.event_restored
      have hmirrored := h.event_mirrored
      have htaken (ho : s.ssu.wake.origin = .coldStart) (hr : s.restores .meters) := State.meters_read
        (h.event_taken (r := .meters) (by decide) ((s.keeps_contains _).mpr ⟨hr, fun e => absurd ho e⟩))
      have hmeters (hr : s.ssu.wake.origin ≠ .coldStart ∨ ¬ s.restores .meters) (m : MeterNo) :
          ((publish s s.checkPassed.react).meter m).lifetime = (s.meter m).lifetime := by
        have hkept : s.keeps.contains .meters = true := by
          cases hx : s.keeps.contains .meters with
          | true => rfl
          | false =>
            obtain ⟨h1, h2⟩ := (s.keeps_contains _).mp hx
            exact hr.elim (fun e => absurd rfl (h2 e)) fun e => absurd h1 e
        rw [(State.meters_read (h.event_left (r := .meters) (by decide) hkept) m).1]
        simp [State.liveContents, State.meter]
      have hleft (r : RecordId) (h1 : r ≠ .header) (hr : ¬ s.restores r) := h.event_left h1 (State.keeps_not hr)
      generalize publish s s.checkPassed.react = t at *
      exact ⟨fun _ hr => hmoves hr, fun _ hr => hstays hr, fun e => absurd hs e, hmirrored, fun _ => hrestored, fun _ ho hr => htaken ho hr,
        fun _ hr => hmeters hr, fun _ r h1 _ hr => hleft r h1 hr, fun _ ho hq => hcold ho hq ha, fun _ ho hq => hwarm ho hq,
        fun e => absurd hs e⟩
    | some i =>
      have hs : ¬ sound := fun h => by
        have := Rsc.firstUnsound_none.mpr h
        rw [hi] at this
        cases this
      have hends : s.storeCheckEnds = (s.checkFails i.val).stageOneFails 2 := by unfold State.storeCheckEnds; rw [hi]
      obtain ⟨h, -, ⟨y, z, hr⟩, -⟩ := State.checkFails_ends hcl hn i.val
      have hfails := checkFails_event hcl hn hi
      rw [hends]
      have hmoves := h.event_moves rfl fun hq => .inl (by rw [hr]; exact hq)
      have hmirrored := h.event_mirrored
      generalize publish s ((s.checkFails i.val).stageOneFails 2).react = t at *
      exact ⟨fun e => absurd e hs, fun e => absurd e hs, fun _ => hmoves, hmirrored, fun e => absurd e hs, fun e => absurd e hs,
        fun e => absurd e hs, fun e => absurd e hs, fun e => absurd e hs, fun e => absurd e hs, fun _ => hfails⟩

end Sys2Proof.Machine
end

section
/-! PROOFS. What the end of an event makes of positions, meters, prices, boards, inputs and site does not depend on memory, lanes, notices or
the reader's record: two reader frames that end at one moment leave the same there (07). -/
namespace Sys2Proof.Machine

variable {s t u v : State} {side : Side} {P : List Part}

/-! ## What is seen of a state -/

/-- What the rules of the other records see of the store's record: not READER, nor what a step in progress is to write. -/
def Rsc.seen (r : Rsc) : Rsc :=
  { r with reader := false, active := r.active.map fun a => { a with contents := .default 0 } }

/-- What the rules of positions, meters, prices, boards, inputs and site see of a state. -/
def State.seen (s : State) : State :=
  { s with pending := [], mainSupply := true, hostReset := false, xm := [], upset := [], mirrors := .default,
           lanes := { dispense := .default, site := .default, reader := .default }, ntc := .default, riu := .default,
           rsc := s.rsc.seen, free := 0 }

/-- Two states look the same to those rules. -/
def State.Alike (s t : State) : Prop := s.seen = t.seen

theorem State.Alike.refl (s : State) : s.Alike s := rfl
theorem State.Alike.of_eq (h : s = t) : s.Alike t := congrArg State.seen h
theorem State.Alike.symm (h : s.Alike t) : t.Alike s := Eq.symm h
theorem State.Alike.trans (h : s.Alike t) (k : t.Alike u) : s.Alike u := Eq.trans h k

/-- The parts that are not seen. -/
def unseenParts : List Part := [.memory, .parity, .lanes, .notices, .reader]

theorem Acts.unseen (h : Acts s t unseenParts) : s.Alike t := by
  have h1 : t.miu = s.miu := h.frame .meters (by decide)
  have h2 : t.psc = s.psc := h.frame .positions (by decide)
  have h3 : t.iwu = s.iwu := h.frame .inputs (by decide)
  have h5 : t.ssu = s.ssu := h.frame .site (by decide)
  have h6 : t.pru = s.pru := h.frame .prices (by decide)
  have h7 : t.dlc = s.dlc := h.frame .displays (by decide)
  have h8 : t.rsc = s.rsc := h.frame .store (by decide)
  simp only [State.Alike, State.seen, h1, h2, h3, h5, h6, h7, h8]

namespace State.Alike

theorem lift {α : Type} (h : s.Alike t) (f : State → α) : f s.seen = f t.seen := congrArg f h

theorem miu (h : s.Alike t) : s.miu = t.miu := h.lift fun z => z.miu
theorem psc (h : s.Alike t) : s.psc = t.psc := h.lift fun z => z.psc
theorem pru (h : s.Alike t) : s.pru = t.pru := h.lift fun z => z.pru
theorem dlc (h : s.Alike t) : s.dlc = t.dlc := h.lift fun z => z.dlc
theorem iwu (h : s.Alike t) : s.iwu = t.iwu := h.lift fun z => z.iwu
theorem ssu (h : s.Alike t) : s.ssu = t.ssu := h.lift fun z => z.ssu
theorem rsc (h : s.Alike t) : s.rsc.seen = t.rsc.seen := h.lift fun z => z.rsc

theorem pos (h : s.Alike t) (x : Side) : s.pos x = t.pos x := congrArg (fun p : Sides Position => p.get x) h.psc
theorem board (h : s.Alike t) (x : Side) : s.board x = t.board x := congrArg (fun d : Dlc => d.boards.get x) h.dlc
theorem grade (h : s.Alike t) (g : Fin 8) : s.grade g = t.grade g := congrArg (fun p : Pru => p.grades[g]) h.pru
theorem powerDown (h : s.Alike t) : s.powerDown = t.powerDown := congrArg (fun x : Ssu => x.site == .powerDown) h.ssu

/-- A value that the seen part gives is the same in both. -/
theorem value {α : Type} (h : s.Alike t) {f : State → α} (hf : ∀ u, f u = f u.seen) : f s = f t := by rw [hf, hf t, show s.seen = t.seen from h]

theorem unseen (h : s.Alike t) (hs : Acts s u unseenParts) (ht : Acts t v unseenParts) : u.Alike v :=
  (hs.unseen.symm.trans h).trans ht.unseen

/-! ## The records -/

theorem modPos (h : s.Alike t) (x : Side) (f : Position → Position) : (s.modPos x f).Alike (t.modPos x f) :=
  congrArg (fun z : State => z.modPos x f) h

theorem modMeter (h : s.Alike t) (m : MeterNo) (f : Meter → Meter) : (s.modMeter m f).Alike (t.modMeter m f) :=
  congrArg (fun z : State => z.modMeter m f) h

theorem modGrade (h : s.Alike t) (g : Fin 8) (f : Grade → Grade) : (s.modGrade g f).Alike (t.modGrade g f) :=
  congrArg (fun z : State => z.modGrade g f) h

theorem modPanel (h : s.Alike t) (g : Fin 8) (x : Side) (f : Panel → Panel) : (s.modPanel g x f).Alike (t.modPanel g x f) :=
  h.modGrade g _

theorem modBoard (h : s.Alike t) (x : Side) (f : Board → Board) : (s.modBoard x f).Alike (t.modBoard x f) :=
  congrArg (fun z : State => z.modBoard x f) h

theorem modPru (h : s.Alike t) (f : Pru → Pru) : (s.modPru f).Alike (t.modPru f) := congrArg (fun z : State => z.modPru f) h
theorem modSsu (h : s.Alike t) (f : Ssu → Ssu) : (s.modSsu f).Alike (t.modSsu f) := congrArg (fun z : State => z.modSsu f) h

theorem modRsc (h : s.Alike t) {f g : Rsc → Rsc} (hf : (f s.rsc).seen = (g t.rsc).seen) : (s.modRsc f).Alike (t.modRsc g) :=
  congrArg₂ (fun (z : State) (r : Rsc) => ({ z with rsc := r } : State)) h hf

theorem raise (h : s.Alike t) (c d : Cause) (m n : Nat) : (s.raise c m).Alike (t.raise d n) :=
  h.unseen (Acts.raise (.refl s _) _ _ (by decide)) (Acts.raise (.refl t _) _ _ (by decide))

theorem touch (h : s.Alike t) (p : MirrorPart) (e : Nat) : (s.touch p e).Alike (t.touch p e) := h

theorem foldl {α : Type} {f g : State → α → State} (hf : ∀ s t x, s.Alike t → (f s x).Alike (g t x)) (l : List α) (h : s.Alike t) :
    (l.foldl f s).Alike (l.foldl g t) := by
  induction l generalizing s t with
  | nil => exact h
  | cons x l ih => exact ih (hf _ _ x h)

/-! ## Cards and lanes -/

theorem endWaiting (h : s.Alike t) (k : Kind) (r q : List (Nat × Byte)) (o p : CardOutcome) : (s.endWaiting k r o).Alike (t.endWaiting k q p) :=
  h.unseen (Acts.endWaiting (.refl s _) _ _ _ (by decide)) (Acts.endWaiting (.refl t _) _ _ _ (by decide))

theorem endStored (h : s.Alike t) (l : LaneId) (off : Nat) : (s.endStored l off).Alike (t.endStored l off) :=
  h.unseen (Acts.endStored (.refl s _) _ _ (by decide)) (Acts.endStored (.refl t _) _ _ (by decide))

theorem readerToOff (h : s.Alike t) : s.readerToOff.Alike t.readerToOff :=
  h.unseen (Acts.readerToOff (.refl s _) (by decide)) (Acts.readerToOff (.refl t _) (by decide))

theorem writeIdentity (h : s.Alike t) : s.writeIdentity.Alike t.writeIdentity :=
  h.unseen (Acts.writeIdentity (.refl s _) (by decide)) (Acts.writeIdentity (.refl t _) (by decide))

theorem seen_queue (h : s.Alike t) : s.rsc.queue = t.rsc.queue := h.lift fun z => z.rsc.queue

/-- The queue of the store is set in both. -/
theorem setQueue (h : s.Alike t) {f : List StoreStep → List StoreStep} :
    (s.modRsc fun r => { r with queue := f r.queue }).Alike (t.modRsc fun r => { r with queue := f r.queue }) :=
  h.modRsc (congrArg (fun r : Rsc => ({ r with queue := f r.queue } : Rsc)) h.rsc)

theorem requestStep (h : s.Alike t) (rs : List RecordId) (q : List Requester) : (s.requestStep rs q).Alike (t.requestStep rs q) := by
  unfold State.requestStep
  rw [h.powerDown]
  split
  · exact h
  · exact h.setQueue

theorem readerDown (h : s.Alike t) : s.readerDown.Alike t.readerDown := by
  unfold State.readerDown
  refine requestStep ?_ _ _
  exact (h.readerToOff.endWaiting ..).modRsc (congrArg (fun r : Rsc => ({ r with reader := false } : Rsc)) (h.readerToOff.endWaiting ..).rsc)

theorem examinePositions (h : s.Alike t) : s.examinePositions.Alike t.examinePositions := by
  unfold State.examinePositions
  rw [h.ssu, h.pos, h.pos]
  split
  · exact (h.modSsu _).readerDown
  · exact h

theorem nightReaderDone (h : s.Alike t) : s.nightReaderDone.Alike t.nightReaderDone := by
  unfold State.nightReaderDone
  rw [h.ssu]
  split
  · exact (h.modSsu _).requestStep _ _
  · exact h

theorem setPace (h : s.Alike t) (x : Side) : (s.setPace x).Alike (t.setPace x) := by
  unfold State.setPace
  rw [h.ssu]
  exact h.modBoard x _

theorem setSite (h : s.Alike t) (x : SiteState) : (s.setSite x).Alike (t.setSite x) := ((h.modSsu _).setPace .a).setPace .b

theorem enterNight (h : s.Alike t) : s.enterNight.Alike t.enterNight := by
  unfold State.enterNight
  rw [h.ssu]
  split
  · exact (((((h.readerToOff).endWaiting ..).setSite _).modSsu _).endWaiting ..).raise ..
  · exact h

/-! ## Positions and prices -/

theorem postField (h : s.Alike t) (x : Side) (f : FieldId) (c : Content) : (s.postField x f c).Alike (t.postField x f c) := by
  unfold State.postField
  rw [h.dlc]
  exact h.modBoard x _

theorem postAll (h : s.Alike t) (x : Side) (fs : List FieldId) (c : FieldId → Content) : (s.postAll x fs c).Alike (t.postAll x fs c) :=
  foldl (fun _ _ f h => h.postField x f (c f)) fs h

theorem gradeContent (h : s.Alike t) (x : Side) (k : HoseNo) : s.gradeContent x k = t.gradeContent x k := h.value (f := fun z => z.gradeContent x k) fun _ => rfl

theorem postGrade (h : s.Alike t) (x : Side) (k : HoseNo) : (s.postGrade x k).Alike (t.postGrade x k) := by
  unfold State.postGrade
  rw [h.board, h.gradeContent]
  split
  · exact h.modBoard x _
  · exact h.postField x _ _

theorem members (h : s.Alike t) (g : Fin 8) (x : Side) : s.members g x = t.members g x := h.value (f := fun z => z.members g x) fun _ => rfl

theorem postPanels (h : s.Alike t) (g : Fin 8) : (s.postPanels g).Alike (t.postPanels g) := by
  refine foldl (fun u v x h => ?_) bothSides h
  have hf : ((u.members g x).foldl (fun s k => s.postGrade x k) u).Alike ((v.members g x).foldl (fun s k => s.postGrade x k) v) := by
    rw [h.members]
    exact foldl (fun _ _ k h => h.postGrade x k) _ h
  dsimp only
  rw [hf.board]
  exact hf.modPanel g x _

theorem applyPrice (h : s.Alike t) (g : Fin 8) (p : Nat) (c : RoundCode) : (s.applyPrice g p c).Alike (t.applyPrice g p c) := by
  unfold State.applyPrice
  dsimp only
  have h1 := (h.modGrade g fun e => { e with price := some p, code := c, pending := none }).postPanels g
  rw [h1.pru]
  exact ((h1.requestStep _ _).modPru _).touch _ _

theorem lockedOn (h : s.Alike t) (g : Fin 8) : s.lockedOn g = t.lockedOn g := h.value (f := fun z => z.lockedOn g) fun _ => rfl

theorem applyPrices (h : s.Alike t) : s.applyPrices.Alike t.applyPrices := by
  refine foldl (fun u v g h => ?_) _ h
  rw [h.grade, h.lockedOn, h.powerDown]
  split
  · split
    · exact h
    · exact h.applyPrice _ _ _
  · exact h

theorem withdrawCheck (h : s.Alike t) (x : Side) : (s.withdrawCheck x).Alike (t.withdrawCheck x) := by
  unfold State.withdrawCheck
  rw [h.board]
  split
  · exact h.modBoard x _
  · exact h

theorem releaseClaims (h : s.Alike t) (x : Side) (b : Bool) : (s.releaseClaims x b).Alike (t.releaseClaims x b) := by
  unfold State.releaseClaims
  rw [h.pos]
  split
  · exact h
  · exact (foldl (fun _ _ c h => h.modMeter c.meter _) _ h).modPos x _

theorem abandonStart (h : s.Alike t) (x : Side) : (s.abandonStart x).Alike (t.abandonStart x) :=
  ((h.withdrawCheck x).releaseClaims x true).modPos x _

theorem closeIfClosing (h : s.Alike t) (x : Side) : (s.closeIfClosing x).Alike (t.closeIfClosing x) := by
  unfold State.closeIfClosing
  rw [h.ssu]
  split
  · exact (h.modPos x _).raise ..
  · exact h

theorem lifted (h : s.Alike t) (x : Side) : s.lifted x = t.lifted x := h.value (f := fun z => z.lifted x) fun _ => rfl

theorem arriveOpen (h : s.Alike t) (x : Side) : (s.arriveOpen x).Alike (t.arriveOpen x) := by
  unfold State.arriveOpen
  have h1 := h.modPos x fun p => { p with auth := none, authTimer := none }
  dsimp only
  rw [h1.lifted]
  split
  · exact (h1.modPos x _).closeIfClosing x
  · exact (h1.modPos x _).closeIfClosing x

theorem arriveAuthorized (h : s.Alike t) (x : Side) (a : Authorization) : (s.arriveAuthorized x a).Alike (t.arriveAuthorized x a) :=
  (h.modPos x _).closeIfClosing x

theorem fallBack (h : s.Alike t) (x : Side) (r : StartResult) (d : Nat) : (s.fallBack x r d).Alike (t.fallBack x r d) := by
  unfold State.fallBack
  rw [h.pos]
  dsimp only
  split
  · exact (((h.abandonStart x).arriveAuthorized x _).modPos x _).raise ..
  · exact (((h.abandonStart x).arriveOpen x).modPos x _).raise ..

theorem modSale (h : s.Alike t) (x : Side) (f : Sale → Sale) : (s.modSale x f).Alike (t.modSale x f) := by
  unfold State.modSale
  rw [h.pos]
  split
  · exact h
  · exact (h.modPos x _).modPru _

theorem lockFor (h : s.Alike t) (x : Side) (a : Authorization) (k : HoseNo) (g : Fin 8) (p : Nat) : s.lockFor x a k g p = t.lockFor x a k g p :=
  h.value (f := fun z => z.lockFor x a k g p) fun _ => rfl

theorem beginStartCheck (h : s.Alike t) (x : Side) (e : Nat) : (s.beginStartCheck x e).Alike (t.beginStartCheck x e) :=
  ((h.modBoard x _).postAll x _ _).postField x _ _

theorem lockSale (h : s.Alike t) (x : Side) (p : Nat) : (s.lockSale x p).Alike (t.lockSale x p) := by
  unfold State.lockSale
  rw [h.pos]
  dsimp only
  split
  · rw [h.lockFor]
    exact ((h.modSale x _).modPos x _).beginStartCheck x _
  · exact h

theorem gate (h : s.Alike t) (x : Side) : (s.gate x).Alike (t.gate x) := by
  unfold State.gate
  rw [h.pos]
  dsimp only
  split
  · rw [h.grade]
    split
    · exact h.fallBack x _ _
    · split
      · exact h.fallBack x _ _
      · split
        · exact h.lockSale x _
        · exact h
  · exact h

/-! ## LOAD PRICE, stages, store steps -/

theorem updating (h : s.Alike t) (g : Fin 8) : s.updating g = t.updating g := h.value (f := fun z => z.updating g) fun _ => rfl
theorem faulted (h : s.Alike t) (g : Fin 8) : s.faulted g = t.faulted g := h.value (f := fun z => z.faulted g) fun _ => rfl
theorem anyUpdating (h : s.Alike t) : s.anyUpdating = t.anyUpdating := h.value (f := fun z => z.anyUpdating) fun _ => rfl
theorem anyFault (h : s.Alike t) : s.anyFault = t.anyFault := h.value (f := fun z => z.anyFault) fun _ => rfl

theorem finishLoad (h : s.Alike t) : s.finishLoad.Alike t.finishLoad := by
  unfold State.finishLoad
  rw [h.pru]
  split
  · exact h
  · rw [h.updating, h.powerDown, h.grade, h.faulted]
    split
    · exact (h.modPru _).endWaiting ..
    · exact h

theorem endStage (h : s.Alike t) (n : Fin 6) (c : Nat) : (s.endStage n c).Alike (t.endStage n c) := (h.modSsu _).raise ..
theorem beginStage (h : s.Alike t) (n : Nat) (o : Option Nat) : (s.beginStage n o).Alike (t.beginStage n o) := h.modSsu _

theorem examinePanels (h : s.Alike t) : s.examinePanels.Alike t.examinePanels := by
  unfold State.examinePanels
  rw [h.ssu, h.anyUpdating, h.anyFault]
  split
  · exact (h.endStage ..).beginStage ..
  · exact h

theorem panelState (h : s.Alike t) (g : Fin 8) (x : Side) : s.panelState g x = t.panelState g x := h.value (f := fun z => z.panelState g x) fun _ => rfl

theorem refreshPanel (h : s.Alike t) (x : Side) (g : Fin 8) : (s.refreshPanel x g).Alike (t.refreshPanel x g) := by
  unfold State.refreshPanel
  rw [h.panelState, h.dlc]
  exact h.modPanel g x _

theorem refreshSide (h : s.Alike t) (x : Side) : (s.refreshSide x).Alike (t.refreshSide x) := foldl (fun _ _ g h => h.refreshPanel x g) _ h

theorem requestSegment (h : s.Alike t) (x : Side) (o g : Bool) : (s.requestSegment x o g).Alike (t.requestSegment x o g) := by
  unfold State.requestSegment
  rw [h.board]
  split
  · exact h.modBoard x _
  · exact (h.modBoard x _).postAll x _ _

theorem beginDisplayTest (h : s.Alike t) : s.beginDisplayTest.Alike t.beginDisplayTest := by
  have h1 := (h.beginStage 2 (some 30000)).modSsu fun u => { u with results := { a := none, b := none } }
  have h2 := (h1.requestSegment .a false true).requestSegment .b false true
  exact (h2.refreshSide .a).refreshSide .b

theorem reportRestored (h : s.Alike t) : s.reportRestored.Alike t.reportRestored := by
  have h1 : (s.modRsc fun r => { r with lastCheck := .restored, check := .none }).Alike
      (t.modRsc fun r => { r with lastCheck := .restored, check := .none }) :=
    h.modRsc (congrArg (fun r : Rsc => ({ r with lastCheck := .restored, check := .none } : Rsc)) h.rsc)
  unfold State.reportRestored
  dsimp only
  rw [h1.ssu]
  split
  · exact (h1.endStage ..).beginDisplayTest
  · exact h1

theorem rebuildDone (h : s.Alike t) : s.rebuildDone.Alike t.rebuildDone := by
  have h1 : (s.modRsc fun r => { r with lastCheck := .none }).Alike (t.modRsc fun r => { r with lastCheck := .none }) :=
    h.modRsc (congrArg (fun r : Rsc => ({ r with lastCheck := .none } : Rsc)) h.rsc)
  exact (h1.writeIdentity.touch ..).raise ..

theorem answer (h : s.Alike t) (q : Requester) : (s.answer q).Alike (t.answer q) := by
  cases q with
  | card l off => exact h.endStored l off
  | loadPrice => exact (h.modPru _).finishLoad
  | nightReader => exact h.nightReaderDone
  | nightMeters => exact h.enterNight
  | header => exact h.writeIdentity.reportRestored
  | rebuild => exact h.rebuildDone
  | freeze x =>
    cases x with
    | a => exact h
    | b => exact (h.modRsc (congrArg (fun r : Rsc => ({ r with freeze := .done } : Rsc)) h.rsc)).raise ..

theorem canBegin (h : s.Alike t) : s.rsc.canBegin = t.rsc.canBegin := by
  have hc (r : Rsc) : r.canBegin = r.seen.canBegin := by
    cases r with
    | mk _ _ _ _ _ a => cases a <;> rfl
  rw [hc, hc t.rsc, h.rsc]

theorem beginStep (h : s.Alike t) : s.beginStep.1.Alike t.beginStep.1 ∧ s.beginStep.2 = t.beginStep.2 := by
  have hstore : s.rsc.store = t.rsc.store := h.lift fun z => z.rsc.store
  have hgen : s.rsc.generation = t.rsc.generation := h.lift fun z => z.rsc.generation
  have hset (q : List StoreStep) (g : Option Nat) (n : Nat) (st : StoreStep) (k : Nat) (c d : Contents) :
      (s.modRsc fun r => { r with queue := q, generation := g, restart := n, active := some { step := st, generation := k, contents := c } }).Alike
        (t.modRsc fun r => { r with queue := q, generation := g, restart := n, active := some { step := st, generation := k, contents := d } }) :=
    h.modRsc (congrArg (fun r : Rsc => ({ r with
      queue := q, generation := g, restart := n, active := some { step := st, generation := k, contents := .default 0 } } : Rsc)) h.rsc)
  unfold State.beginStep
  rw [h.seen_queue, hstore, hgen]
  split
  · exact ⟨h, rfl⟩
  · dsimp only
    split
    · exact ⟨hset .., rfl⟩
    · split
      · exact ⟨h.modRsc (congrArg (fun r : Rsc => ({ r with queue := _ } : Rsc)) h.rsc), rfl⟩
      · refine ⟨h.modRsc (congrArg (fun r : Rsc => ({ r with
          queue := _, active := some { step := _, generation := _, contents := .default 0 } } : Rsc)) h.rsc), rfl⟩

theorem runStore (h : s.Alike t) (n : Nat) : (State.runStore n s).Alike (State.runStore n t) := by
  induction n generalizing s t with
  | zero => exact h
  | succ n ih =>
    unfold State.runStore
    rw [h.canBegin]
    dsimp only
    split
    · obtain ⟨h1, h2⟩ := h.beginStep
      rw [h2]
      exact ih (foldl (fun _ _ q h => h.answer q) _ h1)
    · exact h

/-! ## The displays and the end of an event -/

theorem updateField (h : s.Alike t) (x : Side) (f : FieldId) (c : Content) : (s.updateField x f c).Alike (t.updateField x f c) := h.modBoard x _

theorem statusContent (h : s.Alike t) (x : Side) : s.statusContent x = t.statusContent x := h.value (f := fun z => z.statusContent x) fun _ => rfl
theorem freezeMade (h : s.Alike t) : s.freezeMade = t.freezeMade := h.value (f := fun z => z.freezeMade) fun _ => rfl

theorem sendLegal (h : s.Alike t) (x : Side) : (s.sendLegal x).Alike (t.sendLegal x) := by
  unfold State.sendLegal
  rw [h.freezeMade, h.pos]
  split
  · exact h
  · exact foldl (fun _ _ f h => h.updateField x f ((t.pos x).legalContent f)) _ h

theorem sendContents (h : s.Alike t) (x : Side) : (s.sendContents x).Alike (t.sendContents x) := by
  unfold State.sendContents
  rw [h.board, h.statusContent]
  split
  · exact h
  · exact h.updateField x _ _
  · exact (h.sendLegal x).updateField x _ _

theorem linkFree (h : s.Alike t) (x : Side) : s.linkFree x = t.linkFree x := h.value (f := fun z => z.linkFree x) fun _ => rfl

theorem serve (h : s.Alike t) (x : Side) : (s.serve x).Alike (t.serve x) := by
  unfold State.serve
  rw [h.linkFree, h.board]
  split
  · split
    · exact h.modBoard x _
    · exact h.modBoard x _
  · exact h

theorem serveLink (h : s.Alike t) (x : Side) : (s.serveLink x).Alike (t.serveLink x) := by
  unfold State.serveLink State.reportFields
  rw [h.board]
  refine foldl (fun u v g h => ?_) _ (h.serve x)
  rw [h.members, h.board]
  split
  · exact h.refreshPanel x g
  · exact h

theorem examine (h : s.Alike t) : s.examine.Alike t.examine := by
  have h1 := ((h.applyPrices.gate .a).gate .b).examinePanels.examinePositions
  exact (((h1.runStore storeFuel).finishLoad).sendContents .a).sendContents .b

theorem settle (h : s.Alike t) (n : Nat) : (State.settle n s).Alike (State.settle n t) := by
  induction n generalizing s t with
  | zero => exact h
  | succ n ih =>
    have h1 := h.examine
    have h2 : s.examine.serveLinks.Alike t.examine.serveLinks := (h1.serveLink .a).serveLink .b
    unfold State.settle
    dsimp only
    rw [h1.pru, h2.pru]
    split
    · exact h2
    · exact ih h2

theorem react (h : s.Alike t) : s.react.Alike t.react := h.settle settleFuel

/-- The mirrors that follow are not seen. -/
theorem publish (h : s.Alike t) (u v : State) : (Machine.publish u s).Alike (Machine.publish v t) := h

end State.Alike

/-! ## Reader frames (07) -/

theorem State.judgeFrame_acts (s : State) (next : Receiver) (good : Option (Byte × List Byte)) : Acts s (s.judgeFrame next good) unseenParts :=
  Acts.judgeFrame (.refl s _) next good (by decide)

/-- Settles O12: what a frame does is unseen by the rules of the other records, and so is what it makes the end of the event do. -/
theorem readerFramesStayIsolated : Obligations.ReaderFramesStayIsolated := by
  unfold Obligations.ReaderFramesStayIsolated
  intro f g s t u hf hg ht hu
  have hrun (e : FrameEnd) (he : e.wellFormed = true) : exec (.inboundFrame e) s =
      eventWhen s (s.riu.domain == .opened && s.riu.receiver == .inside) fun s => s.judgeFrame (frameNext e) (frameGood e) := by
    show execInboundFrame e s = _
    unfold execInboundFrame
    rw [he, Bool.and_true]
  rw [hrun f hf] at ht
  rw [hrun g hg] at hu
  have hsame : t.Alike u := by
    unfold eventWhen poweredEvent event at ht hu
    cases hb : (s.riu.domain == .opened && s.riu.receiver == .inside) with
    | false =>
      rw [hb, if_neg Bool.false_ne_true] at ht hu
      obtain rfl := Host.Outcome.next.inj ht
      exact .of_eq (Host.Outcome.next.inj hu)
    | true =>
      rw [hb, if_pos rfl] at ht hu
      cases hm : s.mainSupply with
      | false =>
        rw [hm, if_neg Bool.false_ne_true] at ht hu
        obtain rfl := Host.Outcome.next.inj ht
        exact .of_eq (Host.Outcome.next.inj hu)
      | true =>
        rw [hm, if_pos rfl] at ht hu
        have ha := (((State.Alike.refl s).unseen (s.judgeFrame_acts (frameNext f) (frameGood f)) (s.judgeFrame_acts (frameNext g) (frameGood g)))).react
        rw [← Host.Outcome.next.inj ht, ← Host.Outcome.next.inj hu]
        exact ha.publish s s
  exact ⟨hsame.psc, hsame.miu, hsame.pru, hsame.dlc, hsame.iwu, hsame.ssu⟩

end Sys2Proof.Machine
end

section
/-! PROOFS. The freeze event at a CLOSED position that has a sale, which the order of site, positions, tests and wake alone does not
exclude. -/
namespace Sys2Proof.Machine

/-- CLOSED for HOST, with a sale that has dispensed nothing. -/
def closedWithSale : Position :=
  { Position.default.enter (.closed .host) with sale := some (newSale hoseOneAuth 0 gradeOneHose { day := 0, second := 0 }) }

/-- POWER DOWN at the end of the freeze window: position A CLOSED with a sale, a segment test on its board. -/
def testedAtFreeze : State :=
  { State.reset with
    pending := [.freezeWindowExpiry],
    psc := { a := closedWithSale, b := Position.default },
    dlc := { State.reset.dlc with
      boards := { a := { Board.default with test := some (.segment .eights true false) }, b := Board.default } },
    ssu := { State.reset.ssu with site := .powerDown },
    rsc := { State.reset.rsc with freeze := .window, check := .none } }

theorem testedAtFreeze_positionsFit : testedAtFreeze.positionsFit := by
  have hsite : testedAtFreeze.ssu.site = .powerDown := rfl
  refine fun side => ⟨fun h => ?_, fun h => ?_, fun _ => ?_⟩
  · simp [hsite] at h
  · simp [hsite] at h
  · cases side <;> exact ⟨by decide, by decide⟩

theorem testedAtFreeze_testsFit : testedAtFreeze.testsFit := by
  intro side
  cases side with
  | a => exact ⟨fun _ h => absurd h (by simp [show (testedAtFreeze.board .a).test = some (.segment .eights true false) from rfl]),
      fun _ => ⟨rfl, .inr ⟨.inl rfl, fun h => absurd h (by decide)⟩⟩⟩
  | b => exact ⟨fun _ h => absurd h (by simp [show (testedAtFreeze.board .b).test = none from rfl]), fun h => absurd h (by decide)⟩

theorem testedAtFreeze_wakeFits : testedAtFreeze.wakeFits :=
  ⟨fun h => absurd rfl h, fun h => absurd h (by decide)⟩

/-- The event leaves the test running and closes the position for POWER, where a segment test does not belong. -/
theorem testedAtFreeze_step :
    ∃ t, step testedAtFreeze = .next t ∧ (t.board .a).segment = true ∧ (t.pos .a).st = .closed .power ∧ t.ssu.site = .powerDown :=
  ⟨_, rfl, by decide +kernel, by decide +kernel, by decide +kernel⟩

/-- Refutes O9: at the end of the freeze window a CLOSED position that has a sale is closed again, for POWER, while the segment test on its
board runs on. No position in its shape (O5) has a sale while CLOSED, but the second clause does not ask for the shape. -/
theorem not_nightKeepsTheReaderDown : ¬ Obligations.NightKeepsTheReaderDown := by
  unfold Obligations.NightKeepsTheReaderDown
  rintro ⟨-, kept, -⟩
  obtain ⟨t, hstep, hsegment, hclosed, hsite⟩ := testedAtFreeze_step
  obtain ⟨-, tests, -⟩ := kept _ t ⟨testedAtFreeze_positionsFit, testedAtFreeze_testsFit, testedAtFreeze_wakeFits⟩ hstep
  obtain ⟨-, hstage | ⟨hreason, -⟩⟩ := (tests .a).2 hsegment
  · simp [hsite] at hstage
  · simp [hclosed] at hreason

end Sys2Proof.Machine
end
